-- ==== Sys2Proof/Word.lean ====
section
/-! DEFINITION. The two word sizes of the station link: a data byte of a frame (R175) and a quantity of two bytes,
which is sent least significant byte first (R175). Everything else the manual counts is a `Nat` or an `Int`. -/

namespace Sys2Proof

/-- One data byte of a request or reply frame (R175). -/
abbrev Byte := BitVec 8

/-- A quantity of two bytes (R175). -/
abbrev Half := BitVec 16

end Sys2Proof
end

