-- ==== Sys2Proof/Config.lean ====
section
/-! DEFINITION. What an installation leaves open and the manual gives no value for: constants without a body, so that
no proof can depend on what they are. -/

namespace Sys2Proof

/-- The pressure in bar read from a travel-circuit transducer whose signal lies outside its measuring range, at the
`n`-th such reading. R159, R160 and R162 say how the other transducers are read in that case; for this one no rule
does. FREE VALUE (log entry 12). -/
opaque Config.travelPressureOutOfRange : Nat → Nat

end Sys2Proof
end

