-- ==== Sys2Proof/Syntax.lean ====
section
/-! DEFINITION. The commands of the HC-918: one constructor of `Instr` for each row of the table of operations and
events, with its operands. Three sorts of operands occur.

* A request carries the station that sent it, the frame's tag and the argument bits of the request code table
  (chapter The Station Link), undecoded: a wrong code is the owner's to refuse (R180).
* A field event carries the line it is about, the level or the reading the line shows, and `held`: for how many
  milliseconds without interruption the raw input has shown it. The stable times of the manual act on `held`.
* A timer event names the timer.

Panels, hatches, stations, cleats, groups, cards and slots are numbered from 0 here: `p : PanelNo` is panel `p + 1`
of the manual, and so on. The numbers inside a frame's argument bytes are the manual's own. -/

namespace Sys2Proof

/-- Panel `p + 1` of the manual, 1 to 18. -/
abbrev PanelNo := Fin 18
/-- Hatch `h + 1` of the manual, 1 to 9. -/
abbrev HatchNo := Fin 9
/-- Station `n + 1` of the manual, 1 to 12. -/
abbrev StationNo := Fin 12
/-- Cleat `k + 1` of a panel, 1 to 12. -/
abbrev CleatNo := Fin 12
/-- Cleat group `g + 1`, 1 to 3. -/
abbrev GroupNo := Fin 3
/-- Driver card `k + 1`, 1 to 3. -/
abbrev CardNo := Fin 3
/-- Order slot `i + 1`, 1 to 24. -/
abbrev SlotNo := Fin 24
/-- Claimed zone slot `z + 1`, 1 to 16 (R109). -/
abbrev ClaimNo := Fin 16

/-- The two hydraulic power packs. -/
inductive PackId where
  | a | b
  deriving DecidableEq, Repr

/-- The four seat and lift switches of a panel (R3, R4). -/
inductive SeatSwitch where
  | seated1 | seated2 | lifted1 | lifted2
  deriving DecidableEq, Repr

/-- The fourteen solenoid coils of a panel. -/
inductive Coil where
  | liftUp | liftDown | travelOut | travelIn | fast | brakeRelease | stowLock | stowUnlock
  | cleatRel (g : GroupNo)
  | cleatEng (g : GroupNo)
  deriving DecidableEq, Repr

/-- A frame the CAN port has received correctly from the bus (R174, R175). `dlc` is its data length code and `data`
its data bytes from byte 0. -/
structure Frame where
  extended : Bool
  remote : Bool
  id : Nat
  dlc : Nat
  data : List Byte
  deriving DecidableEq, Repr

/-- The commands, one constructor for each row of the table, in the table's order. -/
inductive Instr where
  /-- POWER_ON (R193). -/
  | powerOn
  /-- START_END (R193, R194); `serviceKey` is the level at which the SERVICE-ENABLE line was sampled during START. -/
  | startEnd (serviceKey : Bool)
  /-- UNKNOWN_REQUEST (R174, R176): any frame as it came from the bus. -/
  | unknownRequest (f : Frame)
  /-- REPLY_TRANSMITTED (R177): the reply at the head of the transmit queue has been sent. -/
  | replyTransmitted
  /-- BUS_OFF (R179). -/
  | busOff
  /-- BUS_REJOIN (R179); `recessive` is how many occurrences of 11 recessive bits the port has seen. -/
  | busRejoin (recessive : Nat)
  | readUnit (n : StationNo) (tag : Byte) (page : Byte)
  | readPanel (n : StationNo) (tag : Byte) (panel page : Byte)
  | readCleat (n : StationNo) (tag : Byte) (panel cleat : Byte)
  | readOrder (n : StationNo) (tag : Byte) (id page : Byte)
  | findOrder (n : StationNo) (tag : Byte) (panel : Byte)
  | readZone (n : StationNo) (tag : Byte) (id page : Byte)
  | readEvents (n : StationNo) (tag : Byte)
  | readParam (n : StationNo) (tag : Byte) (number : Half)
  | readStation (n : StationNo) (tag : Byte) (station : Byte)
  | createOrder (n : StationNo) (tag : Byte) (panel : Byte) (kind : BitVec 3) (cls : BitVec 1) (hold pred : Byte) (target : Half)
  | hatchOrder (n : StationNo) (tag : Byte) (hatch : Byte) (kind : BitVec 3) (cls : BitVec 1) (hold pred : Byte) (target : Half)
  | amend (n : StationNo) (tag : Byte) (id : Byte) (mask : BitVec 4) (hold cls : Byte) (target : Half)
  | pause (n : StationNo) (tag : Byte) (id : Byte)
  | resume (n : StationNo) (tag : Byte) (id : Byte)
  | continueOrder (n : StationNo) (tag : Byte) (id : Byte)
  | cancel (n : StationNo) (tag : Byte) (id : Byte)
  | adopt (n : StationNo) (tag : Byte) (id : Byte)
  | retire (n : StationNo) (tag : Byte) (id : Byte)
  | claimZone (n : StationNo) (tag : Byte) (hatch : Byte) (side kind : BitVec 2) (lo hi : Half)
  | renewZone (n : StationNo) (tag : Byte) (id : Byte)
  | releaseZone (n : StationNo) (tag : Byte) (id : Byte)
  | keepalive (n : StationNo) (tag : Byte)
  | stopHatch (n : StationNo) (tag : Byte) (hatch : Byte)
  | stopAll (n : StationNo) (tag : Byte)
  | rainClose (n : StationNo) (tag : Byte)
  | listReport (n : StationNo) (tag : Byte) (list trim : Half)
  | clearFaults (n : StationNo) (tag : Byte) (scope target : Byte)
  | clearEvents (n : StationNo) (tag : Byte) (codes : Half)
  | setParam (n : StationNo) (tag : Byte) (number value : Half)
  | commit (n : StationNo) (tag : Byte)
  /-- STORE_WRITE_END (R191); `agrees` says that the copy read back agrees with the set. -/
  | storeWriteEnd (agrees : Bool)
  | reconfigure (n : StationNo) (tag : Byte)
  | restart (n : StationNo) (tag : Byte)
  | serviceEnter (n : StationNo) (tag : Byte)
  | serviceExit (n : StationNo) (tag : Byte)
  | jog (n : StationNo) (tag : Byte) (panel coil : Byte) (time : Half)
  | presetPosition (n : StationNo) (tag : Byte) (panel : Byte) (count : Half)
  | bypassCleat (n : StationNo) (tag : Byte) (panel cleat : Byte)
  | restoreCleat (n : StationNo) (tag : Byte) (panel cleat : Byte)
  /-- SEAT_SWITCH_CHANGE (R3, R4). -/
  | seatSwitchChange (p : PanelNo) (w : SeatSwitch) (made : Bool) (held : Nat)
  /-- STOW_SWITCH_CHANGE (R3, R4). -/
  | stowSwitchChange (p : PanelNo) (made : Bool) (held : Nat)
  /-- HOME_MAKE (R3, R16); with `made` false, the break of the HOME switch, for which the table has no row of its own. -/
  | homeMake (p : PanelNo) (made : Bool) (held : Nat)
  /-- OPEN_END_MAKE (R3, R17); with `made` false, the break of the OPEN-END switch. -/
  | openEndMake (p : PanelNo) (made : Bool) (held : Nat)
  /-- WHEEL_EDGE (R10): the wheel input was low for `low` ms, 0 if it was not, and has then been high for `high` ms. -/
  | wheelEdge (p : PanelNo) (low high : Nat)
  /-- CLEAT_SWITCH_CHANGE (R23). -/
  | cleatSwitchChange (p : PanelNo) (k : CleatNo) (made : Bool) (held : Nat)
  | cleatDwellExpiry (p : PanelNo)
  | confirmationWindowExpiry (p : PanelNo)
  | brakingWindowEnd (p : PanelNo)
  | stallTimerExpiry (p : PanelNo)
  | creepQuietExpiry (p : PanelNo)
  | stepTimeout (p : PanelNo)
  | retentionExpiry (slot : SlotNo)
  | listStalenessExpiry
  /-- WIND_CHANGE (R92). -/
  | windChange (asserted : Bool) (held : Nat)
  /-- PRESENCE_CHANGE (R116). -/
  | presenceChange (h : HatchNo) (asserted : Bool) (held : Nat)
  | zoneDeadlineExpiry (z : ClaimNo)
  /-- SELECTOR_CHANGE (R141, R142); `toLocal` says that the line shows LOCAL. -/
  | selectorChange (h : HatchNo) (toLocal : Bool) (held : Nat)
  | attendanceDeadlineExpiry (n : StationNo)
  | estopOpen (held : Nat)
  | estopClose (held : Nat)
  /-- SUPPLY_UNDERVOLTAGE (R158); the control supply shows `mV` millivolts, and that or less for `held` ms. -/
  | supplyUndervoltage (mV held : Nat)
  /-- SUPPLY_RECOVERY (R158); the control supply shows `mV` millivolts, and that or more for `held` ms. -/
  | supplyRecovery (mV held : Nat)
  | pumpStop (k : PackId)
  | pumpRun (k : PackId)
  /-- PRESSURE_LOW (R159): the supply pressure has stayed at `bar` or below for `held` ms, and the pump-running line has
  been asserted for `running` ms. `none` is a signal outside the measuring range. -/
  | pressureLow (k : PackId) (bar : Option Nat) (held running : Nat)
  /-- PRESSURE_RECOVERY (R159): as PRESSURE_LOW, with the pressure at `bar` or above. -/
  | pressureRecovery (k : PackId) (bar : Option Nat) (held running : Nat)
  /-- OIL_TEMPERATURE_CHANGE (R160), in degrees Celsius; `none` is a signal outside the measuring range. -/
  | oilTemperatureChange (k : PackId) (temp : Option Int)
  /-- CARD_TEMPERATURE_CHANGE (R162), in degrees Celsius; `none` is a signal outside the measuring range. -/
  | cardTemperatureChange (card : CardNo) (temp : Option Int)
  /-- COIL_OVERCURRENT (R164): the coil has drawn `mA` or more for `held` ms. -/
  | coilOvercurrent (p : PanelNo) (c : Coil) (mA held : Nat)
  /-- COIL_OPEN_LOAD (R165): the coil has drawn `mA` or less for `held` ms. -/
  | coilOpenLoad (p : PanelNo) (c : Coil) (mA held : Nat)
  /-- OFF_STATE_OPEN_LOAD (R165): the off-state test has measured `ohms` across the coil for `held` ms. -/
  | offStateOpenLoad (p : PanelNo) (c : Coil) (ohms held : Nat)
  /-- TRAVEL_TRIP_RAISED (R106): the travel pressure has stayed at `bar` or above for `held` ms. `none` is a signal
  outside the measuring range, which no rule reads. -/
  | travelTripRaised (k : PackId) (bar : Option Nat) (held : Nat)
  /-- TRAVEL_TRIP_CLEAR (R106): the travel pressure is now `bar`. -/
  | travelTripClear (k : PackId) (bar : Option Nat)
  | chopHoldoffEnd (p : PanelNo)
  | jogTimeExpiry
  | transmitErrorDetected
  deriving DecidableEq, Repr

end Sys2Proof
end

