-- ==== Sys2Proof/Decode.lean ====
section
/-! DEFINITION. Decoding. The table of operations and events gives no row any bits, so no word spells a command
(`decodeTableWord`). Request frames do spell commands: `requestOf` reads the data bytes of a frame by the request code
table of the chapter The Station Link (R175, before R180). -/

namespace Sys2Proof

/-- The command a word spells by the table's bits: the table gives none. -/
def decodeTableWord (_nbits _w : Nat) : Option Instr := none

/-- The station whose request identifier a frame carries: 0x1A0 + n for n from 1 to 12; extended and remote frames and
every other identifier are ignored (R174). -/
def Frame.station (f : Frame) : Option StationNo :=
  if h : f.extended = false ∧ f.remote = false ∧ 417 ≤ f.id ∧ f.id ≤ 428 then some ⟨f.id - 417, by omega⟩ else none

/-- Data byte `i` of a frame; 0 where the frame carries none. -/
def Frame.byte (f : Frame) (i : Nat) : Byte := f.data.getD i 0
/-- The quantity in bytes `i` and `i + 1`, least significant byte first (R175). -/
def Frame.half (f : Frame) (i : Nat) : Half := f.byte (i + 1) ++ f.byte i
/-- The tag, byte 1 (R175). -/
def Frame.tag (f : Frame) : Byte := f.byte 1

/-- Bits 0 to 2 of byte 3 of a create request: the kind. -/
def Frame.kind (f : Frame) : BitVec 3 := (f.byte 3).extractLsb' 0 3
/-- Bit 3 of byte 3 of a create request: the class. -/
def Frame.cls (f : Frame) : BitVec 1 := (f.byte 3).extractLsb' 3 1

/-- The lookups (codes 1 to 9). -/
def lookupOf (n : StationNo) (f : Frame) : Option Instr :=
  match (f.byte 0).toNat with
  | 1 => some (.readUnit n f.tag (f.byte 2))
  | 2 => some (.readPanel n f.tag (f.byte 2) (f.byte 3))
  | 3 => some (.readCleat n f.tag (f.byte 2) (f.byte 3))
  | 4 => some (.readOrder n f.tag (f.byte 2) (f.byte 3))
  | 5 => some (.findOrder n f.tag (f.byte 2))
  | 6 => some (.readZone n f.tag (f.byte 2) (f.byte 3))
  | 7 => some (.readEvents n f.tag)
  | 8 => some (.readParam n f.tag (f.half 2))
  | 9 => some (.readStation n f.tag (f.byte 2))
  | _ => none

/-- The requests on orders and zones (codes 16 to 34). -/
def orderRequestOf (n : StationNo) (f : Frame) : Option Instr :=
  match (f.byte 0).toNat with
  | 16 => some (.createOrder n f.tag (f.byte 2) f.kind f.cls (f.byte 4) (f.byte 5) (f.half 6))
  | 17 => some (.hatchOrder n f.tag (f.byte 2) f.kind f.cls (f.byte 4) (f.byte 5) (f.half 6))
  | 18 => some (.amend n f.tag (f.byte 2) ((f.byte 3).extractLsb' 0 4) (f.byte 4) (f.byte 5) (f.half 6))
  | 19 => some (.pause n f.tag (f.byte 2))
  | 20 => some (.resume n f.tag (f.byte 2))
  | 21 => some (.continueOrder n f.tag (f.byte 2))
  | 22 => some (.cancel n f.tag (f.byte 2))
  | 23 => some (.adopt n f.tag (f.byte 2))
  | 24 => some (.retire n f.tag (f.byte 2))
  | 32 =>
    some (.claimZone n f.tag (f.byte 2) ((f.byte 3).extractLsb' 0 2) ((f.byte 3).extractLsb' 4 2) (f.half 4) (f.half 6))
  | 33 => some (.renewZone n f.tag (f.byte 2))
  | 34 => some (.releaseZone n f.tag (f.byte 2))
  | _ => none

/-- The requests of the authority unit, the planner, the protection monitor and unit control (codes 40 to 73). -/
def unitRequestOf (n : StationNo) (f : Frame) : Option Instr :=
  match (f.byte 0).toNat with
  | 40 => some (.keepalive n f.tag)
  | 41 => some (.stopHatch n f.tag (f.byte 2))
  | 42 => some (.stopAll n f.tag)
  | 43 => some (.rainClose n f.tag)
  | 48 => some (.listReport n f.tag (f.half 2) (f.half 4))
  | 56 => some (.clearFaults n f.tag (f.byte 2) (f.byte 3))
  | 57 => some (.clearEvents n f.tag (f.half 2))
  | 64 => some (.setParam n f.tag (f.half 2) (f.half 4))
  | 65 => some (.commit n f.tag)
  | 66 => some (.reconfigure n f.tag)
  | 67 => some (.restart n f.tag)
  | 68 => some (.serviceEnter n f.tag)
  | 69 => some (.serviceExit n f.tag)
  | 70 => some (.jog n f.tag (f.byte 2) (f.byte 3) (f.half 4))
  | 71 => some (.presetPosition n f.tag (f.byte 2) (f.half 3))
  | 72 => some (.bypassCleat n f.tag (f.byte 2) (f.byte 3))
  | 73 => some (.restoreCleat n f.tag (f.byte 2) (f.byte 3))
  | _ => none

/-- The request that a frame of station `n` spells, if its code is in the request code table. -/
def requestOf (n : StationNo) (f : Frame) : Option Instr :=
  lookupOf n f <|> orderRequestOf n f <|> unitRequestOf n f

end Sys2Proof
end

