-- ==== Sys2Proof/Machine/Types.lean ====
section
/-! DEFINITION. The values the manual's records are made of: the names of states, kinds and reasons, in the order in
which the manual lists them. -/

namespace Sys2Proof.Machine

/-- Direction of travel: outward is +1, inward is −1 (00_scope, Direction of travel). -/
inductive Dir where
  | outward | inward
  deriving DecidableEq, Repr

inductive Speed where
  | fast | slow
  deriving DecidableEq, Repr

/-- Direction of a cleat group move. -/
inductive CleatDir where
  | release | engage
  deriving DecidableEq, Repr

/-- Direction of a stow move. -/
inductive StowDir where
  | lock | unlock
  deriving DecidableEq, Repr

/-- Seat of a panel (R4). -/
inductive Seat where
  | seated | lifted | between
  deriving DecidableEq, Repr

/-- Activity of a panel (R6). -/
inductive Activity where
  | idle
  | cleatMove (g : GroupNo) (d : CleatDir)
  | lift
  | lower
  | stowMove (d : StowDir)
  | travel (d : Dir) (v : Speed)
  | braking
  | jog
  deriving DecidableEq, Repr

/-- How the next wheel edge is taken (R11). -/
inductive CountMode where
  | driven | coasting | quiet
  deriving DecidableEq, Repr

/-- The stall timer (R18): `running` holds its deadline, `suspended` the time that was left. -/
inductive StallTimer where
  | stopped
  | running (deadline : Nat)
  | suspended (left : Nat)
  deriving DecidableEq, Repr

/-- Panel fault kinds in their code order (R7, R180). -/
inductive PanelFault where
  | solenoidShort | solenoidOpen | cleatJam | liftTimeout | lowerTimeout | stowTimeout | travelStall
  | travelOverload | overtravel | runaway | positionRange | sensorConflict | cardOvertemp | attendance
  deriving DecidableEq, Repr

/-- Panel warning kinds in their code order (R7, R180). -/
inductive PanelWarning where
  | referenceSlip | targetMiss | cleatSluggish | cleatLost | travelTrip | cardHot | creep | attendanceLost | sequenceStop
  deriving DecidableEq, Repr

/-- Unit fault kinds in their code order (R168, R180). -/
inductive UnitFault where
  | supplyLow | packADown | packBDown
  deriving DecidableEq, Repr

/-- Unit warning kinds in their code order (R168, R180). -/
inductive UnitWarning where
  | packAHot | packBHot | listHigh | listStale | wind | zoneStale | frameErrors | configAbsent
  deriving DecidableEq, Repr

/-- Event latches in their code order, codes 1 to 14 (R171). -/
inductive EventLatch where
  | estopChange | powerUp | restarted | unitFault | panelFault | packChange | selectorChange | attendance | zoneStale
  | orderFailed | orderCancelled | orderDone | holdReached | warning
  deriving DecidableEq, Repr

/-- State of a cleat (the table before R22). -/
inductive CleatState where
  | engaged | released | unknown | jammed | bypassed
  deriving DecidableEq, Repr

inductive OrderKind where
  | openHatch | close | moveTo | home | secure | release
  deriving DecidableEq, Repr

inductive OrderClass where
  | normal | rain
  deriving DecidableEq, Repr

/-- Step kinds (R67). UNCLEAT 1 to 3 and CLEAT 1 to 3 are distinct kinds. -/
inductive StepKind where
  | uncleat (g : GroupNo)
  | cleat (g : GroupNo)
  | lift | lower | lockStow | unlockStow | travel
  deriving DecidableEq, Repr

inductive PauseReason where
  | request | estop | supply | authority | attendance | service | packLoss
  deriving DecidableEq, Repr

inductive CancelReason where
  | request | superseded | predecessor
  deriving DecidableEq, Repr

inductive FailReason where
  | fault (k : PanelFault)
  | sequence | flowImpossible | noArbitration
  deriving DecidableEq, Repr

/-- State of an order with its reason (the table before R41). -/
inductive OrderState where
  | pending
  | active
  | atHold
  | paused (r : PauseReason)
  | done
  | cancelled (r : CancelReason)
  | failed (r : FailReason)
  deriving DecidableEq, Repr

/-- Step phase (R68); no phase is `none`. -/
inductive Phase where
  | flowWait | interlockWait | running | braking
  deriving DecidableEq, Repr

/-- Interlock reasons, a set drawn from LAP, ZONE, LIST and WIND (R73). -/
structure Reasons where
  lap : Bool := false
  zone : Bool := false
  list : Bool := false
  wind : Bool := false
  deriving DecidableEq, Repr

/-- The state a PAUSED order left (R38). -/
inductive PausedFrom where
  | pending | active | atHold
  deriving DecidableEq, Repr

/-- What follows the end of the braking window of a step (R81 to R83). -/
inductive Purpose where
  | complete | reverse | evaluate
  deriving DecidableEq, Repr

inductive StepEnd where
  | completed | skipped
  deriving DecidableEq, Repr

/-- A record of the order table (R38). `created` is the model's own count of creations, which R65 needs to tell which
of two orders was created later. `retention` is the deadline of the retention timer (R64). -/
structure Order where
  id : Nat
  issuer : StationNo
  panel : PanelNo
  kind : OrderKind
  target : Option Int
  cls : OrderClass
  hold : Option StepKind
  pred : Option Nat
  state : OrderState
  step : Nat
  phase : Option Phase
  reasons : Reasons
  pausedFrom : Option PausedFrom
  finishedAt : Option Nat
  retention : Option Nat
  created : Nat
  deriving DecidableEq, Repr

inductive StopKind where
  | switch | count
  deriving DecidableEq, Repr

/-- The plan of a travel (R94 to R100). `slow` is the slow point p, `stopAt` the stop command point s, `overAt` the
overtravel point g. -/
structure Plan where
  t : Int
  dir : Dir
  stop : StopKind
  theta : Nat
  dEff : Nat
  aEff : Nat
  slow : Option Int
  stopAt : Option Int
  overAt : Option Int
  fast : Bool
  deriving DecidableEq, Repr

/-- The filtered levels of a panel's switch inputs (R3); `true` is made. -/
structure Switches where
  seated1 : Bool
  seated2 : Bool
  lifted1 : Bool
  lifted2 : Bool
  stowLocked : Bool
  home : Bool
  openEnd : Bool
  deriving DecidableEq, Repr

/-- The coils a panel is driven with; `true` is energised. -/
structure Coils where
  liftUp : Bool := false
  liftDown : Bool := false
  travelOut : Bool := false
  travelIn : Bool := false
  fast : Bool := false
  brakeRelease : Bool := false
  stowLock : Bool := false
  stowUnlock : Bool := false
  rel1 : Bool := false
  rel2 : Bool := false
  rel3 : Bool := false
  eng1 : Bool := false
  eng2 : Bool := false
  eng3 : Bool := false
  deriving DecidableEq, Repr

/-- A cleat record (R22 to R25) with the filtered level of its switch. Its group is a layout parameter. -/
structure Cleat where
  state : CleatState
  made : Bool
  last : Nat
  greatest : Nat
  deriving DecidableEq, Repr

/-- A cleat group move in progress (R24). `dwell` is the deadline of the dwell timer while it runs, `window` that of
the window timer, `start` the moment the valve was energised; `byJog` says that a service jog asked for it. -/
structure Move where
  group : GroupNo
  dir : CleatDir
  participants : List CleatNo
  confirmed : List CleatNo
  valve : Bool
  start : Nat
  dwell : Option Nat
  window : Nat
  byJog : Bool
  deriving DecidableEq, Repr

/-- A panel's record (R1 to R8) with the private state of its position counter (R10 to R19), of its sequencer (R68)
and planner (R94, R98), its cleats and its coils. Seat, stow, configured, reported status, card, arbitration number,
pack routing and flow are computed from what is held elsewhere. Timers hold their deadlines. `wheelArmed` says that the wheel
input has been low long enough since the last edge taken for a high level to give another (R10). -/
structure Panel where
  sw : Switches
  count : Int
  certain : Bool
  activity : Activity
  creep : Nat
  chop : Nat
  slip : Option Int
  faults : List PanelFault
  warnings : List PanelWarning
  live : Option Nat
  shortCoil : Option Coil
  openCoil : Option Coil
  openFound : List Coil
  overloadPack : Option PackId
  mode : CountMode
  wheelArmed : Bool
  lastDir : Option Dir
  brakeTimer : Option Nat
  stall : StallTimer
  creepQuiet : Option Nat
  purpose : Option Purpose
  stepTimer : Option Nat
  plan : Option Plan
  chopMark : Bool
  holdoff : Option Nat
  coils : Coils
  cleats : Vector Cleat 12
  move : Option Move
  deriving DecidableEq, Repr

/-- A grant of an arbiter (R124). -/
structure Grant where
  panel : PanelNo
  demand : Nat
  jog : Bool
  deriving DecidableEq, Repr

/-- A waiting request of an arbiter (R124). -/
structure Waiter where
  panel : PanelNo
  demand : Nat
  cls : OrderClass
  arb : Nat
  deriving DecidableEq, Repr

/-- A power pack: its field readings, its down causes, oil state and travel trip (R106, R159 to R161) and its
arbiter's grant set and waiting list (R124). `evaluated` is false until the first evaluation of the pack's lines
(R161). `none` for the pressure or the oil is a signal outside the measuring range; `travelBar` is the travel pressure as
last read, and `deglitchFrom` the moment from which the trip's deglitch counts, that of the last reset (R106). -/
structure Pack where
  pumpOn : Bool
  pressure : Option Nat
  travelBar : Nat
  deglitchFrom : Nat
  oil : Option Int
  evaluated : Bool
  pump : Bool
  lowPressure : Bool
  overtemp : Bool
  hot : Bool
  trip : Bool
  grants : List Grant
  waiting : List Waiter
  deriving DecidableEq, Repr

inductive CardState where
  | normal | hot | overtemp
  deriving DecidableEq, Repr

inductive Side where
  | port | starboard | both
  deriving DecidableEq, Repr

inductive ZoneKind where
  | spout | grab | personnel | other
  deriving DecidableEq, Repr

/-- A claimed zone that is LIVE or STALE (R109). `timed` says that a SHORE station claimed it, so that it has a
renewal deadline while it is LIVE (R111, R121). -/
structure Claim where
  stale : Bool
  owner : StationNo
  kind : ZoneKind
  hatch : HatchNo
  side : Side
  lo : Nat
  hi : Nat
  timed : Bool
  deadline : Option Nat
  deriving DecidableEq, Repr

/-- A station's record and its request slot (R139, R144, R177). The kind and hatch are layout parameters. `lastReply`
is 0 for none. -/
structure Station where
  watching : Bool
  reference : Nat
  deadline : Option Nat
  frameErrors : Nat
  lastReply : Nat
  occupied : Bool
  deriving DecidableEq, Repr

inductive StationKind where
  | bridge | cargoControl | pendant | shore | inclinometer
  deriving DecidableEq, Repr

/-- Reply codes (the table before R181). -/
inductive ReplyCode where
  | accepted | data | frameError | unknownStation | unknownRequest | badArgument | notAuthorised | noSuchPanel
  | panelBusy | panelFaulted | notSeated | positionUncertain | noSuchOrder | orderFinished | wrongState | zoneTableFull
  | noSuchZone | unitState | layoutLocked | configInconsistent | storeError | serviceDisabled | interlock | flowBusy | busy
  deriving DecidableEq, Repr

/-- A reply waiting to be transmitted (R175, R177). `holdsSlot` says that its request occupies the station's slot, and
`restarts` that the restart takes effect once it has been sent (R194). -/
structure Reply where
  station : StationNo
  code : ReplyCode
  tag : Byte
  payload : List Byte
  holdsSlot : Bool
  restarts : Bool
  deriving DecidableEq, Repr

/-- Why the unit is in START: power-on, or a restart, with the question whether it was in SETUP (R193, R194). -/
inductive StartCause where
  | powerOn
  | restart (fromSetup : Bool)
  deriving DecidableEq, Repr

inductive UnitState where
  | start (c : StartCause)
  | setup
  | run
  | service
  deriving DecidableEq, Repr

/-- A store write in progress: the station and tag of the COMMIT, and whether its reply is still to be sent, which a
bus-off ends (R179, R191). -/
structure Writing where
  station : StationNo
  tag : Byte
  answer : Bool
  deriving DecidableEq, Repr

/-- The service jog in progress (R197). -/
structure Jog where
  panel : PanelNo
  coil : Coil
  deadline : Nat
  deriving DecidableEq, Repr

/-- A piece of work that one block leaves to another within the taking of one command: an evaluation the order table asks
for, a grant pass, a delivery, a report. The agenda (Agenda.lean) carries them out one after another. -/
inductive Job where
  /-- The sequencer evaluates the step of the order it serves (R70); `whole` is false for an evaluation from stage 2. -/
  | evaluate (p : PanelNo) (whole : Bool)
  /-- A grant is delivered to the panel's sequencer (R78). -/
  | deliver (p : PanelNo)
  /-- The sequencer reports the end of its step to the order table (R61). -/
  | report (p : PanelNo) (e : StepEnd)
  /-- A grant pass on a pack's list (R129). -/
  | pass (k : PackId)
  /-- The interlock conditions of the panel's step are re-tested (R73, R75, R76, R82). -/
  | retest (p : PanelNo)
  /-- The completion condition and the hard preconditions of the panel's step are looked at (R72, R79). -/
  | watch (p : PanelNo)
  /-- A cleat group move of the panel has ended (R28, R80). -/
  | moveEnd (p : PanelNo)
  /-- A dependent of the order `pred`, which is DONE, is released (R62). -/
  | releaseDependent (i : SlotNo) (pred : Nat)
  /-- The conditions of the service jog in progress are looked at (R197). -/
  | jogTest
  deriving DecidableEq, Repr

end Sys2Proof.Machine
end

