-- ==== Sys2Proof/Machine/Params.lean ====
section
/-! DEFINITION. The parameter set (R187, R188): its layout part and its tuning part, the number, range, codes and
default of each parameter, and how the held value of a parameter is read and stored by its number. -/

namespace Sys2Proof.Machine

/-- The layout parameters (R187, numbers 1 to 532). Enumerated values are held as the codes given there. -/
structure Layout where
  hatchCount : Nat
  crossover : Nat
  listSource : Nat
  lapSide : Vector Nat 9
  homePack : Vector Nat 9
  panelLength : Vector Nat 18
  openCount : Vector Nat 18
  cleatCount : Vector Nat 18
  arbitration : Vector Nat 18
  cleatGroup : Vector (Vector Nat 12) 18
  stationKind : Vector Nat 12
  stationHatch : Vector Nat 12
  deriving DecidableEq, Repr

/-- The tuning parameters (R187, numbers 601 to 636). -/
structure Tuning where
  positionTolerance : Nat
  referenceTolerance : Nat
  creepLimit : Nat
  brakingWindow : Nat
  stallPeriod : Nat
  slowDown : Nat
  stopAllowance : Nat
  overtravelMargin : Nat
  listWarning : Nat
  listLimit : Nat
  trimLimit : Nat
  cleatDwell : Nat
  confirmationWindow : Nat
  sluggish : Nat
  liftTimeout : Nat
  lowerTimeout : Nat
  stowTimeout : Nat
  retentionTime : Nat
  zoneRenewal : Nat
  capacityA : Nat
  capacityB : Nat
  tripLevel : Nat
  tripDeglitch : Nat
  chopHoldoff : Nat
  chopLimit : Nat
  attendanceLower : Nat
  attendanceUpper : Nat
  attendanceMode : Nat
  supplyMode : Nat
  pressureMode : Nat
  oilHot : Nat
  oilOvertemp : Nat
  pressureLow : Nat
  otsdMode : Nat
  offStateTest : Nat
  overcurrentDeglitch : Nat
  deriving DecidableEq, Repr

structure ParamSet where
  layout : Layout
  tuning : Tuning
  deriving DecidableEq, Repr

/-- The parameters by name (R187). -/
inductive ParamId where
  | hatchCount | crossover | listSource
  | lapSide (h : HatchNo)
  | homePack (h : HatchNo)
  | panelLength (p : PanelNo)
  | openCount (p : PanelNo)
  | cleatCount (p : PanelNo)
  | arbitration (p : PanelNo)
  | cleatGroup (p : PanelNo) (k : CleatNo)
  | stationKind (n : StationNo)
  | stationHatch (n : StationNo)
  | positionTolerance | referenceTolerance | creepLimit | brakingWindow | stallPeriod | slowDown | stopAllowance
  | overtravelMargin | listWarning | listLimit | trimLimit | cleatDwell | confirmationWindow | sluggish | liftTimeout
  | lowerTimeout | stowTimeout | retentionTime | zoneRenewal | capacityA | capacityB | tripLevel | tripDeglitch
  | chopHoldoff | chopLimit | attendanceLower | attendanceUpper | attendanceMode | supplyMode | pressureMode | oilHot
  | oilOvertemp | pressureLow | otsdMode | offStateTest | overcurrentDeglitch
  deriving DecidableEq, Repr

/-- The number of a parameter (R187). With panels and cleats numbered from 0, cleat `k` of panel `p` has number
188 + 12 (p + 1) + (k + 1). -/
def ParamId.number : ParamId → Nat
  | .hatchCount => 1
  | .crossover => 2
  | .listSource => 3
  | .lapSide h => 11 + h.val
  | .homePack h => 21 + h.val
  | .panelLength p => 101 + p.val
  | .openCount p => 121 + p.val
  | .cleatCount p => 141 + p.val
  | .arbitration p => 161 + p.val
  | .cleatGroup p k => 201 + 12 * p.val + k.val
  | .stationKind n => 501 + n.val
  | .stationHatch n => 521 + n.val
  | .positionTolerance => 601
  | .referenceTolerance => 602
  | .creepLimit => 603
  | .brakingWindow => 604
  | .stallPeriod => 605
  | .slowDown => 606
  | .stopAllowance => 607
  | .overtravelMargin => 608
  | .listWarning => 609
  | .listLimit => 610
  | .trimLimit => 611
  | .cleatDwell => 612
  | .confirmationWindow => 613
  | .sluggish => 614
  | .liftTimeout => 615
  | .lowerTimeout => 616
  | .stowTimeout => 617
  | .retentionTime => 618
  | .zoneRenewal => 619
  | .capacityA => 620
  | .capacityB => 621
  | .tripLevel => 622
  | .tripDeglitch => 623
  | .chopHoldoff => 624
  | .chopLimit => 625
  | .attendanceLower => 626
  | .attendanceUpper => 627
  | .attendanceMode => 628
  | .supplyMode => 629
  | .pressureMode => 630
  | .oilHot => 631
  | .oilOvertemp => 632
  | .pressureLow => 633
  | .otsdMode => 634
  | .offStateTest => 635
  | .overcurrentDeglitch => 636

/-- The lowest and the highest value of a parameter (R187); for an enumerated parameter, its first and last code. -/
def ParamId.range : ParamId → Nat × Nat
  | .hatchCount => (1, 9)
  | .crossover => (0, 1)
  | .listSource => (0, 1)
  | .lapSide _ => (0, 1)
  | .homePack _ => (0, 1)
  | .panelLength _ => (200, 4000)
  | .openCount _ => (100, 4095)
  | .cleatCount _ => (0, 12)
  | .arbitration _ => (0, 31)
  | .cleatGroup _ _ => (1, 3)
  | .stationKind _ => (0, 5)
  | .stationHatch _ => (0, 9)
  | .positionTolerance => (1, 50)
  | .referenceTolerance => (1, 100)
  | .creepLimit => (1, 20)
  | .brakingWindow => (200, 3000)
  | .stallPeriod => (500, 10000)
  | .slowDown => (0, 1000)
  | .stopAllowance => (0, 255)
  | .overtravelMargin => (5, 200)
  | .listWarning => (5, 250)
  | .listLimit => (5, 250)
  | .trimLimit => (5, 250)
  | .cleatDwell => (1000, 10000)
  | .confirmationWindow => (500, 20000)
  | .sluggish => (500, 20000)
  | .liftTimeout => (5000, 60000)
  | .lowerTimeout => (5000, 60000)
  | .stowTimeout => (1000, 20000)
  | .retentionTime => (10, 600)
  | .zoneRenewal => (5, 120)
  | .capacityA => (1, 31)
  | .capacityB => (1, 31)
  | .tripLevel => (50, 250)
  | .tripDeglitch => (50, 1000)
  | .chopHoldoff => (100, 2000)
  | .chopLimit => (1, 20)
  | .attendanceLower => (20, 200)
  | .attendanceUpper => (100, 1000)
  | .attendanceMode => (0, 1)
  | .supplyMode => (0, 1)
  | .pressureMode => (0, 1)
  | .oilHot => (40, 80)
  | .oilOvertemp => (50, 95)
  | .pressureLow => (40, 200)
  | .otsdMode => (0, 1)
  | .offStateTest => (0, 1)
  | .overcurrentDeglitch => (10, 100)

/-- An enumerated parameter is held as one of its codes (R187, R189). -/
def ParamId.enumerated : ParamId → Bool
  | .crossover | .listSource | .lapSide _ | .homePack _ | .stationKind _ | .attendanceMode | .supplyMode | .pressureMode
  | .otsdMode | .offStateTest => true
  | _ => false

/-- Parameters 1 to 532 are layout parameters (R187). -/
def ParamId.isLayout (i : ParamId) : Bool := i.number ≤ 532

/-- The value held for a parameter (R188). -/
def ParamSet.get (s : ParamSet) : ParamId → Nat
  | .hatchCount => s.layout.hatchCount
  | .crossover => s.layout.crossover
  | .listSource => s.layout.listSource
  | .lapSide h => s.layout.lapSide[h]
  | .homePack h => s.layout.homePack[h]
  | .panelLength p => s.layout.panelLength[p]
  | .openCount p => s.layout.openCount[p]
  | .cleatCount p => s.layout.cleatCount[p]
  | .arbitration p => s.layout.arbitration[p]
  | .cleatGroup p k => s.layout.cleatGroup[p][k]
  | .stationKind n => s.layout.stationKind[n]
  | .stationHatch n => s.layout.stationHatch[n]
  | .positionTolerance => s.tuning.positionTolerance
  | .referenceTolerance => s.tuning.referenceTolerance
  | .creepLimit => s.tuning.creepLimit
  | .brakingWindow => s.tuning.brakingWindow
  | .stallPeriod => s.tuning.stallPeriod
  | .slowDown => s.tuning.slowDown
  | .stopAllowance => s.tuning.stopAllowance
  | .overtravelMargin => s.tuning.overtravelMargin
  | .listWarning => s.tuning.listWarning
  | .listLimit => s.tuning.listLimit
  | .trimLimit => s.tuning.trimLimit
  | .cleatDwell => s.tuning.cleatDwell
  | .confirmationWindow => s.tuning.confirmationWindow
  | .sluggish => s.tuning.sluggish
  | .liftTimeout => s.tuning.liftTimeout
  | .lowerTimeout => s.tuning.lowerTimeout
  | .stowTimeout => s.tuning.stowTimeout
  | .retentionTime => s.tuning.retentionTime
  | .zoneRenewal => s.tuning.zoneRenewal
  | .capacityA => s.tuning.capacityA
  | .capacityB => s.tuning.capacityB
  | .tripLevel => s.tuning.tripLevel
  | .tripDeglitch => s.tuning.tripDeglitch
  | .chopHoldoff => s.tuning.chopHoldoff
  | .chopLimit => s.tuning.chopLimit
  | .attendanceLower => s.tuning.attendanceLower
  | .attendanceUpper => s.tuning.attendanceUpper
  | .attendanceMode => s.tuning.attendanceMode
  | .supplyMode => s.tuning.supplyMode
  | .pressureMode => s.tuning.pressureMode
  | .oilHot => s.tuning.oilHot
  | .oilOvertemp => s.tuning.oilOvertemp
  | .pressureLow => s.tuning.pressureLow
  | .otsdMode => s.tuning.otsdMode
  | .offStateTest => s.tuning.offStateTest
  | .overcurrentDeglitch => s.tuning.overcurrentDeglitch

/-- Store `v` as the value of a parameter. -/
def ParamSet.put (s : ParamSet) (v : Nat) : ParamId → ParamSet
  | .hatchCount => { s with layout.hatchCount := v }
  | .crossover => { s with layout.crossover := v }
  | .listSource => { s with layout.listSource := v }
  | .lapSide h => { s with layout.lapSide := s.layout.lapSide.set h v }
  | .homePack h => { s with layout.homePack := s.layout.homePack.set h v }
  | .panelLength p => { s with layout.panelLength := s.layout.panelLength.set p v }
  | .openCount p => { s with layout.openCount := s.layout.openCount.set p v }
  | .cleatCount p => { s with layout.cleatCount := s.layout.cleatCount.set p v }
  | .arbitration p => { s with layout.arbitration := s.layout.arbitration.set p v }
  | .cleatGroup p k => { s with layout.cleatGroup := s.layout.cleatGroup.set p (s.layout.cleatGroup[p].set k v) }
  | .stationKind n => { s with layout.stationKind := s.layout.stationKind.set n v }
  | .stationHatch n => { s with layout.stationHatch := s.layout.stationHatch.set n v }
  | .positionTolerance => { s with tuning.positionTolerance := v }
  | .referenceTolerance => { s with tuning.referenceTolerance := v }
  | .creepLimit => { s with tuning.creepLimit := v }
  | .brakingWindow => { s with tuning.brakingWindow := v }
  | .stallPeriod => { s with tuning.stallPeriod := v }
  | .slowDown => { s with tuning.slowDown := v }
  | .stopAllowance => { s with tuning.stopAllowance := v }
  | .overtravelMargin => { s with tuning.overtravelMargin := v }
  | .listWarning => { s with tuning.listWarning := v }
  | .listLimit => { s with tuning.listLimit := v }
  | .trimLimit => { s with tuning.trimLimit := v }
  | .cleatDwell => { s with tuning.cleatDwell := v }
  | .confirmationWindow => { s with tuning.confirmationWindow := v }
  | .sluggish => { s with tuning.sluggish := v }
  | .liftTimeout => { s with tuning.liftTimeout := v }
  | .lowerTimeout => { s with tuning.lowerTimeout := v }
  | .stowTimeout => { s with tuning.stowTimeout := v }
  | .retentionTime => { s with tuning.retentionTime := v }
  | .zoneRenewal => { s with tuning.zoneRenewal := v }
  | .capacityA => { s with tuning.capacityA := v }
  | .capacityB => { s with tuning.capacityB := v }
  | .tripLevel => { s with tuning.tripLevel := v }
  | .tripDeglitch => { s with tuning.tripDeglitch := v }
  | .chopHoldoff => { s with tuning.chopHoldoff := v }
  | .chopLimit => { s with tuning.chopLimit := v }
  | .attendanceLower => { s with tuning.attendanceLower := v }
  | .attendanceUpper => { s with tuning.attendanceUpper := v }
  | .attendanceMode => { s with tuning.attendanceMode := v }
  | .supplyMode => { s with tuning.supplyMode := v }
  | .pressureMode => { s with tuning.pressureMode := v }
  | .oilHot => { s with tuning.oilHot := v }
  | .oilOvertemp => { s with tuning.oilOvertemp := v }
  | .pressureLow => { s with tuning.pressureLow := v }
  | .otsdMode => { s with tuning.otsdMode := v }
  | .offStateTest => { s with tuning.offStateTest := v }
  | .overcurrentDeglitch => { s with tuning.overcurrentDeglitch := v }

/-- The parameter at index `i` of a block of `n` parameters, if `i` lies in the block. -/
def blockIndex (n : Nat) (base number : Nat) : Option (Fin n) :=
  if h : base ≤ number ∧ number - base < n then some ⟨number - base, h.2⟩ else none

/-- The parameters that exist once in the unit. -/
def scalarParams : List ParamId :=
  [.hatchCount, .crossover, .listSource, .positionTolerance, .referenceTolerance, .creepLimit, .brakingWindow,
      .stallPeriod, .slowDown, .stopAllowance, .overtravelMargin, .listWarning, .listLimit, .trimLimit,
      .cleatDwell, .confirmationWindow, .sluggish, .liftTimeout, .lowerTimeout, .stowTimeout, .retentionTime,
      .zoneRenewal, .capacityA, .capacityB, .tripLevel, .tripDeglitch, .chopHoldoff, .chopLimit,
      .attendanceLower, .attendanceUpper, .attendanceMode, .supplyMode, .pressureMode, .oilHot, .oilOvertemp,
      .pressureLow, .otsdMode, .offStateTest, .overcurrentDeglitch]

/-- The parameter a number names, if it names one (R187). -/
def paramOfNumber (n : Nat) : Option ParamId :=
  scalarParams.find? (fun i => i.number == n)
    <|> (blockIndex 9 11 n).map .lapSide
    <|> (blockIndex 9 21 n).map .homePack
    <|> (blockIndex 18 101 n).map .panelLength
    <|> (blockIndex 18 121 n).map .openCount
    <|> (blockIndex 18 141 n).map .cleatCount
    <|> (blockIndex 18 161 n).map .arbitration
    <|> (blockIndex 216 201 n).map (fun i => .cleatGroup ⟨i.val / 12, by omega⟩ ⟨i.val % 12, by omega⟩)
    <|> (blockIndex 12 501 n).map .stationKind
    <|> (blockIndex 12 521 n).map .stationHatch

/-- A numeric value below its range is stored as the lower limit and one above it as the upper limit (R189). -/
def ParamId.clamp (i : ParamId) (v : Nat) : Nat := max i.range.1 (min v i.range.2)

/-- The tuning defaults (R187). -/
def Tuning.default : Tuning where
  positionTolerance := 8
  referenceTolerance := 8
  creepLimit := 3
  brakingWindow := 1000
  stallPeriod := 2000
  slowDown := 150
  stopAllowance := 12
  overtravelMargin := 40
  listWarning := 20
  listLimit := 30
  trimLimit := 20
  cleatDwell := 3000
  confirmationWindow := 6000
  sluggish := 4000
  liftTimeout := 20000
  lowerTimeout := 25000
  stowTimeout := 5000
  retentionTime := 120
  zoneRenewal := 30
  capacityA := 12
  capacityB := 12
  tripLevel := 160
  tripDeglitch := 200
  chopHoldoff := 500
  chopLimit := 6
  attendanceLower := 50
  attendanceUpper := 400
  attendanceMode := 0
  supplyMode := 0
  pressureMode := 0
  oilHot := 60
  oilOvertemp := 75
  pressureLow := 90
  otsdMode := 0
  offStateTest := 1
  overcurrentDeglitch := 20

/-- The group of cleat `k` by default: the remainder of its number less 1 divided by 3, plus 1 (R187). -/
def defaultGroups : Vector Nat 12 := #v[1, 2, 3, 1, 2, 3, 1, 2, 3, 1, 2, 3]

/-- The layout defaults (R187). -/
def Layout.default : Layout where
  hatchCount := 9
  crossover := 0
  listSource := 0
  lapSide := .replicate 9 0
  homePack := .replicate 9 0
  panelLength := .replicate 18 2000
  openCount := .replicate 18 2000
  cleatCount := .replicate 18 0
  arbitration := #v[1, 2, 3, 4, 5, 6, 7, 8, 9, 10, 11, 12, 13, 14, 15, 16, 17, 18]
  cleatGroup := .replicate 18 defaultGroups
  stationKind := #v[1, 0, 0, 0, 0, 0, 0, 0, 0, 0, 0, 0]
  stationHatch := .replicate 12 0

/-- The parameter set a unit without a valid store takes (R193). -/
def ParamSet.default : ParamSet := ⟨.default, .default⟩

end Sys2Proof.Machine
end

