-- ==== Sys2Proof/Machine/State.lean ====
section
/-! DEFINITION. The state of the unit, as plain data, and the state right after power-on (R193 and the reset rule of
each chapter). Timers hold the moment at which they run out, on the model's millisecond clock `now`. What the manual
derives from other state (seat, stow, status, effective capacity, granted sum, flow, pack health, most unit faults and
warnings, ATTN) is computed from this state and not stored a second time. -/

namespace Sys2Proof.Machine

/-- The reasons for which a command stops with a fault. The HC-918 has none: every command ends in a next state. -/
inductive Fault where
  deriving DecidableEq, Repr

/-- The reasons for which a command is refused by the model. -/
inductive Refusal where
  /-- A command that has no meaning yet. Raised only by an arm of `exec`; no arm is refused. Safe. -/
  | notModelled (mnemonic : String)
  deriving DecidableEq, Repr

structure State where
  /-- The commands that are waiting, first in, first out (the model's own). -/
  pending : List Instr
  /-- The clock in ms (the model's own; a step on an empty queue advances it). -/
  now : Nat
  /-- How many free values have been drawn (the model's own). -/
  free : Nat
  /-- How many orders have been created (the model's own; R65). -/
  created : Nat
  -- unit control and configuration store (R187 to R198)
  unit : UnitState
  params : ParamSet
  layout : Layout
  store : Option ParamSet
  writing : Option Writing
  locked : Bool
  servicePermitted : Bool
  serviceStation : Option StationNo
  jog : Option Jog
  configAbsent : Bool
  -- panel table, position counters, sequencers, cleat controller (R1 to R37, R67 to R87)
  panels : Vector Panel 18
  -- order table (R38 to R66)
  slots : Vector (Option Order) 24
  idCounter : Nat
  -- travel planner (R88 to R93)
  list : Int
  trim : Int
  fresh : Bool
  /-- The unit warning LIST_HIGH, as the last look at the attitude derived it (R90). -/
  listHigh : Bool
  staleTimer : Option Nat
  windSet : Bool
  windLine : Bool
  -- zone table (R109 to R122)
  claims : Vector (Option Claim) 16
  lineLive : Vector Bool 9
  presence : Vector Bool 9
  -- flow arbiters and pack monitor (R106, R123 to R138, R159 to R161)
  packA : Pack
  packB : Pack
  -- authority unit (R139 to R154); a selector that is true shows LOCAL
  stations : Vector Station 12
  selector : Vector Bool 9
  /-- For a hatch that a COMMIT has made configured, when its selector is derived (R141). -/
  selectorDue : Vector (Option Nat) 9
  -- protection monitor (R155 to R173)
  loopOpen : Bool
  loopClosedLine : Bool
  loopTaken : Bool
  supplyLow : Bool
  supplyRecovered : Bool
  /-- The last reading of the supply that it has held for 50 ms (R158). -/
  supplyMv : Nat
  cards : Vector CardState 3
  cardTemp : Vector (Option Int) 3
  frameErrorsWarned : Bool
  latches : List EventLatch
  -- link interface (R174 to R179)
  txQueue : List Reply
  txErrors : Nat
  busOff : Bool
  deriving DecidableEq, Repr

/-- Every switch open: the level the model gives a switch line until an event shows another (log entry 3). -/
def Switches.allOpen : Switches := ⟨false, false, false, false, false, false, false⟩

/-- A cleat's record at power-on, from the level of its switch (R36). -/
def Cleat.atPowerOn (made : Bool) : Cleat :=
  ⟨if made then .engaged else .released, made, 0, 0⟩

/-- A panel's record at power-on (R20, R68), before START has derived its certainty. -/
def Panel.atPowerOn (sw : Switches) (cleats : Vector Cleat 12) : Panel where
  sw := sw
  count := 0
  certain := false
  activity := .idle
  creep := 0
  chop := 0
  slip := none
  faults := []
  warnings := []
  live := none
  shortCoil := none
  openCoil := none
  openFound := []
  overloadPack := none
  mode := .quiet
  wheelArmed := true
  lastDir := none
  brakeTimer := none
  stall := .stopped
  creepQuiet := none
  purpose := none
  stepTimer := none
  plan := none
  chopMark := false
  holdoff := none
  coils := {}
  cleats := cleats
  move := none

/-- A pack at power-on (R106, R137, R161): no cause, not evaluated, nothing granted, nothing waiting; the deglitch of its trip
counts from `now` on. -/
def Pack.atPowerOn (pumpOn : Bool) (pressure : Option Nat) (travelBar : Nat) (oil : Option Int) (now : Nat) : Pack where
  pumpOn := pumpOn
  pressure := pressure
  travelBar := travelBar
  deglitchFrom := now
  oil := oil
  evaluated := false
  pump := false
  lowPressure := false
  overtemp := false
  hot := false
  trip := false
  grants := []
  waiting := []

/-- A station's record at power-on (R139, R154, R179). -/
def Station.atPowerOn : Station := ⟨false, 0, none, 0, 0, false⟩

/-- The unit right after power-on with no valid store (R193): in START, the defaults taken, the layout unlocked,
CONFIG_ABSENT standing and POWER_UP latched. The manual gives the levels of the field lines no value at reset; those
here are named in log entry 3. -/
def State.reset : State where
  pending := []
  now := 0
  free := 0
  created := 0
  unit := .start .powerOn
  params := .default
  layout := .default
  store := none
  writing := none
  locked := false
  servicePermitted := false
  serviceStation := none
  jog := none
  configAbsent := true
  panels := .replicate 18 (.atPowerOn .allOpen (.replicate 12 (.atPowerOn false)))
  slots := .replicate 24 none
  idCounter := 1
  list := 0
  trim := 0
  fresh := false
  listHigh := false
  staleTimer := none
  windSet := false
  windLine := false
  claims := .replicate 16 none
  lineLive := .replicate 9 false
  presence := .replicate 9 false
  packA := .atPowerOn false (some 0) 0 (some 20) 0
  packB := .atPowerOn false (some 0) 0 (some 20) 0
  stations := .replicate 12 .atPowerOn
  selector := .replicate 9 false
  selectorDue := .replicate 9 none
  loopOpen := true
  loopClosedLine := false
  loopTaken := false
  supplyLow := false
  supplyRecovered := false
  supplyMv := 24000
  cards := .replicate 3 .normal
  cardTemp := .replicate 3 (some 20)
  frameErrorsWarned := false
  latches := [.powerUp]
  txQueue := []
  txErrors := 0
  busOff := false

end Sys2Proof.Machine
end

