-- ==== Sys2Proof/Machine/Ops.lean ====
section
/-! DEFINITION. The named operations over the records: the numbers of panels, hatches and stations, access to each
record, sets of kinds, event latches (R171), panel warnings (R7), coils and the clock. -/

namespace Sys2Proof.Machine

/-! ### Numbers -/

def allPanels : List PanelNo := [0, 1, 2, 3, 4, 5, 6, 7, 8, 9, 10, 11, 12, 13, 14, 15, 16, 17]
def allHatches : List HatchNo := [0, 1, 2, 3, 4, 5, 6, 7, 8]
def allStations : List StationNo := [0, 1, 2, 3, 4, 5, 6, 7, 8, 9, 10, 11]
def allCleats : List CleatNo := [0, 1, 2, 3, 4, 5, 6, 7, 8, 9, 10, 11]
def allCards : List CardNo := [0, 1, 2]
def allClaims : List ClaimNo := [0, 1, 2, 3, 4, 5, 6, 7, 8, 9, 10, 11, 12, 13, 14, 15]
def allSlots : List SlotNo :=
  [0, 1, 2, 3, 4, 5, 6, 7, 8, 9, 10, 11, 12, 13, 14, 15, 16, 17, 18, 19, 20, 21, 22, 23]

/-- Panel `n` of the manual, for `n` from 1 to 18. -/
def panelNo (n : Nat) : PanelNo := ⟨(n - 1) % 18, Nat.mod_lt _ (by decide)⟩
/-- Hatch `n` of the manual, for `n` from 1 to 9. -/
def hatchNo (n : Nat) : HatchNo := ⟨(n - 1) % 9, Nat.mod_lt _ (by decide)⟩
/-- Station `n` of the manual, for `n` from 1 to 12. -/
def stationNo (n : Nat) : StationNo := ⟨(n - 1) % 12, Nat.mod_lt _ (by decide)⟩

/-- The hatch of a panel: panels 2h−1 and 2h belong to hatch h. -/
def hatchOf (p : PanelNo) : HatchNo := ⟨p.val / 2, by omega⟩
/-- The port panel of a hatch, 2h−1. -/
def portOf (h : HatchNo) : PanelNo := ⟨2 * h.val, by omega⟩
/-- The starboard panel of a hatch, 2h. -/
def starboardOf (h : HatchNo) : PanelNo := ⟨2 * h.val + 1, by omega⟩
/-- Odd panel numbers are port panels. -/
def isPort (p : PanelNo) : Bool := p.val % 2 == 0
/-- The other panel of the same hatch. -/
def partner (p : PanelNo) : PanelNo := if isPort p then starboardOf (hatchOf p) else portOf (hatchOf p)
/-- The card of a panel (R2): card k serves hatches 3k−2 to 3k. -/
def cardOf (p : PanelNo) : CardNo := ⟨p.val / 6, by omega⟩

/-! ### Sets of kinds, kept in their listed order without duplicates -/

/-- The set `xs` with `k` joined to it; `all` lists every kind in order. -/
def joinSet {α : Type} [BEq α] (all : List α) (k : α) (xs : List α) : List α :=
  all.filter fun j => j == k || xs.contains j

def allPanelFaults : List PanelFault :=
  [.solenoidShort, .solenoidOpen, .cleatJam, .liftTimeout, .lowerTimeout, .stowTimeout, .travelStall, .travelOverload,
   .overtravel, .runaway, .positionRange, .sensorConflict, .cardOvertemp, .attendance]
def allPanelWarnings : List PanelWarning :=
  [.referenceSlip, .targetMiss, .cleatSluggish, .cleatLost, .travelTrip, .cardHot, .creep, .attendanceLost, .sequenceStop]
def allLatches : List EventLatch :=
  [.estopChange, .powerUp, .restarted, .unitFault, .panelFault, .packChange, .selectorChange, .attendance, .zoneStale,
   .orderFailed, .orderCancelled, .orderDone, .holdReached, .warning]
def allCoils : List Coil :=
  [.liftUp, .liftDown, .travelOut, .travelIn, .fast, .brakeRelease, .stowLock, .stowUnlock, .cleatRel 0, .cleatRel 1,
   .cleatRel 2, .cleatEng 0, .cleatEng 1, .cleatEng 2]

/-! ### Records -/

def State.panel (s : State) (p : PanelNo) : Panel := s.panels[p]
def State.setPanel (s : State) (p : PanelNo) (x : Panel) : State := { s with panels := s.panels.set p x }
def State.modPanel (s : State) (p : PanelNo) (f : Panel → Panel) : State := s.setPanel p (f (s.panel p))

def State.pack (s : State) : PackId → Pack
  | .a => s.packA
  | .b => s.packB
def State.setPack (s : State) (x : Pack) : PackId → State
  | .a => { s with packA := x }
  | .b => { s with packB := x }
def State.modPack (s : State) (k : PackId) (f : Pack → Pack) : State := s.setPack (f (s.pack k)) k
def otherPack : PackId → PackId
  | .a => .b
  | .b => .a

def State.station (s : State) (n : StationNo) : Station := s.stations[n]
def State.modStation (s : State) (n : StationNo) (f : Station → Station) : State :=
  { s with stations := s.stations.set n (f s.stations[n]) }

def State.slot (s : State) (i : SlotNo) : Option Order := s.slots[i]
def State.setSlot (s : State) (i : SlotNo) (o : Option Order) : State := { s with slots := s.slots.set i o }
/-- Change the order in a slot; a FREE slot stays FREE. -/
def State.modOrder (s : State) (i : SlotNo) (f : Order → Order) : State := s.setSlot i ((s.slot i).map f)

def State.claim (s : State) (z : ClaimNo) : Option Claim := s.claims[z]
def State.setClaim (s : State) (z : ClaimNo) (c : Option Claim) : State := { s with claims := s.claims.set z c }

/-- Do `f` for each panel in ascending panel number. -/
def State.forPanels (s : State) (f : PanelNo → State → State) : State := allPanels.foldl (fun s p => f p s) s

/-! ### Unit state, layout in effect -/

def State.inStart (s : State) : Bool :=
  match s.unit with
  | .start _ => true
  | _ => false

/-- A hatch is configured when its number is no greater than the configured hatch count. -/
def State.hatchConfigured (s : State) (h : HatchNo) : Bool := h.val < s.layout.hatchCount
/-- A panel is configured when its hatch is (R1). -/
def State.configured (s : State) (p : PanelNo) : Bool := s.hatchConfigured (hatchOf p)
/-- L of a panel. -/
def State.length (s : State) (p : PanelNo) : Int := s.layout.panelLength[p]
/-- O of a panel. -/
def State.openCount (s : State) (p : PanelNo) : Int := s.layout.openCount[p]
/-- A cleat has a record when its number is no greater than the cleat count of a configured panel (R22). -/
def State.cleatConfigured (s : State) (p : PanelNo) (k : CleatNo) : Bool :=
  s.configured p && k.val < s.layout.cleatCount[p]
/-- The group of a cleat, numbered from 0. -/
def State.cleatInGroup (s : State) (p : PanelNo) (k : CleatNo) (g : GroupNo) : Bool :=
  s.layout.cleatGroup[p][k] == g.val + 1
/-- The cleats of a group that have a record (R22). -/
def State.groupCleats (s : State) (p : PanelNo) (g : GroupNo) : List CleatNo :=
  allCleats.filter fun k => s.cleatConfigured p k && s.cleatInGroup p k g
/-- The cleats of a panel that have a record. -/
def State.panelCleats (s : State) (p : PanelNo) : List CleatNo := allCleats.filter (s.cleatConfigured p)
/-- The home pack of a panel: that of its hatch (R2). -/
def State.homePack (s : State) (p : PanelNo) : PackId := if s.layout.homePack[hatchOf p] = 1 then .b else .a
/-- The arbitration number of a panel (R2). -/
def State.arbitration (s : State) (p : PanelNo) : Nat := s.layout.arbitration[p]
/-- The lap panel is the panel on the hatch's configured lap side (R74). -/
def State.isLap (s : State) (p : PanelNo) : Bool := (s.layout.lapSide[hatchOf p] == 1) != isPort p
/-- The kind of a station, none when the station is not configured (R139, R187). -/
def State.stationKind (s : State) (n : StationNo) : Option StationKind :=
  match s.layout.stationKind[n] with
  | 1 => some .bridge
  | 2 => some .cargoControl
  | 3 => some .pendant
  | 4 => some .shore
  | 5 => some .inclinometer
  | _ => none
/-- The hatch of a PENDANT, as a hatch number from 0. -/
def State.pendantHatch (s : State) (n : StationNo) : Option HatchNo :=
  if h : s.stationKind n = some .pendant ∧ 1 ≤ s.layout.stationHatch[n] ∧ s.layout.stationHatch[n] ≤ 9 then
    some ⟨s.layout.stationHatch[n] - 1, by omega⟩
  else none

/-! ### The clock -/

/-- The clock is at least at `t`: taking a timer's expiry tells that its deadline has come (log entry 1). -/
def State.reach (s : State) (t : Nat) : State := { s with now := max s.now t }

/-! ### Event latches and warnings -/

/-- The code of a latch (the table before R171). -/
def EventLatch.code : EventLatch → Nat
  | .estopChange => 1
  | .powerUp => 2
  | .restarted => 3
  | .unitFault => 4
  | .panelFault => 5
  | .packChange => 6
  | .selectorChange => 7
  | .attendance => 8
  | .zoneStale => 9
  | .orderFailed => 10
  | .orderCancelled => 11
  | .orderDone => 12
  | .holdReached => 13
  | .warning => 14

/-- A latch is set when its cause occurs; while the unit is in START, latches 4 to 14 are not set (R171). -/
def State.setLatch (s : State) (e : EventLatch) : State :=
  if s.inStart && e.code ≥ 4 then s else { s with latches := joinSet allLatches e s.latches }

/-- Set the latch if `b`. -/
def State.latchIf (s : State) (b : Bool) (e : EventLatch) : State := if b then s.setLatch e else s

/-- A panel warning kind joins the warning set and sets the WARNING latch, whether or not it was present (R7). -/
def State.warn (s : State) (p : PanelNo) (k : PanelWarning) : State :=
  (s.modPanel p fun x => { x with warnings := joinSet allPanelWarnings k x.warnings }).setLatch .warning

/-! ### Coils -/

def Coils.get (c : Coils) : Coil → Bool
  | .liftUp => c.liftUp
  | .liftDown => c.liftDown
  | .travelOut => c.travelOut
  | .travelIn => c.travelIn
  | .fast => c.fast
  | .brakeRelease => c.brakeRelease
  | .stowLock => c.stowLock
  | .stowUnlock => c.stowUnlock
  | .cleatRel g => if g = 0 then c.rel1 else if g = 1 then c.rel2 else c.rel3
  | .cleatEng g => if g = 0 then c.eng1 else if g = 1 then c.eng2 else c.eng3

def Coils.put (c : Coils) (b : Bool) : Coil → Coils
  | .liftUp => { c with liftUp := b }
  | .liftDown => { c with liftDown := b }
  | .travelOut => { c with travelOut := b }
  | .travelIn => { c with travelIn := b }
  | .fast => { c with fast := b }
  | .brakeRelease => { c with brakeRelease := b }
  | .stowLock => { c with stowLock := b }
  | .stowUnlock => { c with stowUnlock := b }
  | .cleatRel g => if g = 0 then { c with rel1 := b } else if g = 1 then { c with rel2 := b } else { c with rel3 := b }
  | .cleatEng g => if g = 0 then { c with eng1 := b } else if g = 1 then { c with eng2 := b } else { c with eng3 := b }

/-- The output enable of the driver cards: removed while the loop is open or the supply low (R155). -/
def State.enabled (s : State) : Bool := !s.loopOpen && !s.supplyLow

/-- A coil that is commanded on energises only while the output enable is present (R155). -/
def State.energise (s : State) (p : PanelNo) (c : Coil) : State :=
  if s.enabled then s.modPanel p fun x => { x with coils := x.coils.put true c } else s

def State.deEnergise (s : State) (p : PanelNo) (c : Coil) : State :=
  s.modPanel p fun x => { x with coils := x.coils.put false c }

/-- The coil that drives the travel motor in a direction. -/
def Dir.coil : Dir → Coil
  | .outward => .travelOut
  | .inward => .travelIn

/-- The travel coils and BRAKE_RELEASE off: the motor and FAST stop and the brake is applied. -/
def Coils.travelOff (c : Coils) : Coils :=
  { c with travelOut := false, travelIn := false, fast := false, brakeRelease := false }

/-- +1 for outward, −1 for inward. -/
def Dir.sign : Dir → Int
  | .outward => 1
  | .inward => -1

/-! ### Outcomes of an operation -/

/-- What an operation leaves: the records, and the work it leaves to other blocks, in order. -/
structure Res where
  st : State
  jobs : List Job

def Res.ok (s : State) : Res := ⟨s, []⟩
/-- Then do `f`; the work left by both is carried out afterwards, in order. -/
def Res.bind (r : Res) (f : State → Res) : Res := ⟨(f r.st).st, r.jobs ++ (f r.st).jobs⟩
/-- Then change the records by `f`. -/
def Res.map (r : Res) (f : State → State) : Res := ⟨f r.st, r.jobs⟩
/-- Leave further work. -/
def Res.add (r : Res) (js : List Job) : Res := ⟨r.st, r.jobs ++ js⟩
/-- Do `f` for each element of a list in turn. -/
def Res.each {α : Type} (xs : List α) (f : α → State → Res) (r : Res) : Res := xs.foldl (fun r x => r.bind (f x)) r

end Sys2Proof.Machine
end

