-- ==== Sys2Proof/Machine/Operands.lean ====
section
/-! DEFINITION. The codes in which requests and replies carry names and quantities (R175, R180 to R186): every code
list of the station link, in both directions, and the byte order of two-byte quantities. -/

namespace Sys2Proof.Machine

/-! ### Quantities -/

/-- A signed quantity of two bytes, in two's complement (R175). -/
def signed (x : Half) : Int := x.toInt

/-- A byte of a payload. -/
def byteOf (n : Nat) : Byte := BitVec.ofNat 8 n
/-- A quantity of two bytes, least significant byte first (R175). -/
def bytes2 (n : Nat) : List Byte := [byteOf n, byteOf (n / 256)]
/-- A signed quantity of two bytes. -/
def signedBytes2 (i : Int) : List Byte := bytes2 (BitVec.ofInt 16 i).toNat
/-- A flag as a bit of weight `w` (R175). -/
def bit (b : Bool) (w : Nat) : Nat := if b then w else 0
/-- Payload bytes 2 to 7; bytes a reply does not use are sent as 0 (R175). -/
def payload (bs : List Byte) : List Byte := (bs ++ List.replicate 6 0).take 6

/-- The set of kinds as a bitmap: the bit numbered k stands for kind k + 1 of the code list `all` (R175). -/
def bitmap {α : Type} [BEq α] : List α → List α → Nat
  | [], _ => 0
  | k :: all, xs => bit (xs.contains k) 1 + 2 * bitmap all xs

/-! ### Numbers in arguments -/

def panelArg (b : Byte) : Option PanelNo :=
  if h : 1 ≤ b.toNat ∧ b.toNat ≤ 18 then some ⟨b.toNat - 1, by omega⟩ else none
def hatchArg (b : Byte) : Option HatchNo :=
  if h : 1 ≤ b.toNat ∧ b.toNat ≤ 9 then some ⟨b.toNat - 1, by omega⟩ else none
def stationArg (b : Byte) : Option StationNo :=
  if h : 1 ≤ b.toNat ∧ b.toNat ≤ 12 then some ⟨b.toNat - 1, by omega⟩ else none
def cleatArg (b : Byte) : Option CleatNo :=
  if h : 1 ≤ b.toNat ∧ b.toNat ≤ 12 then some ⟨b.toNat - 1, by omega⟩ else none

/-- A zone id: 1 to 16 a claimed slot, 17 to 25 the line zone of hatches 1 to 9 (R109). -/
inductive ZoneId where
  | claimed (z : ClaimNo)
  | line (h : HatchNo)
  deriving DecidableEq, Repr

def zoneArg (b : Byte) : Option ZoneId :=
  if h : 1 ≤ b.toNat ∧ b.toNat ≤ 16 then some (.claimed ⟨b.toNat - 1, by omega⟩)
  else if h : 17 ≤ b.toNat ∧ b.toNat ≤ 25 then some (.line ⟨b.toNat - 17, by omega⟩)
  else none

/-! ### Code lists of R180 -/

def orderKindArg (b : BitVec 3) : Option OrderKind :=
  match b.toNat with
  | 1 => some .openHatch
  | 2 => some .close
  | 3 => some .moveTo
  | 4 => some .home
  | 5 => some .secure
  | 6 => some .release
  | _ => none
def OrderKind.code : OrderKind → Nat
  | .openHatch => 1
  | .close => 2
  | .moveTo => 3
  | .home => 4
  | .secure => 5
  | .release => 6

def classArg (n : Nat) : Option OrderClass :=
  match n with
  | 0 => some .normal
  | 1 => some .rain
  | _ => none
def OrderClass.code : OrderClass → Nat
  | .normal => 0
  | .rain => 1

/-- A hold step argument: `some none` is the code 0, none; `none` is not a code. -/
def holdArg (b : Byte) : Option (Option StepKind) :=
  match b.toNat with
  | 0 => some none
  | 1 => some (some (.uncleat 0))
  | 2 => some (some (.uncleat 1))
  | 3 => some (some (.uncleat 2))
  | 4 => some (some (.cleat 0))
  | 5 => some (some (.cleat 1))
  | 6 => some (some (.cleat 2))
  | 7 => some (some .lift)
  | 8 => some (some .lower)
  | 9 => some (some .lockStow)
  | 10 => some (some .unlockStow)
  | 11 => some (some .travel)
  | _ => none
def StepKind.code : StepKind → Nat
  | .uncleat g => 1 + g.val
  | .cleat g => 4 + g.val
  | .lift => 7
  | .lower => 8
  | .lockStow => 9
  | .unlockStow => 10
  | .travel => 11

def coilArg (b : Byte) : Option Coil :=
  match b.toNat with
  | 1 => some .liftUp
  | 2 => some .liftDown
  | 3 => some .travelOut
  | 4 => some .travelIn
  | 5 => some .fast
  | 6 => some .brakeRelease
  | 7 => some .stowLock
  | 8 => some .stowUnlock
  | 9 => some (.cleatRel 0)
  | 10 => some (.cleatRel 1)
  | 11 => some (.cleatRel 2)
  | 12 => some (.cleatEng 0)
  | 13 => some (.cleatEng 1)
  | 14 => some (.cleatEng 2)
  | _ => none
def coilCode : Coil → Nat
  | .liftUp => 1
  | .liftDown => 2
  | .travelOut => 3
  | .travelIn => 4
  | .fast => 5
  | .brakeRelease => 6
  | .stowLock => 7
  | .stowUnlock => 8
  | .cleatRel g => 9 + g.val
  | .cleatEng g => 12 + g.val

def sideArg (b : BitVec 2) : Option Side :=
  match b.toNat with
  | 0 => some .port
  | 1 => some .starboard
  | 2 => some .both
  | _ => none
def Side.code : Side → Nat
  | .port => 0
  | .starboard => 1
  | .both => 2

def zoneKindArg (b : BitVec 2) : ZoneKind :=
  match b.toNat with
  | 0 => .spout
  | 1 => .grab
  | 2 => .personnel
  | _ => .other
def ZoneKind.code : ZoneKind → Nat
  | .spout => 0
  | .grab => 1
  | .personnel => 2
  | .other => 3

def PanelFault.code : PanelFault → Nat
  | .solenoidShort => 1
  | .solenoidOpen => 2
  | .cleatJam => 3
  | .liftTimeout => 4
  | .lowerTimeout => 5
  | .stowTimeout => 6
  | .travelStall => 7
  | .travelOverload => 8
  | .overtravel => 9
  | .runaway => 10
  | .positionRange => 11
  | .sensorConflict => 12
  | .cardOvertemp => 13
  | .attendance => 14

def allUnitFaults : List UnitFault := [.supplyLow, .packADown, .packBDown]
def allUnitWarnings : List UnitWarning :=
  [.packAHot, .packBHot, .listHigh, .listStale, .wind, .zoneStale, .frameErrors, .configAbsent]

def StationKind.code : StationKind → Nat
  | .bridge => 0
  | .cargoControl => 1
  | .pendant => 2
  | .shore => 3
  | .inclinometer => 4

/-! ### Reply codes -/

def ReplyCode.code : ReplyCode → Nat
  | .accepted => 1
  | .data => 2
  | .frameError => 16
  | .unknownStation => 17
  | .unknownRequest => 18
  | .badArgument => 19
  | .notAuthorised => 20
  | .noSuchPanel => 21
  | .panelBusy => 22
  | .panelFaulted => 23
  | .notSeated => 24
  | .positionUncertain => 25
  | .noSuchOrder => 26
  | .orderFinished => 27
  | .wrongState => 28
  | .zoneTableFull => 29
  | .noSuchZone => 30
  | .unitState => 31
  | .layoutLocked => 32
  | .configInconsistent => 33
  | .storeError => 34
  | .serviceDisabled => 35
  | .interlock => 36
  | .flowBusy => 37
  | .busy => 38

/-! ### Codes of the lookups (R181 to R185) -/

def OrderState.code : OrderState → Nat
  | .pending => 1
  | .active => 2
  | .atHold => 3
  | .paused _ => 4
  | .done => 5
  | .cancelled _ => 6
  | .failed _ => 7

def PauseReason.code : PauseReason → Nat
  | .request => 1
  | .estop => 2
  | .supply => 3
  | .authority => 4
  | .attendance => 5
  | .service => 6
  | .packLoss => 7

def CancelReason.code : CancelReason → Nat
  | .request => 1
  | .superseded => 2
  | .predecessor => 3

def FailReason.code : FailReason → Nat
  | .fault k => k.code
  | .sequence => 15
  | .flowImpossible => 16
  | .noArbitration => 17

/-- The state reason: 0 for none, 1 for PREDECESSOR in PENDING (R185). -/
def OrderState.reasonCode : OrderState → Nat
  | .pending => 1
  | .paused r => r.code
  | .cancelled r => r.code
  | .failed r => r.code
  | _ => 0

def phaseCode : Option Phase → Nat
  | none => 0
  | some .flowWait => 1
  | some .interlockWait => 2
  | some .running => 3
  | some .braking => 4

def pausedFromCode : Option PausedFrom → Nat
  | none => 0
  | some .pending => 1
  | some .active => 2
  | some .atHold => 3

def Reasons.code (r : Reasons) : Nat := bit r.lap 1 + bit r.zone 2 + bit r.list 4 + bit r.wind 8

def Seat.code : Seat → Nat
  | .seated => 0
  | .lifted => 1
  | .between => 2

def Activity.code : Activity → Nat
  | .idle => 0
  | .cleatMove g .release => 1 + g.val
  | .cleatMove g .engage => 4 + g.val
  | .lift => 7
  | .lower => 8
  | .stowMove .lock => 9
  | .stowMove .unlock => 10
  | .travel .outward .fast => 11
  | .travel .outward .slow => 12
  | .travel .inward .fast => 13
  | .travel .inward .slow => 14
  | .braking => 15
  | .jog => 16

def CleatState.code : CleatState → Nat
  | .engaged => 0
  | .released => 1
  | .unknown => 2
  | .jammed => 3
  | .bypassed => 4

def CardState.code : CardState → Nat
  | .normal => 0
  | .hot => 1
  | .overtemp => 2

/-- The unit state as READ_UNIT shows it; START is not visible at the link (R182). -/
def UnitState.code : UnitState → Nat
  | .start _ => 0
  | .setup => 1
  | .run => 2
  | .service => 3

end Sys2Proof.Machine
end

