-- ==== Sys2Proof/Machine/Flags.lean ====
section
/-! DEFINITION. What is derived from the records each time it is needed: seat and stow (R4), reported status (R9),
pack health and capacity (R123), flow (R136), serving pack (R126), the unit fault and warning sets (R168), the LIST
condition and the fast bar (R90), authority (R141), ATTN (R171). -/

namespace Sys2Proof.Machine

/-! ### Panels -/

/-- The seat (R4): the first line of the rule's table that matches. -/
def Switches.seat (w : Switches) : Seat :=
  if w.seated1 && w.seated2 && !w.lifted1 && !w.lifted2 then .seated
  else if w.lifted1 && w.lifted2 && !w.seated1 && !w.seated2 then .lifted
  else .between

/-- A SEATED switch and a LIFTED switch made together (R5). -/
def Switches.conflict (w : Switches) : Bool := (w.seated1 || w.seated2) && (w.lifted1 || w.lifted2)

def Switches.get (w : Switches) : SeatSwitch → Bool
  | .seated1 => w.seated1
  | .seated2 => w.seated2
  | .lifted1 => w.lifted1
  | .lifted2 => w.lifted2

def Switches.put (w : Switches) (b : Bool) : SeatSwitch → Switches
  | .seated1 => { w with seated1 := b }
  | .seated2 => { w with seated2 := b }
  | .lifted1 => { w with lifted1 := b }
  | .lifted2 => { w with lifted2 := b }

def Panel.seat (x : Panel) : Seat := x.sw.seat

/-- The position tolerance. -/
def State.tol (s : State) : Int := s.params.tuning.positionTolerance

/-- Every configured cleat of the panel satisfies `f`. -/
def State.everyCleat (s : State) (p : PanelNo) (f : CleatState → Bool) : Bool :=
  (s.panelCleats p).all fun k => f (s.panel p).cleats[k].state

def CleatState.isEngaged : CleatState → Bool
  | .engaged => true
  | _ => false
/-- Counts as done for UNCLEAT (the table before R22). -/
def CleatState.doneUncleat : CleatState → Bool
  | .released | .bypassed => true
  | _ => false
/-- Counts as done for CLEAT. -/
def CleatState.doneCleat : CleatState → Bool
  | .engaged | .bypassed => true
  | _ => false

inductive Status where
  | outOfService | moving | secured | seated | undetermined | liftedClosed | openStowed | partOpen
  deriving DecidableEq, Repr

def Status.code : Status → Nat
  | .outOfService => 1
  | .moving => 2
  | .secured => 3
  | .seated => 4
  | .undetermined => 5
  | .liftedClosed => 6
  | .openStowed => 7
  | .partOpen => 8

/-- The reported status (R9): the first line of the rule's table that matches. -/
def State.status (s : State) (p : PanelNo) : Status :=
  let x := s.panel p
  if x.faults ≠ [] then .outOfService
  else if x.activity ≠ .idle then .moving
  else if x.seat = .seated ∧ x.certain = true ∧ |x.count| ≤ s.tol ∧ s.everyCleat p CleatState.isEngaged = true then .secured
  else if x.seat = .seated then .seated
  else if x.seat = .between ∨ x.certain = false then .undetermined
  else if |x.count| ≤ s.tol then .liftedClosed
  else if |x.count - s.openCount p| ≤ s.tol ∧ x.sw.stowLocked = true then .openStowed
  else .partOpen

/-! ### Packs and flow -/

/-- The down causes are not empty. -/
def Pack.anyCause (x : Pack) : Bool := x.pump || x.lowPressure || x.overtemp
/-- Health UP: the lines have been evaluated and no cause stands (R161). -/
def Pack.up (x : Pack) : Bool := x.evaluated && !x.anyCause
/-- The granted sum (R124). -/
def Pack.granted (x : Pack) : Nat := (x.grants.map Grant.demand).sum

def State.capacity (s : State) : PackId → Nat
  | .a => s.params.tuning.capacityA
  | .b => s.params.tuning.capacityB

/-- The effective capacity (R123). -/
def State.effective (s : State) (k : PackId) : Nat :=
  if !(s.pack k).up then 0 else if (s.pack k).hot then s.capacity k / 2 else s.capacity k

/-- The serving pack (R126). -/
def State.servingPack (s : State) (p : PanelNo) : Option PackId :=
  let h := s.homePack p
  if (s.pack h).up then some h
  else if (s.pack (otherPack h)).up && s.layout.crossover == 1 then some (otherPack h)
  else none

/-- The list pack: the serving pack, or the home pack when there is none (R126). -/
def State.listPack (s : State) (p : PanelNo) : PackId := (s.servingPack p).getD (s.homePack p)

/-- The flow of a panel (R68, R136). -/
inductive Flow where
  | none
  | waiting (k : PackId) (demand : Nat)
  | granted (k : PackId) (demand : Nat)
  deriving DecidableEq, Repr

def Pack.grantOf (x : Pack) (p : PanelNo) : Option Grant := x.grants.find? fun g => g.panel == p
def Pack.waiterOf (x : Pack) (p : PanelNo) : Option Waiter := x.waiting.find? fun w => w.panel == p

def State.flow (s : State) (p : PanelNo) : Flow :=
  match s.packA.grantOf p with
  | some g => .granted .a g.demand
  | _ =>
    match s.packB.grantOf p with
    | some g => .granted .b g.demand
    | _ =>
      match s.packA.waiterOf p with
      | some w => .waiting .a w.demand
      | _ =>
        match s.packB.waiterOf p with
        | some w => .waiting .b w.demand
        | _ => .none

/-- The pack whose grant set holds a grant of the panel. -/
def State.grantPack (s : State) (p : PanelNo) : Option PackId :=
  match s.flow p with
  | .granted k _ => some k
  | _ => none

/-! ### Attitude, wind, cards -/

/-- LIST_SOURCE in effect is NONE (R91). -/
def State.noListSource (s : State) : Bool := s.layout.listSource == 1

/-- The LIST condition (R90, R91). -/
def State.listCondition (s : State) : Bool :=
  !s.noListSource &&
    (!s.fresh || decide (s.list.natAbs > s.params.tuning.listLimit) || decide (s.trim.natAbs > s.params.tuning.trimLimit))

/-- The list fast bar (R90, R91). -/
def State.fastBar (s : State) : Bool := !s.noListSource && decide (s.list.natAbs > s.params.tuning.listWarning)

/-- The condition of the unit warning LIST_HIGH (R90, R91). -/
def State.highList (s : State) : Bool :=
  !s.noListSource &&
    (decide (s.list.natAbs > s.params.tuning.listWarning) || decide (s.trim.natAbs > s.params.tuning.trimLimit))

/-- The unit warning LIST_STALE (R89, R91, R93). -/
def State.listStale (s : State) : Bool := !s.noListSource && !s.fresh

/-- The fast permission of a panel (R98). -/
def State.fastPermitted (s : State) (p : PanelNo) : Bool :=
  (s.panel p).certain && !s.fastBar && !s.noListSource && s.cards[cardOf p] == .normal && !(s.panel p).chopMark

/-! ### Unit faults and warnings (R168) -/

def State.hasUnitFault (s : State) : UnitFault → Bool
  | .supplyLow => s.supplyLow
  | .packADown => s.packA.anyCause
  | .packBDown => s.packB.anyCause
def State.unitFaults (s : State) : List UnitFault := allUnitFaults.filter s.hasUnitFault

def State.anyZoneStale (s : State) : Bool :=
  allClaims.any fun z => match s.claim z with | some c => c.stale | none => false

def State.hasUnitWarning (s : State) : UnitWarning → Bool
  | .packAHot => s.packA.hot
  | .packBHot => s.packB.hot
  | .listHigh => s.listHigh
  | .listStale => s.listStale
  | .wind => s.windSet
  | .zoneStale => s.anyZoneStale
  | .frameErrors => s.frameErrorsWarned
  | .configAbsent => s.configAbsent
def State.unitWarnings (s : State) : List UnitWarning := allUnitWarnings.filter s.hasUnitWarning

/-- The ATTN output: asserted while at least one latch is set. -/
def State.attn (s : State) : Bool := !s.latches.isEmpty

/-! ### Authority -/

/-- A hatch has a selector state (R141): it is configured, and its line has been held for the stable time since a COMMIT
configured it. A line that changes within that time and is reported stable only after it gives the old level as the derivation
at its end, and the new one as a change: DESIGN CHOICE (log entry 19). -/
def State.hasSelector (s : State) (h : HatchNo) : Bool :=
  s.hatchConfigured h && match s.selectorDue[h] with | some d => decide (d ≤ s.now) | none => true

/-- A hatch whose selector shows LOCAL (R141). -/
def State.isLocal (s : State) (h : HatchNo) : Bool := s.hasSelector h && s.selector[h]

/-- Authority over a hatch (R141). -/
def State.authority (s : State) (n : StationNo) (h : HatchNo) : Bool :=
  s.hasSelector h &&
    match s.stationKind n with
    | some .bridge | some .cargoControl => !s.selector[h]
    | some .pendant => s.selector[h] && s.pendantHatch n == some h
    | _ => false

/-! ### Orders -/

def OrderState.live : OrderState → Bool
  | .pending | .active | .atHold | .paused _ => true
  | _ => false

/-- In the set of ACTIVE and AT_HOLD orders, which makes a pendant attended (R144). -/
def OrderState.working : OrderState → Bool
  | .active | .atHold => true
  | _ => false

/-- The step lists (R67). -/
def stepList : OrderKind → List StepKind
  | .openHatch => [.uncleat 0, .uncleat 1, .uncleat 2, .lift, .travel, .lockStow]
  | .close => [.unlockStow, .travel, .lower, .cleat 0, .cleat 1, .cleat 2]
  | .moveTo | .home => [.unlockStow, .uncleat 0, .uncleat 1, .uncleat 2, .lift, .travel]
  | .secure => [.cleat 0, .cleat 1, .cleat 2]
  | .release => [.uncleat 0, .uncleat 1, .uncleat 2]

/-- The slot whose order holds an id. -/
def State.slotOfId (s : State) (id : Nat) : Option SlotNo :=
  allSlots.find? fun i => match s.slot i with | some o => o.id == id | none => false

/-- The slot and record of the panel's live order, named by its live order field (R8). -/
def State.liveOrder (s : State) (p : PanelNo) : Option (SlotNo × Order) :=
  match (s.panel p).live with
  | none => none
  | some id =>
    match s.slotOfId id with
    | none => none
    | some i => (s.slot i).map fun o => (i, o)

/-- The order a panel's sequencer serves, with its current step: the panel's live order while it is ACTIVE (R68). -/
def State.served (s : State) (p : PanelNo) : Option (SlotNo × Order × StepKind) :=
  match s.liveOrder p with
  | none => none
  | some (i, o) =>
    if o.state = .active then (stepList o.kind)[o.step - 1]?.map fun k => (i, o, k) else none

end Sys2Proof.Machine
end

