-- ==== Sys2Proof/Machine/Arbiter.lean ====
section
/-! DEFINITION. The flow arbiters (R123 to R131, R135): demands, the order of a waiting list, the grant pass, release and
withdrawal, the re-key, and the test for a jog. -/

namespace Sys2Proof.Machine

/-- The demand of a step in flow units (R125). -/
def StepKind.demand : StepKind → Nat
  | .uncleat _ | .cleat _ => 2
  | .lift => 6
  | .lower => 3
  | .travel => 4
  | .lockStow | .unlockStow => 1

/-- The demand of a jog of a coil (R125). -/
def coilDemand : Coil → Nat
  | .cleatRel _ | .cleatEng _ => 2
  | .liftUp => 6
  | .liftDown => 3
  | .travelOut | .travelIn => 4
  | .stowLock | .stowUnlock => 1
  | .fast | .brakeRelease => 0

/-- `w` ranks ahead of `v`: RAIN ahead of NORMAL, then the higher arbitration number (R128). -/
def Waiter.ahead (w v : Waiter) : Bool :=
  match w.cls, v.cls with
  | .rain, .normal => true
  | .normal, .rain => false
  | _, _ => v.arb < w.arb

/-- The place its key gives (R128). -/
def insertWaiter (w : Waiter) : List Waiter → List Waiter
  | [] => [w]
  | v :: vs => if w.ahead v then w :: v :: vs else v :: insertWaiter w vs

def Pack.insert (x : Pack) (w : Waiter) : Pack := { x with waiting := insertWaiter w x.waiting }

/-- The entries a grant pass grants, from the head of the list for as long as the first entry fits (R129). -/
def passGrants (cap : Nat) : Nat → List Waiter → List Waiter
  | _, [] => []
  | sum, w :: ws => if sum + w.demand ≤ cap then w :: passGrants cap (sum + w.demand) ws else []

/-- The entries a grant pass leaves on the list. -/
def passRest (cap : Nat) : Nat → List Waiter → List Waiter
  | _, [] => []
  | sum, w :: ws => if sum + w.demand ≤ cap then passRest cap (sum + w.demand) ws else w :: ws

/-- The pack after a grant pass against an effective capacity. -/
def Pack.afterPass (x : Pack) (cap : Nat) : Pack :=
  { x with
    grants := x.grants ++ (passGrants cap x.granted x.waiting).map fun w => ⟨w.panel, w.demand, false⟩
    waiting := passRest cap x.granted x.waiting }

/-- A grant pass; the grants are delivered in list order (R129). -/
def State.runPass (s : State) (k : PackId) : Res :=
  let x := s.pack k
  ⟨s.setPack (x.afterPass (s.effective k)) k,
    (passGrants (s.effective k) x.granted x.waiting).map fun w => .deliver w.panel⟩

def Pack.dropPanel (x : Pack) (p : PanelNo) : Pack :=
  { x with grants := x.grants.filter (fun g => g.panel != p), waiting := x.waiting.filter (fun w => w.panel != p) }

/-- Release the panel's grant or withdraw its waiting request; the pack's arbiter runs a grant pass (R130). -/
def State.dropFlow (s : State) (p : PanelNo) : Res :=
  match s.flow p with
  | .none => .ok s
  | .waiting k _ => ⟨s.modPack k fun x => x.dropPanel p, [.pass k]⟩
  | .granted k _ => ⟨s.modPack k fun x => x.dropPanel p, [.pass k]⟩

/-- A re-key of the panel's waiting request (R128). -/
def State.rekey (s : State) (p : PanelNo) (cls : OrderClass) : Res :=
  match s.flow p with
  | .waiting k _ =>
    match (s.pack k).waiterOf p with
    | some w => ⟨s.modPack k fun x => (x.dropPanel p).insert { w with cls := cls }, [.pass k]⟩
    | none => .ok s
  | _ => .ok s

/-- The pack that grants a jog at once, if one does (R135). -/
def State.jogPack (s : State) (p : PanelNo) (d : Nat) : Option PackId :=
  match s.servingPack p with
  | none => none
  | some k =>
    if s.arbitration p ≠ 0 ∧ s.flow p = .none ∧ d ≤ s.capacity k ∧ (s.pack k).waiting = [] ∧
        (s.pack k).granted + d ≤ s.effective k then some k else none

/-- The pack a panel travels on: the one its grant is held on (R106). -/
def State.travelPack (s : State) (p : PanelNo) : PackId := (s.grantPack p).getD (s.listPack p)

end Sys2Proof.Machine
end

