-- ==== Sys2Proof/Machine/Planner.lean ====
section
/-! DEFINITION. The travel planner (R94 to R105): direction, compensation, the plan, the region entered, the zone
conflict, and the interlock conditions of a step (R73, R74). -/

namespace Sys2Proof.Machine

/-- The direction of a travel (R94): that of t − c for a CERTAIN panel, none when it stands at t; inward for an UNCERTAIN
one. -/
def State.direction (s : State) (p : PanelNo) (t : Int) : Option Dir :=
  let x := s.panel p
  if x.certain = false then some .inward
  else if x.count < t then some .outward
  else if t < x.count then some .inward
  else none

/-- The move runs towards the low side of the ship (R95). -/
def State.downhill (s : State) (p : PanelNo) (d : Dir) : Bool :=
  match d with
  | .outward => if isPort p then decide (s.list < 0) else decide (0 < s.list)
  | .inward => if isPort p then decide (0 < s.list) else decide (s.list < 0)

/-- θ (R95, R91). -/
def State.theta (s : State) (p : PanelNo) (d : Dir) : Nat :=
  if !s.noListSource && s.downhill p d then s.list.natAbs else 0

/-- d_eff (R96). -/
def effSlowDown (dsd th : Nat) : Nat := min (dsd + (dsd * th + 39) / 40) 4095
/-- a_eff (R96). -/
def effAllowance (ast dsd th : Nat) : Nat := min (min (ast + (ast * th + 19) / 20) (effSlowDown dsd th)) 1023

/-- a_eff of a move of the panel with the present list. -/
def State.allowance (s : State) (p : PanelNo) (d : Dir) : Nat :=
  effAllowance s.params.tuning.stopAllowance s.params.tuning.slowDown (s.theta p d)

/-- The end switch of a target is the one its direction approaches from its own side (R94). -/
def State.stopKind (s : State) (p : PanelNo) (t : Int) (d : Dir) : StopKind :=
  match d with
  | .inward => if t = 0 then .switch else .count
  | .outward => if t = s.openCount p then .switch else .count

/-- The whole move is slow: the panel is within d_eff of its target (R97), or the slow-down distance is 0 (R96; log
entry 18). -/
def slowThroughout (dist dEff : Nat) : Bool := decide (dist ≤ dEff) || dEff == 0

/-- The plan from the present count (R94 to R100, R102). -/
def State.planFor (s : State) (p : PanelNo) (t : Int) : Plan :=
  let x := s.panel p
  let tun := s.params.tuning
  if x.certain = false then
    let th := s.theta p .inward
    { t := 0, dir := .inward, stop := .switch, theta := th, dEff := effSlowDown tun.slowDown th
      aEff := s.allowance p .inward, slow := none, stopAt := none, overAt := none, fast := false }
  else
    let d : Dir := if x.count < t then .outward else .inward
    let th := s.theta p d
    let dEff := effSlowDown tun.slowDown th
    let aEff := s.allowance p d
    let dist := (t - x.count).natAbs
    let k := s.stopKind p t d
    { t := t, dir := d, stop := k, theta := th, dEff := dEff, aEff := aEff
      slow := if slowThroughout dist dEff then none else some (t - d.sign * dEff)
      stopAt := match k with
        | .switch => none
        | .count => if dist ≤ aEff then some (x.count + d.sign) else some (t - d.sign * aEff)
      overAt := match k with
        | .switch => some (t + d.sign * (aEff + tun.overtravelMargin))
        | .count => none
      fast := !slowThroughout dist dEff && s.fastPermitted p }

/-- The count has reached a point, or passed it, in a direction. -/
def reached (d : Dir) (c point : Int) : Bool :=
  match d with
  | .outward => decide (point ≤ c)
  | .inward => decide (c ≤ point)

/-- Two half-open intervals overlap. -/
def overlap (a b : Int × Int) : Bool := decide (a.1 < b.2) && decide (b.1 < a.2)

/-- The region entered by a travel to `t` in direction `d` from the present count (R104). -/
def State.region (s : State) (p : PanelNo) (t : Int) (d : Dir) (aEff : Nat) : Int × Int :=
  let x := s.panel p
  match d with
  | .inward => if x.certain = false then (0, 8192) else (t - aEff, x.count)
  | .outward => (x.count + s.length p, t + s.length p + aEff)

def Side.covers : Side → PanelNo → Bool
  | .port, p => isPort p
  | .starboard, p => !isPort p
  | .both, _ => true

/-- A LIVE or STALE zone on the panel's side of its hatch overlaps the region (R104, R117). -/
def State.zoneConflict (s : State) (p : PanelNo) (r : Int × Int) : Bool :=
  (allClaims.any fun z =>
    match s.claim z with
    | none => false
    | some c => c.hatch == hatchOf p && c.side.covers p && overlap r (c.lo, c.hi)) ||
  (s.lineLive[hatchOf p] && overlap r (0, s.length p))

def Reasons.any (r : Reasons) : Bool := r.lap || r.zone || r.list || r.wind

/-- The LAP condition of a step (R74). -/
def State.lapHolds (s : State) (p : PanelNo) (k : StepKind) : Bool :=
  let y := s.panel (partner p)
  match k with
  | .lift => !s.isLap p && (y.seat != .lifted || y.coils.liftDown)
  | .lower => s.isLap p && (y.seat != .seated || y.coils.liftUp)
  | _ => false

/-- The region of a waiting travel, taken with the present list, overlaps a zone. -/
def State.waitingConflict (s : State) (p : PanelNo) (t : Int) : Bool :=
  match s.direction p t with
  | none => false
  | some d => s.zoneConflict p (s.region p t d (s.allowance p d))

/-- The interlock conditions that hold for a step that waits, or is evaluated (R73). -/
def State.reasons (s : State) (p : PanelNo) (o : Order) (k : StepKind) : Reasons :=
  let t := o.target.getD 0
  match k with
  | .lift => { lap := s.lapHolds p .lift, wind := s.windSet }
  | .lower => { lap := s.lapHolds p .lower }
  | .travel =>
    { zone := s.waitingConflict p t, list := s.listCondition
      wind := s.windSet && s.direction p t == some .outward }
  | _ => {}

/-- The conditions that stop a RUNNING travel (R82, R90, R92, R105). -/
def State.runningReasons (s : State) (p : PanelNo) (pl : Plan) : Reasons :=
  { zone := s.zoneConflict p (s.region p pl.t pl.dir pl.aEff), list := s.listCondition
    wind := s.windSet && pl.dir == .outward }

/-- The end target of a jog in a direction (R105). -/
def State.endTarget (s : State) (p : PanelNo) : Dir → Int
  | .inward => 0
  | .outward => s.openCount p

/-- The zone conflict of a travel jog (R105). -/
def State.jogConflict (s : State) (p : PanelNo) (d : Dir) : Bool :=
  s.zoneConflict p (s.region p (s.endTarget p d) d (s.allowance p d))

/-- The completion condition of a step (R69). -/
def State.completion (s : State) (p : PanelNo) (o : Order) (k : StepKind) : Bool :=
  let x := s.panel p
  match k with
  | .uncleat g => (s.groupCleats p g).all fun c => x.cleats[c].state.doneUncleat
  | .cleat g => (s.groupCleats p g).all fun c => x.cleats[c].state.doneCleat
  | .lift => x.seat == .lifted
  | .lower => x.seat == .seated
  | .lockStow => x.sw.stowLocked
  | .unlockStow => !x.sw.stowLocked
  | .travel => x.certain && decide (|x.count - o.target.getD 0| ≤ s.tol)

/-- The hard preconditions of a step (R72). -/
def State.hard (s : State) (p : PanelNo) (o : Order) (k : StepKind) : Bool :=
  let x := s.panel p
  match k with
  | .lift => s.everyCleat p CleatState.doneUncleat
  | .travel =>
    s.everyCleat p CleatState.doneUncleat && x.seat == .lifted && !x.sw.stowLocked &&
      (o.target == some 0 || x.certain)
  | .cleat _ => x.seat == .seated
  | _ => true

end Sys2Proof.Machine
end

