-- ==== Sys2Proof/Machine/Cleats.lean ====
section
/-! DEFINITION. The cleat controller (R22 to R37): the start of a group move, confirmation, early cut-off, dwell, window,
the cut short, and a switch change outside a move. -/

namespace Sys2Proof.Machine

/-- The commanded level of a move: made for ENGAGE, open for RELEASE. -/
def CleatDir.level : CleatDir → Bool
  | .engage => true
  | .release => false
/-- The state a participant confirms (R25). -/
def CleatDir.confirmed : CleatDir → CleatState
  | .engage => .engaged
  | .release => .released
def CleatDir.coil (d : CleatDir) (g : GroupNo) : Coil :=
  match d with
  | .engage => .cleatEng g
  | .release => .cleatRel g

/-- The state taken from a switch (R32, R36). -/
def cleatStateOf (made : Bool) : CleatState := if made then .engaged else .released

def Panel.setCleat (x : Panel) (k : CleatNo) (c : Cleat) : Panel := { x with cleats := x.cleats.set k c }
def Panel.modCleat (x : Panel) (k : CleatNo) (f : Cleat → Cleat) : Panel := x.setCleat k (f x.cleats[k])
def State.modCleat (s : State) (p : PanelNo) (k : CleatNo) (f : Cleat → Cleat) : State :=
  s.modPanel p fun x => x.modCleat k f

/-- CLEAT_MOVE returns to IDLE when the valve goes off (R6, R27). -/
def Activity.afterValve : Activity → Activity
  | .cleatMove _ _ => .idle
  | a => a

/-- The record of a confirmation after `ms` milliseconds (R25): times in units of 10 ms, rounded down, saturating. -/
def Cleat.confirm (c : Cleat) (d : CleatDir) (ms : Nat) : Cleat :=
  let u := min (ms / 10) 65535
  { c with state := d.confirmed, last := u, greatest := max c.greatest u }

/-- The valve of the panel's move goes off; the move stays in progress (R27). -/
def State.valveOff (s : State) (p : PanelNo) : State :=
  match (s.panel p).move with
  | none => s
  | some m =>
    s.modPanel p fun x =>
      { x with coils := x.coils.put false (m.dir.coil m.group), activity := x.activity.afterValve
               move := some { m with valve := false, dwell := none } }

/-- The panel's move ends: the valve off, both timers stopped. -/
def State.clearMove (s : State) (p : PanelNo) : State := (s.valveOff p).modPanel p fun x => { x with move := none }

/-- A set of cleats of a panel takes a state. -/
def Panel.setStates (x : Panel) (ks : List CleatNo) (st : CleatState) : Panel :=
  ks.foldl (fun x k => x.modCleat k fun c => { c with state := st }) x

def Move.unconfirmed (m : Move) : List CleatNo := m.participants.filter fun k => !m.confirmed.contains k

/-- A move in progress is cut short: the unconfirmed participants become UNKNOWN (R30). -/
def State.cutMove (s : State) (p : PanelNo) : State :=
  match (s.panel p).move with
  | none => s
  | some m => (s.clearMove p).modPanel p fun x => x.setStates m.unconfirmed .unknown

/-- The cleats of a group that take part in a move: those not BYPASSED (R24). -/
def State.participants (s : State) (p : PanelNo) (g : GroupNo) : List CleatNo :=
  (s.groupCleats p g).filter fun k => (s.panel p).cleats[k].state != .bypassed

/-- The participants that stand at the commanded level (R24). -/
def State.atLevel (s : State) (p : PanelNo) (g : GroupNo) (d : CleatDir) : List CleatNo :=
  (s.participants p g).filter fun k => (s.panel p).cleats[k].made == d.level

/-- The start of a move, once the two checks of R24 have been passed: participants at the commanded level confirm with a
time of 0; the valve is energised only if one does not. -/
def State.startMove (s : State) (p : PanelNo) (g : GroupNo) (d : CleatDir) (dwell window : Nat) (byJog : Bool) : State :=
  let ps := s.participants p g
  let cs := s.atLevel p g d
  let s1 := s.modPanel p fun x => cs.foldl (fun x k => x.modCleat k fun c => c.confirm d 0) x
  if cs.length = ps.length then s1
  else
    let m : Move :=
      { group := g, dir := d, participants := ps, confirmed := cs, valve := true, start := s.now
        dwell := some (s.now + dwell), window := s.now + window, byJog := byJog }
    (s1.modPanel p fun x => { x with move := some m, activity := if byJog then .jog else .cleatMove g d }).energise p
      (d.coil g)

/-- The warning CLEAT_SLUGGISH for a confirmation above the sluggish threshold (R25). -/
def State.sluggishIf (s : State) (p : PanelNo) (ms : Nat) : State :=
  if ms > s.params.tuning.sluggish then s.warn p .cleatSluggish else s

/-- Every participant is confirmed. -/
def Move.allConfirmed (m : Move) : Bool := m.unconfirmed.isEmpty

/-- A switch change outside a move (R33). -/
def State.cleatOutside (s : State) (p : PanelNo) (k : CleatNo) (made : Bool) : State :=
  match (s.panel p).cleats[k].state, made with
  | .engaged, false => (s.modCleat p k fun c => { c with state := .unknown }).warn p .cleatLost
  | .released, true => (s.modCleat p k fun c => { c with state := .unknown }).warn p .cleatLost
  | _, _ => s

end Sys2Proof.Machine
end

