-- ==== Sys2Proof/Machine/Stopping.lean ====
section
/-! DEFINITION. How a panel comes to a stop: the end of a running travel and its braking window (R11), every coil of a
panel off (R156, R166), the end of a service jog (R197) and the interruption of a step (R86). -/

namespace Sys2Proof.Machine

/-- The travel coils go off for a reason other than a chop (R11): the braking window starts, the mode becomes COASTING
and the stall timer stops. Nothing happens to a panel whose travel is not running. -/
def State.stopTravel (s : State) (p : PanelNo) : State :=
  if (s.panel p).mode = .driven then
    s.modPanel p fun x =>
      { x with coils := x.coils.travelOff, mode := .coasting, activity := .braking
               brakeTimer := some (s.now + s.params.tuning.brakingWindow), stall := .stopped, holdoff := none }
  else s

/-- The activity of a panel whose coils have gone off: BRAKING stays, every other becomes IDLE (R6). -/
def Activity.coilsOff : Activity → Activity
  | .braking => .braking
  | _ => .idle

/-- Every coil of the panel goes off: a running travel starts its braking window, a cleat move is cut short, the jacks are
held, the step timer stops (R156, R166). -/
def State.panelOff (s : State) (p : PanelNo) : State :=
  ((s.cutMove p).stopTravel p).modPanel p fun x =>
    { x with coils := {}, activity := x.activity.coilsOff, stepTimer := none }

/-- JOG returns to IDLE (R6). -/
def Activity.afterJog : Activity → Activity
  | .jog => .idle
  | a => a

/-- The coils of a jog go off (R197): a travel jog starts its braking window; a cleat jog leaves the window of its move
running. -/
def State.jogCoilsOff (s : State) (j : Jog) : State :=
  match j.coil with
  | .travelOut | .travelIn => s.stopTravel j.panel
  | .cleatRel _ | .cleatEng _ => s.valveOff j.panel
  | c => s.deEnergise j.panel c

/-- The end of a service jog (R197). -/
def State.endJog (s : State) : Res :=
  match s.jog with
  | none => .ok s
  | some j =>
    let s := ({ s with jog := none }).jogCoilsOff j
    let s := s.modPanel j.panel fun x => { x with activity := x.activity.afterJog }
    (s.dropFlow j.panel).add [.retest (partner j.panel)]

/-- End the jog if it is on the panel. -/
def State.endJogOn (s : State) (p : PanelNo) : Res :=
  match s.jog with
  | none => .ok s
  | some j => if j.panel = p then s.endJog else .ok s

/-- The coils of a running lift, lower or stow step go off, and its timer stops. -/
def State.stepCoilsOff (s : State) (p : PanelNo) : State :=
  s.modPanel p fun x =>
    { x with coils := { x.coils with liftUp := false, liftDown := false, stowLock := false, stowUnlock := false }
             activity := x.activity.coilsOff, stepTimer := none }

/-- A RUNNING step stops where it is: the table of R86. Only a move the sequencer itself asked for is withdrawn. -/
def State.stopStep (s : State) (p : PanelNo) (k : StepKind) : State :=
  match k with
  | .uncleat _ | .cleat _ =>
    match (s.panel p).move with
    | some m => if m.byJog then s else s.cutMove p
    | none => s
  | .travel => s.stopTravel p
  | _ => s.stepCoilsOff p

/-- Raising or lowering is reported to the sequencer of the other panel of the hatch (R74). -/
def lapReport (p : PanelNo) : StepKind → List Job
  | .lift | .lower => [.retest (partner p)]
  | _ => []

/-- The phase, the reasons and the braking purpose of the panel's step. -/
def State.setPhase (s : State) (p : PanelNo) (i : SlotNo) (ph : Option Phase) (r : Reasons) (u : Option Purpose) : State :=
  (s.modOrder i fun o => { o with phase := ph, reasons := r }).modPanel p fun x => { x with purpose := u }

/-- The step in flight of the panel's ACTIVE order is interrupted (R86). -/
def State.interrupt (s : State) (p : PanelNo) : Res :=
  match s.served p with
  | none => .ok s
  | some (i, o, k) =>
    let s := if o.phase = some .running then s.stopStep p k else s
    let s := (s.setPhase p i none {} none).modPanel p fun x => { x with plan := none }
    (s.dropFlow p).add (lapReport p k)

end Sys2Proof.Machine
end

