-- ==== Sys2Proof/Machine/Orders.lean ====
section
/-! DEFINITION. The order table's operations (R38 to R64): attendance counting (R144, R145), finishing, the cascade,
pause, cancel, fail, completion, admission, ids, slots and creation. -/

namespace Sys2Proof.Machine

/-! ### Attendance -/

/-- A PENDANT is attended while it is the issuer of an order that is ACTIVE or AT_HOLD (R144). -/
def State.attended (s : State) (n : StationNo) : Bool :=
  s.stationKind n == some .pendant &&
    allSlots.any fun i => match s.slot i with | some o => o.issuer == n && o.state.working | none => false

/-- The watch starts when the pendant becomes attended and stops when it ceases to be (R145). -/
def State.recount (s : State) (n : StationNo) : State :=
  let up := s.params.tuning.attendanceUpper
  let now := s.now
  if s.attended n then
    if (s.station n).watching then s
    else s.modStation n fun x => { x with watching := true, reference := now, deadline := some (now + up) }
  else if (s.station n).watching then s.modStation n fun x => { x with watching := false, deadline := none }
  else s

/-- Change the order in a slot, and count again for its issuer before and after the change (R144). -/
def State.updateOrder (s : State) (i : SlotNo) (f : Order → Order) : State :=
  match s.slot i with
  | none => s
  | some o => ((s.setSlot i (some (f o))).recount o.issuer).recount (f o).issuer

/-! ### Finishing -/

/-- The latch of a finished state (R42). -/
def OrderState.latch : OrderState → EventLatch
  | .cancelled _ => .orderCancelled
  | .failed _ => .orderFailed
  | _ => .orderDone

/-- The id names a live order of the table. -/
def State.liveId (s : State) (id : Nat) : Bool :=
  allSlots.any fun i => match s.slot i with | some o => o.id == id && o.state.live | none => false

/-- The record of an order that finishes (R38, R41, R64). A link to a live predecessor is dropped, since only PENDING
orders and orders PAUSED from PENDING hold one (before R62; log entry 6). -/
def Order.finish (o : Order) (st : OrderState) (finished deadline : Nat) (keepLink : Bool) : Order :=
  { o with state := st, phase := none, reasons := {}, pausedFrom := none, finishedAt := some finished
           retention := some deadline, pred := if keepLink then o.pred else none }

/-- The finishing of an order whose step is no longer in flight (R41, R42). -/
def State.finishOrder (s : State) (i : SlotNo) (st : OrderState) (finished : Nat) : State :=
  match s.slot i with
  | none => s
  | some o =>
    let keep := match o.pred with | some id => !s.liveId id | none => true
    let ret := s.now + 1000 * s.params.tuning.retentionTime
    let s := s.modPanel o.panel fun x => { x with live := none, purpose := none, plan := none }
    (s.updateOrder i fun o => o.finish st finished ret keep).setLatch st.latch

/-- The order waits on the order `id`: PENDING, or PAUSED from PENDING, with that link (before R62). -/
def Order.waitsOn (o : Order) (id : Nat) : Bool :=
  o.pred == some id && (o.state == .pending || (o.state.live && o.pausedFrom == some .pending))

/-- The dependents of the orders `ids`. -/
def State.dependents (s : State) (ids : List Nat) : List SlotNo :=
  allSlots.filter fun i => match s.slot i with | some o => ids.any fun id => o.waitsOn id | none => false

def State.idsOf (s : State) (is : List SlotNo) : List Nat :=
  is.filterMap fun i => (s.slot i).map fun o => o.id

/-- The cascade through the whole chain (R63); a chain is no longer than the table. -/
def State.cascade (finished : Nat) : Nat → List Nat → State → State
  | 0, _, s => s
  | n + 1, ids, s =>
    let ds := s.dependents ids
    if ds.isEmpty then s
    else cascade finished n (s.idsOf ds) (ds.foldl (fun s i => s.finishOrder i (.cancelled .predecessor) finished) s)

/-- End a live order as CANCELLED or FAILED: the step in flight is interrupted, the order finishes, and its dependents
are cancelled (R56, R60, R63). -/
def State.endOrder (s : State) (i : SlotNo) (st : OrderState) : Res :=
  match s.slot i with
  | none => .ok s
  | some o =>
    if o.state.live then
      let r := if o.state = .active then s.interrupt o.panel else .ok s
      r.map fun s => State.cascade s.now 24 [o.id] (s.finishOrder i st s.now)
    else .ok s

/-- The fail operation on the panel's live order (R60). -/
def State.failLive (s : State) (p : PanelNo) (r : FailReason) : Res :=
  match s.liveOrder p with
  | none => .ok s
  | some (i, _) => s.endOrder i (.failed r)

/-- The order enters DONE; its dependents are to be released in ascending panel number (R61, R62). -/
def State.completeOrder (s : State) (i : SlotNo) : Res :=
  match s.slot i with
  | none => .ok s
  | some o =>
    let s := s.finishOrder i .done s.now
    let ds := s.dependents [o.id]
    let ordered := allPanels.filterMap fun p =>
      ds.find? fun j => match s.slot j with | some q => q.panel == p | none => false
    ⟨s, ordered.map fun j => .releaseDependent j o.id⟩

/-! ### Pausing -/

def OrderState.pausedFrom : OrderState → Option PausedFrom
  | .pending => some .pending
  | .active => some .active
  | .atHold => some .atHold
  | _ => none

/-- The pause operation (R59). -/
def State.pauseOrder (s : State) (i : SlotNo) (r : PauseReason) : Res :=
  match s.slot i with
  | none => .ok s
  | some o =>
    match o.state.pausedFrom with
    | none => .ok s
    | some f =>
      let q := if o.state = .active then s.interrupt o.panel else .ok s
      q.map fun s => s.updateOrder i fun o => { o with state := .paused r, pausedFrom := some f, phase := none, reasons := {} }

/-- Pause the panel's live order if `f` holds of it. -/
def State.pauseIf (s : State) (f : Order → Bool) (r : PauseReason) (p : PanelNo) : Res :=
  match s.liveOrder p with
  | none => .ok s
  | some (i, o) => if f o then s.pauseOrder i r else .ok s

/-- Pause every ACTIVE and AT_HOLD order among the panels' orders, in the order of the list. -/
def State.pauseWorking (s : State) (ps : List PanelNo) (r : PauseReason) : Res :=
  Res.each ps (fun p s => s.pauseIf (fun o => o.state.working) r p) (.ok s)

/-! ### Admission -/

/-- The state an order enters when it is admitted (R45). -/
def State.admissionState (s : State) : OrderState :=
  if s.unit = .service then .paused .service
  else if s.loopOpen then .paused .estop
  else if s.supplyLow then .paused .supply
  else .active

/-- Admission (R45): step index 1; an order that enters ACTIVE is evaluated. -/
def State.admitted (s : State) (i : SlotNo) : Res :=
  match s.slot i with
  | none => .ok s
  | some o =>
    let st := s.admissionState
    ⟨s.updateOrder i fun o => { o with state := st, step := 1, pausedFrom := if st = .active then none else some .active },
      if st = .active then [.evaluate o.panel true] else []⟩

/-- A dependent is released, or its link is cleared (R62, R52). -/
def State.unlink (s : State) (i : SlotNo) : Res :=
  match s.slot i with
  | none => .ok s
  | some o =>
    let s := s.modOrder i fun o => { o with pred := none }
    if o.state = .pending then s.admitted i
    else if o.state.live ∧ o.pausedFrom = some .pending then
      .ok (s.modOrder i fun o => { o with pausedFrom := some .active, step := 1 })
    else .ok s

/-! ### Creation -/

/-- The rolling counter advances from 255 to 1 (R40). -/
def nextId (c : Nat) : Nat := if c ≥ 255 then 1 else c + 1

/-- The first value from `c` on that no order of the table has, among `n` values (R40). -/
def State.freshId (s : State) : Nat → Nat → Nat
  | 0, c => c
  | n + 1, c => if (s.slotOfId c).isSome then s.freshId n (nextId c) else c

/-- `i` rather than `j` is to be retired: the earlier finished time (R39). -/
def State.finishedBefore (s : State) (i j : SlotNo) : Bool :=
  match (s.slot i).bind (·.finishedAt), (s.slot j).bind (·.finishedAt) with
  | some a, some b => a < b
  | some _, none => true
  | _, _ => false

/-- The slot a new order takes (R39): the lowest FREE one, else that of the earliest-finished order, the lowest slot among
equals. -/
def State.slotForNew (s : State) : SlotNo :=
  match allSlots.find? fun i => (s.slot i).isNone with
  | some i => i
  | none => allSlots.foldl (fun i j => if s.finishedBefore j i then j else i) 0

/-- Create an order (R38 to R41). `link` is the live predecessor, if one was named. The order's slot is the one
`slotForNew` gives. The slot is freed first and the id sought then, so an order retired for its slot no longer bars its id:
DESIGN CHOICE (log entry 20). -/
def State.createOrder (s : State) (n : StationNo) (p : PanelNo) (kind : OrderKind) (target : Option Int) (cls : OrderClass)
    (hold : Option StepKind) (link : Option Nat) : State :=
  let i := s.slotForNew
  let s := s.setSlot i none
  let id := s.freshId 24 s.idCounter
  let o : Order :=
    { id := id, issuer := n, panel := p, kind := kind, target := target, cls := cls, hold := hold, pred := link
      state := .pending, step := 1, phase := none, reasons := {}, pausedFrom := none, finishedAt := none
      retention := none, created := s.created }
  (({ s with idCounter := nextId id, created := s.created + 1 }).setSlot i (some o)).modPanel p fun x =>
    { x with live := some id }

/-- The first state of an order just created (R45). -/
def State.enter (s : State) (i : SlotNo) (link : Option Nat) : Res :=
  match link with
  | some _ => .ok s
  | none => s.admitted i

end Sys2Proof.Machine
end

