-- ==== Sys2Proof/Machine/Raise.lean ====
section
/-! DEFINITION. Raising a panel fault (R7, R166) and the conditions of the fault kinds (table of R166). -/

namespace Sys2Proof.Machine

/-- A panel fault is raised (R166). A kind already present, or an unconfigured panel (R1), changes nothing. -/
def State.raise (s : State) (p : PanelNo) (k : PanelFault) : Res :=
  if !s.configured p || (s.panel p).faults.contains k then .ok s
  else
    let s := s.modPanel p fun x => { x with faults := joinSet allPanelFaults k x.faults }
    let s := s.panelOff p
    let r := ((s.failLive p (.fault k)).bind fun s => s.endJogOn p).map fun s => s.setLatch .panelFault
    r.add [.retest (partner p)]

/-- Raise a fault on each of the panels in turn. Every raise is made before any grant pass that a grant released by one of
them asks for: DESIGN CHOICE (log entry 5). -/
def State.raiseAll (s : State) (ps : List PanelNo) (k : PanelFault) : Res := Res.each ps (fun p s => s.raise p k) (.ok s)

/-- The relevant cards of CARD_OVERTEMP are not OVERTEMP (R163). -/
def State.cardsCool (s : State) (p : PanelNo) : Bool :=
  if s.params.tuning.otsdMode = 0 then s.cards[cardOf p] != .overtemp else allCards.all fun c => s.cards[c] != .overtemp

/-- The condition of a fault kind is gone (the table of R166). -/
def State.faultGone (s : State) (p : PanelNo) (k : PanelFault) : Bool :=
  let x := s.panel p
  match k with
  | .solenoidShort => match x.shortCoil with | some c => !x.coils.get c | none => true
  | .solenoidOpen =>
    match x.openCoil with
    | some c => if s.params.tuning.offStateTest = 1 then !x.openFound.contains c else !x.coils.get c
    | none => true
  | .cleatJam => x.move.isNone
  | .liftTimeout => !x.coils.liftUp
  | .lowerTimeout => !x.coils.liftDown
  | .stowTimeout => !x.coils.stowLock && !x.coils.stowUnlock
  | .travelStall | .overtravel => x.brakeTimer.isNone
  | .travelOverload => x.brakeTimer.isNone && !(s.pack (x.overloadPack.getD .a)).trip
  | .runaway => x.creepQuiet.isNone
  | .positionRange => x.activity == .idle
  | .sensorConflict => !x.sw.conflict
  | .cardOvertemp => s.cardsCool p
  | .attendance => true

end Sys2Proof.Machine
end

