-- ==== Sys2Proof/Machine/Counter.lean ====
section
/-! DEFINITION. The position counter (R10 to R19): references, the start of a travel, chops (R107, R108), edges. -/

namespace Sys2Proof.Machine

def clampSlip (i : Int) : Int := max (-255) (min i 255)

/-- A reference to `t` with the present count captured (R16, R17, R71). -/
def State.reference (s : State) (p : PanelNo) (t : Int) : State :=
  let c := (s.panel p).count
  if |c - t| ≤ s.params.tuning.referenceTolerance then s.modPanel p fun x => { x with count := t, certain := true }
  else
    (s.modPanel p fun x => { x with count := t, certain := true, slip := some (clampSlip (c - t)) }).warn p .referenceSlip

/-- The travel coils are first energised for a step or a jog (R11, R18, R19, R98). -/
def State.driveTravel (s : State) (p : PanelNo) (d : Dir) (fast jog : Bool) : State :=
  let s := s.modPanel p fun x =>
    { x with mode := .driven, lastDir := some d, brakeTimer := none, stall := .running (s.now + s.params.tuning.stallPeriod)
             creep := 0, chop := 0, chopMark := false, holdoff := none
             activity := if jog then .jog else .travel d (if fast then .fast else .slow) }
  let s := (s.energise p .brakeRelease).energise p d.coil
  if fast then s.energise p .fast else s

/-- The activity of a chopped panel: TRAVEL with its speed part SLOW (R6). -/
def Activity.slowed : Activity → Activity
  | .travel d _ => .travel d .slow
  | a => a

/-- FAST goes off at once and the plan's fast becomes OFF (R97, R98). -/
def State.fastOff (s : State) (p : PanelNo) : State :=
  s.modPanel p fun x =>
    { x with coils := { x.coils with fast := false }, activity := x.activity.slowed
             plan := x.plan.map fun pl => { pl with fast := false } }

/-- The time left to a running stall timer is kept while it is suspended (R18). -/
def StallTimer.suspend (t : StallTimer) (now : Nat) : StallTimer :=
  match t with
  | .running d => .suspended (d - now)
  | t => t

/-- A travel is chopped (R107, R108). -/
def State.chopPanel (s : State) (p : PanelNo) : Res :=
  let k := s.travelPack p
  let s := (s.fastOff p).modPanel p fun x =>
    { x with coils := { x.coils with travelOut := false, travelIn := false }, stall := x.stall.suspend s.now
             chopMark := true, holdoff := some (s.now + s.params.tuning.chopHoldoff), chop := min 255 (x.chop + 1) }
  let s := s.warn p .travelTrip
  if (s.panel p).chop ≥ s.params.tuning.chopLimit then
    (s.modPanel p fun x => { x with overloadPack := some k }).raise p .travelOverload
  else .ok s

/-- The travel coils of the panel are energised: it is travelling and not in a hold-off. -/
def Panel.travelling (x : Panel) : Bool := x.mode == .driven && x.holdoff.isNone

/-- A panel whose travel coils are energised while the trip of its pack stands RAISED is chopped at that moment (R107). -/
def State.chopIfTripped (s : State) (p : PanelNo) : Res :=
  if (s.panel p).travelling && (s.pack (s.travelPack p)).trip then s.chopPanel p else .ok s

/-- The count one edge further in a direction, or the limit it would pass (R15). -/
def edgeCount (c : Int) (d : Dir) : Int := max (-255) (min (c + d.sign) 4095)
/-- The edge would take the count beyond its range (R15). -/
def edgeLimited (c : Int) (d : Dir) : Bool := decide (c + d.sign < -255) || decide (4095 < c + d.sign)

/-- A driven or coasting edge (R12, R13, R15). -/
def State.moveEdge (s : State) (p : PanelNo) (d : Dir) : Res :=
  let c := (s.panel p).count
  if edgeLimited c d then (s.modPanel p fun x => { x with certain := false }).raise p .positionRange
  else .ok (s.modPanel p fun x => { x with count := edgeCount c d })

/-- A driven edge restarts the stall timer; one that is suspended stays suspended (R12, R18). -/
def StallTimer.restart (t : StallTimer) (now period : Nat) : StallTimer :=
  match t with
  | .running _ => .running (now + period)
  | t => t

/-- A creep edge (R14). -/
def State.creepEdge (s : State) (p : PanelNo) : Res :=
  let s := s.modPanel p fun x =>
    { x with certain := false, creep := min 255 (x.creep + 1), creepQuiet := some (s.now + s.params.tuning.brakingWindow) }
  let s := s.warn p .creep
  if (s.panel p).creep ≥ s.params.tuning.creepLimit then s.raise p .runaway else .ok s

end Sys2Proof.Machine
end

