-- ==== Sys2Proof/Machine/Sequencer.lean ====
section
/-! DEFINITION. The panel sequencer (R67 to R87): evaluation in its stages, the flow request, the test at the grant, the
running of each step, completion, the watches on a step, and what the planner does to a running travel. -/

namespace Sys2Proof.Machine

/-! ### Running -/

/-- A cleat step asks for a move of its group (R80). While a move that a jog left behind is still in progress on the
panel, the step waits for its end (log entry 9). -/
def State.runMove (s : State) (p : PanelNo) (g : GroupNo) (d : CleatDir) : Res :=
  if (s.panel p).move.isSome then .ok s
  else
    let t := s.params.tuning
    let s := s.startMove p g d t.cleatDwell t.confirmationWindow false
    ⟨s, if (s.panel p).move.isNone then [.moveEnd p] else []⟩

/-- A lift, lower or stow step: its coil, its activity and its timer (R78, R84). -/
def State.runTimed (s : State) (p : PanelNo) (c : Coil) (a : Activity) (timeout : Nat) : State :=
  (s.energise p c).modPanel p fun x => { x with activity := a, stepTimer := some (s.now + timeout) }

/-- A travel step: an UNCERTAIN panel's count is set to 4095, the plan is made, and the coils are energised (R78, R102). -/
def State.runTravel (s : State) (p : PanelNo) (o : Order) : Res :=
  let s := s.modPanel p fun x => { x with chopMark := false, count := if x.certain then x.count else 4095 }
  let pl := s.planFor p (o.target.getD 0)
  let s := (s.modPanel p fun x => { x with plan := some pl }).driveTravel p pl.dir pl.fast false
  s.chopIfTripped p

/-- The step enters RUNNING (R78). -/
def State.run (s : State) (p : PanelNo) (i : SlotNo) (o : Order) (k : StepKind) : Res :=
  let s := s.setPhase p i (some .running) {} none
  let t := s.params.tuning
  match k with
  | .uncleat g => s.runMove p g .release
  | .cleat g => s.runMove p g .engage
  | .lift => ⟨s.runTimed p .liftUp .lift t.liftTimeout, lapReport p k⟩
  | .lower => ⟨s.runTimed p .liftDown .lower t.lowerTimeout, lapReport p k⟩
  | .lockStow => .ok (s.runTimed p .stowLock (.stowMove .lock) t.stowTimeout)
  | .unlockStow => .ok (s.runTimed p .stowUnlock (.stowMove .unlock) t.stowTimeout)
  | .travel => s.runTravel p o

/-! ### Evaluation -/

/-- The end switch of a target is made. -/
def State.endSwitch (s : State) (p : PanelNo) (t : Int) : Bool :=
  (t == 0 && (s.panel p).sw.home) || (t == s.openCount p && (s.panel p).sw.openEnd)

/-- The standing reference of R71. -/
def State.standingReference (s : State) (p : PanelNo) (o : Order) (k : StepKind) : State :=
  match k, o.target with
  | .travel, some t => if s.endSwitch p t then s.reference p t else s
  | _, _ => s

/-- The step is skipped (R69): no flow is held, SKIPPED is reported. -/
def State.skip (s : State) (p : PanelNo) (i : SlotNo) : Res :=
  let s := (s.setPhase p i none {} none).modPanel p fun x => { x with plan := none }
  (s.dropFlow p).add [.report p .skipped]

/-- A hard precondition is false: SEQUENCE_STOP, and the order fails (R72). -/
def State.sequenceFail (s : State) (p : PanelNo) : Res := (s.warn p .sequenceStop).failLive p .sequence

/-- The step waits on its interlock conditions, with neither grant nor request (R73, R76). -/
def State.toWait (s : State) (p : PanelNo) (i : SlotNo) (r : Reasons) : Res :=
  ((s.setPhase p i (some .interlockWait) r none).modPanel p fun x => { x with plan := none }).dropFlow p

/-- The flow request (R77, R127); a panel that is on a list already stays where it is (R124). -/
def State.request (s : State) (p : PanelNo) (i : SlotNo) (o : Order) (k : StepKind) : Res :=
  let h := s.listPack p
  if s.arbitration p = 0 then s.failLive p .noArbitration
  else if k.demand > s.capacity h then s.failLive p .flowImpossible
  else
    let s := (s.setPhase p i (some .flowWait) {} none).modPanel p fun x => { x with plan := none }
    if s.flow p = .none then ⟨s.modPack h fun x => x.insert ⟨p, k.demand, o.cls, s.arbitration p⟩, [.pass h]⟩ else .ok s

/-- Stages 2 to 5 of an evaluation (R70), and the same tests at the arrival of a grant (R78) or at the end of a reversing
window (R83): a step that holds a grant runs with it. -/
def State.stages (s : State) (p : PanelNo) (i : SlotNo) (o : Order) (k : StepKind) : Res :=
  let s := s.standingReference p o k
  if s.completion p o k then s.skip p i
  else if !s.hard p o k then s.sequenceFail p
  else if (s.reasons p o k).any then s.toWait p i (s.reasons p o k)
  else if (s.grantPack p).isSome then s.run p i o k
  else s.request p i o k

/-- The evaluation of the current step (R70); a step that is RUNNING is not evaluated. -/
def State.evaluate (s : State) (p : PanelNo) (whole : Bool) : Res :=
  match s.served p with
  | none => .ok s
  | some (i, o, k) =>
    if o.phase = some .running then .ok s
    else if whole && (s.panel p).activity == .braking then .ok (s.setPhase p i (some .braking) {} (some .evaluate))
    else s.stages p i o k

/-- A grant arrives (R78). -/
def State.deliver (s : State) (p : PanelNo) : Res :=
  match s.served p with
  | none => .ok s
  | some (i, o, k) =>
    if o.phase = some .flowWait && (s.grantPack p).isSome then s.stages p i o k else .ok s

/-! ### Completion -/

/-- The step reaches its end (R85). -/
def State.completeStep (s : State) (p : PanelNo) (i : SlotNo) (k : StepKind) : Res :=
  let s := match k with
    | .lift | .lower | .lockStow | .unlockStow => s.stepCoilsOff p
    | _ => s
  let s := (s.setPhase p i none {} none).modPanel p fun x => { x with plan := none }
  (s.dropFlow p).add (.report p .completed :: lapReport p k)

/-- The order table moves the order on (R61), at the report of a step whose work has ended. -/
def State.reportStep (s : State) (p : PanelNo) (e : StepEnd) : Res :=
  match s.served p with
  | none => .ok s
  | some (i, o, k) =>
    if o.phase.isSome then .ok s
    else if e = .completed ∧ o.hold = some k then
      .ok ((s.updateOrder i fun o => { o with state := .atHold, phase := none, reasons := {} }).setLatch .holdReached)
    else if o.step < (stepList o.kind).length then
      ⟨s.modOrder i fun o => { o with step := o.step + 1, phase := none, reasons := {} }, [.evaluate p true]⟩
    else s.completeOrder i

/-- A move of the panel has ended (R28, R80): a RUNNING cleat step completes, or makes the move it has waited for. -/
def State.moveEnded (s : State) (p : PanelNo) : Res :=
  match s.served p with
  | none => .ok s
  | some (i, o, k) =>
    if o.phase = some .running && (s.panel p).move.isNone then
      match k with
      | .uncleat g => if s.completion p o k then s.completeStep p i k else s.runMove p g .release
      | .cleat g => if s.completion p o k then s.completeStep p i k else s.runMove p g .engage
      | _ => .ok s
    else .ok s

/-! ### Watches -/

/-- A step that the interlock conditions no longer allow to run stops and waits (R75). -/
def State.lapStop (s : State) (p : PanelNo) (i : SlotNo) (r : Reasons) (k : StepKind) : Res :=
  ((s.stepCoilsOff p).toWait p i r).add (lapReport p k)

/-- A RUNNING travel is stopped by ZONE, LIST or WIND (R82). -/
def State.interlockStop (s : State) (p : PanelNo) (i : SlotNo) (r : Reasons) : Res :=
  ((s.stopTravel p).setPhase p i (some .braking) r (some .evaluate)).dropFlow p

/-- The interlock conditions of the panel's step are re-tested (R73, R75, R76, R82, R105). -/
def State.retest (s : State) (p : PanelNo) : Res :=
  match s.served p with
  | none => .ok s
  | some (i, o, k) =>
    let r := s.reasons p o k
    match o.phase with
    | some .interlockWait =>
      ⟨s.modOrder i fun o => { o with reasons := r }, if r.any then [] else [.evaluate p false]⟩
    | some .flowWait => if r.any then s.toWait p i r else .ok s
    | some .running =>
      match k, (s.panel p).plan with
      | .travel, some pl =>
        if (s.runningReasons p pl).any then s.interlockStop p i (s.runningReasons p pl) else .ok s
      | .lift, _ | .lower, _ => if r.lap then s.lapStop p i r k else .ok s
      | _, _ => .ok s
    | some .braking =>
      if k = .travel ∧ (s.panel p).purpose = some .evaluate then .ok (s.modOrder i fun o => { o with reasons := r })
      else .ok s
    | none => .ok s

/-- A step that ends when its completion condition comes to hold (R79). -/
def StepKind.endsItself : StepKind → Bool
  | .lift | .lower | .lockStow | .unlockStow => true
  | _ => false

/-- The completion condition and the hard preconditions of the panel's step are looked at (R72, R79). -/
def State.watch (s : State) (p : PanelNo) : Res :=
  match s.served p with
  | none => .ok s
  | some (i, o, k) =>
    match o.phase with
    | some .running =>
      if k.endsItself && s.completion p o k then s.completeStep p i k
      else if !s.hard p o k then s.sequenceFail p
      else .ok s
    | some .interlockWait | some .flowWait => if !s.hard p o k then s.sequenceFail p else .ok s
    | _ => .ok s

/-! ### Travel -/

/-- The planned stop: BRAKING with purpose COMPLETE, the grant kept (R81, R99, R100). -/
def State.plannedStop (s : State) (p : PanelNo) (i : SlotNo) : State :=
  (s.stopTravel p).setPhase p i (some .braking) {} (some .complete)

/-- FAST goes off at the slow point (R97). -/
def State.slowPoint (s : State) (p : PanelNo) (pl : Plan) : State :=
  match pl.slow with
  | some q => if pl.fast && reached pl.dir (s.panel p).count q then s.fastOff p else s
  | none => s

/-- The count has reached an optional point. -/
def Plan.at (pl : Plan) (c : Int) : Option Int → Bool
  | some q => reached pl.dir c q
  | none => false

/-- The planner compares the count with its points after a change of the count (R97, R99, R100). -/
def State.checkPoints (s : State) (p : PanelNo) : Res :=
  match s.served p, (s.panel p).plan with
  | some (i, o, .travel), some pl =>
    if o.phase = some .running then
      let s := s.slowPoint p pl
      if pl.at (s.panel p).count pl.stopAt then .ok (s.plannedStop p i)
      else if pl.at (s.panel p).count pl.overAt then s.raise p .overtravel
      else .ok s
    else .ok s
  | _, _ => .ok s

/-- What a reference taken in DRIVEN mode does to the travel: it stops a plan of stop kind SWITCH (R99), acts on the
points of one of stop kind COUNT (R100), and ends a jog (R197). -/
def State.referenceTaken (s : State) (p : PanelNo) : Res :=
  match s.served p, (s.panel p).plan with
  | some (i, o, .travel), some pl =>
    if o.phase = some .running then
      match pl.stop with
      | .switch => .ok (s.plannedStop p i)
      | .count => s.checkPoints p
    else .ok s
  | _, _ => s.endJogOn p

/-- A valid make of the end switch at `t`, approached in direction `d` (R16, R17). One taken while the panel coasts moves the
count, so the conditions of the panel's step are tested again (R73, R76, R82). -/
def State.endMake (s : State) (p : PanelNo) (t : Int) (d : Dir) : Res :=
  let x := s.panel p
  if x.mode ≠ .quiet ∧ x.lastDir = some d then
    let s := s.reference p t
    if x.mode = .driven then s.referenceTaken p else ⟨s, [.retest p]⟩
  else .ok s

/-- A valid wheel edge (R12 to R14). -/
def State.edge (s : State) (p : PanelNo) : Res :=
  let x := s.panel p
  match x.mode, x.lastDir with
  | .driven, some d =>
    let period := s.params.tuning.stallPeriod
    let s := s.modPanel p fun x => { x with stall := x.stall.restart s.now period }
    (s.moveEdge p d).bind fun s => s.checkPoints p
  | .coasting, some d => (s.moveEdge p d).add [.retest p]
  | _, _ => (s.creepEdge p).add [.watch p, .retest p]

/-- The arrival check (R101). -/
def State.arrivalCheck (s : State) (p : PanelNo) : State :=
  let x := s.panel p
  match x.plan with
  | some pl =>
    if pl.stop = .count ∧ ¬ (x.certain = true ∧ |x.count - pl.t| ≤ s.tol) then s.warn p .targetMiss else s
  | none => s

/-- The end of a braking window is reported to the sequencer (R11, R81 to R83). -/
def State.windowEnded (s : State) (p : PanelNo) : Res :=
  match s.served p with
  | none => .ok s
  | some (i, o, k) =>
    if o.phase = some .braking then
      if (s.panel p).purpose = some .complete then
        if s.hard p o k then (s.arrivalCheck p).completeStep p i k else s.sequenceFail p
      else (s.setPhase p i none {} none).stages p i o k
    else .ok s

/-- The fast permission is looked at again (R90, R98). -/
def State.checkFast (s : State) (p : PanelNo) : State :=
  match (s.panel p).plan with
  | some pl => if pl.fast && !s.fastPermitted p then s.fastOff p else s
  | none => s

/-- A running travel goes on under a new plan (R103). -/
def State.replan (s : State) (p : PanelNo) (t : Int) : Res :=
  let pl := s.planFor p t
  let s := s.modPanel p fun x =>
    { x with plan := some pl, coils := { x.coils with fast := pl.fast && s.enabled }
             activity := .travel pl.dir (if pl.fast then .fast else .slow) }
  ⟨s, [.watch p, .retest p]⟩

/-- The new target lies ahead (R103). -/
def State.ahead (s : State) (p : PanelNo) (t : Int) (pl : Plan) : Bool :=
  let d := t - (s.panel p).count
  decide (d.sign = pl.dir.sign) && decide (|d| > s.tol)

/-- What a new target does to the travel step the sequencer is at (R49, R83, R103). -/
def State.retarget (s : State) (p : PanelNo) : Res :=
  match s.served p with
  | some (i, o, .travel) =>
    let t := o.target.getD 0
    match o.phase, (s.panel p).plan with
    | some .running, some pl =>
      if s.ahead p t pl then s.replan p t
      else .ok ((s.stopTravel p).setPhase p i (some .braking) {} (some .reverse))
    | some .braking, _ =>
      if (s.panel p).purpose = some .complete then .ok (s.setPhase p i (some .braking) {} (some .reverse))
      else ⟨s, [.retest p]⟩
    | some .flowWait, _ | some .interlockWait, _ =>
      ((s.setPhase p i none {} none).dropFlow p).add [.evaluate p true]
    | _, _ => .ok s
  | _ => .ok s

/-! ### Jogs -/

/-- The conditions of a coil at check 7 of JOG (R196). -/
def State.jogConditions (s : State) (p : PanelNo) (c : Coil) : Bool :=
  let x := s.panel p
  let y := s.panel (partner p)
  let uncleated := s.everyCleat p CleatState.doneUncleat
  s.enabled &&
    match c with
    | .liftUp => uncleated && (s.isLap p || (y.seat == .lifted && !y.coils.liftDown))
    | .liftDown => !s.isLap p || (y.seat == .seated && !y.coils.liftUp)
    | .travelOut =>
      uncleated && x.seat == .lifted && !x.sw.stowLocked && x.certain && !x.sw.openEnd && !s.windSet &&
        !s.jogConflict p .outward
    | .travelIn =>
      uncleated && x.seat == .lifted && !x.sw.stowLocked && !x.sw.home && !s.jogConflict p .inward
    | .cleatEng _ | .fast | .brakeRelease => x.seat == .seated
    | _ => true

/-- A condition of the jog in progress has ceased to hold (R197). -/
def State.jogTest (s : State) : Res :=
  match s.jog with
  | none => .ok s
  | some j => if s.jogConditions j.panel j.coil then .ok s else s.endJog

end Sys2Proof.Machine
end

