-- ==== Sys2Proof/Machine/Agenda.lean ====
section
/-! DEFINITION. The agenda: the work that the blocks leave to one another within the taking of one command, carried out
one piece after another, the pieces a piece leaves coming first, but for a further grant pass (R129; log entry 5). -/

namespace Sys2Proof.Machine

/-- A dependent of a DONE order is released, if it still waits on it (R62). -/
def State.releaseDependent (s : State) (i : SlotNo) (pred : Nat) : Res :=
  match s.slot i with
  | some o => if o.waitsOn pred then s.unlink i else .ok s
  | none => .ok s

/-- Carry out one piece of work. -/
def runJob (j : Job) (s : State) : Res :=
  match j with
  | .evaluate p whole => s.evaluate p whole
  | .deliver p => s.deliver p
  | .report p e => s.reportStep p e
  | .pass k => s.runPass k
  | .retest p => s.retest p
  | .watch p => s.watch p
  | .moveEnd p => s.moveEnded p
  | .releaseDependent i id => s.releaseDependent i id
  | .jogTest => s.jogTest

def Job.isPass : Job → Bool
  | .pass _ => true
  | _ => false
def Job.isDelivery : Job → Bool
  | .deliver _ => true
  | _ => false

/-- `new` put behind the last delivery that waits in `js`: a grant pass stops only when all its grants have been delivered. -/
def afterDeliveries (new : List Job) : List Job → List Job
  | [] => new
  | j :: js => if (j :: js).any Job.isDelivery then j :: afterDeliveries new js else new ++ j :: js

/-- The work a piece has left comes before the work that was waiting, up to the first grant pass it asks for: a further pass,
and what follows it, waits until the grants of the present one have been delivered (R129). -/
def enqueue (new js : List Job) : List Job :=
  new.takeWhile (fun j => !j.isPass) ++ afterDeliveries (new.dropWhile fun j => !j.isPass) js

/-- Carry out pieces of work until none is left, at most `n` of them. -/
def drain : Nat → List Job → State → State
  | 0, _, s => s
  | _, [], s => s
  | n + 1, j :: js, s => drain n (enqueue (runJob j s).jobs js) (runJob j s).st

/-- Carry out pieces of work at once, before any that is left to the agenda: the conditions under which a coil may be energised
are looked at in the moment in which a switch has changed them (R72, R75, R197; log entry 5). -/
def Res.now (r : Res) (js : List Job) : Res := Res.each js runJob r

/-- The most pieces of work one command can leave: far more than the 18 panels and 24 orders can give rise to. -/
def agendaLimit : Nat := 100000

/-- Carry out all the work an operation has left. -/
def Res.settle (r : Res) : State := drain agendaLimit r.jobs r.st

end Sys2Proof.Machine
end

