-- ==== Sys2Proof/Machine/Link.lean ====
section
/-! DEFINITION. The station link (R174 to R179): the checks every request passes, the request slots, the queue of replies,
and what the owner of a request answers. -/

namespace Sys2Proof.Machine

/-- What a command leads to when it takes a next state. -/
abbrev Outcome := Host.Outcome State Fault Refusal

/-- What the owner of a request answers (R175 to R178). `deferred` is a COMMIT whose outcome waits for the store write;
`restarts` is an accepted RESTART. -/
structure Answer where
  st : State
  code : ReplyCode
  bytes : List Byte := []
  deferred : Bool := false
  restarts : Bool := false

/-- A refusal: no effect, and a payload of zeros (R178). -/
def refuse (s : State) (c : ReplyCode) : Answer := { st := s, code := c }
/-- ACCEPTED: byte 2 holds CLAMPED in bit 0, the rest follows from byte 3 (R181). -/
def accept (s : State) (clamped : Bool := false) (rest : List Byte := []) : Answer :=
  { st := s, code := .accepted, bytes := byteOf (bit clamped 1) :: rest }
/-- DATA. -/
def answerData (s : State) (bytes : List Byte) : Answer := { st := s, code := .data, bytes := bytes }

/-- The frame a reply is sent as (R174, R175): a standard data frame with identifier 0x1E0 + n, the reply code, the tag and
the payload. -/
def Reply.frame (r : Reply) : Frame where
  extended := false
  remote := false
  id := 0x1E0 + (r.station.val + 1)
  dlc := 8
  data := byteOf r.code.code :: r.tag :: r.payload

/-- A reply joins the transmit queue, and the last reply code of its station is written (R177). -/
def State.queueReply (s : State) (r : Reply) : State :=
  let s := s.modStation r.station fun x => { x with lastReply := r.code.code }
  { s with txQueue := s.txQueue ++ [r] }

/-- A refusal of the link interface itself (R176). -/
def State.linkRefuse (s : State) (n : StationNo) (tag : Byte) (c : ReplyCode) : State :=
  s.queueReply { station := n, code := c, tag := tag, payload := payload [], holdsSlot := false, restarts := false }

/-- UNKNOWN_STATION: a reply that changes no record of the station table (R139, R176). -/
def State.unknownStation (s : State) (n : StationNo) (tag : Byte) : State :=
  { s with txQueue := s.txQueue ++
      [{ station := n, code := .unknownStation, tag := tag, payload := payload [], holdsSlot := false, restarts := false }] }

/-- A request that has passed the five checks occupies its station's slot and is handed to its owner, whose answer is
queued (R176, R177). -/
def State.handOver (s : State) (n : StationNo) (tag : Byte) (owner : State → Answer) : State :=
  let a := owner (s.modStation n fun x => { x with occupied := true })
  if a.deferred then a.st
  else a.st.queueReply
    { station := n, code := a.code, tag := tag, payload := payload a.bytes, holdsSlot := true, restarts := a.restarts }

/-- A request whose frame is well formed and whose code is known: checks 1, 3 and 5 of R176. While the port is bus-off no
frame is received (R179). -/
def State.takeRequest (s : State) (n : StationNo) (tag : Byte) (owner : State → Answer) : State :=
  if s.busOff then s
  else if (s.stationKind n).isNone then s.unknownStation n tag
  else if s.inStart then s.linkRefuse n tag .unitState
  else if (s.station n).occupied then s.linkRefuse n tag .busy
  else s.handOver n tag owner

/-- The outcome of a request. -/
def request (n : StationNo) (tag : Byte) (owner : State → Answer) (s : State) : Outcome := .next (s.takeRequest n tag owner)

/-- The station is of one of these kinds (R140). -/
def State.isKind (s : State) (n : StationNo) (ks : List StationKind) : Bool :=
  match s.stationKind n with
  | some k => ks.contains k
  | none => false

/-- The port goes bus-off (R179): every queued reply is discarded and every slot becomes EMPTY. -/
def State.goBusOff (s : State) : State :=
  { s with txQueue := [], busOff := true, stations := s.stations.map fun x => { x with occupied := false }
           writing := s.writing.map fun w => { w with answer := false } }

/-- The replies waiting hold the reply of an accepted RESTART. -/
def State.restartQueued (s : State) : Bool := s.txQueue.any fun r => r.restarts

end Sys2Proof.Machine
end

