-- ==== Sys2Proof/Machine/Lookups.lean ====
section
/-! DEFINITION. The lookups (R65, R119, R172, R182 to R186). None changes a record. -/

namespace Sys2Proof.Machine

/-! ### READ_UNIT (R182) -/

def State.packPage (s : State) (k : PackId) : List Byte :=
  let x := s.pack k
  [byteOf (bit (!x.up) 1 + bit x.hot 2 + bit x.pump 4 + bit x.lowPressure 8 + bit x.overtemp 16 + bit x.trip 32),
   byteOf (s.capacity k), byteOf (s.effective k), byteOf x.granted, byteOf x.waiting.length]

def State.selectorBits (s : State) : Nat := (allHatches.map fun h => bit (s.isLocal h) (2 ^ h.val)).sum

def State.unitPage (s : State) : Nat → List Byte
  | 0 =>
    [byteOf s.unit.code,
     byteOf (bit s.loopOpen 1 + bit s.supplyLow 2 + bit s.windSet 4 + bit (!s.fresh) 8 + bit s.locked 16 +
       bit s.servicePermitted 32),
     byteOf (bitmap allUnitFaults s.unitFaults), byteOf (bitmap allUnitWarnings s.unitWarnings)] ++ bytes2 s.selectorBits
  | 1 => s.packPage .a
  | 2 => s.packPage .b
  | _ =>
    signedBytes2 s.list ++ signedBytes2 s.trim ++
      [byteOf (s.cards[(0 : CardNo)].code + 4 * s.cards[(1 : CardNo)].code + 16 * s.cards[(2 : CardNo)].code),
       byteOf (match s.serviceStation with | some n => n.val + 1 | none => 0)]

def ownerReadUnit (page : Byte) (s : State) : Answer :=
  if page.toNat > 3 then refuse s .badArgument else answerData s (s.unitPage page.toNat)

def execReadUnit (n : StationNo) (tag page : Byte) (s : State) : Outcome := request n tag (ownerReadUnit page) s

/-! ### READ_PANEL (R183) -/

def coilByte (c : Option Coil) : Byte :=
  match c with
  | some c => byteOf (coilCode c)
  | none => 0

def Flow.bytes : Flow → List Byte
  | .none => [0, 0]
  | .waiting k d => [byteOf (1 + bit (k == .b) 4), byteOf d]
  | .granted k d => [byteOf (2 + bit (k == .b) 4), byteOf d]

def State.panelPage (s : State) (p : PanelNo) : Nat → List Byte
  | 0 =>
    let x := s.panel p
    [byteOf (s.status p).code, byteOf (x.seat.code + bit x.sw.stowLocked 4 + bit x.certain 8), byteOf x.activity.code] ++
      signedBytes2 x.count ++ [byteOf (x.live.getD 0)]
  | 1 =>
    let x := s.panel p
    bytes2 (bitmap allPanelFaults x.faults) ++ bytes2 (bitmap allPanelWarnings x.warnings) ++
      [coilByte x.shortCoil, coilByte x.openCoil]
  | _ =>
    let x := s.panel p
    (s.flow p).bytes ++ [byteOf x.creep, byteOf x.chop] ++ signedBytes2 (x.slip.getD (-32768))

/-- READ_PANEL (R183): both arguments are checked before the panel is asked to be configured (DEDUCED, log entry 14). -/
def ownerReadPanel (panel page : Byte) (s : State) : Answer :=
  match panelArg panel with
  | none => refuse s .badArgument
  | some p =>
    if page.toNat > 2 then refuse s .badArgument
    else if !s.configured p then refuse s .noSuchPanel
    else answerData s (s.panelPage p page.toNat)

def execReadPanel (n : StationNo) (tag panel page : Byte) (s : State) : Outcome := request n tag (ownerReadPanel panel page) s

/-! ### READ_CLEAT and READ_STATION (R184) -/

def State.cleatBytes (s : State) (p : PanelNo) (k : CleatNo) : List Byte :=
  let c := (s.panel p).cleats[k]
  [byteOf s.layout.cleatGroup[p][k], byteOf (c.state.code + bit c.made 128)] ++ bytes2 c.last ++ bytes2 c.greatest

def ownerReadCleat (panel cleat : Byte) (s : State) : Answer :=
  match panelArg panel with
  | none => refuse s .badArgument
  | some p =>
    if !s.configured p then refuse s .noSuchPanel
    else
      match cleatArg cleat with
      | none => refuse s .badArgument
      | some k => if !s.cleatConfigured p k then refuse s .badArgument else answerData s (s.cleatBytes p k)

def execReadCleat (n : StationNo) (tag panel cleat : Byte) (s : State) : Outcome :=
  request n tag (ownerReadCleat panel cleat) s

def State.stationBytes (s : State) (n : StationNo) : List Byte :=
  let x := s.station n
  let head := match s.stationKind n with
    | none => [0, 0]
    | some k => [byteOf (1 + 2 * k.code), byteOf (if k = .pendant then s.layout.stationHatch[n] else 0)]
  head ++ [byteOf (bit x.watching 1), byteOf x.frameErrors, byteOf x.lastReply]

def ownerReadStation (station : Byte) (s : State) : Answer :=
  match stationArg station with
  | none => refuse s .badArgument
  | some m => answerData s (s.stationBytes m)

def execReadStation (n : StationNo) (tag station : Byte) (s : State) : Outcome := request n tag (ownerReadStation station) s

/-! ### READ_ORDER and FIND_ORDER (R65, R185) -/

/-- The time since finishing in units of 100 ms (R185), rounded down: DESIGN CHOICE (log entry 20). -/
def State.sinceFinish (s : State) (o : Order) : Nat :=
  match o.finishedAt with
  | some t => (s.now - t) / 100
  | none => 65535

def State.orderPage (s : State) (o : Order) : Nat → List Byte
  | 0 =>
    [byteOf (o.panel.val + 1), byteOf (o.issuer.val + 1), byteOf (o.kind.code + 8 * o.cls.code + 16 * o.state.code),
     byteOf o.state.reasonCode, byteOf (o.step + 8 * phaseCode o.phase),
     byteOf (o.reasons.code + 16 * pausedFromCode o.pausedFrom)]
  | _ =>
    bytes2 (match o.target with | some t => t.toNat | none => 65535) ++
      [byteOf (match o.hold with | some k => k.code | none => 0), byteOf (o.pred.getD 0)] ++ bytes2 (s.sinceFinish o)

/-- The order an id names; the value 0 never names one (R40). -/
def State.orderNamed (s : State) (b : Byte) : Option (SlotNo × Order) :=
  if b.toNat = 0 then none
  else
    match s.slotOfId b.toNat with
    | none => none
    | some i => (s.slot i).map fun o => (i, o)

def ownerReadOrder (id page : Byte) (s : State) : Answer :=
  if page.toNat > 1 then refuse s .badArgument
  else
    match s.orderNamed id with
    | none => refuse s .noSuchOrder
    | some (_, o) => answerData s (s.orderPage o page.toNat)

def execReadOrder (n : StationNo) (tag id page : Byte) (s : State) : Outcome := request n tag (ownerReadOrder id page) s

/-- `a` finished later than `b`, or with it and was created later (R65). -/
def Order.laterThan (a b : Order) : Bool :=
  match a.finishedAt, b.finishedAt with
  | some x, some y => decide (y < x) || (x == y && decide (b.created < a.created))
  | _, _ => false

/-- The finished order FIND_ORDER gives for a panel (R65). -/
def State.latestFinished (s : State) (p : PanelNo) : Option Order :=
  allSlots.foldl (fun best i =>
    match s.slot i with
    | some o =>
      if o.panel = p ∧ o.finishedAt.isSome then
        match best with
        | some b => if o.laterThan b then some o else some b
        | none => some o
      else best
    | none => best) none

def ownerFindOrder (panel : Byte) (s : State) : Answer :=
  match panelArg panel with
  | none => refuse s .badArgument
  | some p =>
    match (s.panel p).live with
    | some id => answerData s [byteOf id, 1]
    | none =>
      match s.latestFinished p with
      | some o => answerData s [byteOf o.id, 2]
      | none => answerData s [0, 0]

def execFindOrder (n : StationNo) (tag panel : Byte) (s : State) : Outcome := request n tag (ownerFindOrder panel) s

/-! ### READ_ZONE (R119, R186) -/

/-- The remaining time of a deadline in whole seconds, rounded up; 0 when absent, and also when its moment has come and its
expiry has not been taken yet: DESIGN CHOICE (log entry 20). -/
def State.secondsLeft (s : State) (d : Option Nat) : Nat :=
  match d with
  | some t => (t - s.now + 999) / 1000
  | none => 0

def State.claimPage (s : State) (c : Claim) : Nat → List Byte
  | 0 =>
    [byteOf (if c.stale then 2 else 1), byteOf (c.owner.val + 1), byteOf c.kind.code, byteOf (c.hatch.val + 1),
     byteOf c.side.code, byteOf (s.secondsLeft c.deadline)]
  | _ => bytes2 c.lo ++ bytes2 c.hi

/-- A LIVE line zone is shown with owner 0, kind SPOUT, side BOTH and a span of 0. -/
def State.linePage (s : State) (h : HatchNo) : Nat → List Byte
  | 0 => if s.lineLive[h] then [1, 0, 0, byteOf (h.val + 1), 2, 0] else []
  | _ => []

def ownerReadZone (id page : Byte) (s : State) : Answer :=
  match zoneArg id with
  | none => refuse s .badArgument
  | some z =>
    if page.toNat > 1 then refuse s .badArgument
    else
      match z with
      | .claimed z =>
        match s.claim z with
        | some c => answerData s (s.claimPage c page.toNat)
        | none => answerData s []
      | .line h => answerData s (s.linePage h page.toNat)

def execReadZone (n : StationNo) (tag id page : Byte) (s : State) : Outcome := request n tag (ownerReadZone id page) s

/-! ### READ_EVENTS and READ_PARAM (R172, R186) -/

/-- The code of the highest pending latch: the set latch with the smallest code, or 0 (R172). -/
def State.highestLatch (s : State) : Nat :=
  match allLatches.find? fun e => s.latches.contains e with
  | some e => e.code
  | none => 0

def ownerReadEvents (s : State) : Answer :=
  answerData s (byteOf s.highestLatch :: bytes2 (bitmap allLatches s.latches))

def execReadEvents (n : StationNo) (tag : Byte) (s : State) : Outcome := request n tag ownerReadEvents s

def ownerReadParam (number : Half) (s : State) : Answer :=
  match paramOfNumber number.toNat with
  | none => refuse s .badArgument
  | some i =>
    answerData s (bytes2 number.toNat ++ bytes2 (s.params.get i) ++
      [byteOf (bit i.isLayout 1 + bit (i.isLayout && s.locked) 2)])

def execReadParam (n : StationNo) (tag : Byte) (number : Half) (s : State) : Outcome :=
  request n tag (ownerReadParam number) s

end Sys2Proof.Machine
end

