-- ==== Sys2Proof/Machine/OrderRequests.lean ====
section
/-! DEFINITION. The requests on orders (R43 to R58). -/

namespace Sys2Proof.Machine

/-! ### CREATE_ORDER and HATCH_ORDER -/

/-- The kind, class and hold step of a create request, if each is a value of its list and the hold step is in the kind's
step list (check 2 of R43). -/
def wishArg (kind : BitVec 3) (cls : BitVec 1) (hold : Byte) : Option (OrderKind × OrderClass × Option StepKind) :=
  match orderKindArg kind, classArg cls.toNat, holdArg hold with
  | some k, some c, some none => some (k, c, none)
  | some k, some c, some (some h) => if (stepList k).contains h then some (k, c, some h) else none
  | _, _, _ => none

/-- An order that may be named as predecessor: live or DONE (check 9 of R43). -/
def OrderState.mayPrecede (st : OrderState) : Bool := st.live || st == .done

def State.predOk (s : State) (pred : Byte) : Bool :=
  pred.toNat == 0 || match s.orderNamed pred with | some (_, o) => o.state.mayPrecede | none => false

/-- The link a new order gets: the predecessor if it is live (R45). -/
def State.linkOf (s : State) (pred : Byte) : Option Nat :=
  match s.orderNamed pred with
  | some (_, o) => if o.state.live then some o.id else none
  | none => none

def OrderKind.needsSeat : OrderKind → Bool
  | .secure | .release => true
  | _ => false
def OrderKind.needsCertain : OrderKind → Bool
  | .openHatch | .moveTo => true
  | _ => false

/-- Checks 3 to 9 of R43: the refusal, if one fails. -/
def State.createRefusal (s : State) (n : StationNo) (p : PanelNo) (kind : OrderKind) (pred : Byte) : Option ReplyCode :=
  if !s.configured p then some .noSuchPanel
  else if !s.authority n (hatchOf p) then some .notAuthorised
  else if (s.panel p).faults ≠ [] then some .panelFaulted
  else if (s.panel p).live.isSome then some .panelBusy
  else if kind.needsSeat && (s.panel p).seat != .seated then some .notSeated
  else if kind.needsCertain && !(s.panel p).certain then some .positionUncertain
  else if !s.predOk pred then some .noSuchOrder
  else none

/-- The stored target of a MOVE_TO (R44). -/
def State.limitTarget (s : State) (p : PanelNo) (t : Int) : Int := max 0 (min t (s.openCount p))

/-- The target field of a new order (R38). -/
def State.targetOf (s : State) (p : PanelNo) (kind : OrderKind) (t : Int) : Option Int :=
  match kind with
  | .openHatch => some (s.openCount p)
  | .close | .home => some 0
  | .moveTo => some (s.limitTarget p t)
  | .secure | .release => none

/-- The CLAMPED flag of a requested target (R44). -/
def State.targetClamped (s : State) (p : PanelNo) (kind : OrderKind) (t : Int) : Bool :=
  kind == .moveTo && s.limitTarget p t != t

/-- The code of the state the order in a slot holds. -/
def State.stateByte (s : State) (i : SlotNo) : Byte :=
  match s.slot i with
  | some o => byteOf o.state.code
  | none => 0
def State.idByte (s : State) (i : SlotNo) : Byte :=
  match s.slot i with
  | some o => byteOf o.id
  | none => 0

def ownerCreateOrder (n : StationNo) (panel : Byte) (kind : BitVec 3) (cls : BitVec 1) (hold pred : Byte) (target : Half)
    (s : State) : Answer :=
  if s.unit ≠ .run then refuse s .unitState
  else
    match panelArg panel, wishArg kind cls hold with
    | some p, some (k, c, h) =>
      match s.createRefusal n p k pred with
      | some r => refuse s r
      | none =>
        let i := s.slotForNew
        let link := s.linkOf pred
        let made := s.createOrder n p k (s.targetOf p k (signed target)) c h link
        let e := (made.enter i link).settle
        accept e (s.targetClamped p k (signed target)) [made.idByte i, e.stateByte i]
    | _, _ => refuse s .badArgument

def execCreateOrder (n : StationNo) (tag panel : Byte) (kind : BitVec 3) (cls : BitVec 1) (hold pred : Byte) (target : Half)
    (s : State) : Outcome := request n tag (ownerCreateOrder n panel kind cls hold pred target) s

/-- Both records are made, port first, before either order is evaluated (R46; log entry 15). -/
def ownerHatchOrder (n : StationNo) (hatch : Byte) (kind : BitVec 3) (cls : BitVec 1) (hold pred : Byte) (target : Half)
    (s : State) : Answer :=
  if s.unit ≠ .run then refuse s .unitState
  else
    match hatchArg hatch, wishArg kind cls hold with
    | some h, some (k, c, hs) =>
      match s.createRefusal n (portOf h) k pred, s.createRefusal n (starboardOf h) k pred with
      | some r, _ => refuse s r
      | none, some r => refuse s r
      | none, none =>
        let t := signed target
        let link := s.linkOf pred
        let i := s.slotForNew
        let s1 := s.createOrder n (portOf h) k (s.targetOf (portOf h) k t) c hs link
        let j := s1.slotForNew
        let s2 := s1.createOrder n (starboardOf h) k (s.targetOf (starboardOf h) k t) c hs link
        let e := ((s2.enter i link).bind fun s => s.enter j link).settle
        accept e (s.targetClamped (portOf h) k t || s.targetClamped (starboardOf h) k t)
          [s2.idByte i, e.stateByte i, s2.idByte j, e.stateByte j]
    | _, _ => refuse s .badArgument

def execHatchOrder (n : StationNo) (tag hatch : Byte) (kind : BitVec 3) (cls : BitVec 1) (hold pred : Byte) (target : Half)
    (s : State) : Outcome := request n tag (ownerHatchOrder n hatch kind cls hold pred target) s

/-! ### Requests on an existing order (R47) -/

/-- RUN or SERVICE. -/
def UnitState.working : UnitState → Bool
  | .run | .service => true
  | _ => false
def UnitState.isRun : UnitState → Bool
  | .run => true
  | _ => false

/-- Checks 1 to 4 of R47, and then what the request does with the order. -/
def State.onOrder (s : State) (unitOk : Bool) (id : Byte) (may : Order → Bool) (stateOk : OrderState → Bool)
    (otherwise : ReplyCode) (act : SlotNo → Order → Answer) : Answer :=
  if !unitOk then refuse s .unitState
  else
    match s.orderNamed id with
    | none => refuse s .noSuchOrder
    | some (i, o) =>
      if !may o then refuse s .notAuthorised
      else if !stateOk o.state then refuse s otherwise
      else act i o

/-- The requester has authority over the hatch of the order's panel. -/
def State.mayControl (s : State) (n : StationNo) (o : Order) : Bool := s.authority n (hatchOf o.panel)
/-- The requester is the issuer and has that authority. -/
def State.issuerWithAuthority (s : State) (n : StationNo) (o : Order) : Bool := o.issuer == n && s.mayControl n o

/-- ACCEPTED with the order's state after the request (R181). -/
def acceptState (s : State) (i : SlotNo) (clamped : Bool := false) : Answer := accept s clamped [s.stateByte i]

/-- AMEND with TARGET (R49): the target is stored, and the sequencer takes it if the TRAVEL step is current. -/
def State.amendTarget (s : State) (i : SlotNo) (o : Order) (t : Int) : State :=
  ((s.modOrder i fun o => { o with target := some t }).retarget o.panel).settle

/-- AMEND with CLASS (R51). -/
def State.amendClass (s : State) (i : SlotNo) (c : OrderClass) : Res :=
  match s.slot i with
  | none => .ok s
  | some o =>
    let r := s.modOrder i fun o => { o with cls := c }
    if o.cls ≠ c ∧ o.state = .active ∧ o.phase = some .flowWait then r.rekey o.panel c else .ok r

/-- AMEND with CLEAR_PREDECESSOR (R52). -/
def State.clearPredecessor (s : State) (i : SlotNo) : Res :=
  match s.slot i with
  | none => .ok s
  | some o => if o.pred.isNone then .ok s else s.unlink i

/-- The values of an AMEND, decoded only where the mask selects them (R48, R180); `none` is a refusal at check 5. -/
def amendHold (kind : OrderKind) (mask : BitVec 4) (hold : Byte) : Option (Option (Option StepKind)) :=
  if mask.getLsbD 1 then
    match holdArg hold with
    | some none => some (some none)
    | some (some h) => if (stepList kind).contains h then some (some (some h)) else none
    | none => none
  else some none
def amendClassArg (mask : BitVec 4) (cls : Byte) : Option (Option OrderClass) :=
  if mask.getLsbD 2 then (classArg cls.toNat).map some else some none

/-- The selections of an accepted AMEND, in the order TARGET, HOLD, CLASS, CLEAR_PREDECESSOR (R48). The work that one leaves is
done before the next (DESIGN CHOICE, log entry 15), and every selection is applied, also to an order that such work has
ended. -/
def State.amend (s : State) (i : SlotNo) (o : Order) (target : Option Int) (hold : Option (Option StepKind))
    (cls : Option OrderClass) (clear : Bool) : State :=
  let s := match target with | some t => s.amendTarget i o t | none => s
  let s := match hold with | some h => s.modOrder i fun o => { o with hold := h } | none => s
  let s := match cls with | some c => (s.amendClass i c).settle | none => s
  if clear then (s.clearPredecessor i).settle else s

def ownerAmend (n : StationNo) (id : Byte) (mask : BitVec 4) (hold cls : Byte) (target : Half) (s : State) : Answer :=
  s.onOrder s.unit.working id (s.issuerWithAuthority n) OrderState.live .orderFinished fun i o =>
    if mask.toNat = 0 ∨ (mask.getLsbD 0 = true ∧ o.kind ≠ .moveTo) then refuse s .badArgument
    else
      match amendHold o.kind mask hold, amendClassArg mask cls with
      | some h, some c =>
        let sel := mask.getLsbD 0
        let t := signed target
        acceptState (s.amend i o (if sel then some (s.limitTarget o.panel t) else none) h c (mask.getLsbD 3)) i
          (sel && s.targetClamped o.panel o.kind t)
      | _, _ => refuse s .badArgument

def execAmend (n : StationNo) (tag id : Byte) (mask : BitVec 4) (hold cls : Byte) (target : Half) (s : State) : Outcome :=
  request n tag (ownerAmend n id mask hold cls target) s

def OrderState.isPaused : OrderState → Bool
  | .paused _ => true
  | _ => false

/-- PAUSE (R53). -/
def ownerPause (n : StationNo) (id : Byte) (s : State) : Answer :=
  s.onOrder s.unit.working id (s.mayControl n) OrderState.live .orderFinished fun i o =>
    if o.state.isPaused then refuse s .wrongState else acceptState (s.pauseOrder i .request).settle i

def execPause (n : StationNo) (tag id : Byte) (s : State) : Outcome := request n tag (ownerPause n id) s

def PausedFrom.state : PausedFrom → OrderState
  | .pending => .pending
  | .active => .active
  | .atHold => .atHold

/-- The state a PAUSED order returns to (R54). -/
def Order.resumed (o : Order) : OrderState := (o.pausedFrom.getD .active).state

/-- RESUME (R54); an order that returns to AT_HOLD enters it, and sets its latch (R42). -/
def State.resumeOrder (s : State) (i : SlotNo) (o : Order) : Res :=
  ⟨(s.updateOrder i fun o => { o with state := o.resumed, pausedFrom := none }).latchIf (o.resumed = .atHold) .holdReached,
    if o.resumed = .active then [.evaluate o.panel true] else []⟩

def ownerResume (n : StationNo) (id : Byte) (s : State) : Answer :=
  s.onOrder s.unit.isRun id (fun o => o.issuer == n) OrderState.live .orderFinished fun i o =>
    if !o.state.isPaused || s.loopOpen || s.supplyLow || !s.mayControl o.issuer o then refuse s .wrongState
    else acceptState (s.resumeOrder i o).settle i

def execResume (n : StationNo) (tag id : Byte) (s : State) : Outcome := request n tag (ownerResume n id) s

/-- CONTINUE (R55). -/
def State.continueHeld (s : State) (i : SlotNo) (o : Order) : Res :=
  if o.step < (stepList o.kind).length then
    ⟨s.updateOrder i fun o => { o with state := .active, step := o.step + 1 }, [.evaluate o.panel true]⟩
  else s.completeOrder i

def ownerContinue (n : StationNo) (id : Byte) (s : State) : Answer :=
  s.onOrder s.unit.isRun id (s.issuerWithAuthority n) OrderState.live .orderFinished fun i o =>
    if o.state ≠ .atHold then refuse s .wrongState else acceptState (s.continueHeld i o).settle i

def execContinue (n : StationNo) (tag id : Byte) (s : State) : Outcome := request n tag (ownerContinue n id) s

/-- CANCEL (R56). -/
def ownerCancel (n : StationNo) (id : Byte) (s : State) : Answer :=
  s.onOrder s.unit.working id (s.mayControl n) OrderState.live .orderFinished fun i _ =>
    acceptState (s.endOrder i (.cancelled .request)).settle i

def execCancel (n : StationNo) (tag id : Byte) (s : State) : Outcome := request n tag (ownerCancel n id) s

/-- ADOPT (R57). -/
def ownerAdopt (n : StationNo) (id : Byte) (s : State) : Answer :=
  s.onOrder s.unit.working id (s.mayControl n) OrderState.live .orderFinished fun i _ =>
    acceptState (s.updateOrder i fun o => { o with issuer := n }) i

def execAdopt (n : StationNo) (tag id : Byte) (s : State) : Outcome := request n tag (ownerAdopt n id) s

/-- RETIRE (R58), by the issuer or a BRIDGE station, as check 3 of R47 says. DESIGN CHOICE (log entry 20): an issuer that a
COMMIT has made SHORE or INCLINOMETER may still retire its finished order, though the kind table of R140 says no for those
kinds. -/
def ownerRetire (n : StationNo) (id : Byte) (s : State) : Answer :=
  s.onOrder true id (fun o => o.issuer == n || s.isKind n [.bridge]) (fun st => !st.live) .wrongState fun i _ =>
    accept (s.setSlot i none)

def execRetire (n : StationNo) (tag id : Byte) (s : State) : Outcome := request n tag (ownerRetire n id) s

end Sys2Proof.Machine
end

