-- ==== Sys2Proof/Machine/ZoneRequests.lean ====
section
/-! DEFINITION. The requests on zones (R110 to R115) and what the planner is told of a zone (R105, R118). -/

namespace Sys2Proof.Machine

/-- The zone table's report for a hatch: the travel steps of both panels and a travel jog are re-tested (R105, R118). -/
def zoneReport (h : HatchNo) : List Job := [.retest (portOf h), .retest (starboardOf h), .jogTest]

/-- A zone report is carried out. -/
def State.reportZone (s : State) (h : HatchNo) : State := (Res.mk s (zoneReport h)).settle

/-- The right to claim (check 2 of R110). -/
def State.mayClaim (s : State) (n : StationNo) (h : HatchNo) : Bool :=
  s.isKind n [.shore, .cargoControl, .bridge] || s.pendantHatch n == some h

def State.freeClaim (s : State) : Option ClaimNo := allClaims.find? fun z => (s.claim z).isNone

/-- The moment at which a renewal period started now runs out (R111). -/
def State.renewalDeadline (s : State) : Nat := s.now + 1000 * s.params.tuning.zoneRenewal

def spanOk (lo hi : Half) : Bool := decide (lo.toNat < hi.toNat) && decide (hi.toNat ≤ 8192)

def ownerClaimZone (n : StationNo) (hatch : Byte) (side kind : BitVec 2) (lo hi : Half) (s : State) : Answer :=
  match hatchArg hatch, sideArg side with
  | some h, some sd =>
    if !s.hatchConfigured h || !spanOk lo hi then refuse s .badArgument
    else if !s.mayClaim n h then refuse s .notAuthorised
    else
      match s.freeClaim with
      | none => refuse s .zoneTableFull
      | some z =>
        let timed := s.isKind n [.shore]
        let c : Claim :=
          { stale := false, owner := n, kind := zoneKindArg kind, hatch := h, side := sd, lo := lo.toNat, hi := hi.toNat
            timed := timed, deadline := if timed then some s.renewalDeadline else none }
        accept ((s.setClaim z (some c)).reportZone h) false [byteOf (z.val + 1)]
  | _, _ => refuse s .badArgument

def execClaimZone (n : StationNo) (tag hatch : Byte) (side kind : BitVec 2) (lo hi : Half) (s : State) : Outcome :=
  request n tag (ownerClaimZone n hatch side kind lo hi) s

/-- The owner of a zone, while its kind may still make the request: an INCLINOMETER may not (R140; check 4 of R113, whose
words name no kind: log entry 20). -/
def State.mayAsOwner (s : State) (n : StationNo) (c : Claim) : Bool :=
  c.owner == n && s.isKind n [.bridge, .cargoControl, .pendant, .shore]

/-- The checks of R113, and then what the request does with the zone. -/
def State.onZone (s : State) (id : Byte) (may : Claim → Bool) (act : ClaimNo → Claim → Answer) : Answer :=
  match zoneArg id with
  | none => refuse s .badArgument
  | some (.line _) => refuse s .notAuthorised
  | some (.claimed z) =>
    match s.claim z with
    | none => refuse s .noSuchZone
    | some c => if may c then act z c else refuse s .notAuthorised

/-- RENEW_ZONE (R114). -/
def State.renew (s : State) (z : ClaimNo) (c : Claim) : State :=
  if c.timed then
    let s1 := s.setClaim z (some { c with stale := false, deadline := some s.renewalDeadline })
    if c.stale then s1.reportZone c.hatch else s1
  else s

def ownerRenewZone (n : StationNo) (id : Byte) (s : State) : Answer :=
  s.onZone id (s.mayAsOwner n) fun z c => accept (s.renew z c)

def execRenewZone (n : StationNo) (tag id : Byte) (s : State) : Outcome := request n tag (ownerRenewZone n id) s

/-- RELEASE_ZONE (R115). -/
def ownerReleaseZone (n : StationNo) (id : Byte) (s : State) : Answer :=
  s.onZone id (fun c => s.mayAsOwner n c || s.isKind n [.bridge, .cargoControl]) fun z c =>
    accept ((s.setClaim z none).reportZone c.hatch)

def execReleaseZone (n : StationNo) (tag id : Byte) (s : State) : Outcome := request n tag (ownerReleaseZone n id) s

end Sys2Proof.Machine
end

