-- ==== Sys2Proof/Machine/AuthorityRequests.lean ====
section
/-! DEFINITION. The requests the authority unit and the planner take: KEEPALIVE (R146 to R149), the stops (R150),
RAIN_CLOSE (R151 to R153) and LIST_REPORT (R88). -/

namespace Sys2Proof.Machine

/-! ### Attendance violations -/

/-- The configured panels of a pendant's hatch, port first. -/
def State.pendantPanels (s : State) (n : StationNo) : List PanelNo :=
  match s.pendantHatch n with
  | some h => [portOf h, starboardOf h].filter s.configured
  | none => []

/-- A violation (R147 to R149). -/
def State.violation (s : State) (n : StationNo) : Res :=
  let ps := s.pendantPanels n
  let r :=
    if s.params.tuning.attendanceMode = 0 then
      (Res.each allPanels (fun p s => s.pauseIf (fun o => o.issuer == n && o.state.working) .attendance p) (.ok s)).map
        fun s => ps.foldl (fun s p => s.warn p .attendanceLost) s
    else s.raiseAll ps .attendance
  r.map fun s => (s.setLatch .attendance).modStation n fun x => { x with watching := false, deadline := none }

inductive KeepOutcome where
  | idle | taken | early
  deriving DecidableEq, Repr

def KeepOutcome.code : KeepOutcome → Nat
  | .idle => 0
  | .taken => 1
  | .early => 2

/-- The outcome of a KEEPALIVE (R146). -/
def State.keepOutcome (s : State) (n : StationNo) : KeepOutcome :=
  let x := s.station n
  if !x.watching then .idle
  else if s.now - x.reference < s.params.tuning.attendanceLower then .early
  else .taken

/-- The effect of a KEEPALIVE (R146). -/
def State.keep (s : State) (n : StationNo) : State :=
  match s.keepOutcome n with
  | .idle => s
  | .taken =>
    s.modStation n fun x => { x with reference := s.now, deadline := some (s.now + s.params.tuning.attendanceUpper) }
  | .early => (s.violation n).settle

def ownerKeepalive (n : StationNo) (s : State) : Answer :=
  if !s.isKind n [.pendant] then refuse s .notAuthorised
  else accept (s.keep n) false [byteOf (s.keepOutcome n).code]

def execKeepalive (n : StationNo) (tag : Byte) (s : State) : Outcome := request n tag (ownerKeepalive n) s

/-! ### Stops -/

/-- How many of the panels have an ACTIVE or AT_HOLD order. -/
def State.workingCount (s : State) (ps : List PanelNo) : Nat :=
  (ps.filter fun p => match s.liveOrder p with | some (_, o) => o.state.working | none => false).length

/-- A stop of the orders of some panels, and of a jog on one of them (R150). -/
def State.stopPanels (s : State) (ps : List PanelNo) : Res :=
  (s.pauseWorking ps .request).bind fun s =>
    match s.jog with
    | some j => if ps.contains j.panel then s.endJog else .ok s
    | none => .ok s

def stopKinds : List StationKind := [.bridge, .cargoControl, .pendant, .shore]

/-- STOP_HATCH (R150). -/
def ownerStopHatch (n : StationNo) (hatch : Byte) (s : State) : Answer :=
  match hatchArg hatch with
  | none => refuse s .badArgument
  | some h =>
    if !s.hatchConfigured h then refuse s .badArgument
    else if !s.isKind n stopKinds then refuse s .notAuthorised
    else
      let ps := [portOf h, starboardOf h]
      accept (s.stopPanels ps).settle false [byteOf (s.workingCount ps)]

def execStopHatch (n : StationNo) (tag hatch : Byte) (s : State) : Outcome := request n tag (ownerStopHatch n hatch) s

/-- STOP_ALL (R150). -/
def ownerStopAll (n : StationNo) (s : State) : Answer :=
  if !s.isKind n stopKinds then refuse s .notAuthorised
  else accept (s.stopPanels allPanels).settle false [byteOf (s.workingCount allPanels)]

def execStopAll (n : StationNo) (tag : Byte) (s : State) : Outcome := request n tag (ownerStopAll n) s

/-! ### RAIN_CLOSE -/

/-- What RAIN_CLOSE does with a panel (the table of R151). -/
inductive RainAction where
  | none | skip | lift (i : SlotNo) | supersede (i : SlotNo) | create
  deriving DecidableEq, Repr

def OrderKind.closes : OrderKind → Bool
  | .close | .secure => true
  | _ => false

/-- The first line of the table of R151 that matches. A hatch without a selector state (R141) is not LOCAL, so that its panels
are raised or given orders: DESIGN CHOICE (log entry 19). -/
def State.rainAction (s : State) (p : PanelNo) : RainAction :=
  if s.isLocal (hatchOf p) || (s.panel p).faults ≠ [] then .skip
  else
    match s.liveOrder p with
    | some (i, o) => if o.kind.closes then .lift i else .supersede i
    | none => if s.status p = .secured then .none else .create

/-- A live CLOSE or SECURE order is raised (R152). -/
def State.raiseOrder (s : State) (i : SlotNo) : Res := (s.amendClass i .rain).bind fun s => s.clearPredecessor i

/-- A new CLOSE order of class RAIN (R153). -/
def State.rainOrder (s : State) (n : StationNo) (p : PanelNo) : Res :=
  let i := s.slotForNew
  (s.createOrder n p .close (some 0) .rain Option.none Option.none).admitted i

/-- The state and the three counts as RAIN_CLOSE goes on from panel to panel. -/
structure Rain where
  st : State
  created : Nat
  raised : Nat
  skipped : Nat

/-- RAIN_CLOSE takes one panel, as it stands when the panel is reached (R151). -/
def Rain.take (n : StationNo) (r : Rain) (p : PanelNo) : Rain :=
  match r.st.rainAction p with
  | .none => r
  | .skip => { r with skipped := r.skipped + 1 }
  | .lift i => { r with st := (r.st.raiseOrder i).settle, raised := r.raised + 1 }
  | .supersede i =>
    { r with st := ((r.st.endOrder i (.cancelled .superseded)).bind fun s => s.rainOrder n p).settle, created := r.created + 1 }
  | .create => { r with st := (r.st.rainOrder n p).settle, created := r.created + 1 }

def ownerRainClose (n : StationNo) (s : State) : Answer :=
  if s.unit ≠ .run then refuse s .unitState
  else if !s.isKind n [.bridge, .cargoControl] then refuse s .notAuthorised
  else
    let r := (allPanels.filter s.configured).foldl (Rain.take n) ⟨s, 0, 0, 0⟩
    accept r.st false [byteOf r.created, byteOf r.raised, byteOf r.skipped]

def execRainClose (n : StationNo) (tag : Byte) (s : State) : Outcome := request n tag (ownerRainClose n) s

/-! ### LIST_REPORT -/

/-- The staleness period: 5000 ms (R88). -/
def stalenessPeriod : Nat := 5000

/-- A value limited to −250 to 250 (R88). -/
def limitAttitude (i : Int) : Int := max (-250) (min i 250)

def retestAll : List Job := allPanels.map Job.retest

/-- LIST_HIGH is derived from the attitude, and its addition sets the WARNING latch (R90, R168). The limits are taken from the
set at this moment (R188; log entry 19). -/
def State.deriveListHigh (s : State) : State :=
  { s with listHigh := s.highList }.latchIf (s.highList && !s.listHigh) .warning

/-- A report is stored (R88, R90, R91), and the conditions that follow the list are tested again: those of the travel steps,
and of a travel jog, whose region is taken with the present list (R105). -/
def State.takeAttitude (s : State) (l t : Int) : State :=
  let s1 := { s with
    list := limitAttitude l, trim := limitAttitude t, fresh := true
    staleTimer := if s.noListSource then none else some (s.now + stalenessPeriod) }
  (Res.mk (s1.deriveListHigh.forPanels fun p s => s.checkFast p) (retestAll ++ [.jogTest])).settle

def ownerListReport (n : StationNo) (list trim : Half) (s : State) : Answer :=
  if !s.isKind n [.inclinometer] then refuse s .notAuthorised
  else
    let l := signed list
    let t := signed trim
    accept (s.takeAttitude l t) (limitAttitude l != l || limitAttitude t != t)

def execListReport (n : StationNo) (tag : Byte) (list trim : Half) (s : State) : Outcome :=
  request n tag (ownerListReport n list trim) s

end Sys2Proof.Machine
end

