-- ==== Sys2Proof/Machine/PackHealth.lean ====
section
/-! DEFINITION. A change of a pack's causes or oil state, and what its arbiter does at it (R123, R131 to R133, R161). -/

namespace Sys2Proof.Machine

/-- The list pack of the panel's waiting entry is decided again (R126): the entry stays, moves to the other pack's list, or
fails with FLOW_IMPOSSIBLE (R132, R133). -/
def State.moveWaiter (s : State) (from_ : PackId) (p : PanelNo) : Res :=
  match (s.pack from_).waiterOf p with
  | none => .ok s
  | some w =>
    let h := s.listPack p
    if h = from_ then .ok s
    else if w.demand > s.capacity h then s.failLive p .flowImpossible
    else .ok ((s.modPack from_ fun x => x.dropPanel p).modPack h fun x => x.insert w)

/-- Every entry of a pack's list has its list pack decided again, in list order. -/
def State.moveWaiters (s : State) (k : PackId) : Res :=
  Res.each ((s.pack k).waiting.map Waiter.panel) (fun p s => s.moveWaiter k p) (.ok s)

/-- The panels whose grants are voided, those of steps in ascending panel number. -/
def Pack.stepGrants (x : Pack) : List PanelNo :=
  allPanels.filter fun p => x.grants.any fun g => g.panel == p && !g.jog

/-- The jog whose grant was voided ends (R132). -/
def State.endVoidedJog (s : State) (gs : List Grant) : Res :=
  match s.jog with
  | some j => if gs.any fun g => g.panel == j.panel && g.jog then s.endJog else .ok s
  | none => .ok s

/-- The pack has gone DOWN (R132). -/
def State.packDown (s : State) (k : PackId) : Res :=
  let x := s.pack k
  let s := s.modPack k fun x => { x with grants := [] }
  let r := Res.each x.stepGrants (fun p s => s.pauseIf (fun _ => true) .packLoss p) (.ok s)
  let r := r.bind fun s => s.endVoidedJog x.grants
  (r.bind fun s => s.moveWaiters k).add [.pass (otherPack k)]

/-- The pack has come UP (R133). -/
def State.packUp (s : State) (k : PackId) : Res :=
  (s.moveWaiters (otherPack k)).add [.pass k, .pass (otherPack k)]

/-- A change of a pack's causes or oil state (R161): the unit fault and warning, the PACK_CHANGE latch, and then the
arbiter. -/
def State.changePack (s : State) (k : PackId) (f : Pack → Pack) : State :=
  let x := s.pack k
  let y := f x
  let s1 := s.setPack y k
  let s2 := (s1.latchIf (y.anyCause && !x.anyCause) .unitFault).latchIf (y.hot && !x.hot) .warning
  let s3 := s2.latchIf (x.up != y.up || x.hot != y.hot) .packChange
  let r :=
    if x.up && !y.up then s3.packDown k
    else if !x.up && y.up then s3.packUp k
    else if x.hot && !y.hot then ⟨s3, [.pass k]⟩
    else .ok s3
  r.settle

/-- The oil temperature read by the rules of R160: a signal outside the measuring range makes the oil HOT and adds
OVERTEMP, as R160's last sentence says, wherever the thresholds stand; such a reading never counts as cooled (DEDUCED, log
entry 20). -/
def Pack.takeOil (x : Pack) (hot limit : Nat) (t : Option Int) : Pack :=
  match t with
  | none => { x with oil := none, hot := true, overtemp := true }
  | some c =>
    { x with oil := some c, hot := if (hot : Int) ≤ c then true else if c < hot - 5 then false else x.hot
             overtemp := x.overtemp || decide ((limit : Int) ≤ c) }

/-- The supply pressure that a reading gives: 0 bar outside the measuring range (R159). -/
def pressureOf (bar : Option Nat) : Nat := bar.getD 0

/-- The oil has cooled below the hot threshold less 5 °C (R160, R170). -/
def Pack.oilCool (x : Pack) (hot : Nat) : Bool :=
  match x.oil with
  | some c => decide (c < (hot : Int) - 5)
  | none => false

/-- What CLEAR_FAULTS of the unit removes from a pack (R170): a latched PRESSURE cause and an OVERTEMP cause that have
recovered. With an overtemperature threshold set below the hot threshold less 5 °C, OVERTEMP leaves at a temperature that
still stands at or above the former, and joins again at the next oil reading: DESIGN CHOICE (log entry 20). -/
def Pack.clearLatched (x : Pack) (latched : Bool) (low hot : Nat) : Pack :=
  { x with lowPressure := x.lowPressure && !(latched && decide (low ≤ pressureOf x.pressure))
           overtemp := x.overtemp && !x.oilCool hot }

end Sys2Proof.Machine
end

