-- ==== Sys2Proof/Machine/ProtectionRequests.lean ====
section
/-! DEFINITION. The requests the protection monitor takes: CLEAR_FAULTS (R169, R170) and CLEAR_EVENTS (R173). -/

namespace Sys2Proof.Machine

/-- The scope of CLEAR_FAULTS. -/
inductive Scope where
  | panel (p : PanelNo) | hatch (h : HatchNo) | unit
  deriving DecidableEq, Repr

def scopeArg (scope target : Byte) : Option Scope :=
  match scope.toNat with
  | 0 => (panelArg target).map .panel
  | 1 => (hatchArg target).map .hatch
  | 2 => some .unit
  | _ => none

/-- The configured panels in a scope, ascending. -/
def State.scopePanels (s : State) : Scope → List PanelNo
  | .panel p => [p].filter s.configured
  | .hatch h => [portOf h, starboardOf h].filter s.configured
  | .unit => allPanels.filter s.configured

/-- The right to clear a scope (R140). -/
def State.mayClear (s : State) (n : StationNo) (sc : Scope) : Bool :=
  s.isKind n [.bridge, .cargoControl] ||
    match s.pendantHatch n, sc with
    | some h, .panel p => hatchOf p == h
    | some h, .hatch g => g == h
    | _, _ => false

/-- The fault kinds of a panel whose condition still holds. -/
def State.remaining (s : State) (p : PanelNo) : List PanelFault := (s.panel p).faults.filter fun k => !s.faultGone p k

/-- Kinds whose removal leaves the panel UNCERTAIN (R169). -/
def PanelFault.unsettles : PanelFault → Bool
  | .runaway | .positionRange | .sensorConflict => true
  | _ => false

/-- The warnings that stay: CARD_HOT while the card is HOT or OVERTEMP (R169). -/
def State.keptWarnings (s : State) (p : PanelNo) : List PanelWarning :=
  if s.cards[cardOf p] = .normal then [] else (s.panel p).warnings.filter fun w => w == .cardHot

/-- CLEAR_FAULTS on one panel (R169): what it leaves of the panel's record, given the faults that remain and the warnings
that stay. -/
def Panel.cleared (x : Panel) (left : List PanelFault) (kept : List PanelWarning) : Panel :=
  { x with
    faults := left
    warnings := kept
    certain := x.certain && !(x.faults.any fun k => k.unsettles && !left.contains k)
    shortCoil := if left.contains .solenoidShort then x.shortCoil else none
    openCoil := if left.contains .solenoidOpen then x.openCoil else none
    creep := 0
    chop := 0
    cleats := x.cleats.map fun c => { c with greatest := 0 } }

def State.clearPanel (s : State) (p : PanelNo) : State :=
  s.modPanel p fun x => x.cleared (s.remaining p) (s.keptWarnings p)

def State.faultCount (s : State) (ps : List PanelNo) : Nat := (ps.map fun p => (s.panel p).faults.length).sum

/-- A latched SUPPLY_LOW is removed if the supply has recovered (R158, R170): a recovery has been found since the last
undervoltage, whatever the reading is now (DESIGN CHOICE, log entry 11). -/
def State.clearSupply (s : State) : State := if s.supplyLow && s.supplyRecovered then { s with supplyLow := false } else s

def State.clearPack (s : State) (k : PackId) : State :=
  let t := s.params.tuning
  s.changePack k fun x => x.clearLatched (t.pressureMode == 0) t.pressureLow t.oilHot

/-- CLEAR_FAULTS on the unit (R170). Pack A's change is taken first, with all the work it leaves, and pack B's after it, also
where both come UP: DESIGN CHOICE among the orders that R134 allows (log entry 5). -/
def State.clearUnit (s : State) : State :=
  let s := { s.clearSupply with frameErrorsWarned := false }
  (s.clearPack .a).clearPack .b

/-- The panels of a scope are cleared, and for UNIT the unit after them (R169, R170). -/
def State.clearScope (s : State) (sc : Scope) : State :=
  let s1 := (s.scopePanels sc).foldl (fun s p => s.clearPanel p) s
  if sc = .unit then s1.clearUnit else s1

def Scope.hatchOk (s : State) : Scope → Bool
  | .hatch h => s.hatchConfigured h
  | _ => true
def Scope.panelOk (s : State) : Scope → Bool
  | .panel p => s.configured p
  | _ => true

/-- CLEAR_FAULTS (R169, R170), with the payload of R181. DESIGN CHOICE (log entry 20): the kinds removed and remaining are
counted right after the panels, before the unit part, so a fault raised by work that the unit part sets off (a pack that
comes UP and starts a travel chopped at a limit of 1) stands and is not counted; whether the unit fault set is empty is read
after the unit part. -/
def ownerClearFaults (n : StationNo) (scope target : Byte) (s : State) : Answer :=
  match scopeArg scope target with
  | none => refuse s .badArgument
  | some sc =>
    if !sc.hatchOk s then refuse s .badArgument
    else if !sc.panelOk s then refuse s .noSuchPanel
    else if !s.mayClear n sc then refuse s .notAuthorised
    else
      let ps := s.scopePanels sc
      let panelsDone := ps.foldl (fun s p => s.clearPanel p) s
      let e := s.clearScope sc
      accept e false
        [byteOf (s.faultCount ps - panelsDone.faultCount ps), byteOf (panelsDone.faultCount ps),
         byteOf (bit e.unitFaults.isEmpty 1)]

def execClearFaults (n : StationNo) (tag scope target : Byte) (s : State) : Outcome :=
  request n tag (ownerClearFaults n scope target) s

/-- The latches that stay after a clear of the codes in a set (R173). -/
def latchesLeft (codes : Half) (xs : List EventLatch) : List EventLatch :=
  xs.filter fun e => !codes.getLsbD (e.code - 1)

def ownerClearEvents (n : StationNo) (codes : Half) (s : State) : Answer :=
  if codes.getLsbD 14 || codes.getLsbD 15 then refuse s .badArgument
  else if !s.isKind n [.bridge, .cargoControl, .pendant, .shore] then refuse s .notAuthorised
  else
    let left := latchesLeft codes s.latches
    accept { s with latches := left } false (bytes2 (bitmap allLatches left))

def execClearEvents (n : StationNo) (tag : Byte) (codes : Half) (s : State) : Outcome :=
  request n tag (ownerClearEvents n codes) s

end Sys2Proof.Machine
end

