-- ==== Sys2Proof/Machine/ConfigRequests.lean ====
section
/-! DEFINITION. SET_PARAM (R189), COMMIT and the store write (R190, R191), RECONFIGURE (R192) and RESTART (R194). -/

namespace Sys2Proof.Machine

/-! ### SET_PARAM -/

/-- An enumerated value is one of its codes (check 3 of R189). -/
def ParamId.valueOk (i : ParamId) (v : Nat) : Bool := !i.enumerated || (decide (i.range.1 ≤ v) && decide (v ≤ i.range.2))

/-- SET_PARAM (R189). Storing a threshold makes no comparison: the standing readings of oil, pressure and travel pressure are
compared with it at their next event, or where a rule compares them next (DEDUCED from R188, log entry 19). -/
def ownerSetParam (n : StationNo) (number value : Half) (s : State) : Answer :=
  if s.unit ≠ .setup then refuse s .unitState
  else if !s.isKind n [.bridge] then refuse s .notAuthorised
  else
    match paramOfNumber number.toNat with
    | none => refuse s .badArgument
    | some i =>
      let v := i.clamp value.toNat
      if !i.valueOk value.toNat then refuse s .badArgument
      else if s.writing.isSome then refuse s .busy
      else if i.isLayout && s.locked then refuse s .layoutLocked
      else
        accept { s with params := s.params.put v i } (v != value.toNat) (bytes2 number.toNat ++ bytes2 v)

def execSetParam (n : StationNo) (tag : Byte) (number value : Half) (s : State) : Outcome :=
  request n tag (ownerSetParam n number value) s

/-! ### COMMIT -/

/-- An earlier element of a list has the same value as `x`. -/
def repeatsEarlier {α : Type} (f : α → Nat) : List α → List α → Option α
  | _, [] => none
  | seen, x :: xs => if seen.any fun y => f y == f x && f x != 0 then some x else repeatsEarlier f (seen ++ [x]) xs

/-- Check 4: the first panel of a configured hatch, in ascending number, whose arbitration number, not 0, an earlier one
has: of several equal pairs, the first is the one whose higher-numbered panel comes first (DESIGN CHOICE, log entry 20). -/
def ParamSet.arbitrationClash (s : ParamSet) : Option PanelNo :=
  repeatsEarlier (fun p => s.layout.arbitration[p]) []
    (allPanels.filter fun p => decide ((hatchOf p).val < s.layout.hatchCount))

/-- How many stations of a kind the table may hold; 6 or more is no kind (R139, check 5). -/
def kindLimit (code : Nat) : Nat :=
  match code with
  | 1 => 2
  | 2 => 1
  | 4 => 2
  | 5 => 1
  | _ => 12

/-- The station takes its kind, or its hatch's pendant, beyond the limit, the stations in `seen` coming before it. -/
def ParamSet.beyondLimit (s : ParamSet) (seen : List StationNo) (n : StationNo) : Bool :=
  let k := s.layout.stationKind[n]
  let h := s.layout.stationHatch[n]
  if k = 3 then h != 0 && seen.any fun m => s.layout.stationKind[m] == 3 && s.layout.stationHatch[m] == h
  else k != 0 && decide (kindLimit k ≤ (seen.filter fun m => s.layout.stationKind[m] == k).length)

/-- Check 5: the first station, in ascending number, beyond the limit. -/
def ParamSet.stationClash (s : ParamSet) : List StationNo → List StationNo → Option StationNo
  | _, [] => none
  | seen, n :: ns => if s.beyondLimit seen n then some n else s.stationClash (seen ++ [n]) ns

/-- Check 6: the lowest-numbered PENDANT whose hatch is not 1 to the hatch count. -/
def ParamSet.pendantAstray (s : ParamSet) : Option StationNo :=
  allStations.find? fun n =>
    s.layout.stationKind[n] == 3 &&
      !(decide (1 ≤ s.layout.stationHatch[n]) && decide (s.layout.stationHatch[n] ≤ s.layout.hatchCount))

/-- The parameter whose consistency check fails first (R190). -/
def ParamSet.inconsistent (s : ParamSet) : Option ParamId :=
  let t := s.tuning
  if t.slowDown < t.stopAllowance then some .stopAllowance
  else if t.confirmationWindow < t.cleatDwell then some .confirmationWindow
  else if t.listLimit < t.listWarning then some .listLimit
  else
    match s.arbitrationClash, s.stationClash [] allStations, s.pendantAstray with
    | some p, _, _ => some (.arbitration p)
    | none, some n, _ => some (.stationKind n)
    | none, none, some n => some (.stationHatch n)
    | none, none, none => none

def ownerCommit (n : StationNo) (tag : Byte) (s : State) : Answer :=
  if s.unit ≠ .setup then refuse s .unitState
  else if !s.isKind n [.bridge] then refuse s .notAuthorised
  else if s.writing.isSome then refuse s .busy
  else
    match s.params.inconsistent with
    | some i => { st := s, code := .configInconsistent, bytes := bytes2 i.number }
    | none =>
      { st := { s with writing := some ⟨n, tag, true⟩ }, code := .accepted, deferred := true }

def execCommit (n : StationNo) (tag : Byte) (s : State) : Outcome := request n tag (ownerCommit n tag) s

/-! ### The layout takes effect (R191) -/

/-- A cleat set up from its switch as at power-on (R36). -/
def Cleat.fromSwitch (c : Cleat) : Cleat := .atPowerOn c.made

/-- A panel's record as at power-on, its switch lines as they stand (R20, R36); a configured panel whose SEATED and LIFTED
switches disagree holds SENSOR_CONFLICT from then on (R5). -/
def Panel.poweredOn (x : Panel) (configured : Bool) : Panel :=
  { Panel.atPowerOn x.sw (x.cleats.map Cleat.fromSwitch) with
    faults := if configured && x.sw.conflict then [.sensorConflict] else [] }

/-- A panel's record as at power-on, with its certainty from its switches (R1, R20). A COMMIT that makes the panel configured
adds neither CARD_HOT nor CARD_OVERTEMP, whatever the state of its card, since the card neither leaves NORMAL nor enters
OVERTEMP then (R162, R163): DESIGN CHOICE (log entry 11). -/
def Panel.fresh (x : Panel) (configured : Bool) : Panel :=
  { x.poweredOn configured with certain := x.seat == .seated && x.sw.home }

/-- The panel's record at a COMMIT that puts a new layout into effect (R1, R37). -/
def Panel.relaid (x : Panel) (was is_ sameCleats : Bool) : Panel :=
  if was != is_ then x.fresh is_
  else if sameCleats then x
  else { x with cleats := x.cleats.map Cleat.fromSwitch, move := none }

def Layout.configures (l : Layout) (h : HatchNo) : Bool := decide (h.val < l.hatchCount)

/-- A COMMIT leaves the panel's cleat count and groups as they were (R37). Of the twelve group parameters the model compares
also those of the cleats above the count, which have no record: DESIGN CHOICE (log entry 20). -/
def Layout.sameCleats (l m : Layout) (p : PanelNo) : Bool :=
  l.cleatCount[p] == m.cleatCount[p] && l.cleatGroup[p] == m.cleatGroup[p]

/-- A COMMIT leaves the station's record as it was (R139): its kind, and the hatch that only a PENDANT has. -/
def Layout.sameStation (l m : Layout) (n : StationNo) : Bool :=
  l.stationKind[n] == m.stationKind[n] && (l.stationKind[n] != 3 || l.stationHatch[n] == m.stationHatch[n])

/-- The stable time of a selector line (R141). -/
def selectorStable : Nat := 200

/-- The layout held in the set takes effect (R191, R1, R37, R122, R139, R141, R91). No latch is set (R171). -/
def State.takeLayout (s : State) : State :=
  let old := s.layout
  let new := s.params.layout
  let s1 := { s with
    layout := new
    panels := s.panels.mapFinIdx fun i x h =>
      let p : PanelNo := ⟨i, h⟩
      x.relaid (old.configures (hatchOf p)) (new.configures (hatchOf p)) (old.sameCleats new p)
    claims := s.claims.map fun c => Option.filter (fun c => new.configures c.hatch) c
    lineLive := s.lineLive.mapFinIdx fun i b h =>
      new.configures ⟨i, h⟩ && if old.configures ⟨i, h⟩ then b else s.presence[i]
    stations := s.stations.mapFinIdx fun i x h =>
      if old.sameStation new ⟨i, h⟩ then x else { x with frameErrors := 0, lastReply := 0 }
    selectorDue := s.selectorDue.mapFinIdx fun i d h =>
      if new.configures ⟨i, h⟩ then if old.configures ⟨i, h⟩ then d else some (s.now + selectorStable) else none }
  if old.listSource = new.listSource then s1
  else { s1 with list := 0, trim := 0, fresh := false, listHigh := false, staleTimer := none }

/-- The reply a COMMIT has waited for, unless a bus-off has ended it (R179, R191). -/
def State.answerCommit (s : State) (w : Writing) (c : ReplyCode) (bytes : List Byte) : State :=
  if w.answer then
    s.queueReply { station := w.station, code := c, tag := w.tag, payload := payload bytes, holdsSlot := true, restarts := false }
  else s

/-- The write ends (R191). A copy that does not agree with the set leaves no valid copy in the store (log entry 10). -/
def execStoreWriteEnd (agrees : Bool) (s : State) : Outcome :=
  .next <|
    match s.writing with
    | none => s
    | some w =>
      let s := { s with writing := none }
      if agrees then
        let s := { s.takeLayout with store := some s.params, configAbsent := false, locked := true, unit := .run }
        s.answerCommit w .accepted [0]
      else { s with store := none }.answerCommit w .storeError []

/-! ### RECONFIGURE and RESTART -/

def State.anyLive (s : State) : Bool := allSlots.any fun i => match s.slot i with | some o => o.state.live | none => false
/-- Every panel's activity is IDLE (R192). A braking window that runs on across a restart leaves the activity IDLE (R21) and is
no bar: DESIGN CHOICE (log entry 20). -/
def State.allIdle (s : State) : Bool := allPanels.all fun p => (s.panel p).activity == .idle

def ownerReconfigure (n : StationNo) (s : State) : Answer :=
  if s.unit ≠ .run then refuse s .unitState
  else if !s.isKind n [.bridge] then refuse s .notAuthorised
  else if s.anyLive || !s.allIdle then refuse s .busy
  else accept { s with unit := .setup }

def execReconfigure (n : StationNo) (tag : Byte) (s : State) : Outcome := request n tag (ownerReconfigure n) s

/-- An accepted RESTART takes effect when its reply has been transmitted (R194). -/
def ownerRestart (n : StationNo) (s : State) : Answer :=
  if !s.isKind n [.bridge] then refuse s .notAuthorised
  else if s.writing.isSome then refuse s .busy
  else { st := s, code := .accepted, bytes := [0], restarts := true }

def execRestart (n : StationNo) (tag : Byte) (s : State) : Outcome := request n tag (ownerRestart n) s

end Sys2Proof.Machine
end

