-- ==== Sys2Proof/Machine/ServiceRequests.lean ====
section
/-! DEFINITION. Service (R195 to R198): SERVICE_ENTER and SERVICE_EXIT, JOG, PRESET_POSITION, BYPASS_CLEAT and
RESTORE_CLEAT. -/

namespace Sys2Proof.Machine

def ownerServiceEnter (n : StationNo) (s : State) : Answer :=
  if s.unit ≠ .run then refuse s .unitState
  else if !s.isKind n [.bridge, .cargoControl] then refuse s .notAuthorised
  else if !s.servicePermitted then refuse s .serviceDisabled
  else
    let r := (s.pauseWorking allPanels .service).map fun s => { s with unit := .service, serviceStation := some n }
    accept r.settle

def execServiceEnter (n : StationNo) (tag : Byte) (s : State) : Outcome := request n tag (ownerServiceEnter n) s

def ownerServiceExit (n : StationNo) (s : State) : Answer :=
  if s.unit ≠ .service then refuse s .unitState
  else if s.serviceStation ≠ some n then refuse s .notAuthorised
  else accept (s.endJog.map fun s => { s with unit := .run, serviceStation := none }).settle

def execServiceExit (n : StationNo) (tag : Byte) (s : State) : Outcome := request n tag (ownerServiceExit n) s

/-! ### JOG -/

/-- The panel's activity is IDLE. -/
def State.idlePanel (s : State) (p : PanelNo) : Bool := (s.panel p).activity == .idle

/-- The jog's grant joins the pack's grant set (R135). -/
def State.grantJog (s : State) (p : PanelNo) (d : Nat) : State :=
  match s.jogPack p d with
  | some k => if d = 0 then s else s.modPack k fun x => { x with grants := x.grants ++ [⟨p, d, true⟩] }
  | none => s

/-- Flow is grantable at once, or the coil needs none (check 8 of R196, R125, R135). -/
def State.jogFlow (s : State) (p : PanelNo) (c : Coil) : Bool := coilDemand c == 0 || (s.jogPack p (coilDemand c)).isSome

/-- An inward travel jog of an UNCERTAIN panel first has its count set to 4095 (R197). -/
def State.presetHoming (s : State) (p : PanelNo) (d : Dir) : State :=
  if d = .inward then s.modPanel p fun x => { x with count := if x.certain then x.count else 4095 } else s

/-- A travel jog (R197). -/
def State.jogTravel (s : State) (j : Jog) (d : Dir) : Res :=
  ((({ s with jog := some j }).presetHoming j.panel d).driveTravel j.panel d false true).chopIfTripped j.panel

/-- A cleat jog: a move of the cleat controller with the jog time as its dwell. A move that needs no valve ends the jog at
once (R24, R197). -/
def State.jogCleat (s : State) (j : Jog) (g : GroupNo) (d : CleatDir) (time : Nat) : Res :=
  let s1 := s.startMove j.panel g d time (max s.params.tuning.confirmationWindow time) true
  if (s1.panel j.panel).move.isNone then s1.dropFlow j.panel else .ok { s1 with jog := some j }

/-- Any other jog energises its coil for its time (R197). -/
def State.jogCoil (s : State) (j : Jog) : Res :=
  ⟨(({ s with jog := some j }).energise j.panel j.coil).modPanel j.panel fun x => { x with activity := .jog },
    [.retest (partner j.panel)]⟩

/-- An accepted jog starts (R197). -/
def State.startJog (s : State) (p : PanelNo) (c : Coil) (time : Nat) : Res :=
  let j : Jog := ⟨p, c, s.now + time⟩
  let s := s.grantJog p (coilDemand c)
  match c with
  | .travelOut => s.jogTravel j .outward
  | .travelIn => s.jogTravel j .inward
  | .cleatRel g => s.jogCleat j g .release time
  | .cleatEng g => s.jogCleat j g .engage time
  | _ => s.jogCoil j

def Coil.isCleat : Sys2Proof.Coil → Bool
  | .cleatRel _ | .cleatEng _ => true
  | _ => false

def ownerJog (n : StationNo) (panel coil : Byte) (time : Half) (s : State) : Answer :=
  if s.unit ≠ .service then refuse s .unitState
  else
    match panelArg panel, coilArg coil with
    | some p, some c =>
      if time.toNat < 100 || decide (5000 < time.toNat) then refuse s .badArgument
      else if !s.configured p then refuse s .noSuchPanel
      else if s.serviceStation ≠ some n then refuse s .notAuthorised
      else if (s.panel p).faults ≠ [] then refuse s .panelFaulted
      else if s.jog.isSome || !s.idlePanel p then refuse s .busy
      else if !s.jogConditions p c then refuse s .interlock
      else if !s.jogFlow p c then refuse s .flowBusy
      else if Coil.isCleat c && (s.panel p).move.isSome then refuse s .busy
      else accept (s.startJog p c time.toNat).settle
    | _, _ => refuse s .badArgument

def execJog (n : StationNo) (tag panel coil : Byte) (time : Half) (s : State) : Outcome :=
  request n tag (ownerJog n panel coil time) s

/-! ### PRESET_POSITION, BYPASS_CLEAT, RESTORE_CLEAT -/

/-- Checks 1 to 4 of R198, `argOk` being the request's own limits. -/
def State.onService (s : State) (n : StationNo) (panel : Byte) (argOk : PanelNo → Bool) (act : PanelNo → Answer) : Answer :=
  if s.unit ≠ .service then refuse s .unitState
  else
    match panelArg panel with
    | none => refuse s .badArgument
    | some p =>
      if !argOk p then refuse s .badArgument
      else if !s.configured p then refuse s .noSuchPanel
      else if s.serviceStation ≠ some n then refuse s .notAuthorised
      else act p

def countOk (c : Half) : Bool := decide (-255 ≤ signed c) && decide (signed c ≤ 4095)

def ownerPresetPosition (n : StationNo) (panel : Byte) (count : Half) (s : State) : Answer :=
  s.onService n panel (fun _ => countOk count) fun p =>
    if !s.idlePanel p then refuse s .busy
    else accept (s.modPanel p fun x => { x with count := signed count, certain := true })

def execPresetPosition (n : StationNo) (tag panel : Byte) (count : Half) (s : State) : Outcome :=
  request n tag (ownerPresetPosition n panel count) s

/-- A cleat number is 1 to the panel's cleat count. -/
def State.cleatOk (s : State) (cleat : Byte) (p : PanelNo) : Bool :=
  decide (1 ≤ cleat.toNat) && decide (cleat.toNat ≤ s.layout.cleatCount[p])

def Move.without (m : Move) (k : CleatNo) : Move :=
  { m with participants := m.participants.filter (· != k), confirmed := m.confirmed.filter (· != k) }

/-- The move ends COMPLETE (R28). -/
def State.finishMove (s : State) (p : PanelNo) : Res :=
  match (s.panel p).move with
  | none => .ok s
  | some m =>
    let s := s.clearMove p
    (if m.byJog && m.valve then s.endJogOn p else .ok s).add [.moveEnd p]

/-- BYPASS_CLEAT (R32). -/
def State.bypass (s : State) (p : PanelNo) (k : CleatNo) : Res :=
  let s := s.modCleat p k fun c => { c with state := .bypassed }
  match (s.panel p).move with
  | none => ⟨s, [.jogTest]⟩
  | some m =>
    let s := s.modPanel p fun x => { x with move := some (m.without k) }
    (if (m.without k).allConfirmed then s.finishMove p else .ok s).add [.jogTest]

/-- The cleat an argument names, for a byte within 1 to 12. -/
def cleatNamed (cleat : Byte) : CleatNo := (cleatArg cleat).getD 0

def ownerBypassCleat (n : StationNo) (panel cleat : Byte) (s : State) : Answer :=
  s.onService n panel (s.cleatOk cleat) fun p => accept (s.bypass p (cleatNamed cleat)).settle

def execBypassCleat (n : StationNo) (tag panel cleat : Byte) (s : State) : Outcome :=
  request n tag (ownerBypassCleat n panel cleat) s

/-- RESTORE_CLEAT (R32). -/
def Cleat.restored (c : Cleat) : Cleat := if c.state = .bypassed then { c with state := cleatStateOf c.made } else c

def ownerRestoreCleat (n : StationNo) (panel cleat : Byte) (s : State) : Answer :=
  s.onService n panel (s.cleatOk cleat) fun p =>
    accept ((Res.ok (s.modCleat p (cleatNamed cleat) Cleat.restored)).now [.jogTest]).settle

def execRestoreCleat (n : StationNo) (tag panel cleat : Byte) (s : State) : Outcome :=
  request n tag (ownerRestoreCleat n panel cleat) s

end Sys2Proof.Machine
end

