-- ==== Sys2Proof/Machine/UnitEvents.lean ====
section
/-! DEFINITION. Power-on, the end of START, the restart (R193, R194 and the reset rule of each chapter), and the CAN
port's own events (R177, R179). -/

namespace Sys2Proof.Machine

/-! ### POWER_ON -/

/-- The store a power-on finds: a write that was cut off has left no valid copy (R191). -/
def State.storeFound (s : State) : Option ParamSet := if s.writing.isSome then none else s.store

def Pack.poweredOn (x : Pack) (now : Nat) : Pack := .atPowerOn x.pumpOn x.pressure x.travelBar x.oil now

/-- The unit after a power-on: the levels the field lines show stay, every record is as after power-on (R193, R20, R36, R66,
R68, R93, R120, R137, R139, R141, R154, R155, R158, R161, R162, R171, R179). -/
def State.powerOn (s : State) : State :=
  let ps := s.storeFound.getD .default
  { State.reset with
    pending := s.pending
    now := s.now
    free := s.free
    created := s.created
    params := ps
    layout := ps.layout
    store := s.storeFound
    locked := s.storeFound.isSome
    configAbsent := s.storeFound.isNone
    panels := .ofFn fun p => (s.panel p).poweredOn (ps.layout.configures (hatchOf p))
    windLine := s.windLine
    presence := s.presence
    packA := s.packA.poweredOn s.now
    packB := s.packB.poweredOn s.now
    selector := s.selector
    loopClosedLine := s.loopClosedLine
    supplyMv := s.supplyMv
    cardTemp := s.cardTemp }

def execPowerOn (s : State) : Outcome := .next s.powerOn

/-! ### START_END -/

/-- The card state after a reading (the table of R162); `none` is read as at or above 105 °C. -/
def CardState.next (c : CardState) (t : Option Int) : CardState :=
  match t with
  | none => .overtemp
  | some t =>
    match c with
    | .normal => if 105 ≤ t then .overtemp else if 85 ≤ t then .hot else .normal
    | .hot => if 105 ≤ t then .overtemp else if t < 80 then .normal else .hot
    | .overtemp => if t < 80 then .normal else if t < 95 then .hot else .overtemp

/-- The configured panels of a card. -/
def State.cardPanels (s : State) (k : CardNo) : List PanelNo :=
  allPanels.filter fun p => s.configured p && cardOf p == k

/-- A card's reading is taken (R162, R163). -/
def State.takeCard (s : State) (k : CardNo) (t : Option Int) : Res :=
  let c := s.cards[k]
  let d := c.next t
  let s1 := { s with cards := s.cards.set k d, cardTemp := s.cardTemp.set k t }
  let s2 := if c = .normal ∧ d ≠ .normal then (s.cardPanels k).foldl (fun s p => s.warn p .cardHot) s1 else s1
  let s3 := (s.cardPanels k).foldl (fun s p => s.checkFast p) s2
  if c ≠ .overtemp ∧ d = .overtemp then
    s3.raiseAll (if s.params.tuning.otsdMode = 0 then s.cardPanels k else allPanels.filter s.configured) .cardOvertemp
  else .ok s3

/-- The pack's lines are evaluated at the end of START (R161): PUMP and OVERTEMP and the oil state from the lines. PRESSURE is
not judged here: the standing reading says nothing of how long it has stood, and the cause joins at the next PRESSURE_LOW
(DESIGN CHOICE, log entry 11). The oil
state starts from what the readings taken in START have made it, hysteresis and OVERTEMP included, and not from NORMAL again
(DESIGN CHOICE, log entry 20). -/
def Pack.evaluate (x : Pack) (hot limit : Nat) : Pack :=
  { x.takeOil hot limit x.oil with evaluated := true, pump := !x.pumpOn }

/-- What the end of START after a power-on derives for a panel (R20): CERTAIN if it is seated with HOME made and no creep
edge came (a creep edge that came in START after a power-on leaves it UNCERTAIN: DEDUCED, log entry 20); SENSOR_CONFLICT if
its switches disagree. -/
def State.derivePanel (p : PanelNo) (s : State) : Res :=
  let s := s.modPanel p fun x =>
    { x with certain := x.seat == .seated && x.sw.home && x.creep == 0, cleats := x.cleats.map Cleat.fromSwitch }
  if (s.panel p).sw.conflict then s.raise p .sensorConflict else .ok s

/-- The lines every START reads (R158, R161): the packs, the supply, the service key. `supplyMv` is the last reading that the
supply has held for 50 ms, so the supply is LOW only after 50 ms below 19.0 V. -/
def State.deriveLines (s : State) (key : Bool) : State :=
  let t := s.params.tuning
  { s with
    packA := s.packA.evaluate t.oilHot t.oilOvertemp
    packB := s.packB.evaluate t.oilHot t.oilOvertemp
    supplyLow := s.supplyLow || decide (s.supplyMv < 19000)
    supplyRecovered := s.supplyRecovered && decide (19000 ≤ s.supplyMv)
    servicePermitted := key
    serviceStation := none }

/-- What the end of START after a power-on derives besides (R20, R92, R120, R155, R162). -/
def State.deriveFirst (s : State) : Res :=
  let r := Res.each (allPanels.filter s.configured) State.derivePanel (.ok s)
  let r := r.map fun s =>
    { s with
      windSet := s.windLine
      lineLive := s.presence.mapFinIdx fun i b h => b && s.hatchConfigured ⟨i, h⟩
      loopOpen := !s.loopClosedLine
      loopTaken := true }
  Res.each allCards (fun k s => s.takeCard k s.cardTemp[k]) r

/-- The renewal deadlines of LIVE zones of SHORE stations start again (R121). -/
def State.restartDeadlines (s : State) : State :=
  { s with claims := s.claims.map fun c => c.map fun c =>
      if c.timed && !c.stale then { c with deadline := some s.renewalDeadline } else c }

/-- A kept cleat state that disagrees with its switch (R37). -/
def Cleat.disagrees (c : Cleat) : Bool :=
  match c.state with
  | .engaged => !c.made
  | .released => c.made
  | _ => false

/-- The kept cleat states of a panel are compared with the switches (R37). -/
def State.recheckCleats (s : State) (p : PanelNo) : State :=
  (s.panelCleats p).foldl (fun s k =>
    if (s.panel p).cleats[k].disagrees then (s.modCleat p k fun c => { c with state := .unknown }).warn p .cleatLost
    else s) s

/-- START ends (R193, R194). -/
def State.endStart (s : State) (c : StartCause) (key : Bool) : State :=
  let s := s.deriveLines key
  match c with
  | .powerOn =>
    let s := s.deriveFirst.settle
    { s with unit := if s.store.isSome then .run else .setup }
  | .restart fromSetup =>
    let s := { s.restartDeadlines with unit := if fromSetup then .setup else .run }
    allPanels.foldl (fun s p => s.recheckCleats p) s

/-- START_END has an effect in START only. -/
def execStartEnd (key : Bool) (s : State) : Outcome :=
  .next (match s.unit with | .start c => s.endStart c key | _ => s)

/-! ### The restart -/

/-- A braking window of full length if the travel coils were energised or the window was running; the activity stays IDLE
(R21). -/
def Panel.restarted (x : Panel) (windowEnd : Nat) : Panel :=
  let rolls := x.mode == .driven || x.brakeTimer.isSome
  { x with
    coils := {}, activity := .idle, mode := if rolls then .coasting else .quiet
    brakeTimer := if rolls then some windowEnd else none
    stall := .stopped, stepTimer := none, plan := none, holdoff := none, live := none, purpose := none }

/-- A pack at a restart (R137, R161, R106): latched causes are kept, PUMP, a PRESSURE cause held in AUTO mode and the oil
state are derived again, PRESSURE at the next PRESSURE_LOW (DESIGN CHOICE, log entry 11), and the deglitch of the trip starts
afresh. -/
def Pack.restarted (x : Pack) (latched : Bool) (now : Nat) : Pack :=
  { x with
    deglitchFrom := now
    evaluated := false, pump := false, lowPressure := x.lowPressure && latched, hot := false, trip := false, grants := []
    waiting := [] }

def Station.restarted (x : Station) : Station := { x with watching := false, deadline := none, occupied := false }

/-- The renewal deadline of a LIVE zone is stopped during START (R121). -/
def Claim.stopped (c : Claim) : Claim := { c with deadline := none }

/-- The restart (R21, R37, R66, R68, R93, R121, R137, R154, R158, R161, R179, R194). A store write that is still in
progress is abandoned (log entry 10). A port that is bus-off, as it is when the restart takes effect at a bus-off, stays
bus-off through the restart and rejoins as R179 gives; it does not join anew in START (DESIGN CHOICE, log entry 10). -/
def State.restart (s : State) : State :=
  let t := s.params.tuning
  let s1 : State := s.forPanels fun p s => s.cutMove p
  let s2 : State := { s1 with
    unit := .start (.restart (s.unit == UnitState.setup))
    panels := s1.panels.map fun (x : Panel) => x.restarted (s.now + t.brakingWindow)
    slots := .replicate 24 none
    jog := none
    serviceStation := none
    staleTimer := if s.fresh && !s.noListSource then some (s.now + stalenessPeriod) else none
    claims := s.claims.map (Option.map Claim.stopped)
    packA := s.packA.restarted (t.pressureMode == 0) s.now
    packB := s.packB.restarted (t.pressureMode == 0) s.now
    listHigh := s.highList
    stations := s.stations.map Station.restarted
    supplyLow := s.supplyLow && t.supplyMode == 0
    txQueue := []
    store := s.storeFound
    writing := none }
  s2.setLatch .restarted

/-! ### The port -/

/-- The reply at the head of the queue has been sent (R177, R179): the transmit error count falls by 1, the slot of its
request becomes EMPTY, and after the reply of a RESTART the restart takes effect. -/
def execReplyTransmitted (s : State) : Outcome :=
  .next <|
    match s.txQueue with
    | [] => s
    | r :: rs =>
      let s := { s with txQueue := rs, txErrors := s.txErrors - 1 }
      let s := if r.holdsSlot then s.modStation r.station fun x => { x with occupied := false } else s
      if r.restarts then s.restart else s

/-- The port goes bus-off (R179). A RESTART whose reply is discarded has taken effect, and the restart
leaves the port bus-off (log entry 10). -/
def State.busOffNow (s : State) : State := if s.restartQueued then s.goBusOff.restart else s.goBusOff

def execBusOff (s : State) : Outcome := .next (if s.busOff then s else s.busOffNow)

/-- The port rejoins after 128 occurrences of 11 recessive bits (R179). -/
def execBusRejoin (recessive : Nat) (s : State) : Outcome :=
  .next (if s.busOff && decide (128 ≤ recessive) then { s with busOff := false, txErrors := 0 } else s)

/-- The transmit error count rises by 8; above 255 the port goes bus-off (R179). -/
def execTransmitErrorDetected (s : State) : Outcome :=
  .next <|
    if s.busOff then s
    else
      let s := { s with txErrors := s.txErrors + 8 }
      if s.txErrors > 255 then s.busOffNow else s

end Sys2Proof.Machine
end

