-- ==== Sys2Proof/Machine/FieldEvents.lean ====
section
/-! DEFINITION. The field lines of panels and hatches: switches (R3 to R5), references (R16, R17), the wheel (R10), cleat
switches (R23), wind (R92), presence (R116) and selectors (R141, R142). A filter takes a level that the raw input has
held for its stable time; an event whose level has not been held so long, or that shows the level already taken, changes
nothing. -/

namespace Sys2Proof.Machine

/-! ### Seat and stow -/

/-- The stable time of the seat, lift, stow and cleat switches (R3, R23). -/
def switchStable : Nat := 20
/-- The stable time of HOME and OPEN-END, and of each level of the wheel input (R3, R10). -/
def fastStable : Nat := 2

/-- The seat has left SEATED during an ENGAGE move: the move is cut short (R31), and with it a jog that drove it. -/
def State.engageCut (s : State) (p : PanelNo) : Res :=
  match (s.panel p).move with
  | none => .ok s
  | some m =>
    if m.dir = .engage ∧ (s.panel p).seat ≠ .seated then
      let s := s.cutMove p
      if m.byJog && m.valve then s.endJogOn p else .ok s
    else .ok s

/-- A seat or lift switch has taken a new level (R4, R5): SENSOR_CONFLICT first, then the cleat controller (R31), the
panel's own sequencer, and that of the other panel of the hatch. -/
def State.seatChanged (s : State) (p : PanelNo) (made : Bool) : Res :=
  let r := if made && (s.panel p).sw.conflict then s.raise p .sensorConflict else .ok s
  (r.bind fun s => s.engageCut p).now [.watch p, .moveEnd p, .retest p, .retest (partner p), .jogTest]

def execSeatSwitchChange (p : PanelNo) (w : SeatSwitch) (made : Bool) (held : Nat) (s : State) : Outcome :=
  .next <|
    if held < switchStable || (s.panel p).sw.get w == made then s
    else
      let s := s.modPanel p fun x => { x with sw := x.sw.put made w }
      if s.configured p then (s.seatChanged p made).settle else s

def execStowSwitchChange (p : PanelNo) (made : Bool) (held : Nat) (s : State) : Outcome :=
  .next <|
    if held < switchStable || (s.panel p).sw.stowLocked == made then s
    else
      let s := s.modPanel p fun x => { x with sw := { x.sw with stowLocked := made } }
      if s.configured p then ((Res.ok s).now [.watch p, .jogTest]).settle else s

/-! ### HOME, OPEN-END and the wheel -/

/-- An end switch has taken a new level: a valid make may be a reference (R16, R17). -/
def State.endChanged (s : State) (p : PanelNo) (made : Bool) (t : Int) (d : Dir) : Res :=
  (if made then s.endMake p t d else .ok s).add [.jogTest]

def execHomeMake (p : PanelNo) (made : Bool) (held : Nat) (s : State) : Outcome :=
  .next <|
    if held < fastStable || (s.panel p).sw.home == made then s
    else
      let s := s.modPanel p fun x => { x with sw := { x.sw with home := made } }
      if s.configured p then (s.endChanged p made 0 .inward).settle else s

def execOpenEndMake (p : PanelNo) (made : Bool) (held : Nat) (s : State) : Outcome :=
  .next <|
    if held < fastStable || (s.panel p).sw.openEnd == made then s
    else
      let s := s.modPanel p fun x => { x with sw := { x.sw with openEnd := made } }
      if s.configured p then (s.endChanged p made (s.openCount p) .outward).settle else s

/-- The wheel input was low and has since been high (R10): a low of 2 ms arms it for another edge, and a high of 2 ms after a
low, with the input armed, is an edge, for which it must be armed again. -/
def execWheelEdge (p : PanelNo) (low high : Nat) (s : State) : Outcome :=
  .next <|
    if !s.configured p then s
    else
      let armed := (s.panel p).wheelArmed || decide (fastStable ≤ low)
      if armed && decide (0 < low) && decide (fastStable ≤ high) then
        ((s.modPanel p fun x => { x with wheelArmed := false }).edge p).settle
      else s.modPanel p fun x => { x with wheelArmed := armed }

/-! ### Cleat switches -/

/-- A participant confirms (R25). -/
def State.confirmCleat (s : State) (p : PanelNo) (k : CleatNo) (m : Move) : Res :=
  let ms := s.now - m.start
  let m2 : Move := { m with confirmed := k :: m.confirmed }
  let s := (s.modCleat p k fun c => c.confirm m.dir ms).modPanel p fun x => { x with move := some m2 }
  let s := s.sluggishIf p ms
  if m2.allConfirmed then s.finishMove p else .ok s

/-- A confirmed participant has lost its commanded level (R26). -/
def State.unconfirmCleat (s : State) (p : PanelNo) (k : CleatNo) (m : Move) : State :=
  (s.modCleat p k fun c => { c with state := .unknown }).modPanel p fun x =>
    { x with move := some { m with confirmed := m.confirmed.filter (· != k) } }

/-- A switch change of a cleat taken by the rules of a move (R25, R26) or outside one (R33). -/
def State.cleatChanged (s : State) (p : PanelNo) (k : CleatNo) (made : Bool) : Res :=
  match (s.panel p).move with
  | none => .ok (s.cleatOutside p k made)
  | some m =>
    if !m.participants.contains k then .ok (s.cleatOutside p k made)
    else if m.confirmed.contains k then .ok (if made = m.dir.level then s else s.unconfirmCleat p k m)
    else if made = m.dir.level then s.confirmCleat p k m
    else .ok s

/-- The switch field follows the input in every state; during START after a power-on the state follows it too, and after
a restart it does not (R23, R36, R37). -/
def execCleatSwitchChange (p : PanelNo) (k : CleatNo) (made : Bool) (held : Nat) (s : State) : Outcome :=
  .next <|
    if held < switchStable || (s.panel p).cleats[k].made == made then s
    else
      let s := s.modCleat p k fun c => { c with made := made }
      if !s.cleatConfigured p k then s
      else
        match s.unit with
        | .start .powerOn => s.modCleat p k fun c => { c with state := cleatStateOf made }
        | .start (.restart _) => s
        | _ => ((s.cleatChanged p k made).now [.watch p, .jogTest]).settle

/-! ### Wind, presence, selectors -/

/-- The stable time of the WIND line (R92). -/
def windStable : Nat := 2000

def execWindChange (asserted : Bool) (held : Nat) (s : State) : Outcome :=
  .next <|
    if held < windStable || s.windLine == asserted && s.windSet == asserted then s
    else
      let s1 := { s with windLine := asserted, windSet := asserted }.latchIf (asserted && !s.windSet) .warning
      (Res.mk s1 (retestAll ++ [.jogTest])).settle

/-- The stable time of a PRESENCE line: 500 ms for assertion, 5000 ms for negation (R116). -/
def presenceStable (asserted : Bool) : Nat := if asserted then 500 else 5000

def execPresenceChange (h : HatchNo) (asserted : Bool) (held : Nat) (s : State) : Outcome :=
  .next <|
    if held < presenceStable asserted || s.presence[h] == asserted && s.lineLive[h] == asserted then s
    else
      let s := { s with presence := s.presence.set h asserted }
      if s.hatchConfigured h then { s with lineLive := s.lineLive.set h asserted }.reportZone h else s

/-- The live orders of a hatch whose issuer has lost authority are paused (R142). -/
def State.selectorPause (s : State) (h : HatchNo) : Res :=
  Res.each [portOf h, starboardOf h]
    (fun p s => s.pauseIf (fun o => !s.authority o.issuer h) .authority p) (.ok s)

/-- A selector line (R141, R142). The first level taken after a COMMIT has made the hatch configured is its derivation, and no
change. -/
def execSelectorChange (h : HatchNo) (toLocal : Bool) (held : Nat) (s : State) : Outcome :=
  .next <|
    if held < selectorStable then s
    else if s.hatchConfigured h && !s.hasSelector h then
      { s with selector := s.selector.set h toLocal, selectorDue := s.selectorDue.set h none }
    else if s.selector[h] == toLocal then s
    else
      let s := { s with selector := s.selector.set h toLocal }
      if s.hatchConfigured h then ((s.setLatch .selectorChange).selectorPause h).settle else s

end Sys2Proof.Machine
end

