-- ==== Sys2Proof/Machine/TimerEvents.lean ====
section
/-! DEFINITION. The timers. A timer that does not run does not expire: its event then changes nothing. Taking an expiry
brings the clock at least to the deadline (log entry 1). -/

namespace Sys2Proof.Machine

/-- Dwell expiry (R27): the valve goes off, the move stays in progress; a jog ends. -/
def execCleatDwellExpiry (p : PanelNo) (s : State) : Outcome :=
  .next <|
    match (s.panel p).move with
    | some m =>
      match m.dwell with
      | some d =>
        let s := (s.reach d).valveOff p
        (if m.byJog then s.endJogOn p else .ok s).settle
      | none => s
    | none => s

/-- The window expires (R29): unconfirmed participants become JAMMED and CLEAT_JAM is raised. -/
def execConfirmationWindowExpiry (p : PanelNo) (s : State) : Outcome :=
  .next <|
    match (s.panel p).move with
    | some m =>
      let s := ((s.reach m.window).clearMove p).modPanel p fun x => x.setStates m.unconfirmed .jammed
      let r := if m.byJog && m.valve then s.endJogOn p else .ok s
      (r.bind fun s => s.raise p .cleatJam).settle
    | none => s

/-- BRAKING returns to IDLE (R6). -/
def Activity.afterWindow : Activity → Activity
  | .braking => .idle
  | a => a

/-- The braking window ends (R11). -/
def execBrakingWindowEnd (p : PanelNo) (s : State) : Outcome :=
  .next <|
    match (s.panel p).brakeTimer with
    | some d =>
      let s := (s.reach d).modPanel p fun x =>
        { x with mode := .quiet, activity := x.activity.afterWindow, brakeTimer := none }
      (s.windowEnded p).settle
    | none => s

/-- The stall timer expires (R18). -/
def execStallTimerExpiry (p : PanelNo) (s : State) : Outcome :=
  .next <|
    match (s.panel p).stall with
    | .running d => (((s.reach d).modPanel p fun x => { x with stall := .stopped }).raise p .travelStall).settle
    | _ => s

/-- The creep quiet timer expires (R14). -/
def execCreepQuietExpiry (p : PanelNo) (s : State) : Outcome :=
  .next <|
    match (s.panel p).creepQuiet with
    | some d => (s.reach d).modPanel p fun x => { x with creepQuiet := none }
    | none => s

/-- The fault of a step timer's expiry (R84). -/
def Activity.timeoutFault : Activity → PanelFault
  | .lift => .liftTimeout
  | .lower => .lowerTimeout
  | _ => .stowTimeout

/-- The step timer expires (R84). -/
def execStepTimeout (p : PanelNo) (s : State) : Outcome :=
  .next <|
    match (s.panel p).stepTimer with
    | some d =>
      let k := (s.panel p).activity.timeoutFault
      (((s.reach d).modPanel p fun x => { x with stepTimer := none }).raise p k).settle
    | none => s

/-- Retention ends and the order is retired (R64). -/
def execRetentionExpiry (slot : SlotNo) (s : State) : Outcome :=
  .next <|
    match (s.slot slot).bind (·.retention) with
    | some d => (s.reach d).setSlot slot none
    | none => s

/-- The attitude becomes STALE (R89, R90). -/
def execListStalenessExpiry (s : State) : Outcome :=
  .next <|
    match s.staleTimer with
    | some d =>
      let s1 := { s.reach d with fresh := false, staleTimer := none }
      (Res.mk (s1.deriveListHigh.latchIf (s1.listStale && !s.listStale) .warning) retestAll).settle
    | none => s

/-- A zone's renewal deadline expires (R112). -/
def execZoneDeadlineExpiry (z : ClaimNo) (s : State) : Outcome :=
  .next <|
    match s.claim z with
    | some c =>
      match c.deadline with
      | some d =>
        let s1 := (s.reach d).setClaim z (some { c with stale := true, deadline := none })
        let s2 := (s1.setLatch .zoneStale).latchIf (!s.anyZoneStale) .warning
        s2.reportZone c.hatch
      | none => s
    | none => s

/-- A watching pendant's deadline expires: a LATE violation (R147). -/
def execAttendanceDeadlineExpiry (n : StationNo) (s : State) : Outcome :=
  .next <|
    match (s.station n).deadline with
    | some d => ((s.reach d).violation n).settle
    | none => s

/-- The end of a chop hold-off (R107): the direction coil is energised again without FAST if the pressure is at or below
the trip level, else the hold-off runs again. -/
def State.holdoffEnd (s : State) (p : PanelNo) : Res :=
  let t := s.params.tuning
  if (s.pack (s.travelPack p)).travelBar ≤ t.tripLevel then
    let s1 := s.modPanel p fun x => { x with holdoff := none, stall := .running (s.now + t.stallPeriod) }
    match (s.panel p).lastDir with
    | some d => (s1.energise p d.coil).chopIfTripped p
    | none => .ok s1
  else .ok (s.modPanel p fun x => { x with holdoff := some (s.now + t.chopHoldoff) })

def execChopHoldoffEnd (p : PanelNo) (s : State) : Outcome :=
  .next <|
    match (s.panel p).holdoff with
    | some d => ((s.reach d).holdoffEnd p).settle
    | none => s

/-- A jog's time expires (R197). -/
def execJogTimeExpiry (s : State) : Outcome :=
  .next <|
    match s.jog with
    | some j => (s.reach j.deadline).endJog.settle
    | none => s

end Sys2Proof.Machine
end

