-- ==== Sys2Proof/Machine/ProtectionEvents.lean ====
section
/-! DEFINITION. The protection monitor's events: the loop (R155 to R157), the supply (R158), the packs (R159, R160), the
cards (R162), the coils (R164, R165) and the travel pressure (R106, R107). -/

namespace Sys2Proof.Machine

/-! ### The loop and the supply -/

/-- The output enable is removed, every ACTIVE and AT_HOLD order is paused, and any jog ends (R156, R158). -/
def State.dropEnable (s : State) (r : PauseReason) : Res :=
  ((s.forPanels fun p s => s.panelOff p).pauseWorking allPanels r).bind fun s => s.endJog

/-- The loop opens (R155, R156): open for 10 ms. The first level taken during START sets no latch. -/
def execEstopOpen (held : Nat) (s : State) : Outcome :=
  .next <|
    if held < 10 then s
    else
      let s1 := { s with loopClosedLine := false, loopTaken := true }
      if s.loopOpen then s1
      else ((({ s1 with loopOpen := true }).dropEnable .estop).map fun s => s.setLatch .estopChange).settle

/-- The loop closes (R155, R157): closed for 500 ms. -/
def execEstopClose (held : Nat) (s : State) : Outcome :=
  .next <|
    if held < 500 then s
    else
      let s1 := { s with loopClosedLine := true, loopTaken := true }
      if !s.loopOpen then s1
      else { s1 with loopOpen := false }.latchIf s.loopTaken .estopChange

/-- For how long the supply must have shown a level without interruption before it is compared (R158). -/
def supplyStable : Nat := 50

/-- An undervoltage: below 19.0 V for 50 ms (R158). A dip that has not lasted so long is no reading and changes nothing. -/
def execSupplyUndervoltage (mV held : Nat) (s : State) : Outcome :=
  .next <|
    if held < supplyStable then s
    else if 19000 ≤ mV then { s with supplyMv := mV }
    else
      let s1 := { s with supplyMv := mV, supplyRecovered := false }
      if s.supplyLow then s1
      else ((({ s1 with supplyLow := true }).dropEnable .supply).map fun s => s.setLatch .unitFault).settle

/-- A recovery: at or above 20.0 V for 50 ms (R158). What has lasted so long below 20.0 V is a reading and no recovery.
DESIGN CHOICE (log entry 11): the supply, once found recovered, counts as recovered for CLEAR_FAULTS until the next
undervoltage; a later sag to between 19.0 V and 20.0 V, or a dip of less than 50 ms, does not take the recovery back. -/
def execSupplyRecovery (mV held : Nat) (s : State) : Outcome :=
  .next <|
    if held < supplyStable then s
    else if mV < 20000 then { s with supplyMv := mV }
    else
      { s with supplyMv := mV, supplyRecovered := true, supplyLow := s.supplyLow && s.params.tuning.supplyMode == 0 }

/-! ### The packs -/

def execPumpStop (k : PackId) (s : State) : Outcome :=
  .next (s.changePack k fun x => { x with pumpOn := false, pump := true })

def execPumpRun (k : PackId) (s : State) : Outcome :=
  .next (s.changePack k fun x => { x with pumpOn := true, pump := false })

/-- The pressure, so judged, has stayed where it is for 1000 ms (R159): it is judged only while the pump-running line is
asserted, and only for the time after its first 2000 ms. -/
def Pack.judged (x : Pack) (held running : Nat) : Bool := x.pumpOn && decide (1000 ≤ min held (running - 2000))

/-- Below the threshold for 1000 ms: the cause PRESSURE (R159). -/
def execPressureLow (k : PackId) (bar : Option Nat) (held running : Nat) (s : State) : Outcome :=
  .next <|
    s.changePack k fun x =>
      { x with
        pressure := bar
        lowPressure := x.lowPressure ||
          (x.judged held running && decide (pressureOf bar < s.params.tuning.pressureLow)) }

/-- At or above the threshold for 1000 ms: in AUTO mode the cause PRESSURE is removed (R159). -/
def execPressureRecovery (k : PackId) (bar : Option Nat) (held running : Nat) (s : State) : Outcome :=
  .next <|
    s.changePack k fun x =>
      { x with
        pressure := bar
        lowPressure := x.lowPressure &&
          !(s.params.tuning.pressureMode == 1 && x.judged held running &&
            decide (s.params.tuning.pressureLow ≤ pressureOf bar)) }

/-- A reading of the oil sensor (R160). It acts at once in every state of the unit: one that comes in START before START_END
sets the oil state and OVERTEMP too, and so counts for the hysteresis of 5 degrees when START_END evaluates the pack (DESIGN
CHOICE, log entry 20). -/
def execOilTemperatureChange (k : PackId) (temp : Option Int) (s : State) : Outcome :=
  .next (s.changePack k fun x => x.takeOil s.params.tuning.oilHot s.params.tuning.oilOvertemp temp)

/-! ### The cards and the coils -/

def execCardTemperatureChange (card : CardNo) (temp : Option Int) (s : State) : Outcome :=
  .next (s.takeCard card temp).settle

/-- A coil of a group with no configured cleats is not looked at (R165). -/
def State.coilTested (s : State) (p : PanelNo) (c : Coil) : Bool :=
  match c with
  | .cleatRel g | .cleatEng g => !(s.groupCleats p g).isEmpty
  | _ => true

/-- SOLENOID_SHORT: the driver switches the coil off, and the first coil named is recorded (R164). -/
def execCoilOvercurrent (p : PanelNo) (c : Coil) (mA held : Nat) (s : State) : Outcome :=
  .next <|
    if s.configured p && s.enabled && (s.panel p).coils.get c && decide (4000 < mA) &&
        decide (s.params.tuning.overcurrentDeglitch ≤ held) then
      let s := s.deEnergise p c
      let s := if (s.panel p).faults.contains .solenoidShort then s else s.modPanel p fun x => { x with shortCoil := some c }
      (s.raise p .solenoidShort).settle
    else s

/-- An open load is found on a coil (R165). -/
def State.openLoad (s : State) (p : PanelNo) (c : Coil) : State :=
  let s := s.modPanel p fun x => { x with openFound := joinSet allCoils c x.openFound }
  let s := if (s.panel p).faults.contains .solenoidOpen then s else s.modPanel p fun x => { x with openCoil := some c }
  (s.raise p .solenoidOpen).settle

/-- An energised coil below 80 mA for 100 ms (R165). -/
def execCoilOpenLoad (p : PanelNo) (c : Coil) (mA held : Nat) (s : State) : Outcome :=
  .next <|
    if s.configured p && s.enabled && s.coilTested p c && (s.panel p).coils.get c && decide (mA < 80) &&
        decide (100 ≤ held) then s.openLoad p c
    else s

/-- The off-state test: open above 300 Ω for 100 ms, the load present at 300 Ω or below (R165). -/
def execOffStateOpenLoad (p : PanelNo) (c : Coil) (ohms held : Nat) (s : State) : Outcome :=
  .next <|
    if s.configured p && s.enabled && s.coilTested p c && !(s.panel p).coils.get c &&
        s.params.tuning.offStateTest == 1 then
      if ohms ≤ 300 then s.modPanel p fun x => { x with openFound := x.openFound.filter (· != c) }
      else if 100 ≤ held then s.openLoad p c
      else s
    else s

/-! ### The travel pressure -/

/-- The reading of a travel pressure transducer: a free value outside its measuring range (log entry 12). -/
def State.travelReading (s : State) (bar : Option Nat) : Nat := bar.getD (Config.travelPressureOutOfRange s.free)
/-- The free values are taken one after another. -/
def State.useFree (s : State) (bar : Option Nat) : State := if bar.isNone then { s with free := s.free + 1 } else s

/-- The panels travelling on a pack with their travel coils energised (R106, R107). -/
def State.travellers (s : State) (k : PackId) : List PanelNo :=
  allPanels.filter fun p => (s.panel p).travelling && s.travelPack p == k

/-- For how long a pressure that has stood for `held` ms counts for the deglitch: from the last reset on (R106). -/
def Pack.deglitched (x : Pack) (held now : Nat) : Nat := min held (now - x.deglitchFrom)

/-- Above the trip level for the deglitch: the trip becomes RAISED, and every panel travelling on the pack is chopped
(R106, R107). -/
def execTravelTripRaised (k : PackId) (bar : Option Nat) (held : Nat) (s : State) : Outcome :=
  .next <|
    let b := s.travelReading bar
    let t := s.params.tuning
    let s1 := (s.useFree bar).modPack k fun x => { x with travelBar := b, trip := x.trip && decide (t.tripLevel < b) }
    if (s.pack k).trip = false ∧ t.tripLevel < b ∧ t.tripDeglitch ≤ (s.pack k).deglitched held s.now then
      let s2 := s1.modPack k fun x => { x with trip := true }
      (Res.each (s2.travellers k) (fun p s => s.chopPanel p) (.ok s2)).settle
    else s1

/-- At or below the trip level: the trip is CLEAR at once (R106). The pressure is compared at its events; a SET_PARAM of the
trip level moves no standing trip by itself (DEDUCED from R188, log entry 19). -/
def execTravelTripClear (k : PackId) (bar : Option Nat) (s : State) : Outcome :=
  .next <|
    let b := s.travelReading bar
    (s.useFree bar).modPack k fun x =>
      { x with travelBar := b, trip := x.trip && decide (s.params.tuning.tripLevel < b) }

end Sys2Proof.Machine
end

