-- ==== Sys2Proof/Machine/Frames.lean ====
section
/-! DEFINITION. UNKNOWN_REQUEST: a frame as it came from the bus (R174 to R176). Frames that are no request frames are
ignored; the five checks refuse the others, and a frame that passes them is the request its bytes spell. -/

namespace Sys2Proof.Machine

/-- FRAME_ERROR (check 2 of R176, R168): the station's frame-error count rises by one, saturating at 255, and FRAME_ERRORS
is added. -/
def State.frameError (s : State) (n : StationNo) (tag : Byte) : State :=
  let s := s.modStation n fun x => { x with frameErrors := min 255 (x.frameErrors + 1) }
  ({ s with frameErrorsWarned := true }.setLatch .warning).linkRefuse n tag .frameError

/-- Take a request that a frame spells, exactly as its own row does. -/
def takeSpelled (i : Instr) (s : State) : Outcome :=
  match i with
  | .readUnit n tag page => execReadUnit n tag page s
  | .readPanel n tag panel page => execReadPanel n tag panel page s
  | .readCleat n tag panel cleat => execReadCleat n tag panel cleat s
  | .readOrder n tag id page => execReadOrder n tag id page s
  | .findOrder n tag panel => execFindOrder n tag panel s
  | .readZone n tag id page => execReadZone n tag id page s
  | .readEvents n tag => execReadEvents n tag s
  | .readParam n tag number => execReadParam n tag number s
  | .readStation n tag station => execReadStation n tag station s
  | .createOrder n tag panel kind cls hold pred target => execCreateOrder n tag panel kind cls hold pred target s
  | .hatchOrder n tag hatch kind cls hold pred target => execHatchOrder n tag hatch kind cls hold pred target s
  | .amend n tag id mask hold cls target => execAmend n tag id mask hold cls target s
  | .pause n tag id => execPause n tag id s
  | .resume n tag id => execResume n tag id s
  | .continueOrder n tag id => execContinue n tag id s
  | .cancel n tag id => execCancel n tag id s
  | .adopt n tag id => execAdopt n tag id s
  | .retire n tag id => execRetire n tag id s
  | .claimZone n tag hatch side kind lo hi => execClaimZone n tag hatch side kind lo hi s
  | .renewZone n tag id => execRenewZone n tag id s
  | .releaseZone n tag id => execReleaseZone n tag id s
  | .keepalive n tag => execKeepalive n tag s
  | .stopHatch n tag hatch => execStopHatch n tag hatch s
  | .stopAll n tag => execStopAll n tag s
  | .rainClose n tag => execRainClose n tag s
  | .listReport n tag list trim => execListReport n tag list trim s
  | .clearFaults n tag scope target => execClearFaults n tag scope target s
  | .clearEvents n tag codes => execClearEvents n tag codes s
  | .setParam n tag number value => execSetParam n tag number value s
  | .commit n tag => execCommit n tag s
  | .reconfigure n tag => execReconfigure n tag s
  | .restart n tag => execRestart n tag s
  | .serviceEnter n tag => execServiceEnter n tag s
  | .serviceExit n tag => execServiceExit n tag s
  | .jog n tag panel coil time => execJog n tag panel coil time s
  | .presetPosition n tag panel count => execPresetPosition n tag panel count s
  | .bypassCleat n tag panel cleat => execBypassCleat n tag panel cleat s
  | .restoreCleat n tag panel cleat => execRestoreCleat n tag panel cleat s
  | _ => .next s

/-- A frame taken by the link interface: checks 1 to 4 of R176; check 5 is made for the request it spells. -/
def execUnknownRequest (f : Frame) (s : State) : Outcome :=
  match f.station with
  | none => .next s
  | some n =>
    if s.busOff then .next s
    else if (s.stationKind n).isNone then .next (s.unknownStation n f.tag)
    else if f.dlc ≠ 8 then .next (s.frameError n f.tag)
    else if s.inStart then .next (s.linkRefuse n f.tag .unitState)
    else
      match requestOf n f with
      | none => .next (s.linkRefuse n f.tag .unknownRequest)
      | some i => takeSpelled i s

end Sys2Proof.Machine
end

