-- ==== Sys2Proof/Machine/Dispatch.lean ====
section
/-! DEFINITION. One arm for each command: the meaning it calls. -/

namespace Sys2Proof.Machine

def exec (i : Instr) (s : State) : Host.Outcome State Fault Refusal :=
  match i with
  | .powerOn => Sys2Proof.Machine.execPowerOn s
  | .startEnd serviceKey => Sys2Proof.Machine.execStartEnd serviceKey s
  | .unknownRequest f => Sys2Proof.Machine.execUnknownRequest f s
  | .replyTransmitted => Sys2Proof.Machine.execReplyTransmitted s
  | .busOff => Sys2Proof.Machine.execBusOff s
  | .busRejoin recessive => Sys2Proof.Machine.execBusRejoin recessive s
  | .readUnit n tag page => Sys2Proof.Machine.execReadUnit n tag page s
  | .readPanel n tag panel page => Sys2Proof.Machine.execReadPanel n tag panel page s
  | .readCleat n tag panel cleat => Sys2Proof.Machine.execReadCleat n tag panel cleat s
  | .readOrder n tag id page => Sys2Proof.Machine.execReadOrder n tag id page s
  | .findOrder n tag panel => Sys2Proof.Machine.execFindOrder n tag panel s
  | .readZone n tag id page => Sys2Proof.Machine.execReadZone n tag id page s
  | .readEvents n tag => Sys2Proof.Machine.execReadEvents n tag s
  | .readParam n tag number => Sys2Proof.Machine.execReadParam n tag number s
  | .readStation n tag station => Sys2Proof.Machine.execReadStation n tag station s
  | .createOrder n tag panel kind cls hold pred target => Sys2Proof.Machine.execCreateOrder n tag panel kind cls hold pred target s
  | .hatchOrder n tag hatch kind cls hold pred target => Sys2Proof.Machine.execHatchOrder n tag hatch kind cls hold pred target s
  | .amend n tag id mask hold cls target => Sys2Proof.Machine.execAmend n tag id mask hold cls target s
  | .pause n tag id => Sys2Proof.Machine.execPause n tag id s
  | .resume n tag id => Sys2Proof.Machine.execResume n tag id s
  | .continueOrder n tag id => Sys2Proof.Machine.execContinue n tag id s
  | .cancel n tag id => Sys2Proof.Machine.execCancel n tag id s
  | .adopt n tag id => Sys2Proof.Machine.execAdopt n tag id s
  | .retire n tag id => Sys2Proof.Machine.execRetire n tag id s
  | .claimZone n tag hatch side kind lo hi => Sys2Proof.Machine.execClaimZone n tag hatch side kind lo hi s
  | .renewZone n tag id => Sys2Proof.Machine.execRenewZone n tag id s
  | .releaseZone n tag id => Sys2Proof.Machine.execReleaseZone n tag id s
  | .keepalive n tag => Sys2Proof.Machine.execKeepalive n tag s
  | .stopHatch n tag hatch => Sys2Proof.Machine.execStopHatch n tag hatch s
  | .stopAll n tag => Sys2Proof.Machine.execStopAll n tag s
  | .rainClose n tag => Sys2Proof.Machine.execRainClose n tag s
  | .listReport n tag list trim => Sys2Proof.Machine.execListReport n tag list trim s
  | .clearFaults n tag scope target => Sys2Proof.Machine.execClearFaults n tag scope target s
  | .clearEvents n tag codes => Sys2Proof.Machine.execClearEvents n tag codes s
  | .setParam n tag number value => Sys2Proof.Machine.execSetParam n tag number value s
  | .commit n tag => Sys2Proof.Machine.execCommit n tag s
  | .storeWriteEnd agrees => Sys2Proof.Machine.execStoreWriteEnd agrees s
  | .reconfigure n tag => Sys2Proof.Machine.execReconfigure n tag s
  | .restart n tag => Sys2Proof.Machine.execRestart n tag s
  | .serviceEnter n tag => Sys2Proof.Machine.execServiceEnter n tag s
  | .serviceExit n tag => Sys2Proof.Machine.execServiceExit n tag s
  | .jog n tag panel coil time => Sys2Proof.Machine.execJog n tag panel coil time s
  | .presetPosition n tag panel count => Sys2Proof.Machine.execPresetPosition n tag panel count s
  | .bypassCleat n tag panel cleat => Sys2Proof.Machine.execBypassCleat n tag panel cleat s
  | .restoreCleat n tag panel cleat => Sys2Proof.Machine.execRestoreCleat n tag panel cleat s
  | .seatSwitchChange p w made held => Sys2Proof.Machine.execSeatSwitchChange p w made held s
  | .stowSwitchChange p made held => Sys2Proof.Machine.execStowSwitchChange p made held s
  | .homeMake p made held => Sys2Proof.Machine.execHomeMake p made held s
  | .openEndMake p made held => Sys2Proof.Machine.execOpenEndMake p made held s
  | .wheelEdge p low high => Sys2Proof.Machine.execWheelEdge p low high s
  | .cleatSwitchChange p k made held => Sys2Proof.Machine.execCleatSwitchChange p k made held s
  | .cleatDwellExpiry p => Sys2Proof.Machine.execCleatDwellExpiry p s
  | .confirmationWindowExpiry p => Sys2Proof.Machine.execConfirmationWindowExpiry p s
  | .brakingWindowEnd p => Sys2Proof.Machine.execBrakingWindowEnd p s
  | .stallTimerExpiry p => Sys2Proof.Machine.execStallTimerExpiry p s
  | .creepQuietExpiry p => Sys2Proof.Machine.execCreepQuietExpiry p s
  | .stepTimeout p => Sys2Proof.Machine.execStepTimeout p s
  | .retentionExpiry slot => Sys2Proof.Machine.execRetentionExpiry slot s
  | .listStalenessExpiry => Sys2Proof.Machine.execListStalenessExpiry s
  | .windChange asserted held => Sys2Proof.Machine.execWindChange asserted held s
  | .presenceChange h asserted held => Sys2Proof.Machine.execPresenceChange h asserted held s
  | .zoneDeadlineExpiry z => Sys2Proof.Machine.execZoneDeadlineExpiry z s
  | .selectorChange h toLocal held => Sys2Proof.Machine.execSelectorChange h toLocal held s
  | .attendanceDeadlineExpiry n => Sys2Proof.Machine.execAttendanceDeadlineExpiry n s
  | .estopOpen held => Sys2Proof.Machine.execEstopOpen held s
  | .estopClose held => Sys2Proof.Machine.execEstopClose held s
  | .supplyUndervoltage mV held => Sys2Proof.Machine.execSupplyUndervoltage mV held s
  | .supplyRecovery mV held => Sys2Proof.Machine.execSupplyRecovery mV held s
  | .pumpStop k => Sys2Proof.Machine.execPumpStop k s
  | .pumpRun k => Sys2Proof.Machine.execPumpRun k s
  | .pressureLow k bar held running => Sys2Proof.Machine.execPressureLow k bar held running s
  | .pressureRecovery k bar held running => Sys2Proof.Machine.execPressureRecovery k bar held running s
  | .oilTemperatureChange k temp => Sys2Proof.Machine.execOilTemperatureChange k temp s
  | .cardTemperatureChange card temp => Sys2Proof.Machine.execCardTemperatureChange card temp s
  | .coilOvercurrent p c mA held => Sys2Proof.Machine.execCoilOvercurrent p c mA held s
  | .coilOpenLoad p c mA held => Sys2Proof.Machine.execCoilOpenLoad p c mA held s
  | .offStateOpenLoad p c ohms held => Sys2Proof.Machine.execOffStateOpenLoad p c ohms held s
  | .travelTripRaised k bar held => Sys2Proof.Machine.execTravelTripRaised k bar held s
  | .travelTripClear k bar => Sys2Proof.Machine.execTravelTripClear k bar s
  | .chopHoldoffEnd p => Sys2Proof.Machine.execChopHoldoffEnd p s
  | .jogTimeExpiry => Sys2Proof.Machine.execJogTimeExpiry s
  | .transmitErrorDetected => Sys2Proof.Machine.execTransmitErrorDetected s

end Sys2Proof.Machine
end

