-- ==== Sys2Proof/Safety.lean ====
section
/-! DEFINITION. What counts as a sound state of the unit, and the terms in which statements about commands are written: a
station that may be answered, the state after an answer, what the work that follows a command leaves alone. -/

namespace Sys2Proof.Machine

/-! ### Requests -/

/-- Checks 1, 3 and 5 of R176 let a request of station `n` pass, and the port is on the bus (R179). -/
def State.ready (s : State) (n : StationNo) : Prop :=
  s.busOff = false ∧ (s.stationKind n).isSome = true ∧ s.inStart = false ∧ (s.station n).occupied = false

/-- The slot of station `n` is occupied by its request (R176, R177). -/
def State.taken (s : State) (n : StationNo) : State := s.modStation n fun x => { x with occupied := true }

/-- The reply to the request that occupies the slot of station `n` (R175, R177). -/
def replyTo (n : StationNo) (tag : Byte) (c : ReplyCode) (bytes : List Byte) : Reply :=
  { station := n, code := c, tag := tag, payload := payload bytes, holdsSlot := true, restarts := false }

/-- `s` with the reply to the request that occupies the slot of station `n` queued: nothing but the last reply code of the
station and the transmit queue changes (R175, R177). -/
def State.replied (s : State) (n : StationNo) (tag : Byte) (c : ReplyCode) (bytes : List Byte) : State :=
  s.queueReply (replyTo n tag c bytes)

/-- `s` after a request that had no effect beyond its reply. -/
def State.answered (s : State) (n : StationNo) (tag : Byte) (c : ReplyCode) (bytes : List Byte) : State :=
  (s.taken n).replied n tag c bytes

/-- The station and the tag of a request; `none` for every other command. -/
def requestFrom : Instr → Option (StationNo × Byte)
  | .readUnit n tag _ | .readPanel n tag _ _ | .readCleat n tag _ _ | .readOrder n tag _ _ | .findOrder n tag _
  | .readZone n tag _ _ | .readEvents n tag | .readParam n tag _ | .readStation n tag _
  | .createOrder n tag _ _ _ _ _ _ | .hatchOrder n tag _ _ _ _ _ _ | .amend n tag _ _ _ _ _ | .pause n tag _
  | .resume n tag _ | .continueOrder n tag _ | .cancel n tag _ | .adopt n tag _ | .retire n tag _
  | .claimZone n tag _ _ _ _ _ | .renewZone n tag _ | .releaseZone n tag _ | .keepalive n tag | .stopHatch n tag _
  | .stopAll n tag | .rainClose n tag | .listReport n tag _ _ | .clearFaults n tag _ _ | .clearEvents n tag _
  | .setParam n tag _ _ | .commit n tag | .reconfigure n tag | .restart n tag | .serviceEnter n tag
  | .serviceExit n tag | .jog n tag _ _ _ | .presetPosition n tag _ _ | .bypassCleat n tag _ _
  | .restoreCleat n tag _ _ => some (n, tag)
  | .powerOn | .startEnd _ | .unknownRequest _ | .replyTransmitted | .busOff | .busRejoin _ | .storeWriteEnd _
  | .seatSwitchChange _ _ _ _ | .stowSwitchChange _ _ _ | .homeMake _ _ _ | .openEndMake _ _ _ | .wheelEdge _ _ _
  | .cleatSwitchChange _ _ _ _ | .cleatDwellExpiry _ | .confirmationWindowExpiry _ | .brakingWindowEnd _
  | .stallTimerExpiry _ | .creepQuietExpiry _ | .stepTimeout _ | .retentionExpiry _ | .listStalenessExpiry
  | .windChange _ _ | .presenceChange _ _ _ | .zoneDeadlineExpiry _ | .selectorChange _ _ _
  | .attendanceDeadlineExpiry _ | .estopOpen _ | .estopClose _ | .supplyUndervoltage _ _ | .supplyRecovery _ _
  | .pumpStop _ | .pumpRun _ | .pressureLow _ _ _ _ | .pressureRecovery _ _ _ _ | .oilTemperatureChange _ _
  | .cardTemperatureChange _ _ | .coilOvercurrent _ _ _ _ | .coilOpenLoad _ _ _ _ | .offStateOpenLoad _ _ _ _
  | .travelTripRaised _ _ _ | .travelTripClear _ _ | .chopHoldoffEnd _ | .jogTimeExpiry | .transmitErrorDetected => none

/-! ### What the work that follows a command leaves alone -/

/-- Of a panel's record: its switch levels and those of its cleats, the creep quiet timer and the coils named by
diagnostics. -/
def Panel.lasting (x : Panel) : Panel :=
  { Panel.atPowerOn x.sw (x.cleats.map fun c => ⟨.engaged, c.made, 0, 0⟩) with
    creepQuiet := x.creepQuiet, shortCoil := x.shortCoil, openCoil := x.openCoil, openFound := x.openFound }

/-- Of an order's record: its id, issuer, panel, kind, target, class and hold step. -/
def Order.lasting (o : Order) : Order :=
  { o with state := .pending, step := 1, phase := none, reasons := {}, pausedFrom := none, finishedAt := none
           retention := none, pred := none }

/-- Of a pack's record: its readings, causes, oil state and trip. -/
def Pack.lasting (x : Pack) : Pack := { x with grants := [], waiting := [] }

/-- Of a station's record: its frame-error count, its last reply code and its slot. -/
def Station.lasting (x : Station) : Station := { x with watching := false, reference := 0, deadline := none }

/-- Everything but what moves when orders move on: the motion of the panels with their faults, warnings and counts, the
progress of the orders, the flow, the attendance watches, the service jog and the event latches. -/
def State.lasting (s : State) : State :=
  { s with
    panels := s.panels.map Panel.lasting
    slots := s.slots.map (Option.map Order.lasting)
    packA := s.packA.lasting
    packB := s.packB.lasting
    stations := s.stations.map Station.lasting
    jog := none
    latches := [] }

/-- What lasts, the link's own records apart: neither the transmit queue nor a station's last reply code and slot. -/
def State.records (s : State) : State :=
  { s.lasting with
    txQueue := []
    stations := s.stations.map fun x => { x.lasting with lastReply := 0, occupied := false } }

/-! ### The tables of the rules, as the statements read them -/

/-- Every configured cleat of the panel is RELEASED or BYPASSED (R72). -/
def State.uncleated (s : State) (p : PanelNo) : Prop :=
  ∀ k ∈ s.panelCleats p, (s.panel p).cleats[k].state = .released ∨ (s.panel p).cleats[k].state = .bypassed

/-- The completion conditions (the table of R69). -/
def State.stepDone (s : State) (p : PanelNo) (o : Order) : StepKind → Prop
  | .uncleat g => ∀ k ∈ s.groupCleats p g, (s.panel p).cleats[k].state = .released ∨ (s.panel p).cleats[k].state = .bypassed
  | .cleat g => ∀ k ∈ s.groupCleats p g, (s.panel p).cleats[k].state = .engaged ∨ (s.panel p).cleats[k].state = .bypassed
  | .lift => (s.panel p).seat = .lifted
  | .lower => (s.panel p).seat = .seated
  | .lockStow => (s.panel p).sw.stowLocked = true
  | .unlockStow => (s.panel p).sw.stowLocked = false
  | .travel => (s.panel p).certain = true ∧ |(s.panel p).count - o.target.getD 0| ≤ s.params.tuning.positionTolerance

/-- The hard preconditions (the table of R72). -/
def State.stepAllowed (s : State) (p : PanelNo) (o : Order) : StepKind → Prop
  | .lift => s.uncleated p
  | .travel => s.uncleated p ∧ (s.panel p).seat = .lifted ∧ (s.panel p).sw.stowLocked = false ∧
      (o.target = some 0 ∨ (s.panel p).certain = true)
  | .cleat _ => (s.panel p).seat = .seated
  | .uncleat _ | .lower | .lockStow | .unlockStow => True

/-- A LIVE or STALE zone on the panel's side of its hatch overlaps the interval from `a` up to `b` (R104); a line zone spans
the length of the panel (R117). -/
def State.zoneMeets (s : State) (p : PanelNo) (a b : Int) : Prop :=
  (∃ z c, s.claim z = some c ∧ c.hatch = hatchOf p ∧ (c.side = .both ∨ c.side = if isPort p then .port else .starboard) ∧
    a < c.hi ∧ c.lo < b) ∨
  (s.lineLive[hatchOf p] = true ∧ a < s.length p ∧ 0 < b)

/-- The region entered by a travel of the panel to `t` in the direction `d`, with the allowance `e`, meets a zone (the table
of R104). -/
def State.entersZone (s : State) (p : PanelNo) (t : Int) (d : Dir) (e : Nat) : Prop :=
  match d with
  | .inward => if (s.panel p).certain = true then s.zoneMeets p (t - e) (s.panel p).count else s.zoneMeets p 0 8192
  | .outward => s.zoneMeets p ((s.panel p).count + s.length p) (t + s.length p + e)

/-- A travel of the panel to `t` has the direction `d` (R94). -/
def State.heads (s : State) (p : PanelNo) (t : Int) : Dir → Prop
  | .inward => (s.panel p).certain = false ∨ t < (s.panel p).count
  | .outward => (s.panel p).certain = true ∧ (s.panel p).count < t

/-- The LIST condition (R90, R91). -/
def State.listBars (s : State) : Prop :=
  s.layout.listSource ≠ 1 ∧
    (s.fresh = false ∨ (s.params.tuning.listLimit : Int) < |s.list| ∨ (s.params.tuning.trimLimit : Int) < |s.trim|)

/-- The LAP condition of a step (R74). -/
def State.lapBars (s : State) (p : PanelNo) (k : StepKind) : Prop :=
  k = .lift ∧ s.isLap p = false ∧ ((s.panel (partner p)).seat ≠ .lifted ∨ (s.panel (partner p)).coils.liftDown = true) ∨
  k = .lower ∧ s.isLap p = true ∧ ((s.panel (partner p)).seat ≠ .seated ∨ (s.panel (partner p)).coils.liftUp = true)

/-- `r` names exactly the interlock conditions that hold a waiting step (the table of R73). -/
def State.heldBy (s : State) (p : PanelNo) (o : Order) (k : StepKind) (r : Reasons) : Prop :=
  (r.lap = true ↔ s.lapBars p k) ∧
  (r.zone = true ↔ k = .travel ∧
    ∃ d, s.heads p (o.target.getD 0) d ∧ s.entersZone p (o.target.getD 0) d (s.allowance p d)) ∧
  (r.list = true ↔ k = .travel ∧ s.listBars) ∧
  (r.wind = true ↔ s.windSet = true ∧ (k = .lift ∨ k = .travel ∧ s.heads p (o.target.getD 0) .outward))

/-- `r` names exactly the conditions that stop a RUNNING travel (R82, R90, R92, R105). -/
def State.haltedBy (s : State) (p : PanelNo) (pl : Plan) (r : Reasons) : Prop :=
  r.lap = false ∧ (r.zone = true ↔ s.entersZone p pl.t pl.dir pl.aEff) ∧ (r.list = true ↔ s.listBars) ∧
    (r.wind = true ↔ s.windSet = true ∧ pl.dir = .outward)

/-- The condition of a fault kind is gone (the table of R166). -/
def State.conditionGone (s : State) (p : PanelNo) : PanelFault → Prop
  | .solenoidShort => ∀ c, (s.panel p).shortCoil = some c → (s.panel p).coils.get c = false
  | .solenoidOpen => ∀ c, (s.panel p).openCoil = some c →
      if s.params.tuning.offStateTest = 1 then c ∉ (s.panel p).openFound else (s.panel p).coils.get c = false
  | .cleatJam => (s.panel p).move = none
  | .liftTimeout => (s.panel p).coils.liftUp = false
  | .lowerTimeout => (s.panel p).coils.liftDown = false
  | .stowTimeout => (s.panel p).coils.stowLock = false ∧ (s.panel p).coils.stowUnlock = false
  | .travelStall | .overtravel => (s.panel p).brakeTimer = none
  | .travelOverload => (s.panel p).brakeTimer = none ∧ (s.pack ((s.panel p).overloadPack.getD .a)).trip = false
  | .runaway => (s.panel p).creepQuiet = none
  | .positionRange => (s.panel p).activity = .idle
  | .sensorConflict => ¬ (((s.panel p).sw.seated1 = true ∨ (s.panel p).sw.seated2 = true) ∧
      ((s.panel p).sw.lifted1 = true ∨ (s.panel p).sw.lifted2 = true))
  | .cardOvertemp =>
      if s.params.tuning.otsdMode = 0 then s.cards[cardOf p] ≠ .overtemp else ∀ c : CardNo, s.cards[c] ≠ .overtemp
  | .attendance => True

/-- The card state after a reading (the table of R162); an unreadable sensor counts as at 105 °C. -/
def cardAfter (c : CardState) (r : Option Int) : CardState :=
  if 105 ≤ r.getD 105 then .overtemp
  else
    match c with
    | .normal => if 85 ≤ r.getD 105 then .hot else .normal
    | .hot => if r.getD 105 < 80 then .normal else .hot
    | .overtemp => if r.getD 105 < 80 then .normal else if r.getD 105 < 95 then .hot else .overtemp

/-- The step that commands a move of a group (the table of R69). -/
def CleatDir.step (d : CleatDir) (g : GroupNo) : StepKind :=
  match d with
  | .release => .uncleat g
  | .engage => .cleat g

/-- The reported status, as READ_PANEL codes it (the table of R9, R183). -/
def State.statusCode (s : State) (p : PanelNo) : Nat :=
  let x := s.panel p
  let tol := s.params.tuning.positionTolerance
  if x.faults ≠ [] then 1
  else if x.activity ≠ .idle then 2
  else if x.seat = .seated ∧ x.certain = true ∧ |x.count| ≤ tol ∧ (∀ k ∈ s.panelCleats p, x.cleats[k].state = .engaged) then 3
  else if x.seat = .seated then 4
  else if x.seat = .between ∨ x.certain = false then 5
  else if |x.count| ≤ tol then 6
  else if |x.count - s.openCount p| ≤ tol ∧ x.sw.stowLocked = true then 7
  else 8

/-! ### The attendance watch -/

/-- Station `n` is an attended PENDANT: the issuer of an order that is ACTIVE or AT_HOLD (R144). -/
def State.attends (s : State) (n : StationNo) : Prop :=
  s.stationKind n = some .pendant ∧ ∃ i o, s.slot i = some o ∧ o.issuer = n ∧ o.state.working = true

/-- Station `n`, if it is a PENDANT, is watched in `t`: by a watch that has started at this moment of `s`, or that ran before
and runs on unchanged (R145). -/
def State.watched (s : State) (n : StationNo) (t : State) : Prop :=
  s.stationKind n = some .pendant → (t.station n).watching = true ∧
    ((s.station n).watching = false → (t.station n).reference = s.now ∧
      (t.station n).deadline = some (s.now + s.params.tuning.attendanceUpper)) ∧
    ((s.station n).watching = true → (t.station n).reference = (s.station n).reference ∧
      (t.station n).deadline = (s.station n).deadline)

/-- The waiting list after the request `v` on it has been given the class `c`: it stands ahead of every other NORMAL entry if
`c` is RAIN and of every entry of class `c` with a lower arbitration number, and the others keep their order (R128). -/
def rekeyed (v : Waiter) (c : OrderClass) (ws : List Waiter) : List Waiter :=
  let others := ws.filter fun w => decide (w.panel ≠ v.panel)
  let yields (w : Waiter) : Bool := decide (c = .rain ∧ w.cls = .normal ∨ c = w.cls ∧ w.arb < v.arb)
  others.takeWhile (fun w => !yields w) ++ { v with cls := c } :: others.dropWhile fun w => !yields w

/-! ### Quiet states -/

/-- No sequencer serves an order: no order is ACTIVE at its panel (R68). -/
def State.noneServed (s : State) : Prop := ∀ p, s.served p = none

/-- The panel has no live order and no jog. -/
def State.still (s : State) (p : PanelNo) : Prop := (s.panel p).live = none ∧ ∀ j, s.jog = some j → j.panel ≠ p

/-- Every ACTIVE or AT_HOLD order of `s` that satisfies `f` stands PAUSED in `t`, for the reason `r`, from the state it had
and at the step it had reached (R59). -/
def Paused (r : PauseReason) (f : Order → Prop) (s t : State) : Prop :=
  ∀ i o, s.slot i = some o → o.state.working = true → f o →
    ∃ o', t.slot i = some o' ∧ o'.state = .paused r ∧ o'.pausedFrom = o.state.pausedFrom ∧ o'.step = o.step ∧
      o'.phase = none ∧ o'.reasons = {}

/-! ### Invariants -/

/-- Every coil is off while the output enable is removed (R155) and in START (R21, R68, R193), where no order is live, no
travel is running and no cleat move is in progress (R37). -/
def State.coilsFollowEnable (s : State) : Prop :=
  (∀ p, s.enabled = false ∨ s.inStart = true → (s.panel p).coils = {}) ∧
  (s.inStart = true → ∀ p, (s.panel p).live = none ∧ (s.panel p).holdoff = none ∧ (s.panel p).mode ≠ .driven ∧
    (s.panel p).move = none)

/-- Every parameter of a set lies within its range (R187 to R189). -/
def ParamSet.inRange (ps : ParamSet) : Prop := ∀ i : ParamId, i.range.1 ≤ ps.get i ∧ ps.get i ≤ i.range.2

/-- The held set, the layout in effect and the set in the store lie within the ranges of their parameters. -/
def State.paramsInRange (s : State) : Prop :=
  s.params.inRange ∧ (ParamSet.mk s.layout s.params.tuning).inRange ∧ ∀ ps, s.store = some ps → ps.inRange

/-- The counters and counts of a panel lie within the ranges its record gives them (before R1, R14, R15, R16, R25). -/
def Panel.inRange (x : Panel) : Prop :=
  -255 ≤ x.count ∧ x.count ≤ 4095 ∧ x.creep ≤ 255 ∧ x.chop ≤ 255 ∧ (∀ i, x.slip = some i → -255 ≤ i ∧ i ≤ 255) ∧
    ∀ k : CleatNo, x.cleats[k].last ≤ 65535 ∧ x.cleats[k].greatest ≤ 65535

/-- Every count of the unit lies within its range. -/
def State.countsInRange (s : State) : Prop :=
  (∀ p, (s.panel p).inRange) ∧ (∀ n, (s.station n).frameErrors ≤ 255) ∧ -250 ≤ s.list ∧ s.list ≤ 250 ∧
    -250 ≤ s.trim ∧ s.trim ≤ 250

/-- An order's id is 1 to 255 (R40), it has a finished time and a retention timer exactly when it is finished (R41), and a
state to return to exactly when it is PAUSED (R38). -/
def Order.consistent (o : Order) : Prop :=
  1 ≤ o.id ∧ o.id ≤ 255 ∧ (o.state.live = true ↔ o.finishedAt = none) ∧ (o.state.live = true ↔ o.retention = none) ∧
    (o.state.isPaused = true ↔ o.pausedFrom.isSome = true)

/-- The order table and the live order fields of the panels agree (R8, R39 to R41), and a live order is on a configured panel
(R43). No order is live in START and SETUP (R66, R192), the only state in which a store write is in progress (R191), and
none is ACTIVE or AT_HOLD in SERVICE (R195), the only state in which a jog is in progress, on a configured panel (R196). -/
def State.linked (s : State) : Prop :=
  (∀ i j a b, s.slot i = some a → s.slot j = some b → a.id = b.id → i = j) ∧
  (∀ i o, s.slot i = some o → o.consistent) ∧
  (∀ p id, (s.panel p).live = some id → ∃ i o, s.slot i = some o ∧ o.id = id ∧ o.panel = p ∧ o.state.live = true) ∧
  (∀ i o, s.slot i = some o → o.state.live = true → (s.panel o.panel).live = some o.id) ∧
  (s.unit ≠ .run → s.unit ≠ .service → ∀ i o, s.slot i = some o → o.state.live = false) ∧
  (s.unit = .service → ∀ i o, s.slot i = some o → o.state.working = false) ∧
  (∀ i o, s.slot i = some o → o.state.live = true → s.configured o.panel = true) ∧
  (∀ j, s.jog = some j → s.unit = .service ∧ s.configured j.panel = true) ∧
  (s.writing.isSome = true → s.unit = .setup) ∧ 1 ≤ s.idCounter ∧ s.idCounter ≤ 255

/-- A hold-off is part of a running travel, and a running travel has no braking window (R11, R107). A panel that holds a
fault is out of service: its coils are off, its travel is not running, it has no live order and no jog (R166). -/
def State.faultedStand (s : State) : Prop :=
  (∀ p, (s.panel p).holdoff.isSome = true → (s.panel p).mode = .driven) ∧
  (∀ p, (s.panel p).mode = .driven → (s.panel p).brakeTimer = none) ∧
  (∀ p, (s.panel p).faults ≠ [] →
    (s.panel p).coils = {} ∧ (s.panel p).live = none ∧ (s.panel p).mode ≠ .driven ∧ ∀ j, s.jog = some j → j.panel ≠ p)

/-! ### The laws of the coils and of the flow -/

/-- A step of kind `k` of the panel is RUNNING. -/
def State.stepRuns (s : State) (p : PanelNo) (k : StepKind) : Prop :=
  ∃ i o, s.served p = some (i, o, k) ∧ o.phase = some .running

/-- A jog of the coil `c` of the panel is in progress. -/
def State.jogRuns (s : State) (p : PanelNo) (c : Coil) : Prop := ∃ j, s.jog = some j ∧ j.panel = p ∧ j.coil = c

/-- The travel coils are on, or the travel runs on through a hold-off. -/
def Panel.driving (x : Panel) : Prop := x.coils.travelOut = true ∨ x.coils.travelIn = true ∨ x.mode = .driven

/-- Each coil that a law of R72 or R74 speaks of belongs to a RUNNING step of its kind or to a jog of it, and a CLEAT ENGAGE
coil to a move of its group as well (R78, R80, R197). -/
def State.coilsOwned (s : State) : Prop :=
  ∀ p,
    ((s.panel p).coils.liftUp = true → s.stepRuns p .lift ∨ s.jogRuns p .liftUp) ∧
    ((s.panel p).coils.liftDown = true → s.stepRuns p .lower ∨ s.jogRuns p .liftDown) ∧
    ((s.panel p).driving →
      (s.panel p).mode = .driven ∧ (s.stepRuns p .travel ∨ s.jogRuns p .travelOut ∨ s.jogRuns p .travelIn)) ∧
    ∀ g, (s.panel p).coils.get (.cleatEng g) = true → ∃ m, (s.panel p).move = some m ∧ m.group = g ∧ m.dir = .engage ∧
      if m.byJog then s.jogRuns p (.cleatEng g) else s.stepRuns p (.cleat g)

/-- The laws of R72: LIFT_UP and travel only while every configured cleat is RELEASED or BYPASSED, travel only with the seat
LIFTED and the stow UNLOCKED, CLEAT ENGAGE only while SEATED. -/
def State.panelLaws (s : State) : Prop :=
  ∀ p,
    ((s.panel p).coils.liftUp = true ∨ (s.panel p).driving → s.uncleated p) ∧
    ((s.panel p).driving → (s.panel p).seat = .lifted ∧ (s.panel p).sw.stowLocked = false) ∧
    ∀ g, (s.panel p).coils.get (.cleatEng g) = true → (s.panel p).seat = .seated

/-- The laws of R74: LIFT_UP of the under panel only while the lap panel is LIFTED with its LIFT_DOWN off, LIFT_DOWN of the
lap panel only while the under panel is SEATED with its LIFT_UP off. -/
def State.lapLaws (s : State) : Prop :=
  ∀ p,
    ((s.panel p).coils.liftUp = true → s.isLap p = false →
      (s.panel (partner p)).seat = .lifted ∧ (s.panel (partner p)).coils.liftDown = false) ∧
    ((s.panel p).coils.liftDown = true → s.isLap p = true →
      (s.panel (partner p)).seat = .seated ∧ (s.panel (partner p)).coils.liftUp = false)

/-- The laws of the coils, with the owners of the coils. -/
def State.coilsObey (s : State) : Prop := s.coilsOwned ∧ s.panelLaws ∧ s.lapLaws

/-- The panels that an arbiter's grant set and waiting list name, each as often as it occurs. -/
def Pack.panels (x : Pack) : List PanelNo := x.grants.map Grant.panel ++ x.waiting.map Waiter.panel

/-- The laws of R124: each grant set within the configured capacity, and at most one grant or waiting request of a panel
across both packs. Each belongs to a step that has been begun, or to the jog in progress. -/
def State.flowLaws (s : State) : Prop :=
  (∀ k, (s.pack k).granted ≤ s.capacity k) ∧ (s.packA.panels ++ s.packB.panels).Nodup ∧
  (∀ k, ∀ g ∈ (s.pack k).grants,
    if g.jog then ∃ j, s.jog = some j ∧ j.panel = g.panel
    else ∃ i o q, s.served g.panel = some (i, o, q) ∧ o.phase ≠ none) ∧
  ∀ k, ∀ w ∈ (s.pack k).waiting, ∃ i o q, s.served w.panel = some (i, o, q) ∧ o.phase ≠ none

/-- The law of the attendance watches: a watch runs, and its deadline timer with it, exactly for each attended PENDANT (R144,
R145, R147). A PENDANT's live orders are on its own hatch, the only one over which it may have authority (R141). -/
def State.watchLaws (s : State) : Prop :=
  (∀ n, ((s.station n).watching = true ↔ s.attends n) ∧ (s.station n).deadline.isSome = (s.station n).watching) ∧
  ∀ i o, s.slot i = some o → o.state.live = true → s.stationKind o.issuer = some .pendant →
    s.pendantHatch o.issuer = some (hatchOf o.panel)

end Sys2Proof.Machine
end

