-- ==== Sys2Proof/Certificates/Slice0/Obligations.lean ====
section
/-! DEFINITION. The statements about the model: what each command does and leaves alone, what the shared operations
compute, and what every step keeps. -/

open Sys2Proof Sys2Proof.Machine

/-! ### Steps, power-on and START -/

/-- The queue is first in, first out: a step takes the command at its front and runs it on the rest. On an empty queue a
millisecond passes, which is the model's choice (log entry 1). -/
def Obligations.StepTakesTheFront : Prop :=
  ∀ s : State,
    (∀ c cs, s.pending = c :: cs → step s = exec c { s with pending := cs }) ∧
    (s.pending = [] → step s = .next { s with now := s.now + 1 })

/-- What the records hold right after power-on without a valid store: what the manual gives them (R193 and the reset rule of
each chapter), and 0 for the attendance reference of a station, to which the manual gives no value (log entry 3). -/
def Obligations.ResetRecords : Prop :=
  let s := State.reset
  s.unit = .start .powerOn ∧ s.params = ParamSet.default ∧ s.layout = s.params.layout ∧ s.locked = false ∧
  s.configAbsent = true ∧ s.serviceStation = none ∧ s.latches = [.powerUp] ∧ s.attn = true ∧
  (∀ i, s.slot i = none) ∧ s.idCounter = 1 ∧ s.list = 0 ∧ s.trim = 0 ∧ s.fresh = false ∧ s.staleTimer = none ∧
  s.windSet = false ∧ (∀ z, s.claim z = none) ∧ s.loopOpen = true ∧ s.supplyLow = false ∧ s.txQueue = [] ∧
  (∀ n, s.station n = ⟨false, 0, none, 0, 0, false⟩) ∧
  (∀ k, (s.pack k).up = false ∧ (s.pack k).grants = [] ∧ (s.pack k).waiting = [] ∧ (s.pack k).hot = false ∧
    (s.pack k).trip = false) ∧
  ∀ p, (s.panel p).count = 0 ∧ (s.panel p).activity = .idle ∧ (s.panel p).faults = [] ∧ (s.panel p).warnings = [] ∧
    (s.panel p).live = none ∧ (s.panel p).coils = {} ∧ (s.panel p).mode = .quiet ∧ (s.panel p).lastDir = none ∧
    (s.panel p).creep = 0 ∧ (s.panel p).chop = 0 ∧ (s.panel p).slip = none ∧ (s.panel p).move = none

/-- POWER_ON: START is entered with the stored set, or with the defaults when no valid copy is there (a write that was cut
off leaves none); every record is as after power-on, each cleat is set up from its switch, and only POWER_UP is latched. A
configured panel whose SEATED and LIFTED switches are made together holds SENSOR_CONFLICT and no other fault: that it does so
from the POWER_ON itself, and not only once the stable times have run in START, is the model's own (DEDUCED, log entry 11).
The levels of the switch lines outlive the power-on (log entry 2), and the attendance reference of a station is 0 (log
entry 3). -/
def Obligations.PowerOnStartsAfresh : Prop :=
  ∀ s : State, ∃ t, exec .powerOn s = .next t ∧
    t.store = (if s.writing.isSome then none else s.store) ∧ t.params = t.store.getD ParamSet.default ∧
    t.layout = t.params.layout ∧ t.locked = t.store.isSome ∧ t.configAbsent = t.store.isNone ∧
    t.unit = .start .powerOn ∧ t.latches = [.powerUp] ∧ (∀ i, t.slot i = none) ∧ t.idCounter = 1 ∧
    (∀ z, t.claim z = none) ∧ t.fresh = false ∧ t.list = 0 ∧ t.trim = 0 ∧ t.listHigh = false ∧ t.txQueue = [] ∧
    t.loopOpen = true ∧ t.supplyLow = false ∧ (∀ n, t.station n = ⟨false, 0, none, 0, 0, false⟩) ∧
    (∀ k, (t.pack k).anyCause = false ∧ (t.pack k).grants = [] ∧ (t.pack k).waiting = [] ∧ (t.pack k).trip = false) ∧
    ∀ p, (t.panel p).sw = (s.panel p).sw ∧ (t.panel p).count = 0 ∧
      (t.panel p).faults = (if t.configured p = true ∧
        ((s.panel p).sw.seated1 = true ∨ (s.panel p).sw.seated2 = true) ∧
        ((s.panel p).sw.lifted1 = true ∨ (s.panel p).sw.lifted2 = true) then [.sensorConflict] else []) ∧
      (t.panel p).warnings = [] ∧ (t.panel p).coils = {} ∧ (t.panel p).activity = .idle ∧ (t.panel p).live = none ∧
      (t.panel p).mode = .quiet ∧ (t.panel p).slip = none ∧ (t.panel p).creep = 0 ∧
      ∀ k : CleatNo, (t.panel p).cleats[k] =
        ⟨if (s.panel p).cleats[k].made then .engaged else .released, (s.panel p).cleats[k].made, 0, 0⟩

/-- START_END. After a power-on the unit enters RUN with a valid store and SETUP without; the loop, the wind and the presence
lines give their first states and no latch is set. A configured panel is CERTAIN if its seat is SEATED with HOME made, and
UNCERTAIN otherwise, or if a creep edge came in START (log entry 20); its cleats are set up from their switches (no cleat
move is in progress on it in START: State.coilsFollowEnable); it holds SENSOR_CONFLICT if its switches disagree. Each card
takes its first state from its temperature. After a restart the unit enters SETUP if it was there and RUN otherwise, the
deadlines of LIVE zones of SHORE stations start again, and a kept cleat state that its switch contradicts becomes UNKNOWN
with CLEAT_LOST. Both times the service-permitted latch is sampled, each pack is evaluated, its oil from the state that the
readings in START have given it (log entry 20), its PRESSURE cause not judged (DESIGN CHOICE, log entry 11), and the supply
is LOW if it was or if the last reading that it held for 50 ms lies below 19.0 V, after a restart in AUTO mode too (DEDUCED,
log entry 11). That the first states are those which the lines show at START_END is log entry 2 (DEDUCED). Outside START a
START_END changes nothing (DEDUCED, log entry 17). -/
def Obligations.StartEnds : Prop :=
  ∀ (s : State) (key : Bool),
    let tun := s.params.tuning
    let evaluated (t : State) : Prop :=
      t.supplyLow = (s.supplyLow || decide (s.supplyMv < 19000)) ∧
      ∀ k, (t.pack k).evaluated = true ∧ (t.pack k).pump = (!(s.pack k).pumpOn) ∧
        (t.pack k).lowPressure = (s.pack k).lowPressure ∧
        (∀ c : Int, (s.pack k).oil = some c →
          ((tun.oilHot : Int) ≤ c → (t.pack k).hot = true) ∧ (c < tun.oilHot - 5 → (t.pack k).hot = false) ∧
          ((tun.oilHot : Int) - 5 ≤ c → c < tun.oilHot → (t.pack k).hot = (s.pack k).hot) ∧
          (t.pack k).overtemp = ((s.pack k).overtemp || decide ((tun.oilOvertemp : Int) ≤ c))) ∧
        ((s.pack k).oil = none → (t.pack k).hot = true ∧ (t.pack k).overtemp = true)
    (s.unit = .start .powerOn → ∃ t, exec (.startEnd key) s = .next t ∧
      t.unit = (if s.store.isSome then .run else .setup) ∧ t.servicePermitted = key ∧ t.serviceStation = none ∧
      t.latches = s.latches ∧ t.loopOpen = !s.loopClosedLine ∧ t.windSet = s.windLine ∧
      (∀ h : HatchNo, t.lineLive[h] = (s.presence[h] && s.hatchConfigured h)) ∧
      evaluated t ∧ t.params = s.params ∧ t.layout = s.layout ∧ t.store = s.store ∧
      (∀ k : CardNo, t.cards[k] = cardAfter s.cards[k] s.cardTemp[k]) ∧
      (s.linked → ∀ p, s.configured p = true →
        ((t.panel p).certain = true ↔ (s.panel p).seat = .seated ∧ (s.panel p).sw.home = true ∧ (s.panel p).creep = 0) ∧
        ((s.panel p).move = none → ∀ k : CleatNo, (t.panel p).cleats[k] =
          ⟨if (s.panel p).cleats[k].made then .engaged else .released, (s.panel p).cleats[k].made, 0, 0⟩) ∧
        (((s.panel p).sw.seated1 = true ∨ (s.panel p).sw.seated2 = true) ∧
          ((s.panel p).sw.lifted1 = true ∨ (s.panel p).sw.lifted2 = true) → .sensorConflict ∈ (t.panel p).faults))) ∧
    (∀ fromSetup, s.unit = .start (.restart fromSetup) → ∃ t, exec (.startEnd key) s = .next t ∧
      t.unit = (if fromSetup then .setup else .run) ∧ t.servicePermitted = key ∧ t.loopOpen = s.loopOpen ∧
      t.slots = s.slots ∧ t.lineLive = s.lineLive ∧ evaluated t ∧
      (∀ z, t.claim z = (s.claim z).map fun c =>
        if c.timed && !c.stale then { c with deadline := some (s.now + 1000 * s.params.tuning.zoneRenewal) } else c) ∧
      (∀ p (k : CleatNo), (t.panel p).cleats[k].state =
        if s.cleatConfigured p k = true ∧
            ((s.panel p).cleats[k].state = .engaged ∧ (s.panel p).cleats[k].made = false ∨
             (s.panel p).cleats[k].state = .released ∧ (s.panel p).cleats[k].made = true)
        then .unknown else (s.panel p).cleats[k].state) ∧
      (∀ p (k : CleatNo), (t.panel p).cleats[k].state ≠ (s.panel p).cleats[k].state →
        .cleatLost ∈ (t.panel p).warnings ∧ .warning ∈ t.latches)) ∧
    (s.inStart = false → exec (.startEnd key) s = .next s)

/-! ### The station link -/

/-- UNKNOWN_REQUEST, which carries any frame as it came from the bus (log entry 13): while the port is bus-off no frame is
received; frames with other identifiers, extended and remote frames are ignored; the checks of the link refuse the other
frames in their order, each with its one side effect. -/
def Obligations.LinkChecksFrames : Prop :=
  ∀ (f : Frame) (s : State), (s.busOff = true → exec (.unknownRequest f) s = .next s) ∧ (s.busOff = false →
    ((f.extended = true ∨ f.remote = true ∨ f.id < 0x1A1 ∨ 0x1AC < f.id) → exec (.unknownRequest f) s = .next s) ∧
    (∀ n : StationNo, f.extended = false → f.remote = false → f.id = 0x1A1 + n.val →
      let refusal (c : ReplyCode) : Reply := ⟨n, c, f.byte 1, payload [], false, false⟩
      (s.stationKind n = none → exec (.unknownRequest f) s =
        .next { s with txQueue := s.txQueue ++ [refusal .unknownStation] }) ∧
      ((s.stationKind n).isSome = true → f.dlc ≠ 8 → ∃ t, exec (.unknownRequest f) s = .next t ∧
        t.txQueue = s.txQueue ++ [refusal .frameError] ∧ t.frameErrorsWarned = true ∧
        t.station n = { s.station n with frameErrors := min 255 ((s.station n).frameErrors + 1), lastReply := 16 } ∧
        (∀ m, m ≠ n → t.station m = s.station m) ∧ (s.inStart = false → .warning ∈ t.latches) ∧
        t.panels = s.panels ∧ t.slots = s.slots ∧ t.claims = s.claims) ∧
      ((s.stationKind n).isSome = true → f.dlc = 8 →
        (s.inStart = true → exec (.unknownRequest f) s = .next (s.queueReply (refusal .unitState))) ∧
        (s.inStart = false →
          (f.byte 0).toNat ∉ [1, 2, 3, 4, 5, 6, 7, 8, 9, 16, 17, 18, 19, 20, 21, 22, 23, 24, 32, 33, 34, 40, 41, 42, 43, 48,
            56, 57, 64, 65, 66, 67, 68, 69, 70, 71, 72, 73] →
          exec (.unknownRequest f) s = .next (s.queueReply (refusal .unknownRequest))) ∧
        (s.inStart = false → (requestOf n f).isSome = true → (s.station n).occupied = true →
          exec (.unknownRequest f) s = .next (s.queueReply (refusal .busy))))))

/-- UNKNOWN_REQUEST, which carries any frame as it came from the bus (log entry 13): a frame that passes the checks is the
request its bytes spell, and is taken exactly as that request's own row. -/
def Obligations.FramesAreTheirRequests : Prop :=
  ∀ (f : Frame) (n : StationNo) (c : Instr) (s : State), f.station = some n → s.busOff = false →
    (s.stationKind n).isSome = true → f.dlc = 8 → s.inStart = false → requestOf n f = some c →
    exec (.unknownRequest f) s = exec c s ∧ requestFrom c = some (n, f.byte 1)

/-- Four request frames, byte by byte from the request code table: CREATE_ORDER of a MOVE_TO to −40 on panel 3 with class
RAIN, hold LIFT and predecessor 5; AMEND of order 7 with HOLD none and CLEAR_PREDECESSOR; CLAIM_ZONE on hatch 2, BOTH,
PERSONNEL, [600, 900); SET_PARAM of parameter 606 to 300. -/
def Obligations.FrameBytesAreRead : Prop :=
  requestOf 0 ⟨false, false, 0x1A1, 8, [16, 0xA5, 3, 11, 7, 5, 0xD8, 0xFF]⟩ =
    some (.createOrder 0 0xA5 3 3 1 7 5 0xFFD8) ∧
  requestOf 1 ⟨false, false, 0x1A2, 8, [18, 1, 7, 0xFA, 0, 9, 9, 9]⟩ = some (.amend 1 1 7 10 0 9 0x0909) ∧
  requestOf 2 ⟨false, false, 0x1A3, 8, [32, 2, 2, 0x22, 0x58, 2, 0x84, 3]⟩ = some (.claimZone 2 2 2 2 2 600 900) ∧
  requestOf 11 ⟨false, false, 0x1AC, 8, [64, 3, 0x5E, 2, 0x2C, 1, 0, 0]⟩ = some (.setParam 11 3 606 300) ∧
  requestOf 11 ⟨false, false, 0x1AC, 8, [10, 3, 0, 0, 0, 0, 0, 0]⟩ = none

/-- Every request passes the link's checks first: one from an unconfigured station is answered UNKNOWN_STATION, one in START
UNIT_STATE, and one that finds its station's slot occupied BUSY, all with no other effect than the reply and its code. While
the port is bus-off no request is received and nothing changes (log entry 13). -/
def Obligations.RequestsPassTheLink : Prop :=
  ∀ (c : Instr) (n : StationNo) (tag : Byte) (s : State), requestFrom c = some (n, tag) →
    let refusal (c : ReplyCode) : Reply := ⟨n, c, tag, payload [], false, false⟩
    (s.busOff = true → exec c s = .next s) ∧
    (s.busOff = false → s.stationKind n = none →
      exec c s = .next { s with txQueue := s.txQueue ++ [refusal .unknownStation] }) ∧
    (s.busOff = false → (s.stationKind n).isSome = true → s.inStart = true →
      exec c s = .next (s.queueReply (refusal .unitState))) ∧
    (s.busOff = false → (s.stationKind n).isSome = true → s.inStart = false → (s.station n).occupied = true →
      exec c s = .next (s.queueReply (refusal .busy)))

/-- A request that its owner refuses has no effect: the unit is as before but for the reply, its code in the station's
record and the occupied slot. -/
def Obligations.RefusedRequestsChangeNothing : Prop :=
  ∀ (c : Instr) (n : StationNo) (tag : Byte) (s t : State) (r : Reply), requestFrom c = some (n, tag) → s.ready n →
    exec c s = .next t → t.txQueue = s.txQueue ++ [r] → r.code ≠ .accepted → r.code ≠ .data →
    t = (s.taken n).queueReply r ∧ r.station = n ∧ r.tag = tag ∧
      (r.code ≠ .configInconsistent → r.payload = [0, 0, 0, 0, 0, 0])

/-- REPLY_TRANSMITTED: the reply at the head leaves the queue, the transmit error count falls by 1, not below 0, and the
slot its request occupied becomes EMPTY; nothing else changes, unless it is the reply of a RESTART. The reply goes out as a
standard data frame of identifier 0x1E0 + n for station n, with its code, its tag and its payload. -/
def Obligations.ReplyTransmittedFreesTheSlot : Prop :=
  ∀ (s : State) (r : Reply) (rs : List Reply), s.txQueue = r :: rs →
    (r.frame.extended = false ∧ r.frame.remote = false ∧ r.frame.id = 0x1E0 + (r.station.val + 1) ∧ r.frame.dlc = 8 ∧
      r.frame.data = BitVec.ofNat 8 r.code.code :: r.tag :: r.payload) ∧
    (r.restarts = false → ∃ t, exec .replyTransmitted s = .next t ∧
      t = { s with txQueue := rs, txErrors := s.txErrors - 1, stations := t.stations } ∧
      ∀ m, t.station m = if r.holdsSlot = true ∧ m = r.station then { s.station m with occupied := false } else s.station m)

/-- The restart, which takes effect once its reply has been transmitted: START is entered; orders, the jog, grants, waiting
requests, queued replies and slots are gone and every coil is off; counts, certainty, faults, warnings, zones, attitude,
the parameter set, the layout and the id counter are kept; a panel that was travelling or braking coasts for a full
window (its activity IDLE: log entry 10); a cleat move in progress leaves its unconfirmed participants UNKNOWN, and every
other cleat keeps its record; the trips are CLEAR and their deglitch counts from this moment on; the staleness timer of a FRESH
attitude starts again with its full 5000 ms; a LOW supply is kept in LATCHED mode, and in AUTO mode is GOOD until START_END
derives it again (log entry 11); RESTARTED joins the latches. -/
def Obligations.RestartKeepsAndDiscards : Prop :=
  ∀ (s : State) (r : Reply) (rs : List Reply), s.txQueue = r :: rs → r.restarts = true →
    ∃ t, exec .replyTransmitted s = .next t ∧ t.unit = .start (.restart (s.unit == .setup)) ∧
      (∀ i, t.slot i = none) ∧ t.jog = none ∧ t.serviceStation = none ∧ t.txQueue = [] ∧ t.idCounter = s.idCounter ∧
      t.params = s.params ∧ t.layout = s.layout ∧ t.locked = s.locked ∧ t.list = s.list ∧ t.trim = s.trim ∧
      t.fresh = s.fresh ∧ t.windSet = s.windSet ∧ t.lineLive = s.lineLive ∧ t.selector = s.selector ∧
      t.staleTimer = (if s.fresh = true ∧ s.layout.listSource ≠ 1 then some (s.now + 5000) else none) ∧
      (s.params.tuning.supplyMode = 0 → t.supplyLow = s.supplyLow) ∧
      (s.params.tuning.supplyMode ≠ 0 → t.supplyLow = false) ∧ t.supplyMv = s.supplyMv ∧
      t.loopOpen = s.loopOpen ∧ t.cards = s.cards ∧ (∀ e, e ∈ t.latches ↔ e ∈ s.latches ∨ e = .restarted) ∧
      (∀ z, t.claim z = (s.claim z).map fun c => { c with deadline := none }) ∧
      (∀ n, t.station n = { s.station n with watching := false, deadline := none, occupied := false }) ∧
      (∀ k, (t.pack k).grants = [] ∧ (t.pack k).waiting = [] ∧ (t.pack k).trip = false ∧ (t.pack k).deglitchFrom = s.now ∧
        (t.pack k).overtemp = (s.pack k).overtemp) ∧
      ∀ p, (t.panel p).count = (s.panel p).count ∧ (t.panel p).certain = (s.panel p).certain ∧
        (t.panel p).faults = (s.panel p).faults ∧ (t.panel p).warnings = (s.panel p).warnings ∧
        (t.panel p).slip = (s.panel p).slip ∧ (t.panel p).creep = (s.panel p).creep ∧
        (t.panel p).chop = (s.panel p).chop ∧ (t.panel p).coils = {} ∧ (t.panel p).activity = .idle ∧
        (t.panel p).live = none ∧ (t.panel p).move = none ∧
        (∀ m, (s.panel p).move = some m → ∀ k : CleatNo, (t.panel p).cleats[k] =
          if k ∈ m.participants ∧ k ∉ m.confirmed then { (s.panel p).cleats[k] with state := .unknown }
          else (s.panel p).cleats[k]) ∧
        ((s.panel p).move = none → (t.panel p).cleats = (s.panel p).cleats) ∧
        (((s.panel p).mode = .driven ∨ (s.panel p).brakeTimer.isSome = true) →
          (t.panel p).mode = .coasting ∧ (t.panel p).lastDir = (s.panel p).lastDir ∧
            (t.panel p).brakeTimer = some (s.now + s.params.tuning.brakingWindow))

/-- BUS_OFF, at any transmit error count (log entry 10), TRANSMIT_ERROR_DETECTED and BUS_REJOIN: going bus-off discards every
reply and empties every slot and sets no latch; an error raises the transmit error count by 8, and above 255 the port goes
bus-off; 128 occurrences of 11 recessive bits bring it back with the count at 0. A RESTART whose reply is discarded takes
effect at that moment, and the port stays bus-off through that restart (log entry 10). While the port is bus-off neither a
second BUS_OFF nor an error changes anything (log entry 13). -/
def Obligations.BusOffEmptiesTheLink : Prop :=
  ∀ s : State,
    let goesOff (c : Instr) : Prop := c = .busOff ∨ c = .transmitErrorDetected ∧ 247 < s.txErrors
    (s.busOff = false → ∀ c, goesOff c → (∀ r ∈ s.txQueue, r.restarts = false) →
      ∃ t, exec c s = .next t ∧ t.busOff = true ∧ t.txQueue = [] ∧
        (∀ n, t.station n = { s.station n with occupied := false }) ∧ t.records = { s.records with
          busOff := true, txErrors := t.txErrors, writing := s.writing.map fun w => { w with answer := false } } ∧
        t.latches = s.latches) ∧
    (s.busOff = false → ∀ c, goesOff c → (∃ r ∈ s.txQueue, r.restarts = true) →
      ∃ t, exec c s = .next t ∧ t.busOff = true ∧ t.txQueue = [] ∧ t.unit = .start (.restart (s.unit == .setup)) ∧
        (∀ n, t.station n = { s.station n with watching := false, deadline := none, occupied := false }) ∧
        (∀ i, t.slot i = none) ∧ t.jog = none ∧ t.params = s.params ∧ t.layout = s.layout ∧
        (∀ e, e ∈ t.latches ↔ e ∈ s.latches ∨ e = .restarted) ∧ ∀ p, (t.panel p).coils = {} ∧
          (t.panel p).live = none ∧ (t.panel p).faults = (s.panel p).faults ∧ (t.panel p).count = (s.panel p).count) ∧
    (s.busOff = false → s.txErrors ≤ 247 →
      exec .transmitErrorDetected s = .next { s with txErrors := s.txErrors + 8 }) ∧
    (∀ k, s.busOff = true → 128 ≤ k → exec (.busRejoin k) s = .next { s with busOff := false, txErrors := 0 }) ∧
    (∀ k, s.busOff = true → k < 128 → exec (.busRejoin k) s = .next s) ∧
    (s.busOff = true → exec .busOff s = .next s ∧ exec .transmitErrorDetected s = .next s)

/-! ### Lookups and event latches -/

/-- The eight lookups, with arguments in their ranges, are answered DATA and change no record. Their payloads, byte by byte
(R182 to R186): the unit, the packs, the attitude and the cards; a panel's status, switches, activity and count, its faults,
warnings and named coils, its flow and counters; a cleat; an order; the order a panel has, or of its finished ones the
latest; a zone; a parameter; a station. The time since finishing is rounded down (log entry 20), a deadline
that is due shows 0 seconds (log entry 20), and the bit of a hatch in
bytes 4 and 5 of the unit's first page is 0 while the hatch, newly configured by a COMMIT, has no selector state yet (log
entry 19). -/
def Obligations.LookupsAnswerAndChangeNothing : Prop :=
  ∀ (s : State) (n : StationNo) (tag : Byte), s.ready n → s.linked →
    let data (c : Instr) (bytes : List Byte) : Prop := exec c s = .next (s.answered n tag .data bytes)
    let b (i : Nat) : Byte := BitVec.ofNat 8 i
    let two (i : Nat) : List Byte := [b i, b (i / 256)]
    let half (h : Half) : List Byte := [h.extractLsb' 0 8, h.extractLsb' 8 8]
    let flag (f : Bool) (w : Nat) : Nat := if f then w else 0
    let coils : List Coil := [.liftUp, .liftDown, .travelOut, .travelIn, .fast, .brakeRelease, .stowLock, .stowUnlock,
      .cleatRel 0, .cleatRel 1, .cleatRel 2, .cleatEng 0, .cleatEng 1, .cleatEng 2]
    let faults : List PanelFault := [.solenoidShort, .solenoidOpen, .cleatJam, .liftTimeout, .lowerTimeout, .stowTimeout,
      .travelStall, .travelOverload, .overtravel, .runaway, .positionRange, .sensorConflict, .cardOvertemp, .attendance]
    let warnings : List PanelWarning := [.referenceSlip, .targetMiss, .cleatSluggish, .cleatLost, .travelTrip, .cardHot,
      .creep, .attendanceLost, .sequenceStop]
    let activities : List Activity := [.idle, .cleatMove 0 .release, .cleatMove 1 .release, .cleatMove 2 .release,
      .cleatMove 0 .engage, .cleatMove 1 .engage, .cleatMove 2 .engage, .lift, .lower, .stowMove .lock, .stowMove .unlock,
      .travel .outward .fast, .travel .outward .slow, .travel .inward .fast, .travel .inward .slow, .braking, .jog]
    let steps : List StepKind := [.uncleat 0, .uncleat 1, .uncleat 2, .cleat 0, .cleat 1, .cleat 2, .lift, .lower, .lockStow,
      .unlockStow, .travel]
    let coil (c : Option Coil) : Nat := match c with | some c => coils.idxOf c + 1 | none => 0
    let pack (k : PackId) : List Byte :=
      let x := s.pack k
      [b (flag (!x.up) 1 + flag x.hot 2 + flag x.pump 4 + flag x.lowPressure 8 + flag x.overtemp 16 + flag x.trip 32),
        b (s.capacity k), b (s.effective k), b x.granted, b x.waiting.length]
    (∀ page : Byte,
      (page = 0 → data (.readUnit n tag page)
        ([b (match s.unit with | .start _ => 0 | .setup => 1 | .run => 2 | .service => 3),
          b (flag s.loopOpen 1 + flag s.supplyLow 2 + flag s.windSet 4 + flag (!s.fresh) 8 + flag s.locked 16 +
            flag s.servicePermitted 32),
          b (flag s.supplyLow 1 + flag s.packA.anyCause 2 + flag s.packB.anyCause 4),
          b (flag s.packA.hot 1 + flag s.packB.hot 2 + flag s.listHigh 4 + flag (s.layout.listSource != 1 && !s.fresh) 8 +
            flag s.windSet 16 + flag s.anyZoneStale 32 + flag s.frameErrorsWarned 64 + flag s.configAbsent 128)] ++
          two (allHatches.map fun h => flag (s.hasSelector h && s.selector[h]) (2 ^ h.val)).sum)) ∧
      (page = 1 → data (.readUnit n tag page) (pack .a)) ∧ (page = 2 → data (.readUnit n tag page) (pack .b)) ∧
      (page = 3 → data (.readUnit n tag page) (half (BitVec.ofInt 16 s.list) ++ half (BitVec.ofInt 16 s.trim) ++
        [b (allCards.map fun c => 4 ^ c.val * [CardState.normal, .hot, .overtemp].idxOf s.cards[c]).sum,
          b (match s.serviceStation with | some m => m.val + 1 | none => 0)]))) ∧
    (∀ (a page : Byte) (p : PanelNo), panelArg a = some p → s.configured p = true →
      let x := s.panel p
      (page = 0 → data (.readPanel n tag a page)
        ([b (s.statusCode p), b ([Seat.seated, .lifted, .between].idxOf x.seat + flag x.sw.stowLocked 4 + flag x.certain 8),
          b (activities.idxOf x.activity)] ++ half (BitVec.ofInt 16 x.count) ++ [b (x.live.getD 0)])) ∧
      (page = 1 → data (.readPanel n tag a page)
        (two (faults.map fun k => flag (x.faults.contains k) (2 ^ faults.idxOf k)).sum ++
          two (warnings.map fun k => flag (x.warnings.contains k) (2 ^ warnings.idxOf k)).sum ++
          [b (coil x.shortCoil), b (coil x.openCoil)])) ∧
      (page = 2 → data (.readPanel n tag a page)
        ((match s.flow p with
          | .none => [b 0, b 0]
          | .waiting k d => [b (1 + flag (k == .b) 4), b d]
          | .granted k d => [b (2 + flag (k == .b) 4), b d]) ++
          [b x.creep, b x.chop] ++ half (BitVec.ofInt 16 (x.slip.getD (-32768)))))) ∧
    (∀ (a c : Byte) (p : PanelNo) (k : CleatNo), panelArg a = some p → cleatArg c = some k →
      s.cleatConfigured p k = true →
      let r := (s.panel p).cleats[k]
      data (.readCleat n tag a c) ([b s.layout.cleatGroup[p][k],
        b ([CleatState.engaged, .released, .unknown, .jammed, .bypassed].idxOf r.state + flag r.made 128)] ++
          two r.last ++ two r.greatest)) ∧
    (∀ (id page : Byte) (i : SlotNo) (o : Order), s.orderNamed id = some (i, o) →
      (page = 0 → data (.readOrder n tag id page)
        [b (o.panel.val + 1), b (o.issuer.val + 1),
          b ([OrderKind.openHatch, .close, .moveTo, .home, .secure, .release].idxOf o.kind + 1 + flag (o.cls == .rain) 8 +
            16 * match o.state with
              | .pending => 1 | .active => 2 | .atHold => 3 | .paused _ => 4 | .done => 5 | .cancelled _ => 6 | .failed _ => 7),
          b (match o.state with
            | .active | .atHold | .done => 0
            | .pending => 1
            | .paused r =>
              [PauseReason.request, .estop, .supply, .authority, .attendance, .service, .packLoss].idxOf r + 1
            | .cancelled r => [CancelReason.request, .superseded, .predecessor].idxOf r + 1
            | .failed (.fault k) => faults.idxOf k + 1
            | .failed .sequence => 15
            | .failed .flowImpossible => 16
            | .failed .noArbitration => 17),
          b (o.step + 8 * [none, some Phase.flowWait, some .interlockWait, some .running, some .braking].idxOf o.phase),
          b (flag o.reasons.lap 1 + flag o.reasons.zone 2 + flag o.reasons.list 4 + flag o.reasons.wind 8 +
            16 * [none, some PausedFrom.pending, some .active, some .atHold].idxOf o.pausedFrom)]) ∧
      (page = 1 → data (.readOrder n tag id page)
        (two (match o.target with | some t => t.toNat | none => 65535) ++
          [b (match o.hold with | some k => steps.idxOf k + 1 | none => 0), b (o.pred.getD 0)] ++
          two (match o.finishedAt with | some t => (s.now - t) / 100 | none => 65535)))) ∧
    (∀ (a : Byte) (p : PanelNo), panelArg a = some p →
      ∃ bytes, exec (.findOrder n tag a) s = .next (s.answered n tag .data bytes) ∧
        (∀ id, (s.panel p).live = some id → bytes = [b id, 1]) ∧
        ((s.panel p).live = none → (∀ i o, s.slot i = some o → o.panel = p → o.finishedAt = none) → bytes = [0, 0]) ∧
        ((s.panel p).live = none → (∃ i o, s.slot i = some o ∧ o.panel = p ∧ o.finishedAt.isSome = true) →
          ∃ i o, s.slot i = some o ∧ o.panel = p ∧ o.finishedAt.isSome = true ∧ bytes = [b o.id, 2] ∧
            ∀ j q, s.slot j = some q → q.panel = p → ¬ q.laterThan o = true)) ∧
    (∀ (a page : Byte) (z : ClaimNo), zoneArg a = some (.claimed z) → page.toNat ≤ 1 →
      (s.claim z = none → data (.readZone n tag a page) []) ∧
      (∀ c, s.claim z = some c →
        (page = 0 → data (.readZone n tag a page)
          [if c.stale then 2 else 1, b (c.owner.val + 1), b ([ZoneKind.spout, .grab, .personnel, .other].idxOf c.kind),
            b (c.hatch.val + 1), b ([Side.port, .starboard, .both].idxOf c.side),
            b (match c.deadline with | some d => (d - s.now + 999) / 1000 | none => 0)]) ∧
        (page = 1 → data (.readZone n tag a page) (two c.lo ++ two c.hi)))) ∧
    (∀ (a page : Byte) (h : HatchNo), zoneArg a = some (.line h) → page.toNat ≤ 1 →
      data (.readZone n tag a page) (if page = 0 ∧ s.lineLive[h] = true then [1, 0, 0, b (h.val + 1), 2, 0] else [])) ∧
    (∀ (number : Half) (i : ParamId), i.number = number.toNat →
      data (.readParam n tag number) (two i.number ++ two (s.params.get i) ++
        [b (flag (decide (i.number ≤ 532)) 1 + flag (decide (i.number ≤ 532) && s.locked) 2)])) ∧
    (∀ (a : Byte) (m : StationNo), stationArg a = some m →
      data (.readStation n tag a) ((match s.stationKind m with
        | none => [b 0, b 0]
        | some k => [b (1 + 2 * [StationKind.bridge, .cargoControl, .pendant, .shore, .inclinometer].idxOf k),
            b (if k = .pendant then s.layout.stationHatch[m] else 0)]) ++
        [b (flag (s.station m).watching 1), b (s.station m).frameErrors, b (s.station m).lastReply]))

/-- READ_EVENTS gives the smallest code among the set latches, 0 when none is set, and the set of all latches as a bitmap,
bit k for code k + 1, in two bytes; no latch changes. -/
def Obligations.ReadEventsGivesTheHighest : Prop :=
  ∀ (s : State) (n : StationNo) (tag : Byte), s.ready n →
    ∃ (first : Nat) (set : Half),
      exec (.readEvents n tag) s =
        .next (s.answered n tag .data [byteOf first, set.extractLsb' 0 8, set.extractLsb' 8 8]) ∧
      (s.latches = [] → first = 0) ∧
      (s.latches ≠ [] → ∃ e ∈ s.latches, first = e.code ∧ ∀ f ∈ s.latches, e.code ≤ f.code) ∧
      (∀ e : EventLatch, set.getLsbD (e.code - 1) = true ↔ e ∈ s.latches) ∧
      set.getLsbD 14 = false ∧ set.getLsbD 15 = false

/-- CLEAR_EVENTS, in SETUP, RUN and SERVICE, clears the latches it names, set or not, and leaves the others, and its reply
gives those still pending; nothing else changes, and an empty set changes no latch. A set that names a code outside 1 to 14 is
refused BAD_ARGUMENT, and a kind that may not clear NOT_AUTHORISED. ATTN is asserted exactly while a latch is set: from
power-on, with POWER_UP, and through a restart, with RESTARTED. -/
def Obligations.ClearEventsClearsWhatItNames : Prop :=
  (∀ (s : State) (n : StationNo) (tag : Byte) (codes : Half), s.ready n →
    (codes.getLsbD 14 = true ∨ codes.getLsbD 15 = true →
      exec (.clearEvents n tag codes) s = .next (s.answered n tag .badArgument [])) ∧
    (codes.getLsbD 14 = false → codes.getLsbD 15 = false →
      (s.isKind n [.bridge, .cargoControl, .pendant, .shore] = false →
        exec (.clearEvents n tag codes) s = .next (s.answered n tag .notAuthorised [])) ∧
      (s.isKind n [.bridge, .cargoControl, .pendant, .shore] = true →
        ∃ t, exec (.clearEvents n tag codes) s = .next t ∧
          (∀ e : EventLatch, e ∈ t.latches ↔ e ∈ s.latches ∧ codes.getLsbD (e.code - 1) = false) ∧
          (codes = 0 → t.latches = s.latches) ∧
          t = ({ s.taken n with latches := t.latches }).replied n tag .accepted
            (0 :: bytes2 (bitmap allLatches t.latches))))) ∧
  ∀ s : State, (s.attn = true ↔ s.latches ≠ []) ∧
    (∃ t, exec .powerOn s = .next t ∧ t.attn = true ∧ .powerUp ∈ t.latches) ∧
    ∀ r rs, s.txQueue = r :: rs → r.restarts = true →
      ∃ t, exec .replyTransmitted s = .next t ∧ t.attn = true ∧ .restarted ∈ t.latches

/-- A latch that is set stays set until CLEAR_EVENTS or a power-on. -/
def Obligations.LatchesStaySet : Prop :=
  ∀ (c : Instr) (s t : State) (e : EventLatch), exec c s = .next t → e ∈ s.latches → c ≠ .powerOn →
    (∀ n tag codes, c ≠ .clearEvents n tag codes) →
    (∀ f n, c = .unknownRequest f → requestOf n f ≠ some (.clearEvents n (f.byte 1) (f.half 2))) → e ∈ t.latches

/-! ### Orders -/

/-- CREATE_ORDER, when every check of R43 passes: the order takes the slot the table gives, the first free id (sought once
the slot is free: log entry 20), and the requester as its issuer; its fields are those asked for, with the target handled
as R44 gives, and it counts as created after every other (log entry 16); no other order's lasting fields and no record
outside the orders' own work changes. With a live predecessor it enters PENDING. Otherwise it is admitted: PAUSED(ESTOP)
while the loop is open, PAUSED(SUPPLY) while the supply is low, and else ACTIVE at step 1, at which the watch of a PENDANT
that was not attended starts (R145), and which its panel's sequencer evaluates at once, so that it stands at a step or a hold
of its list, is DONE, or has failed. -/
def Obligations.CreateOrderMakesTheOrder : Prop :=
  ∀ (s : State) (n : StationNo) (tag panel : Byte) (kb : BitVec 3) (cb : BitVec 1) (hold pred : Byte) (target : Half)
    (p : PanelNo) (k : OrderKind) (c : OrderClass) (h : Option StepKind),
    s.ready n → s.unit = .run → panelArg panel = some p → wishArg kb cb hold = some (k, c, h) → s.configured p = true →
    s.authority n (hatchOf p) = true → (s.panel p).faults = [] → (s.panel p).live = none →
    (k = .secure ∨ k = .release → (s.panel p).seat = .seated) →
    (k = .openHatch ∨ k = .moveTo → (s.panel p).certain = true) → s.predOk pred = true →
    ∃ (t : State) (o : Order) (st : Byte),
      exec (.createOrder n tag panel kb cb hold pred target) s = .next t ∧
      t.slot s.slotForNew = some o ∧ o.id = (s.setSlot s.slotForNew none).freshId 24 s.idCounter ∧ o.issuer = n ∧
      o.panel = p ∧ o.kind = k ∧ o.cls = c ∧ o.hold = h ∧ o.created = s.created ∧
      o.target = (match k with
        | .openHatch => some (s.openCount p)
        | .close | .home => some 0
        | .moveTo => some (max 0 (min target.toInt (s.openCount p)))
        | .secure | .release => none) ∧
      t.records = { s.records with
        idCounter := nextId o.id, created := s.created + 1, slots := s.records.slots.set s.slotForNew (some o.lasting) } ∧
      t.txQueue = s.txQueue ++ [replyTo n tag .accepted
        [if k = .moveTo ∧ o.target ≠ some target.toInt then 1 else 0, byteOf o.id, st]] ∧
      (∀ i q, s.orderNamed pred = some (i, q) → q.state.live = true →
        o.state = .pending ∧ o.pred = some q.id ∧ (t.panel p).live = some o.id ∧ st = 1 ∧
        ∀ j, j ≠ s.slotForNew → t.slot j = s.slot j) ∧
      ((∀ i q, s.orderNamed pred = some (i, q) → q.state.live = false) → o.pred = none ∧
        (s.loopOpen = true ∨ s.supplyLow = true →
          o.state = .paused (if s.loopOpen then .estop else .supply) ∧ o.pausedFrom = some .active ∧ o.step = 1 ∧ st = 4 ∧
          (t.panel p).live = some o.id ∧ ∀ j, j ≠ s.slotForNew → t.slot j = s.slot j) ∧
        (s.loopOpen = false → s.supplyLow = false →
          let r := ((s.taken n).createOrder n p k (s.targetOf p k target.toInt) c h none).admitted s.slotForNew
          t = r.settle.replied n tag .accepted
            [if k = .moveTo ∧ o.target ≠ some target.toInt then 1 else 0, byteOf o.id, st] ∧
          r.jobs = [.evaluate p true] ∧ (r.st.panel p).live = some o.id ∧ s.watched n r.st ∧
          r.st.slot s.slotForNew = some { o with
            state := .active, step := 1, phase := none, reasons := {}, pausedFrom := none, finishedAt := none
            retention := none } ∧
          (o.state = .active ∧ st = 2 ∨ o.state = .atHold ∧ st = 3 ∨ o.state = .done ∧ st = 5 ∨
            ∃ f, o.state = .failed f ∧ st = 7)))

/-- HATCH_ORDER, when the checks pass for both panels: the port panel's order is created first and then the starboard
panel's, each with its own slot, id and target, both records before either order is evaluated (DEDUCED, log entry 15); each id
is sought once its slot is free (log entry 20), and the port order counts as created before the starboard one (log entry 16).
No other order's lasting fields and no record outside the orders' own work changes. With a live predecessor both are PENDING
on it. Otherwise both are admitted: PAUSED(ESTOP) while the loop is open, PAUSED(SUPPLY) while the supply is low, and else
ACTIVE at step 1, at which the watch of a PENDANT that was not attended starts, and evaluated, port first, so that each stands
at a step or a hold of its list, is DONE, or has failed. The reply gives the two ids and the two states, port first. -/
def Obligations.HatchOrderMakesBothOrders : Prop :=
  ∀ (s : State) (n : StationNo) (tag hatch : Byte) (kb : BitVec 3) (cb : BitVec 1) (hold pred : Byte) (target : Half)
    (h : HatchNo) (k : OrderKind) (c : OrderClass) (hs : Option StepKind),
    s.ready n → s.unit = .run → s.linked → hatchArg hatch = some h → wishArg kb cb hold = some (k, c, hs) →
    s.createRefusal n (portOf h) k pred = none → s.createRefusal n (starboardOf h) k pred = none →
    let made (u : State) (p : PanelNo) : State := u.createOrder n p k (s.targetOf p k target.toInt) c hs (s.linkOf pred)
    let first := made (s.taken n) (portOf h)
    let both := made first (starboardOf h)
    let i := s.slotForNew
    let j := first.slotForNew
    ∃ (t : State) (a b : Order) (sa sb : Byte), exec (.hatchOrder n tag hatch kb cb hold pred target) s = .next t ∧
      t.slot i = some a ∧ t.slot j = some b ∧ i ≠ j ∧ a.id ≠ b.id ∧
      a.id = (s.setSlot i none).freshId 24 s.idCounter ∧ b.id = (first.setSlot j none).freshId 24 (nextId a.id) ∧
      a.created = s.created ∧ b.created = s.created + 1 ∧
      a.panel = portOf h ∧ b.panel = starboardOf h ∧ a.issuer = n ∧ b.issuer = n ∧ a.kind = k ∧ b.kind = k ∧ a.cls = c ∧
      b.cls = c ∧ a.hold = hs ∧ b.hold = hs ∧
      (∀ o ∈ [a, b], o.target = (match k with
        | .openHatch => some (s.openCount o.panel)
        | .close | .home => some 0
        | .moveTo => some (max 0 (min target.toInt (s.openCount o.panel)))
        | .secure | .release => none)) ∧
      t.records = { s.records with
        idCounter := nextId b.id, created := s.created + 2
        slots := (s.records.slots.set i (some a.lasting)).set j (some b.lasting) } ∧
      let bytes : List Byte := [if k = .moveTo ∧ (a.target ≠ some target.toInt ∨ b.target ≠ some target.toInt) then 1 else 0,
        byteOf a.id, sa, byteOf b.id, sb]
      t.txQueue = s.txQueue ++ [replyTo n tag .accepted bytes] ∧
      (∀ m q, s.orderNamed pred = some (m, q) → q.state.live = true →
        (∀ o ∈ [a, b], o.state = .pending ∧ o.pred = some q.id ∧ (t.panel o.panel).live = some o.id) ∧ sa = 1 ∧ sb = 1 ∧
        ∀ m, m ≠ i → m ≠ j → t.slot m = s.slot m) ∧
      ((∀ m q, s.orderNamed pred = some (m, q) → q.state.live = false) → a.pred = none ∧ b.pred = none ∧
        (s.loopOpen = true ∨ s.supplyLow = true →
          (∀ o ∈ [a, b], o.state = .paused (if s.loopOpen then .estop else .supply) ∧ o.pausedFrom = some .active ∧
            o.step = 1 ∧ (t.panel o.panel).live = some o.id) ∧ sa = 4 ∧ sb = 4 ∧
          ∀ m, m ≠ i → m ≠ j → t.slot m = s.slot m) ∧
        (s.loopOpen = false → s.supplyLow = false →
          let r := (both.admitted i).bind fun u => u.admitted j
          t = r.settle.replied n tag .accepted bytes ∧
          r.jobs = [.evaluate (portOf h) true, .evaluate (starboardOf h) true] ∧ s.watched n r.st ∧
          (∀ m o, (m, o) ∈ [(i, a), (j, b)] → (r.st.panel o.panel).live = some o.id ∧ r.st.slot m = some { o with
            state := .active, step := 1, phase := none, reasons := {}, pausedFrom := none, finishedAt := none
            retention := none }) ∧
          ∀ o st, (o, st) ∈ [(a, sa), (b, sb)] →
            o.state = .active ∧ st = 2 ∨ o.state = .atHold ∧ st = 3 ∨ o.state = .done ∧ st = 5 ∨
              ∃ f, o.state = .failed f ∧ st = 7))

/-- AMEND with one selection, by the issuer with authority, on a live order: the target (limited to 0 to O), the hold step
or the class is stored and the other two stay. What a new target does to a TRAVEL step that is current (R49, R83, R103): one
RUNNING towards it with more than the tolerance to go goes on under the plan from the present count, without a stop, its
conditions looked at again (log entry 8); any other RUNNING one is stopped and brakes with purpose REVERSE, its grant kept;
one BRAKING with purpose COMPLETE takes the purpose REVERSE, and one BRAKING for another purpose has its conditions tested
again; one that waits gives up its request and is evaluated afresh. An order that is not at its TRAVEL step only stores it.
A new class of an order whose request waits re-keys the request: it takes the place its new class gives among the others of
its list, and a grant pass runs (R51, R128); else nothing but the stored class changes. CLEAR_PREDECESSOR leaves no link, and
in SERVICE it admits a PENDING order
as PAUSED(SERVICE), paused from ACTIVE at step 1. Of any combination of selections every one is stored, also where the work of
an earlier one has ended the order (log entry 15). -/
def Obligations.AmendStoresTheSelection : Prop :=
  ∀ (s : State) (n : StationNo) (tag id hold cls : Byte) (target : Half) (i : SlotNo) (o : Order), s.ready n →
    s.unit.working = true → s.orderNamed id = some (i, o) → o.issuer = n → s.authority n (hatchOf o.panel) = true →
    o.state.live = true →
    (o.kind = .moveTo → ∃ t o', exec (.amend n tag id 1 hold cls target) s = .next t ∧ t.slot i = some o' ∧
      o'.target = some (max 0 (min target.toInt (s.openCount o.panel))) ∧ o'.hold = o.hold ∧ o'.cls = o.cls ∧
      o'.id = o.id ∧ o'.issuer = n) ∧
    (o.kind = .moveTo →
      let p := o.panel
      let x := s.panel p
      let tol : Int := s.params.tuning.positionTolerance
      let q := max 0 (min target.toInt (s.openCount p))
      let o2 := { o with target := some q }
      let u := (s.taken n).modOrder i fun o => { o with target := some q }
      let r := u.retarget p
      let y := r.st.panel p
      let answered (v : State) : State :=
        v.replied n tag .accepted [if q ≠ target.toInt then 1 else 0, v.stateByte i]
      let stays : Prop := r.st.packA = s.packA ∧ r.st.packB = s.packB
      exec (.amend n tag id 1 hold cls target) s = .next (answered r.settle) ∧
      ((s.served p).map (·.2.2) ≠ some .travel → exec (.amend n tag id 1 hold cls target) s = .next (answered u)) ∧
      (s.served p = some (i, o, .travel) →
        (∀ pl, o.phase = some .running → x.plan = some pl →
          let pn := s.planFor p q
          (tol < pl.dir.sign * (q - x.count) → r.jobs = [.watch p, .retest p] ∧ r.st = u.modPanel p fun x =>
            { x with plan := some pn, coils := { x.coils with fast := pn.fast && s.enabled }
                     activity := .travel pn.dir (if pn.fast then .fast else .slow) }) ∧
          (pl.dir.sign * (q - x.count) ≤ tol → x.mode = .driven → r.jobs = [] ∧
            r.st.slot i = some { o2 with phase := some .braking, reasons := {} } ∧ y.purpose = some .reverse ∧
            y.mode = .coasting ∧ y.coils = x.coils.travelOff ∧ y.activity = .braking ∧ y.stall = .stopped ∧
            y.brakeTimer = some (s.now + s.params.tuning.brakingWindow) ∧ y.count = x.count ∧ stays)) ∧
        (o.phase = some .braking → x.purpose = some .complete → r.jobs = [] ∧ y.purpose = some .reverse ∧
          r.st.slot i = some { o2 with phase := some .braking, reasons := {} } ∧ y.mode = x.mode ∧ y.coils = x.coils ∧
          y.brakeTimer = x.brakeTimer ∧ stays) ∧
        (o.phase = some .braking → x.purpose ≠ some .complete → r.st = u ∧ r.jobs = [.retest p]) ∧
        (s.flowLaws → o.phase = some .flowWait ∨ o.phase = some .interlockWait →
          r.st.slot i = some { o2 with phase := none, reasons := {} } ∧ r.st.flow p = .none ∧ y.coils = x.coils ∧
          r.jobs.getLast? = some (.evaluate p true)))) ∧
    (∀ h, holdArg hold = some h → (∀ k, h = some k → k ∈ stepList o.kind) →
      exec (.amend n tag id 2 hold cls target) s =
        .next (((s.taken n).modOrder i fun o => { o with hold := h }).replied n tag .accepted [0, byteOf o.state.code])) ∧
    (∀ c, classArg cls.toNat = some c → ∃ t o', exec (.amend n tag id 4 hold cls target) s = .next t ∧
      t.slot i = some o' ∧ o'.cls = c ∧ o'.target = o.target ∧ o'.hold = o.hold ∧ o'.id = o.id) ∧
    (∀ c, classArg cls.toNat = some c →
      let u := (s.taken n).modOrder i fun o => { o with cls := c }
      (o.cls = c ∨ o.state ≠ .active ∨ o.phase ≠ some .flowWait →
        exec (.amend n tag id 4 hold cls target) s = .next (u.replied n tag .accepted [0, byteOf o.state.code])) ∧
      ∀ (l : PackId) (v : Waiter), s.flowLaws → o.state = .active → o.phase = some .flowWait → o.cls ≠ c →
        v ∈ (s.pack l).waiting → v.panel = o.panel →
        let w := (Res.mk (u.setPack { s.pack l with waiting := rekeyed v c (s.pack l).waiting } l) [.pass l]).settle
        exec (.amend n tag id 4 hold cls target) s = .next (w.replied n tag .accepted [0, w.stateByte i])) ∧
    (∀ (mask : BitVec 4) (h : Option StepKind) (c : OrderClass), mask ≠ 0 → (mask.getLsbD 0 = true → o.kind = .moveTo) →
      (mask.getLsbD 1 = true → holdArg hold = some h ∧ ∀ k, h = some k → k ∈ stepList o.kind) →
      (mask.getLsbD 2 = true → classArg cls.toNat = some c) →
      let q := max 0 (min target.toInt (s.openCount o.panel))
      ∃ t o', exec (.amend n tag id mask hold cls target) s = .next t ∧ t.slot i = some o' ∧
        o'.target = (if mask.getLsbD 0 then some q else o.target) ∧ o'.hold = (if mask.getLsbD 1 then h else o.hold) ∧
        o'.cls = (if mask.getLsbD 2 then c else o.cls) ∧ (mask.getLsbD 3 = true → o'.pred = none) ∧ o'.id = o.id ∧
        o'.issuer = o.issuer ∧ o'.panel = o.panel ∧ o'.kind = o.kind ∧ t.txQueue = s.txQueue ++ [replyTo n tag .accepted
          [if mask.getLsbD 0 = true ∧ q ≠ target.toInt then 1 else 0, byteOf o'.state.code]]) ∧
    (∃ t o', exec (.amend n tag id 8 hold cls target) s = .next t ∧ t.slot i = some o' ∧ o'.pred = none ∧
      o'.target = o.target ∧ o'.hold = o.hold ∧ o'.cls = o.cls ∧ o'.id = o.id) ∧
    (s.unit = .service → o.state = .pending → o.pred.isSome = true →
      ∃ t, exec (.amend n tag id 8 hold cls target) s = .next t ∧
        t.slot i = some { o with pred := none, state := .paused .service, pausedFrom := some .active, step := 1 } ∧
        (∀ j, j ≠ i → t.slot j = s.slot j) ∧ t.panels = s.panels ∧ t.records = s.records ∧
        t.txQueue = s.txQueue ++ [replyTo n tag .accepted [0, 4]])

/-- PAUSE, by a station with authority, of an order that is not PAUSED yet: it stands PAUSED(REQUEST) from the state it
had, at the step it had, with no phase and no interlock reason; its id, issuer, panel, kind, target, class and hold stay,
and so do all orders' lasting fields. -/
def Obligations.PauseHoldsTheOrder : Prop :=
  ∀ (s : State) (n : StationNo) (tag id : Byte) (i : SlotNo) (o : Order) (f : PausedFrom), s.ready n →
    s.unit.working = true → s.linked → s.orderNamed id = some (i, o) → s.authority n (hatchOf o.panel) = true →
    o.state.pausedFrom = some f →
    ∃ t, exec (.pause n tag id) s = .next t ∧
      t.slot i = some { o with state := .paused .request, pausedFrom := some f, phase := none, reasons := {} } ∧
      t.records = s.records ∧ t.txQueue = s.txQueue ++ [replyTo n tag .accepted [0, 4]] ∧
      (o.state ≠ .active → t.panels = s.panels ∧ ∀ j, j ≠ i → t.slot j = s.slot j)

/-- RESUME, by the issuer with authority, while the loop is closed and the supply good: a PAUSED order returns to the
state it was paused from, and one that returns to AT_HOLD sets HOLD_REACHED. From ACTIVE its step is evaluated afresh, so it
stands at its step or further on; it is PAUSED no more. The return to ACTIVE or AT_HOLD starts the watch of a PENDANT that
was not attended (R145). -/
def Obligations.ResumeReturnsTheOrder : Prop :=
  ∀ (s : State) (n : StationNo) (tag id : Byte) (i : SlotNo) (o : Order) (r : PauseReason), s.ready n → s.unit = .run →
    s.linked → s.orderNamed id = some (i, o) → o.issuer = n → s.authority n (hatchOf o.panel) = true →
    o.state = .paused r → s.loopOpen = false → s.supplyLow = false →
    ∃ t o', exec (.resume n tag id) s = .next t ∧ t.slot i = some o' ∧ o'.pausedFrom = none ∧
      t.records = s.records ∧
      (o.pausedFrom = some .pending → o' = { o with state := .pending, pausedFrom := none } ∧ t.panels = s.panels) ∧
      (o.pausedFrom = some .atHold → o' = { o with state := .atHold, pausedFrom := none } ∧ t.panels = s.panels ∧
        .holdReached ∈ t.latches ∧ s.watched n t) ∧
      (o.pausedFrom = some .active → o.step ≤ o'.step ∧ o'.state ≠ .pending ∧ (∀ q, o'.state ≠ .paused q) ∧
        let u := (s.taken n).updateOrder i fun o => { o with state := .active, pausedFrom := none }
        u.slot i = some { o with state := .active, pausedFrom := none } ∧ s.watched n u ∧
        t = (Res.mk u [.evaluate o.panel true]).settle.replied n tag .accepted [0, byteOf o'.state.code])

/-- CONTINUE, by the issuer with authority, of an order AT_HOLD: before the last step the step index is raised by one, the
order is ACTIVE at that step, and the step is evaluated, so that the order is ACTIVE or AT_HOLD there or further on, DONE, or
has failed; at the last step it is DONE. -/
def Obligations.ContinuePassesTheHold : Prop :=
  ∀ (s : State) (n : StationNo) (tag id : Byte) (i : SlotNo) (o : Order), s.ready n → s.unit = .run → s.linked →
    s.orderNamed id = some (i, o) → o.issuer = n → s.authority n (hatchOf o.panel) = true → o.state = .atHold →
    ∃ t o', exec (.continueOrder n tag id) s = .next t ∧ t.slot i = some o' ∧ t.records = s.records ∧
      (o.step < (stepList o.kind).length → o.step + 1 ≤ o'.step ∧
        (o'.state = .active ∨ o'.state = .atHold ∨ o'.state = .done ∨ ∃ f, o'.state = .failed f) ∧
        let u := (s.taken n).updateOrder i fun o => { o with state := .active, step := o.step + 1 }
        u.slot i = some { o with state := .active, step := o.step + 1 } ∧
        t = (Res.mk u [.evaluate o.panel true]).settle.replied n tag .accepted [0, byteOf o'.state.code]) ∧
      ((stepList o.kind).length ≤ o.step → o'.state = .done ∧ o'.finishedAt = some s.now ∧ o'.step = o.step ∧
        (t.panel o.panel).live = none ∧ .orderDone ∈ t.latches ∧
        t.txQueue = s.txQueue ++ [replyTo n tag .accepted [0, 5]])

/-- CANCEL, by a station with authority, of a live order: it is CANCELLED(REQUEST) with the finished time and retention
of this moment, its panel has no live order, and ORDER_CANCELLED is set. An order that waited on it is
CANCELLED(PREDECESSOR) with the same finished time. -/
def Obligations.CancelEndsTheOrder : Prop :=
  ∀ (s : State) (n : StationNo) (tag id : Byte) (i : SlotNo) (o : Order), s.ready n → s.unit.working = true → s.linked →
    s.orderNamed id = some (i, o) → s.authority n (hatchOf o.panel) = true → o.state.live = true →
    ∃ t o', exec (.cancel n tag id) s = .next t ∧ t.slot i = some o' ∧ o'.state = .cancelled .request ∧
      o'.finishedAt = some s.now ∧ o'.retention = some (s.now + 1000 * s.params.tuning.retentionTime) ∧
      o'.phase = none ∧ o'.reasons = {} ∧ o'.pausedFrom = none ∧ o'.step = o.step ∧ (t.panel o.panel).live = none ∧
      .orderCancelled ∈ t.latches ∧ t.records = s.records ∧
      t.txQueue = s.txQueue ++ [replyTo n tag .accepted [0, 6]] ∧
      ∀ j q, s.slot j = some q → j ≠ i → q.waitsOn o.id = true →
        ∃ q', t.slot j = some q' ∧ q'.state = .cancelled .predecessor ∧ q'.finishedAt = some s.now

/-- ADOPT makes the requester the issuer and changes nothing else of the table: of an order ACTIVE or AT_HOLD, the watch of a
requesting PENDANT that was not attended starts, and that of a former issuer that is attended no more stops (R144, R145);
RETIRE by the issuer (whatever its kind is by now: DESIGN CHOICE, log entry 20) or a BRIDGE station
frees the slot of a finished order; at the end of its retention a slot becomes FREE by itself. The expiry brings the clock to
its deadline, and a retention timer that is not running has none (log entry 1). -/
def Obligations.AdoptRetireAndRetention : Prop :=
  ∀ (s : State) (n : StationNo) (tag id : Byte) (i : SlotNo) (o : Order), s.ready n →
    (s.unit.working = true → s.orderNamed id = some (i, o) → s.authority n (hatchOf o.panel) = true →
      o.state.live = true → ∃ t, exec (.adopt n tag id) s = .next t ∧ t.slot i = some { o with issuer := n } ∧
        (∀ j, j ≠ i → t.slot j = s.slot j) ∧ t.panels = s.panels ∧ t.packA = s.packA ∧ t.packB = s.packB ∧
        t.latches = s.latches ∧ (o.state.working = true → s.watched n t) ∧
        (o.issuer ≠ n → (∀ j q, j ≠ i → s.slot j = some q → q.issuer = o.issuer → q.state.working = false) →
          (s.station o.issuer).watching = true →
          (t.station o.issuer).watching = false ∧ (t.station o.issuer).deadline = none)) ∧
    (s.orderNamed id = some (i, o) → (o.issuer = n ∨ s.stationKind n = some .bridge) → o.state.live = false →
      exec (.retire n tag id) s = .next (((s.taken n).setSlot i none).replied n tag .accepted [0])) ∧
    (∀ d, s.slot i = some o → o.retention = some d →
      exec (.retentionExpiry i) s = .next ({ s with now := max s.now d }.setSlot i none)) ∧
    ((∀ q, s.slot i = some q → q.retention = none) → exec (.retentionExpiry i) s = .next s)

/-- A finished order never changes again: whatever is commanded, its slot goes on holding it until it is FREE or has been
given to an order created later. -/
def Obligations.FinishedOrdersStayAsTheyFinished : Prop :=
  ∀ (c : Instr) (s t : State) (i : SlotNo) (o : Order), s.linked → exec c s = .next t → s.slot i = some o →
    o.state.live = false → t.slot i = some o ∨ t.slot i = none ∨ ∃ q, t.slot i = some q ∧ s.created ≤ q.created

/-! ### Zones -/

/-- CLAIM_ZONE, when the checks of R110 pass: the lowest-numbered FREE slot holds the zone as claimed, LIVE, with a renewal
deadline only for a SHORE station; every other zone stays, and the reply gives the id. The zone table then has the step of
each panel of the hatch, and the jog, tested against the table as it stands. What such a test does to the step (R73, R75,
R76, R82, R104, R105, R117): one in INTERLOCK_WAIT has exactly the reasons that hold, and is evaluated when none does; one
in FLOW_WAIT that a condition holds gives up its request and waits; a RUNNING travel whose region meets a zone, or that LIST
or WIND holds, brakes with purpose EVALUATE and those reasons, its grant released; a RUNNING LIFT or LOWER that LAP holds
stops and waits, with every reason that holds and not with LAP alone (DEDUCED, log entry 7); a step BRAKING with purpose
EVALUATE has exactly the reasons that hold. The region of a waiting travel is taken with the allowance of the present list,
that of a running one with the allowance of its plan (DEDUCED, log entry 8). -/
def Obligations.ClaimZoneTakesTheLowestFreeSlot : Prop :=
  (∀ (s : State) (n : StationNo) (tag hatch : Byte) (side kind : BitVec 2) (lo hi : Half) (h : HatchNo) (sd : Side)
    (z : ClaimNo), s.ready n → hatchArg hatch = some h → s.hatchConfigured h = true → sideArg side = some sd →
    lo.toNat < hi.toNat → hi.toNat ≤ 8192 →
    (s.isKind n [.shore, .cargoControl, .bridge] = true ∨ s.pendantHatch n = some h) → s.claim z = none →
    (∀ y, y < z → s.claim y ≠ none) →
    ∃ t, exec (.claimZone n tag hatch side kind lo hi) s = .next t ∧
      t.claim z = some
        { stale := false, owner := n, kind := zoneKindArg kind, hatch := h, side := sd, lo := lo.toNat, hi := hi.toNat
          timed := s.isKind n [.shore]
          deadline := if s.isKind n [.shore] then some (s.now + 1000 * s.params.tuning.zoneRenewal) else none } ∧
      (∀ y, y ≠ z → t.claim y = s.claim y) ∧ t.records = { s.records with claims := t.claims } ∧
      t = (Res.mk ((s.taken n).setClaim z (t.claim z))
        [.retest (portOf h), .retest (starboardOf h), .jogTest]).settle.replied n tag .accepted [0, byteOf (z.val + 1)] ∧
      t.txQueue = s.txQueue ++ [replyTo n tag .accepted [0, byteOf (z.val + 1)]]) ∧
  ∀ (s : State) (p : PanelNo) (i : SlotNo) (o : Order) (k : StepKind), s.served p = some (i, o, k) → s.flowLaws →
    let r := runJob (.retest p) s
    let x := s.panel p
    let y := r.st.panel p
    (∀ q, s.heldBy p o k q →
      (o.phase = some .interlockWait → r.st = s.setSlot i (some { o with reasons := q }) ∧
        r.jobs = if q = {} then [.evaluate p false] else []) ∧
      (o.phase = some .flowWait →
        (q = {} → r.st = s ∧ r.jobs = []) ∧
        (q ≠ {} → r.st.slot i = some { o with phase := some .interlockWait, reasons := q } ∧ r.st.flow p = .none ∧
          y.coils = x.coils ∧ y.activity = x.activity)) ∧
      (o.phase = some .running → k = .lift ∨ k = .lower →
        (q.lap = false → r.st = s ∧ r.jobs = []) ∧
        (q.lap = true → r.st.slot i = some { o with phase := some .interlockWait, reasons := q } ∧ r.st.flow p = .none ∧
          y.coils.liftUp = false ∧ y.coils.liftDown = false ∧ y.stepTimer = none ∧ .retest (partner p) ∈ r.jobs)) ∧
      (o.phase = some .braking → k = .travel → x.purpose = some .evaluate →
        r.st = s.setSlot i (some { o with reasons := q }) ∧ r.jobs = [])) ∧
    ∀ pl q, o.phase = some .running → k = .travel → x.plan = some pl → s.haltedBy p pl q →
      (q = {} → r.st = s ∧ r.jobs = []) ∧
      (q ≠ {} → x.mode = .driven → r.st.slot i = some { o with phase := some .braking, reasons := q } ∧
        r.st.flow p = .none ∧ y.purpose = some .evaluate ∧ y.coils = x.coils.travelOff ∧ y.mode = .coasting ∧
        y.activity = .braking ∧ y.brakeTimer = some (s.now + s.params.tuning.brakingWindow) ∧ y.stall = .stopped ∧
        y.holdoff = none)

/-- What changes a zone afterwards. RENEW_ZONE by the owner makes a zone of a SHORE station LIVE with a full deadline and
leaves any other as it is; RELEASE_ZONE by the owner, a BRIDGE or a CARGO_CONTROL station frees the slot; an owner that a
COMMIT has made an INCLINOMETER may do neither (log entry 20); the expiry of the deadline makes the zone STALE without a
deadline and latches ZONE_STALE, and a deadline that is not running has no expiry (log entry 1); a change of a PRESENCE line
held for its stable time sets or frees the hatch's line zone. No other zone changes. After a zone has come, gone, become
STALE or LIVE again, the steps of the hatch's panels and the jog are tested against the table. -/
def Obligations.ZonesChangeAsTheirRulesSay : Prop :=
  ∀ s : State,
    let told (u : State) (h : HatchNo) : State := (Res.mk u [.retest (portOf h), .retest (starboardOf h), .jogTest]).settle
    (∀ (n : StationNo) (tag id : Byte) (z : ClaimNo) (c : Claim), s.claim z = some c → s.ready n →
      zoneArg id = some (.claimed z) →
      let live : Claim := { c with stale := false, deadline := some (s.now + 1000 * s.params.tuning.zoneRenewal) }
      (c.owner = n → s.stationKind n ≠ some .inclinometer →
        ∃ t, exec (.renewZone n tag id) s = .next t ∧ t.claim z = some (if c.timed then live else c) ∧
          (∀ y, y ≠ z → t.claim y = s.claim y) ∧ t.lineLive = s.lineLive ∧
          (c.timed = false → t = s.answered n tag .accepted [0]) ∧
          (c.timed = true → c.stale = false → t = ((s.taken n).setClaim z (some live)).replied n tag .accepted [0]) ∧
          (c.timed = true → c.stale = true →
            t = (told ((s.taken n).setClaim z (some live)) c.hatch).replied n tag .accepted [0])) ∧
      (c.owner = n ∧ s.stationKind n ≠ some .inclinometer ∨ s.isKind n [.bridge, .cargoControl] = true →
        ∃ t, exec (.releaseZone n tag id) s = .next t ∧ t.claim z = none ∧ (∀ y, y ≠ z → t.claim y = s.claim y) ∧
          t.lineLive = s.lineLive ∧ t = (told ((s.taken n).setClaim z none) c.hatch).replied n tag .accepted [0]) ∧
      (c.owner ≠ n ∨ s.stationKind n = some .inclinometer →
        exec (.renewZone n tag id) s = .next (s.answered n tag .notAuthorised []) ∧
        (s.isKind n [.bridge, .cargoControl] = false →
          exec (.releaseZone n tag id) s = .next (s.answered n tag .notAuthorised [])))) ∧
    (∀ (z : ClaimNo) (c : Claim) (d : Nat), s.claim z = some c → c.deadline = some d →
      let u := { s with now := max s.now d }.setClaim z (some { c with stale := true, deadline := none })
      ∃ t, exec (.zoneDeadlineExpiry z) s = .next t ∧
        t = told ((u.setLatch .zoneStale).latchIf (!s.anyZoneStale) .warning) c.hatch ∧
        t.claim z = some { c with stale := true, deadline := none } ∧ (∀ y, y ≠ z → t.claim y = s.claim y) ∧
        t.lineLive = s.lineLive ∧
        (s.inStart = false → .zoneStale ∈ t.latches ∧ (s.anyZoneStale = false → .warning ∈ t.latches))) ∧
    (∀ z : ClaimNo, (∀ c, s.claim z = some c → c.deadline = none) → exec (.zoneDeadlineExpiry z) s = .next s) ∧
    (∀ (h : HatchNo) (b : Bool) (held : Nat), (if b then 500 else 5000) ≤ held → s.hatchConfigured h = true →
      ∃ t, exec (.presenceChange h b held) s = .next t ∧ t.lineLive[h] = b ∧
        (∀ g : HatchNo, g ≠ h → t.lineLive[g] = s.lineLive[g]) ∧ t.claims = s.claims ∧
        (s.lineLive[h] ≠ b →
          t = told { s with presence := s.presence.set h b, lineLive := s.lineLive.set h b } h)) ∧
    (∀ (h : HatchNo) (b : Bool) (held : Nat), held < (if b then 500 else 5000) →
      exec (.presenceChange h b held) s = .next s)

/-! ### Stations, authority and stops -/

/-- KEEPALIVE of a PENDANT whose attendance is IDLE changes nothing; at or after the lower bound it restarts the watch; the
reply gives the outcome. Every change of an order has its issuers, the former and the new, counted again (R144, R145): the
watch of a PENDANT that is now attended starts, with this moment as its reference and the upper bound as its deadline, or
runs on unchanged; that of one that is attended no more is IDLE without a deadline; no other station changes. -/
def Obligations.KeepaliveKeepsTheWatch : Prop :=
  (∀ (s : State) (n : StationNo) (tag : Byte), s.ready n → s.stationKind n = some .pendant →
    ((s.station n).watching = false →
      exec (.keepalive n tag) s = .next (s.answered n tag .accepted [0, 0])) ∧
    ((s.station n).watching = true → s.params.tuning.attendanceLower ≤ s.now - (s.station n).reference →
      exec (.keepalive n tag) s = .next (((s.taken n).modStation n fun x =>
        { x with reference := s.now, deadline := some (s.now + s.params.tuning.attendanceUpper) }).replied n tag
          .accepted [0, 1]))) ∧
  ∀ (s : State) (i : SlotNo) (o : Order) (f : Order → Order), s.slot i = some o →
    let t := s.updateOrder i f
    t.slot i = some (f o) ∧ (∀ j, j ≠ i → t.slot j = s.slot j) ∧ t.panels = s.panels ∧
    ∀ n,
      (n = o.issuer ∨ n = (f o).issuer →
        (t.attends n → (s.station n).watching = false → t.station n =
          { s.station n with
            watching := true, reference := s.now, deadline := some (s.now + s.params.tuning.attendanceUpper) }) ∧
        (t.attends n → (s.station n).watching = true → t.station n = s.station n) ∧
        (¬ t.attends n → (s.station n).watching = true →
          t.station n = { s.station n with watching := false, deadline := none }) ∧
        (¬ t.attends n → (s.station n).watching = false → t.station n = s.station n)) ∧
      (n ≠ o.issuer → n ≠ (f o).issuer → t.station n = s.station n)

/-- A violation, by a KEEPALIVE below the lower bound or by the expiry of the deadline, latches ATTENDANCE. In PAUSE mode
every ACTIVE and AT_HOLD order of the pendant is PAUSED(ATTENDANCE) and both configured panels of its hatch are given
ATTENDANCE_LOST; in HALT mode they are given the fault ATTENDANCE. At its end the attendance of the pendant is IDLE and its
deadline is stopped (R147); what it leaves to the sequencers and the arbiters comes afterwards (log entry 5). The expiry
brings the clock to its deadline (log entry 1). -/
def Obligations.ViolationStopsThePendant : Prop :=
  ∀ (s : State) (n : StationNo) (tag : Byte) (h : HatchNo), s.linked → s.inStart = false → s.pendantHatch n = some h →
    s.hatchConfigured h = true →
    let holds (t : State) : Prop := .attendance ∈ t.latches ∧ t.params = s.params ∧ t.claims = s.claims ∧
      (s.params.tuning.attendanceMode = 0 → Paused .attendance (fun o => o.issuer = n) s t ∧
        .attendanceLost ∈ (t.panel (portOf h)).warnings ∧ .attendanceLost ∈ (t.panel (starboardOf h)).warnings) ∧
      (s.params.tuning.attendanceMode ≠ 0 → .attendance ∈ (t.panel (portOf h)).faults ∧
        .attendance ∈ (t.panel (starboardOf h)).faults)
    let idle (u : State) : Prop := (u.station n).watching = false ∧ (u.station n).deadline = none ∧
      (s.params.tuning.attendanceMode = 0 → ∀ m, m ≠ n → u.station m = s.station m)
    (∀ d, (s.station n).deadline = some d → ∃ t, exec (.attendanceDeadlineExpiry n) s = .next t ∧ holds t ∧
      let r := { s with now := max s.now d }.violation n
      idle r.st ∧ t = r.settle) ∧
    (s.ready n → (s.station n).watching = true →
      s.now - (s.station n).reference < s.params.tuning.attendanceLower → ∃ t, exec (.keepalive n tag) s = .next t ∧
        holds t ∧ idle ((s.taken n).violation n).st ∧
        t = ((s.taken n).violation n).settle.replied n tag .accepted [0, 2] ∧ t.txQueue = s.txQueue ++ [replyTo n tag .accepted [0, 2]])

/-- STOP_HATCH and STOP_ALL: every ACTIVE and AT_HOLD order of the hatch, or of the unit, is PAUSED(REQUEST), a jog there
has ended, and nothing that lasts changes. -/
def Obligations.StopsPauseAndEndTheJog : Prop :=
  ∀ (s : State) (n : StationNo) (tag hatch : Byte) (h : HatchNo), s.ready n → s.linked →
    s.isKind n [.bridge, .cargoControl, .pendant, .shore] = true →
    (hatchArg hatch = some h → s.hatchConfigured h = true → ∃ t, exec (.stopHatch n tag hatch) s = .next t ∧
      Paused .request (fun o => hatchOf o.panel = h) s t ∧ t.records = s.records ∧
      ∀ j, t.jog = some j → hatchOf j.panel ≠ h) ∧
    (∃ t, exec (.stopAll n tag) s = .next t ∧ Paused .request (fun _ => True) s t ∧ t.records = s.records ∧ t.jog = none)

/-- RAIN_CLOSE takes each configured panel in ascending number, as it stands when it is reached, and the reply gives the
counts created, raised and skipped. What it does with a panel, first line that applies: LOCAL, or holding a fault: skipped. A
live CLOSE or SECURE order is raised: class RAIN, no predecessor, its hold, id and issuer kept, and a PAUSED one, or one
AT_HOLD, as it was besides; that of an order in FLOW_WAIT has its waiting request re-keyed to RAIN and placed anew, with a
grant pass after it (R51, R128). A live order of another kind is CANCELLED(SUPERSEDED), and a CLOSE order of class RAIN of
the requester is created. With no live order, a panel SECURED is left alone and any other is given such an order. A hatch
without a selector state is not LOCAL (DESIGN CHOICE, log entry 19). So afterwards every live order of a panel whose hatch is
not LOCAL is a CLOSE or SECURE of class RAIN that waits on none; and on an empty order table every panel that may be closed
has one, with the counts that follow. -/
def Obligations.RainCloseClosesEveryPanel : Prop :=
  (∀ (s : State) (n : StationNo) (tag : Byte), s.ready n → s.unit = .run → s.isKind n [.bridge, .cargoControl] = true →
    let w := (allPanels.filter s.configured).foldl (Rain.take n) ⟨s.taken n, 0, 0, 0⟩
    let t := w.st.replied n tag .accepted [0, byteOf w.created, byteOf w.raised, byteOf w.skipped]
    exec (.rainClose n tag) s = .next t ∧
    (s.linked → s.faultedStand → ∀ i o, t.slot i = some o → o.state.live = true → s.isLocal (hatchOf o.panel) = false →
      o.kind.closes = true ∧ o.cls = .rain ∧ o.pred = none) ∧
    (s.linked → s.jog = none → (∀ i, s.slot i = none) →
      (∀ p, s.configured p = true → s.isLocal (hatchOf p) = false → (s.panel p).faults = [] → s.statusCode p ≠ 3 →
        ∃ i o, t.slot i = some o ∧ o.panel = p ∧ o.kind = .close ∧ o.cls = .rain ∧ o.issuer = n ∧ o.target = some 0 ∧
          o.hold = none) ∧
      (∀ i o, t.slot i = some o → s.configured o.panel = true ∧ s.isLocal (hatchOf o.panel) = false) ∧
      t.txQueue = s.txQueue ++ [replyTo n tag .accepted [0,
        byteOf (allPanels.filter fun p => s.configured p && !s.isLocal (hatchOf p) && (s.panel p).faults.isEmpty &&
          decide (s.statusCode p ≠ 3)).length, 0,
        byteOf (allPanels.filter fun p => s.configured p && (s.isLocal (hatchOf p) || !(s.panel p).faults.isEmpty)).length]])) ∧
  ∀ (s : State) (n : StationNo) (p : PanelNo) (c r k : Nat),
    let w := Rain.take n ⟨s, c, r, k⟩ p
    let counts (c r k : Nat) : Prop := w.created = c ∧ w.raised = r ∧ w.skipped = k
    let gives : Prop := counts (c + 1) r k ∧ ∃ j o, w.st.slot j = some o ∧ o.created = s.created ∧ o.panel = p ∧
      o.kind = .close ∧ o.cls = .rain ∧ o.issuer = n ∧ o.target = some 0 ∧ o.hold = none ∧ o.pred = none
    (s.isLocal (hatchOf p) = true ∨ (s.panel p).faults ≠ [] → counts c r (k + 1) ∧ w.st = s) ∧
    (s.isLocal (hatchOf p) = false → (s.panel p).faults = [] →
      (∀ i o, s.liveOrder p = some (i, o) → o.state.live = true → o.kind.closes = true →
        counts c (r + 1) k ∧
        (∃ q, w.st.slot i = some q ∧ q.cls = .rain ∧ q.pred = none ∧ q.hold = o.hold ∧ q.id = o.id ∧ q.issuer = o.issuer ∧
          q.kind = o.kind) ∧
        (o.state ≠ .pending → o.pausedFrom ≠ some .pending → o.phase ≠ some .flowWait ∨ o.state ≠ .active ∨ o.cls = .rain →
          w.st = s.setSlot i (some { o with cls := .rain, pred := none })) ∧
        (∀ (l : PackId) (v : Waiter), s.flowLaws → o.state = .active → o.phase = some .flowWait → o.pausedFrom = none →
          o.cls ≠ .rain → v ∈ (s.pack l).waiting → v.panel = o.panel →
          w.st = (Res.mk ((s.setSlot i (some { o with cls := .rain, pred := none })).setPack
            { s.pack l with waiting := rekeyed v .rain (s.pack l).waiting } l) [.pass l]).settle) ∧
        (o.state.isPaused = true → o.pausedFrom = some .pending → o.pred.isSome = true →
          w.st = s.setSlot i (some { o with cls := .rain, pred := none, pausedFrom := some .active, step := 1 }))) ∧
      (∀ i o, s.liveOrder p = some (i, o) → o.state.live = true → o.kind.closes = false →
        gives ∧ (s.inStart = false → .orderCancelled ∈ w.st.latches)) ∧
      (∀ i o j, s.liveOrder p = some (i, o) → o.state.live = true → o.kind.closes = false → s.slot j = none →
        ∃ q, w.st.slot i = some q ∧ q.id = o.id ∧ q.state = .cancelled .superseded ∧ q.finishedAt = some s.now) ∧
      (s.liveOrder p = none → (s.statusCode p = 3 → counts c r k ∧ w.st = s) ∧ (s.statusCode p ≠ 3 → gives)))

/-- SELECTOR_CHANGE: a level held for 200 ms is taken and, for a configured hatch, latches SELECTOR_CHANGE and pauses every
working or PENDING order of the hatch whose issuer has no authority under it (unless its predecessor fails in the work that
follows, which cancels it); a shorter one, or one that is taken already, is not. The level of an unconfigured hatch's line is
kept and nothing more (log entry 4), and the first level taken after a COMMIT has made a hatch configured is its derivation,
which is no change (log entry 19). -/
def Obligations.SelectorChangePausesTheHatch : Prop :=
  ∀ (s : State) (h : HatchNo) (b : Bool) (held : Nat),
    (held < 200 → exec (.selectorChange h b held) s = .next s) ∧
    (200 ≤ held → s.hatchConfigured h = true → s.hasSelector h = false → exec (.selectorChange h b held) s =
      .next { s with selector := s.selector.set h b, selectorDue := s.selectorDue.set h none }) ∧
    (200 ≤ held → (s.hatchConfigured h = true → s.hasSelector h = true) → s.selector[h] = b →
      exec (.selectorChange h b held) s = .next s) ∧
    (200 ≤ held → (s.hatchConfigured h = true → s.hasSelector h = true) → s.selector[h] ≠ b → s.linked →
      ∃ t, exec (.selectorChange h b held) s = .next t ∧ t.selector = s.selector.set h b ∧
        (s.inStart = false → s.hatchConfigured h = true → .selectorChange ∈ t.latches) ∧
        (s.hatchConfigured h = true → ∀ i o, s.slot i = some o → hatchOf o.panel = h →
          (o.state.working = true ∨ o.state = .pending) → t.authority o.issuer h = false →
          ∃ o', t.slot i = some o' ∧ (o'.state = .paused .authority ∨
            o.state = .pending ∧ o'.state = .cancelled .predecessor)) ∧
        (s.hatchConfigured h = false → t = { s with selector := t.selector }))

/-! ### Attitude and wind -/

/-- LIST_REPORT stores both values limited to ±250, makes the attitude FRESH and starts the 5000 ms of its staleness timer
(unless LIST_SOURCE is NONE), with CLAMPED when a value was limited. At the expiry the attitude is STALE and keeps its
values. Each derives LIST_HIGH from the values and the limits in the set (log entry 19), and its addition sets the WARNING
latch. A list beyond the warning level takes FAST from every plan. A level of the WIND line held for 2000 ms becomes the wind
state. After each the step of every panel is tested again, and after a report and a change of the wind the jog too. The
expiry brings the clock to its deadline (log entry 1). -/
def Obligations.AttitudeAndWindAreTaken : Prop :=
  ∀ (s : State),
    let tun := s.params.tuning
    let tested (u : State) (js : List Job) : State := (Res.mk u (allPanels.map Job.retest ++ js)).settle
    let high (l t : Int) : Prop :=
      s.layout.listSource ≠ 1 ∧ ((tun.listWarning : Int) < |l| ∨ (tun.trimLimit : Int) < |t|)
    (∀ (n : StationNo) (tag : Byte) (l t : Half), s.ready n → s.stationKind n = some .inclinometer →
      ∃ u, exec (.listReport n tag l t) s = .next u ∧ u.list = max (-250) (min l.toInt 250) ∧
        u.trim = max (-250) (min t.toInt 250) ∧ u.fresh = true ∧
        u.staleTimer = (if s.layout.listSource = 1 then none else some (s.now + 5000)) ∧
        (u.listHigh = true ↔ high u.list u.trim) ∧ (s.listHigh = false → u.listHigh = true → .warning ∈ u.latches) ∧
        u.records = { s.records with
          list := u.list, trim := u.trim, fresh := true, staleTimer := u.staleTimer, listHigh := u.listHigh } ∧
        u.txQueue = s.txQueue ++ [replyTo n tag .accepted
          [if u.list ≠ l.toInt ∨ u.trim ≠ t.toInt then 1 else 0]] ∧
        let v := { s.taken n with list := u.list, trim := u.trim, fresh := true, staleTimer := u.staleTimer }
        let w := v.deriveListHigh.forPanels fun p v => v.checkFast p
        u = (tested w [.jogTest]).replied n tag .accepted [if u.list ≠ l.toInt ∨ u.trim ≠ t.toInt then 1 else 0] ∧
        (s.layout.listSource ≠ 1 → (tun.listWarning : Int) < |u.list| → ∀ p pl, (s.panel p).plan = some pl → pl.fast = true →
          (w.panel p).plan = some { pl with fast := false } ∧
          (w.panel p).coils = { (s.panel p).coils with fast := false })) ∧
    (∀ d, s.staleTimer = some d → ∃ u, exec .listStalenessExpiry s = .next u ∧ u.fresh = false ∧ u.staleTimer = none ∧
      u.list = s.list ∧ u.trim = s.trim ∧ (u.listHigh = true ↔ high s.list s.trim) ∧
      (s.inStart = false → s.listHigh = false → u.listHigh = true → .warning ∈ u.latches) ∧
      (s.inStart = false → s.fresh = true → s.layout.listSource ≠ 1 → .warning ∈ u.latches) ∧
      ∃ e, u = tested { s with
        now := max s.now d, fresh := false, staleTimer := none, listHigh := u.listHigh, latches := e } []) ∧
    (∀ b held, 2000 ≤ held → s.windSet ≠ b → ∃ u, exec (.windChange b held) s = .next u ∧ u.windSet = b ∧
      u.windLine = b ∧ (s.inStart = false → b = true → .warning ∈ u.latches) ∧
      u.records = { s.records with windSet := b, windLine := b } ∧
      ∃ e, u = tested { s with windSet := b, windLine := b, latches := e } [.jogTest]) ∧
    (∀ b held, held < 2000 → exec (.windChange b held) s = .next s)

/-! ### Protection -/

/-- The loop opens (held open for 10 ms), or the supply stays below 19.0 V for 50 ms: every coil of every panel is off, a
running travel coasts, every ACTIVE and AT_HOLD order is PAUSED with the cause's reason, no order works, no jog is in
progress, and the cause's latch is set. A shorter disturbance of either changes nothing, and of a supply that has stayed at
19.0 V or above for 50 ms only the reading is kept (log entry 2). -/
def Obligations.LostEnableStopsEverything : Prop :=
  ∀ s : State, s.linked →
    (∀ held, 10 ≤ held → s.loopOpen = false → ∃ t, exec (.estopOpen held) s = .next t ∧ t.loopOpen = true ∧
      t.enabled = false ∧ (∀ p, (t.panel p).coils = {} ∧ (t.panel p).mode ≠ .driven) ∧ Paused .estop (fun _ => True) s t ∧
      (∀ i o, t.slot i = some o → o.state.working = false) ∧ t.jog = none ∧ .estopChange ∈ t.latches) ∧
    (∀ mV held, 50 ≤ held → mV < 19000 → s.supplyLow = false → ∃ t, exec (.supplyUndervoltage mV held) s = .next t ∧
      t.supplyLow = true ∧ t.enabled = false ∧ (∀ p, (t.panel p).coils = {} ∧ (t.panel p).mode ≠ .driven) ∧
      Paused .supply (fun _ => True) s t ∧ (∀ i o, t.slot i = some o → o.state.working = false) ∧ t.jog = none ∧
      .supplyLow ∈ t.unitFaults ∧ (s.inStart = false → .unitFault ∈ t.latches)) ∧
    (∀ held, held < 10 → exec (.estopOpen held) s = .next s) ∧
    (∀ mV held, held < 50 → exec (.supplyUndervoltage mV held) s = .next s) ∧
    (∀ mV held, 50 ≤ held → 19000 ≤ mV → exec (.supplyUndervoltage mV held) s = .next { s with supplyMv := mV })

/-- The loop closes (held closed for 500 ms): it is CLOSED, ESTOP_CHANGE is set, and nothing resumes. The supply recovers
(at 20.0 V or above for 50 ms): in AUTO mode it is GOOD again, in LATCHED mode a LOW state stays; nothing resumes. A shorter
recovery changes nothing, and of a lower one that has lasted 50 ms only the reading is kept. That each reading is kept at all
is log entry 2; that a supply found recovered counts as such until the next undervoltage, a lower reading included, is log
entry 11. -/
def Obligations.ReturnedEnableResumesNothing : Prop :=
  ∀ s : State,
    (∀ held, 500 ≤ held → s.loopOpen = true → s.loopTaken = true → ∃ t, exec (.estopClose held) s = .next t ∧
      t.loopOpen = false ∧ t.enabled = !s.supplyLow ∧ .estopChange ∈ t.latches ∧ t.panels = s.panels ∧
      t.slots = s.slots ∧ t.jog = s.jog) ∧
    (∀ held, held < 500 → exec (.estopClose held) s = .next s) ∧
    (∀ mV held, 50 ≤ held → 20000 ≤ mV → exec (.supplyRecovery mV held) s = .next
      { s with supplyMv := mV, supplyRecovered := true, supplyLow := s.supplyLow && s.params.tuning.supplyMode == 0 }) ∧
    (∀ mV held, held < 50 → exec (.supplyRecovery mV held) s = .next s) ∧
    (∀ mV held, 50 ≤ held → mV < 20000 → exec (.supplyRecovery mV held) s = .next { s with supplyMv := mV })

/-- The causes and the oil state of a pack after each of its events, and what they make of its health: PUMP follows the
pump-running line; PRESSURE joins when the pressure, judged, has stayed below the threshold for 1000 ms, and in AUTO mode
leaves when it has stayed at or above it as long, the first 2000 ms of the pump not counting; the oil is HOT from the hot
threshold to 5 °C below it and OVERTEMP joins at its own threshold; an unreadable oil sensor gives both (log entry 20). That
an event taken in START acts at once in the same way is the model's choice (DESIGN CHOICE, log entry 20). The first cause
latches UNIT_FAULT, a change of health or oil state PACK_CHANGE. A pack that goes DOWN voids its grants: the orders of the
steps that held them are PAUSED(PACK_LOSS), a jog that held one ends, and each waiting entry stays, moves to the other list
or fails with FLOW_IMPOSSIBLE, as the health of both packs, the crossover and the capacities say; one that comes UP has the
other's entries decided again in the same way; one whose oil turns HOT keeps its grants and runs no pass, and one whose oil
is NORMAL again runs one. -/
def Obligations.PackCausesFollowTheirLines : Prop :=
  (∀ (s : State) (k : PackId),
    let tun := s.params.tuning
    let x := s.pack k
    let judged (held running : Nat) : Bool := x.pumpOn && decide (1000 ≤ held) && decide (3000 ≤ running)
    let after (c : Instr) (P : Pack → Prop) : Prop := ∃ t, exec c s = .next t ∧ P (t.pack k) ∧
      t = (s.changePack k fun _ => { t.pack k with grants := x.grants, waiting := x.waiting }) ∧
      (t.pack (otherPack k)).lasting = (s.pack (otherPack k)).lasting ∧
      (s.inStart = false →
        (x.anyCause = false → (t.pack k).anyCause = true → .unitFault ∈ t.latches) ∧
        (x.up ≠ (t.pack k).up ∨ x.hot ≠ (t.pack k).hot → .packChange ∈ t.latches) ∧
        (x.hot = false → (t.pack k).hot = true → .warning ∈ t.latches))
    after (.pumpStop k) (fun y => y.pump = true ∧ y.pumpOn = false ∧ y.up = false ∧ y.lowPressure = x.lowPressure ∧
      y.overtemp = x.overtemp ∧ y.hot = x.hot) ∧
    after (.pumpRun k) (fun y => y.pump = false ∧ y.pumpOn = true ∧ y.lowPressure = x.lowPressure ∧
      y.overtemp = x.overtemp ∧ y.hot = x.hot) ∧
    (∀ bar held running, after (.pressureLow k bar held running) fun y =>
      y.lowPressure = (x.lowPressure || (judged held running && decide (bar.getD 0 < tun.pressureLow))) ∧
      y.pump = x.pump ∧ y.overtemp = x.overtemp ∧ y.hot = x.hot) ∧
    (∀ bar held running, after (.pressureRecovery k bar held running) fun y =>
      y.lowPressure = (x.lowPressure &&
        !(tun.pressureMode == 1 && judged held running && decide (tun.pressureLow ≤ bar.getD 0))) ∧
      y.pump = x.pump ∧ y.overtemp = x.overtemp ∧ y.hot = x.hot) ∧
    (∀ c : Int, after (.oilTemperatureChange k (some c)) fun y =>
      ((tun.oilHot : Int) ≤ c → y.hot = true) ∧ (c < tun.oilHot - 5 → y.hot = false) ∧
      ((tun.oilHot : Int) - 5 ≤ c → c < tun.oilHot → y.hot = x.hot) ∧
      y.overtemp = (x.overtemp || decide ((tun.oilOvertemp : Int) ≤ c)) ∧ y.pump = x.pump ∧ y.lowPressure = x.lowPressure) ∧
    after (.oilTemperatureChange k none) (fun y => y.hot = true ∧ y.overtemp = true ∧ y.up = false)) ∧
  ∀ (s : State) (k : PackId) (y : Pack), s.linked → s.flowLaws → y.grants = (s.pack k).grants →
    y.waiting = (s.pack k).waiting →
    let x := s.pack k
    let t := s.changePack k fun _ => y
    let u := (((s.setPack y k).latchIf (y.anyCause && !x.anyCause) .unitFault).latchIf (y.hot && !x.hot) .warning).latchIf
      (x.up != y.up || x.hot != y.hot) .packChange
    let up (j : PackId) : Bool := if j = k then y.up else (s.pack j).up
    let lists (p : PanelNo) : PackId :=
      if up (s.homePack p) = false ∧ up (otherPack (s.homePack p)) = true ∧ s.layout.crossover = 1 then
        otherPack (s.homePack p) else s.homePack p
    let decided (v : State) (j : PackId) : Prop := ∀ w ∈ (s.pack j).waiting,
      (lists w.panel = j → w ∈ (v.pack j).waiting) ∧
      (lists w.panel ≠ j → w ∉ (v.pack j).waiting ∧
        (w.demand ≤ s.capacity (otherPack j) → w ∈ (v.pack (otherPack j)).waiting) ∧
        (s.capacity (otherPack j) < w.demand → v.flow w.panel = .none ∧ ∀ i o q, s.served w.panel = some (i, o, q) →
          ∃ o', v.slot i = some o' ∧ o'.state = .failed .flowImpossible))
    let stay (v : State) (j : PackId) : Prop := ∀ w ∈ (s.pack j).waiting, w ∈ (v.pack j).waiting
    (x.up = true → y.up = false →
      let r := u.packDown k
      t = r.settle ∧ (r.st.pack k).grants = [] ∧ .pass (otherPack k) ∈ r.jobs ∧ decided r.st k ∧ stay r.st (otherPack k) ∧
      (∀ g ∈ x.grants, g.jog = true → r.st.jog = none) ∧
      ∀ g ∈ x.grants, g.jog = false → ∃ i o q, s.served g.panel = some (i, o, q) ∧
        r.st.slot i = some { o with state := .paused .packLoss, pausedFrom := some .active, phase := none, reasons := {} } ∧
        (q = .travel → o.phase = some .running → (r.st.panel g.panel).mode ≠ .driven)) ∧
    (x.up = false → y.up = true →
      let r := u.packUp k
      t = r.settle ∧ .pass k ∈ r.jobs ∧ .pass (otherPack k) ∈ r.jobs ∧ decided r.st (otherPack k) ∧ stay r.st k ∧
      ∀ j, (r.st.pack j).grants = (s.pack j).grants) ∧
    (x.up = y.up → x.hot = false → y.hot = true → t = u) ∧
    (x.up = y.up → x.hot = true → y.hot = false → t = (Res.mk u [.pass k]).settle)

/-- CARD_TEMPERATURE_CHANGE by the table of card states (an unreadable sensor counts as at or above 105 °C): a card that
leaves NORMAL gives each of its configured panels CARD_HOT, and one that enters OVERTEMP gives CARD_OVERTEMP to the panels
that OTSD_MODE names. The other cards stay. With a card that is HOT or OVERTEMP the FAST of each of its configured panels
that travels under a fast plan goes off at once, the plan is fast no more and the activity is TRAVEL(direction, SLOW); the
travel goes on, unless the card has entered OVERTEMP, at which every coil of the panel goes off. -/
def Obligations.CardStatesFollowTheTemperature : Prop :=
  ∀ (s : State) (k : CardNo) (r : Option Int),
    let d := cardAfter s.cards[k] r
    ∃ t, exec (.cardTemperatureChange k r) s = .next t ∧ t.cards = s.cards.set k d ∧
      (s.cards[k] = .normal → d ≠ .normal → ∀ p, s.configured p = true → cardOf p = k →
        .cardHot ∈ (t.panel p).warnings) ∧
      (s.cards[k] ≠ .overtemp → d = .overtemp → ∀ p, s.configured p = true →
        (cardOf p = k ∨ s.params.tuning.otsdMode ≠ 0) → .cardOvertemp ∈ (t.panel p).faults) ∧
      (d ≠ .normal → d = .hot ∨ s.cards[k] = .overtemp → ∀ p pl, s.configured p = true → cardOf p = k →
        (s.panel p).plan = some pl → pl.fast = true → t.panel p = { s.panel p with
          coils := { (s.panel p).coils with fast := false }, plan := some { pl with fast := false }
          activity := match (s.panel p).activity with | .travel e _ => .travel e .slow | a => a
          warnings := (t.panel p).warnings }) ∧
      (s.linked → s.faultedStand → s.cards[k] ≠ .overtemp → d = .overtemp → ∀ p, s.configured p = true →
        (cardOf p = k ∨ s.params.tuning.otsdMode ≠ 0) →
        (t.panel p).coils = {} ∧ (t.panel p).mode ≠ .driven ∧ (t.panel p).live = none) ∧
      t.records = { s.records with cards := t.cards, cardTemp := t.cardTemp }

/-- The coil diagnostics, while the output enable is present, on a configured panel that holds no fault of the kind: a coil
above 4.0 A for the deglitch, an energised coil below 80 mA for 100 ms, and a coil that the off-state test finds above
300 Ω for 100 ms raise their fault, naming the coil; the panel's coils are off and its live order is FAILED with the
kind. -/
def Obligations.CoilDiagnosticsRaiseTheirFaults : Prop :=
  ∀ (s : State) (p : PanelNo) (c : Coil) (held : Nat), s.linked → s.configured p = true → s.enabled = true →
    let out (t : State) (k : PanelFault) : Prop := k ∈ (t.panel p).faults ∧ (t.panel p).coils = {} ∧
      (t.panel p).live = none ∧ (s.inStart = false → .panelFault ∈ t.latches) ∧
      ∀ i o, s.slot i = some o → (s.panel p).live = some o.id →
        ∃ o', t.slot i = some o' ∧ o'.state = .failed (.fault k) ∧ o'.finishedAt = some s.now
    (∀ mA, (s.panel p).coils.get c = true → 4000 < mA → s.params.tuning.overcurrentDeglitch ≤ held →
      .solenoidShort ∉ (s.panel p).faults → ∃ t, exec (.coilOvercurrent p c mA held) s = .next t ∧ out t .solenoidShort ∧
        (t.panel p).shortCoil = some c) ∧
    (∀ mA, (s.panel p).coils.get c = true → s.coilTested p c = true → mA < 80 → 100 ≤ held →
      .solenoidOpen ∉ (s.panel p).faults → ∃ t, exec (.coilOpenLoad p c mA held) s = .next t ∧ out t .solenoidOpen ∧
        (t.panel p).openCoil = some c) ∧
    (∀ ohms, (s.panel p).coils.get c = false → s.coilTested p c = true → s.params.tuning.offStateTest = 1 → 300 < ohms →
      100 ≤ held → .solenoidOpen ∉ (s.panel p).faults → ∃ t, exec (.offStateOpenLoad p c ohms held) s = .next t ∧
        out t .solenoidOpen ∧ (t.panel p).openCoil = some c) ∧
    (∀ mA, mA ≤ 4000 ∨ held < s.params.tuning.overcurrentDeglitch → exec (.coilOvercurrent p c mA held) s = .next s) ∧
    (∀ mA, 80 ≤ mA ∨ held < 100 → exec (.coilOpenLoad p c mA held) s = .next s)

/-- TRAVEL_TRIP_RAISED: a travel pressure above the trip level for the deglitch, time before the last reset not counting,
raises the pack's trip; at or below the level, by either event, the trip is CLEAR at once and nothing else changes. A reading
outside the measuring range is any value (log entry 12), so nothing is said of the trip then but that the unit goes on. -/
def Obligations.TheTripFollowsThePressure : Prop :=
  ∀ (s : State) (k : PackId) (bar held : Nat),
    let counted := min held (s.now - (s.pack k).deglitchFrom)
    (s.params.tuning.tripLevel < bar → s.params.tuning.tripDeglitch ≤ counted → ∃ t,
      exec (.travelTripRaised k (some bar) held) s = .next t ∧ (t.pack k).trip = true ∧ (t.pack k).travelBar = bar ∧
      (t.pack (otherPack k)).lasting = (s.pack (otherPack k)).lasting ∧
      ((s.pack k).trip = false → ∀ p, (s.panel p).travelling = true → s.travelPack p = k → s.inStart = false →
        .travelTrip ∈ (t.panel p).warnings ∧ .warning ∈ t.latches)) ∧
    (s.params.tuning.tripLevel < bar → counted < s.params.tuning.tripDeglitch → (s.pack k).trip = false → ∃ t,
      exec (.travelTripRaised k (some bar) held) s = .next t ∧ (t.pack k).trip = false ∧ t.panels = s.panels) ∧
    (bar ≤ s.params.tuning.tripLevel →
      ∀ c : Instr, c = .travelTripRaised k (some bar) held ∨ c = .travelTripClear k (some bar) →
        exec c s = .next (s.modPack k fun x => { x with travelBar := bar, trip := false })) ∧
    (∀ c : Instr, c = .travelTripRaised k none held ∨ c = .travelTripClear k none →
      ∃ t, exec c s = .next t ∧ t.free = s.free + 1 ∧ t.params = s.params ∧ t.layout = s.layout)

/-- When a trip is raised, every panel that travels on its pack with its travel coils energised is chopped, one after
another. A chop below the chop limit: the direction coils and FAST go off, BRAKE_RELEASE stays, the travel stays DRIVEN with
its stall timer suspended, the chop mark stands, the hold-off runs and the chop counter rises by one. One that brings the
counter to the limit raises TRAVEL_OVERLOAD: the panel's coils are off, the travel brakes, and the live order is FAILED with
it. At the end of the hold-off, with the pressure at or below the trip level and the trip CLEAR, the direction coil is
energised again without FAST and the stall timer starts in full; above the level the hold-off runs again with the coils as
they are. The expiry brings the clock to its deadline, and a hold-off that does not run has none (log entry 1). -/
def Obligations.ChopsAndTheirHoldoff : Prop :=
  ∀ (s : State) (p : PanelNo),
    let x := s.panel p
    let tun := s.params.tuning
    (∀ (k : PackId) (bar held : Nat), tun.tripLevel < bar → (s.pack k).trip = false →
      tun.tripDeglitch ≤ min held (s.now - (s.pack k).deglitchFrom) →
      let u := s.modPack k fun z => { z with travelBar := bar, trip := true }
      exec (.travelTripRaised k (some bar) held) s =
        .next (Res.each (u.travellers k) (fun q v => v.chopPanel q) (.ok u)).settle ∧
      (u.travellers k).Nodup ∧
      ∀ q, q ∈ u.travellers k ↔ (s.panel q).mode = .driven ∧ (s.panel q).holdoff = none ∧ s.travelPack q = k) ∧
    (min 255 (x.chop + 1) < tun.chopLimit → (s.chopPanel p).jobs = [] ∧
      let y := ((s.chopPanel p).st).panel p
      y.coils = { x.coils with travelOut := false, travelIn := false, fast := false } ∧ y.mode = x.mode ∧
      y.chopMark = true ∧ y.holdoff = some (s.now + tun.chopHoldoff) ∧ y.chop = min 255 (x.chop + 1) ∧
      .travelTrip ∈ y.warnings ∧ y.count = x.count ∧ y.live = x.live ∧
      (∀ d, x.stall = .running d → y.stall = .suspended (d - s.now)) ∧
      ∀ q, q ≠ p → ((s.chopPanel p).st).panel q = s.panel q) ∧
    (tun.chopLimit ≤ min 255 (x.chop + 1) → s.linked → s.configured p = true → .travelOverload ∉ x.faults →
      x.mode = .driven →
      let v := (s.chopPanel p).st
      let y := v.panel p
      .travelOverload ∈ y.faults ∧ y.overloadPack = some (s.travelPack p) ∧ y.chop = min 255 (x.chop + 1) ∧
      .travelTrip ∈ y.warnings ∧ y.coils = {} ∧ y.mode = .coasting ∧ y.holdoff = none ∧ y.stall = .stopped ∧
      y.brakeTimer = some (s.now + tun.brakingWindow) ∧ y.live = none ∧ (s.inStart = false → .panelFault ∈ v.latches) ∧
      ∀ i o, s.slot i = some o → x.live = some o.id →
        ∃ o', v.slot i = some o' ∧ o'.state = .failed (.fault .travelOverload) ∧ o'.finishedAt = some s.now) ∧
    (∀ d e, x.holdoff = some d → x.lastDir = some e → (s.pack (s.travelPack p)).travelBar ≤ tun.tripLevel →
      (s.pack (s.travelPack p)).trip = false → ∃ t, exec (.chopHoldoffEnd p) s = .next t ∧ t.now = max s.now d ∧
        (t.panel p).holdoff = none ∧ (t.panel p).stall = .running (max s.now d + tun.stallPeriod) ∧
        (t.panel p).coils = (if s.enabled then x.coils.put true e.coil else x.coils) ∧
        (t.panel p).chop = x.chop ∧ t.slots = s.slots ∧ ∀ q, q ≠ p → t.panel q = s.panel q) ∧
    (∀ d, x.holdoff = some d → tun.tripLevel < (s.pack (s.travelPack p)).travelBar → exec (.chopHoldoffEnd p) s =
      .next ({ s with now := max s.now d }.modPanel p fun x =>
        { x with holdoff := some (max s.now d + tun.chopHoldoff) })) ∧
    (x.holdoff = none → exec (.chopHoldoffEnd p) s = .next s)

/-- CLEAR_FAULTS of one configured panel, or of the panels of a configured hatch, by a station that may: of each panel the
kinds whose condition is gone (the table of R166) leave the fault set, the warnings leave (CARD_HOT stays while the card is
not NORMAL), the creep and chop counters and the cleats' greatest times are 0, a coil stays named while its fault stays, and
the panel is UNCERTAIN if RUNAWAY, POSITION_RANGE or SENSOR_CONFLICT left; nothing else changes, and the reply gives the
kinds removed, those that remain, and whether the unit holds no fault. Of the unit: every configured panel is cleared so,
FRAME_ERRORS leaves, a latched SUPPLY_LOW leaves if the supply has recovered, and then the latched causes of each pack whose
conditions have recovered leave it, as any change of its causes; the frame-error counts stay. Five points are the model's
own: OVERTEMP that has left is added again only at the next oil reading (DESIGN CHOICE, log entry 20), pack A is relieved,
with the work that follows, before pack B (DESIGN CHOICE, log entry 5), OVERTEMP never leaves while the oil sensor has failed
(DEDUCED, log entry 20), the kinds are counted after the panels and before the unit part (DESIGN CHOICE, log entry 20), and a
supply counts as recovered until the next undervoltage (DESIGN CHOICE, log entry 11). -/
def Obligations.ClearFaultsRemovesWhatIsGone : Prop :=
  ∀ (s : State) (n : StationNo) (tag b : Byte), s.ready n →
    let cleared (p : PanelNo) (y : Panel) : Prop :=
      let x := s.panel p
      y.faults.Sublist x.faults ∧ (∀ k, k ∈ y.faults ↔ k ∈ x.faults ∧ ¬ s.conditionGone p k) ∧
      y.warnings.Sublist x.warnings ∧
      (∀ w, w ∈ y.warnings ↔ w ∈ x.warnings ∧ w = .cardHot ∧ s.cards[cardOf p] ≠ .normal) ∧
      (y.certain = true ↔ x.certain = true ∧
        ∀ k ∈ [PanelFault.runaway, .positionRange, .sensorConflict], k ∈ x.faults → k ∈ y.faults) ∧
      y = { x with
        faults := y.faults, warnings := y.warnings, certain := y.certain, creep := 0, chop := 0
        shortCoil := if .solenoidShort ∈ y.faults then x.shortCoil else none
        openCoil := if .solenoidOpen ∈ y.faults then x.openCoil else none
        cleats := x.cleats.map fun c => { c with greatest := 0 } }
    let count (u : State) (ps : List PanelNo) : Nat := (ps.map fun p => (u.panel p).faults.length).sum
    let counts (t u : State) (ps : List PanelNo) : List Byte :=
      [0, byteOf (count s ps - count t ps), byteOf (count t ps),
        if u.supplyLow || u.packA.anyCause || u.packB.anyCause then 0 else 1]
    let clears (c : Instr) (ps : List PanelNo) : Prop := ∃ t, exec c s = .next t ∧
      (∀ p, if p ∈ ps then cleared p (t.panel p) else t.panel p = s.panel p) ∧
      t = ({ s.taken n with panels := t.panels }).replied n tag .accepted (counts t t ps)
    (∀ p, panelArg b = some p → s.configured p = true →
      (s.isKind n [.bridge, .cargoControl] = true ∨ s.pendantHatch n = some (hatchOf p)) →
      clears (.clearFaults n tag 0 b) [p]) ∧
    (∀ h, hatchArg b = some h → s.hatchConfigured h = true →
      (s.isKind n [.bridge, .cargoControl] = true ∨ s.pendantHatch n = some h) →
      clears (.clearFaults n tag 1 b) [portOf h, starboardOf h]) ∧
    (s.isKind n [.bridge, .cargoControl] = true →
      let ps := allPanels.filter s.configured
      let v := { ps.foldl (fun u p => u.clearPanel p) (s.taken n) with
        frameErrorsWarned := false, supplyLow := s.supplyLow && !s.supplyRecovered }
      let relieve (u : State) (k : PackId) : State := u.changePack k fun x =>
        { x with
          lowPressure := x.lowPressure && !(s.params.tuning.pressureMode == 0 &&
            decide (s.params.tuning.pressureLow ≤ x.pressure.getD 0))
          overtemp := x.overtemp && !(match x.oil with
            | some c => decide (c < (s.params.tuning.oilHot : Int) - 5)
            | none => false) }
      (∀ p, if s.configured p = true then cleared p (v.panel p) else v.panel p = s.panel p) ∧
      v = { s.taken n with
        panels := v.panels, frameErrorsWarned := false, supplyLow := s.supplyLow && !s.supplyRecovered } ∧
      ∃ t, exec (.clearFaults n tag 2 b) s = .next t ∧ t.frameErrorsWarned = false ∧
        t = (relieve (relieve v .a) .b).replied n tag .accepted (counts v t ps) ∧
        t.supplyLow = (s.supplyLow && !s.supplyRecovered) ∧
        (∀ m, (t.station m).frameErrors = (s.station m).frameErrors) ∧
        ∀ k, (t.pack k).pump = (s.pack k).pump ∧
          (t.pack k).lowPressure = ((s.pack k).lowPressure && !(s.params.tuning.pressureMode == 0 &&
            decide (s.params.tuning.pressureLow ≤ (s.pack k).pressure.getD 0))) ∧
          ((t.pack k).overtemp = true ↔ (s.pack k).overtemp = true ∧
            ∀ c, (s.pack k).oil = some c → (s.params.tuning.oilHot : Int) - 5 ≤ c))

/-! ### Configuration and service -/

/-- SET_PARAM: the five checks in their order, the first that fails giving the refusal; an accepted value is stored, a
numeric one limited to its range, and no other parameter changes. Nothing else changes either: that no standing reading is
compared with a new threshold at once is the model's reading of R188 (DEDUCED, log entry 19). -/
def Obligations.SetParamStoresInRange : Prop :=
  ∀ (s : State) (n : StationNo) (tag : Byte) (number value : Half), s.ready n →
    let refused (c : ReplyCode) : Prop := exec (.setParam n tag number value) s = .next (s.answered n tag c [])
    let named : Prop := ∃ i : ParamId, i.number = number.toNat ∧
      (i.enumerated = true → i.range.1 ≤ value.toNat ∧ value.toNat ≤ i.range.2)
    (s.unit ≠ .setup → refused .unitState) ∧
    (s.unit = .setup → s.stationKind n ≠ some .bridge → refused .notAuthorised) ∧
    (s.unit = .setup → s.stationKind n = some .bridge →
      (¬ named → refused .badArgument) ∧
      (named → s.writing.isSome = true → refused .busy) ∧
      (named → s.writing = none → number.toNat ≤ 532 → s.locked = true → refused .layoutLocked) ∧
      (named → s.writing = none → 532 < number.toNat ∨ s.locked = false →
        ∃ (i : ParamId) (v : Nat) (ps : ParamSet), i.number = number.toNat ∧
          (value.toNat < i.range.1 → v = i.range.1) ∧ (i.range.2 < value.toNat → v = i.range.2) ∧
          (i.range.1 ≤ value.toNat → value.toNat ≤ i.range.2 → v = value.toNat) ∧
          ps.get i = v ∧ (∀ j, j ≠ i → ps.get j = s.params.get j) ∧
          exec (.setParam n tag number value) s = .next (({ s.taken n with params := ps }).replied n tag .accepted
            ((if v = value.toNat then 0 else 1) :: (bytes2 i.number ++ bytes2 v)))))

/-- COMMIT of a consistent set by a BRIDGE station in SETUP starts the store write and leaves its reply waiting. A write that
ends with a copy that agrees puts the layout of the set into effect, removes CONFIG_ABSENT, sets the layout lock and the
store, enters RUN and answers ACCEPTED; no latch changes. A panel whose hatch it makes configured or unconfigured has its
record as at power-on, with its certainty from its switches, and with SENSOR_CONFLICT, for which no latch is set, where they
are made together (DEDUCED, log entry 11); one whose cleat count or groups it changes has its cleats set up
from theirs (all twelve groups compared: log entry 20), and every other panel is as it was; a station keeps its frame-error
count and its last reply code unless its kind, or its hatch as a PENDANT, changes, which leaves neither, but for the code of
the COMMIT's own reply; a hatch it makes configured has no selector until its line has been taken (log
entry 19). A write whose copy does not agree leaves the unit in SETUP with its layout and lock and answers STORE_ERROR.
That a panel so configured has neither CARD_HOT nor CARD_OVERTEMP, whatever its card's state, is the model's choice (DESIGN
CHOICE, log entry 11). RECONFIGURE, with no live order and every panel IDLE (log entry 20), enters
SETUP. RESTART waits for its reply to be sent. -/
def Obligations.ConfigurationTakesEffectAtCommit : Prop :=
  ∀ (s : State) (n : StationNo) (tag : Byte),
    let old := s.layout
    let new := s.params.layout
    let was (h : HatchNo) : Bool := decide (h.val < old.hatchCount)
    let now (h : HatchNo) : Bool := decide (h.val < new.hatchCount)
    let fromSwitch (c : Cleat) : Cleat := ⟨if c.made then .engaged else .released, c.made, 0, 0⟩
    (s.ready n → s.stationKind n = some .bridge → s.unit = .setup → s.writing = none → s.params.inconsistent = none →
      exec (.commit n tag) s = .next { s.taken n with writing := some ⟨n, tag, true⟩ }) ∧
    (∀ w, s.writing = some w → ∃ t, exec (.storeWriteEnd true) s = .next t ∧ t.unit = .run ∧ t.layout = new ∧
      t.params = s.params ∧ t.store = some s.params ∧ t.locked = true ∧ t.configAbsent = false ∧ t.writing = none ∧
      t.latches = s.latches ∧ t.slots = s.slots ∧
      (old.listSource ≠ new.listSource →
        t.list = 0 ∧ t.trim = 0 ∧ t.fresh = false ∧ t.staleTimer = none ∧ t.listHigh = false) ∧
      (∀ z c, s.claim z = some c → t.claim z = if c.hatch.val < new.hatchCount then some c else none) ∧
      (∀ p,
        (was (hatchOf p) ≠ now (hatchOf p) → (t.panel p).sw = (s.panel p).sw ∧ (t.panel p).count = 0 ∧
          (t.panel p).certain = ((s.panel p).seat == .seated && (s.panel p).sw.home) ∧ (t.panel p).warnings = [] ∧
          (t.panel p).faults = (if now (hatchOf p) = true ∧
            ((s.panel p).sw.seated1 = true ∨ (s.panel p).sw.seated2 = true) ∧
            ((s.panel p).sw.lifted1 = true ∨ (s.panel p).sw.lifted2 = true) then [.sensorConflict] else []) ∧
          (t.panel p).cleats = (s.panel p).cleats.map fromSwitch) ∧
        (was (hatchOf p) = now (hatchOf p) → t.panel p =
          if old.cleatCount[p] = new.cleatCount[p] ∧ old.cleatGroup[p] = new.cleatGroup[p] then s.panel p
          else { s.panel p with cleats := (s.panel p).cleats.map fromSwitch, move := none })) ∧
      (∀ h : HatchNo, t.lineLive[h] = (now h && if was h then s.lineLive[h] else s.presence[h])) ∧
      (∀ h : HatchNo, was h = false → now h = true → t.hasSelector h = false ∧ t.selector[h] = s.selector[h]) ∧
      (∀ m : StationNo,
        let same : Bool := decide (old.stationKind[m] = new.stationKind[m] ∧
          (old.stationKind[m] = 3 → old.stationHatch[m] = new.stationHatch[m]))
        t.station m = { s.station m with
          lastReply := if w.answer = true ∧ m = w.station then ReplyCode.accepted.code
            else if same then (s.station m).lastReply else 0
          frameErrors := if same then (s.station m).frameErrors else 0 }) ∧
      t.txQueue = s.txQueue ++ if w.answer then [replyTo w.station w.tag .accepted [0]] else []) ∧
    (∀ w, s.writing = some w → ∃ t, exec (.storeWriteEnd false) s = .next t ∧ t.unit = s.unit ∧ t.layout = s.layout ∧
      t.locked = s.locked ∧ t.params = s.params ∧ t.writing = none ∧ t.panels = s.panels ∧ t.slots = s.slots ∧
      t.txQueue = s.txQueue ++ if w.answer then [replyTo w.station w.tag .storeError []] else []) ∧
    (s.ready n → s.stationKind n = some .bridge → s.unit = .run →
      (∀ i o, s.slot i = some o → o.state.live = false) → (∀ p, (s.panel p).activity = .idle) →
      exec (.reconfigure n tag) s = .next (({ s.taken n with unit := .setup }).replied n tag .accepted [0])) ∧
    (s.ready n → s.stationKind n = some .bridge → s.writing = none →
      exec (.restart n tag) s = .next ((s.taken n).queueReply { replyTo n tag .accepted [0] with restarts := true }))

/-- The layout in effect changes at a power-on and at the end of a store write, and at nothing else. -/
def Obligations.TheLayoutIsHeld : Prop :=
  ∀ (c : Instr) (s t : State), exec c s = .next t → c ≠ .powerOn → c ≠ .storeWriteEnd true → t.layout = s.layout

/-- SERVICE_ENTER pauses every ACTIVE and AT_HOLD order with reason SERVICE and makes the requester the service station;
no order works afterwards. SERVICE_EXIT by the service station ends any jog and returns to RUN; every order stays as it
is. -/
def Obligations.ServiceIsEnteredAndLeft : Prop :=
  ∀ (s : State) (n : StationNo) (tag : Byte), s.ready n → s.linked →
    (s.unit = .run → s.isKind n [.bridge, .cargoControl] = true → s.servicePermitted = true →
      ∃ t, exec (.serviceEnter n tag) s = .next t ∧ t.unit = .service ∧ t.serviceStation = some n ∧
        Paused .service (fun _ => True) s t ∧ (∀ i o, t.slot i = some o → o.state.working = false) ∧
        t.records = { s.records with unit := .service, serviceStation := some n }) ∧
    (s.unit = .service → s.serviceStation = some n → s.noneServed → ∃ t, exec (.serviceExit n tag) s = .next t ∧
      t.unit = .run ∧ t.serviceStation = none ∧ t.jog = none ∧ t.slots = s.slots)

/-- JOG, when every check of R196 passes, in SERVICE with no order served. A travel jog drives its coil with the brake
released and FAST as it is, DRIVEN in its direction, where the trip of the pack that grants it is CLEAR, whatever the other
pack's. Where that trip stands RAISED it is chopped at once; at a chop limit of 1 this first chop raises TRAVEL_OVERLOAD
(R108), which ends the jog: every coil is off, a cleat move in progress is cut short, the panel is COASTING for its braking
window and holds no flow. A cleat jog makes a move of its group, and needs no valve when every participant stands at the
commanded level; while a move is in progress on the panel, one that an earlier jog has left included, it is refused BUSY,
after every other check (log entry 9). Any other jog energises its coil alone, and neither it nor a travel jog that goes on
touches such a move. -/
def Obligations.JogsDriveTheirCoil : Prop :=
  ∀ (s : State) (n : StationNo) (tag panel coil : Byte) (time : Half) (p : PanelNo) (c : Coil), s.ready n →
    s.unit = .service → s.noneServed → panelArg panel = some p → coilArg coil = some c → 100 ≤ time.toNat →
    time.toNat ≤ 5000 → s.configured p = true → s.serviceStation = some n → (s.panel p).faults = [] → s.jog = none →
    (s.panel p).activity = .idle → s.jogConditions p c = true → s.jogFlow p c = true →
    let cleatCoil : Prop := ∃ (d : CleatDir) (g : GroupNo), c = d.coil g
    let started : Jog := ⟨p, c, s.now + time.toNat⟩
    (cleatCoil → (s.panel p).move ≠ none → exec (.jog n tag panel coil time) s = .next (s.answered n tag .busy [])) ∧
    (¬ cleatCoil ∨ (s.panel p).move = none → ∃ t, exec (.jog n tag panel coil time) s = .next t ∧
      t.txQueue = s.txQueue ++ [replyTo n tag .accepted [0]] ∧ t.records = s.records ∧
      (∀ (d : Dir) (k : PackId), c = d.coil → s.servingPack p = some k →
        ((s.pack k).trip = false →
          t.jog = some started ∧ (t.panel p).mode = .driven ∧ (t.panel p).lastDir = some d ∧
          (t.panel p).activity = .jog ∧ (t.panel p).coils.get c = true ∧ (t.panel p).coils.brakeRelease = true ∧
          (t.panel p).coils.fast = (s.panel p).coils.fast ∧ (t.panel p).creep = 0 ∧ (t.panel p).chop = 0 ∧
          (t.panel p).stall = .running (s.now + s.params.tuning.stallPeriod) ∧
          (t.panel p).warnings = (s.panel p).warnings ∧ (t.panel p).move = (s.panel p).move) ∧
        ((s.pack k).trip = true → .travelTrip ∈ (t.panel p).warnings ∧ (t.panel p).chop = 1 ∧
          (t.panel p).lastDir = some d ∧ (t.panel p).coils.travelOut = false ∧ (t.panel p).coils.travelIn = false ∧
          (t.panel p).coils.fast = false ∧
          (1 < s.params.tuning.chopLimit →
            t.jog = some started ∧ (t.panel p).mode = .driven ∧ (t.panel p).activity = .jog ∧
            (t.panel p).coils.brakeRelease = true ∧ (t.panel p).faults = [] ∧
            (t.panel p).holdoff = some (s.now + s.params.tuning.chopHoldoff) ∧
            (t.panel p).stall = .suspended s.params.tuning.stallPeriod ∧ (t.panel p).move = (s.panel p).move) ∧
          (s.params.tuning.chopLimit ≤ 1 →
            t.jog = none ∧ (t.panel p).mode = .coasting ∧ (t.panel p).activity = .braking ∧ (t.panel p).coils = {} ∧
            (t.panel p).faults = [.travelOverload] ∧ (t.panel p).overloadPack = some k ∧ .panelFault ∈ t.latches ∧
            (t.panel p).brakeTimer = some (s.now + s.params.tuning.brakingWindow) ∧ (t.panel p).holdoff = none ∧
            (t.panel p).stall = .stopped ∧ (t.panel p).move = none ∧ t.flow p = .none))) ∧
      (∀ (d : CleatDir) (g : GroupNo), c = d.coil g →
        (s.atLevel p g d = s.participants p g → t.jog = none ∧ (t.panel p).coils = (s.panel p).coils ∧
          (t.panel p).activity = .idle) ∧
        (s.atLevel p g d ≠ s.participants p g → t.jog = some started ∧
          (t.panel p).coils.get c = true ∧ ∃ m, (t.panel p).move = some m ∧ m.group = g ∧ m.dir = d ∧ m.byJog = true ∧
            m.valve = true ∧ m.dwell = some (s.now + time.toNat) ∧
            m.window = s.now + max s.params.tuning.confirmationWindow time.toNat)) ∧
      ((∀ d : Dir, c ≠ d.coil) → ¬ cleatCoil → t.jog = some started ∧ (t.panel p).activity = .jog ∧
        (t.panel p).coils = (s.panel p).coils.put true c ∧ (t.panel p).move = (s.panel p).move))

/-- A jog ends at the expiry of its time, with no order served: its coil is off, its grant is gone, and the panel is BRAKING
after a travel and IDLE otherwise. The expiry brings the clock to its deadline, and with no jog in progress it changes
nothing (log entry 1). -/
def Obligations.JogsEndWithTheirTime : Prop :=
  ∀ s : State,
    (∀ j, s.jog = some j → s.noneServed → (s.panel j.panel).activity = .jog →
      (∀ d : Dir, j.coil = d.coil → (s.panel j.panel).mode = .driven) →
      (∀ (d : CleatDir) g, j.coil = d.coil g → ∃ m, (s.panel j.panel).move = some m ∧ d.coil g = m.dir.coil m.group) →
      ∃ t, exec .jogTimeExpiry s = .next t ∧ t.jog = none ∧ t.now = max s.now j.deadline ∧
        (t.panel j.panel).coils.get j.coil = false ∧
        (∀ k d, s.flow j.panel = .granted k d → ∀ g ∈ (t.pack k).grants, g.panel ≠ j.panel) ∧
        (t.panel j.panel).activity = (if j.coil = .travelOut ∨ j.coil = .travelIn then .braking else .idle) ∧
        (j.coil = .travelOut ∨ j.coil = .travelIn → (t.panel j.panel).mode = .coasting ∧
          (t.panel j.panel).coils.brakeRelease = false) ∧ t.slots = s.slots) ∧
    (s.jog = none → exec .jogTimeExpiry s = .next s)

/-- PRESET_POSITION, BYPASS_CLEAT and RESTORE_CLEAT by the service station on a configured panel, with no order served. -/
def Obligations.ServiceSetsTheRecords : Prop :=
  ∀ (s : State) (n : StationNo) (tag panel : Byte) (p : PanelNo), s.ready n → s.unit = .service →
    s.serviceStation = some n → s.noneServed → panelArg panel = some p → s.configured p = true →
    (∀ c : Half, -255 ≤ c.toInt → c.toInt ≤ 4095 → (s.panel p).activity = .idle →
      exec (.presetPosition n tag panel c) s = .next (((s.taken n).modPanel p fun x =>
        { x with count := c.toInt, certain := true }).replied n tag .accepted [0])) ∧
    (∀ (b : Byte) (k : CleatNo), cleatArg b = some k → k.val < s.layout.cleatCount[p] →
      (∃ t, exec (.bypassCleat n tag panel b) s = .next t ∧ (t.panel p).cleats[k] =
          { (s.panel p).cleats[k] with state := .bypassed } ∧
        (∀ l : CleatNo, l ≠ k → (t.panel p).cleats[l] = (s.panel p).cleats[l]) ∧ t.records = s.records ∧
        ∀ m, (t.panel p).move = some m → k ∉ m.participants ∧ k ∉ m.confirmed) ∧
      ∃ t, exec (.restoreCleat n tag panel b) s = .next t ∧ (t.panel p).cleats[k].state =
          (if (s.panel p).cleats[k].state = .bypassed then
            (if (s.panel p).cleats[k].made then .engaged else .released) else (s.panel p).cleats[k].state) ∧
        (∀ l : CleatNo, l ≠ k → (t.panel p).cleats[l] = (s.panel p).cleats[l]) ∧ t.records = s.records)

/-! ### Field lines -/

/-- A new level of a seat or stow switch held for 20 ms, or of an end switch held for 2 ms, is taken: of what lasts, only
that switch level of that panel changes. HOME_MAKE and OPEN_END_MAKE carry the break of their switch too (log entry 16), and
the level of an unconfigured panel's switch is kept and nothing more (log entry 4). A make that leaves a SEATED and a LIFTED
switch made together gives a configured panel SENSOR_CONFLICT. A level held for less, or already taken, changes nothing. The
make of the stow lock switch ends a RUNNING LOCK_STOW: its coil is off and an order that has no hold there is DONE. -/
def Obligations.SwitchesTakeStableLevels : Prop :=
  ∀ (s : State) (p : PanelNo) (b : Bool) (held : Nat),
    let w := (s.panel p).sw
    let takes (c : Instr) (w' : Switches) : Prop := ∃ t, exec c s = .next t ∧ (t.panel p).sw = w' ∧
      (∀ q, q ≠ p → (t.panel q).sw = (s.panel q).sw) ∧
      t.records = (s.modPanel p fun x => { x with sw := w' }).records ∧
      (s.configured p = false → t = s.modPanel p fun x => { x with sw := w' })
    (∀ k, 20 ≤ held → w.get k ≠ b → takes (.seatSwitchChange p k b held) (w.put b k) ∧
      (b = true → (w.put b k).conflict = true → s.configured p = true →
        ∃ t, exec (.seatSwitchChange p k b held) s = .next t ∧ .sensorConflict ∈ (t.panel p).faults)) ∧
    (20 ≤ held → w.stowLocked ≠ b → takes (.stowSwitchChange p b held) { w with stowLocked := b }) ∧
    (2 ≤ held → w.home ≠ b → takes (.homeMake p b held) { w with home := b }) ∧
    (2 ≤ held → w.openEnd ≠ b → takes (.openEndMake p b held) { w with openEnd := b }) ∧
    (∀ k, held < 20 ∨ w.get k = b → exec (.seatSwitchChange p k b held) s = .next s) ∧
    (held < 20 ∨ w.stowLocked = b → exec (.stowSwitchChange p b held) s = .next s) ∧
    (held < 2 ∨ w.home = b → exec (.homeMake p b held) s = .next s) ∧
    (held < 2 ∨ w.openEnd = b → exec (.openEndMake p b held) s = .next s) ∧
    (∀ i o, s.linked → s.served p = some (i, o, .lockStow) → o.phase = some .running → o.kind = .openHatch → o.hold = none →
      s.jog = none → s.configured p = true → b = true → w.stowLocked = false → 20 ≤ held →
      ∃ t o', exec (.stowSwitchChange p b held) s = .next t ∧ t.slot i = some o' ∧ o'.state = .done ∧
        o'.finishedAt = some s.now ∧ (t.panel p).live = none ∧ (t.panel p).coils.stowLock = false ∧
        .orderDone ∈ t.latches)

/-- A make of an end switch is a reference when the travel runs, or coasts, towards it: HOME sets the count to 0 on an inward
motion, OPEN-END to the open count on an outward one. The panel is CERTAIN; a count beyond the reference tolerance is the
slip, limited to ±255, with the warning REFERENCE_SLIP. A RUNNING travel that is to stop at the switch stops, and brakes with
purpose COMPLETE, and so does one of stop kind COUNT whose stop command point the new count has reached or passed; a travel
jog ends. A reference taken while the panel coasts has its step tested again. Any other make leaves the counter as it was. -/
def Obligations.ReferencesSetTheCount : Prop :=
  ∀ (s : State) (p : PanelNo) (held : Nat) (e : Dir), 2 ≤ held → s.configured p = true →
    let x := s.panel p
    let c : Instr := match e with | .inward => .homeMake p true held | .outward => .openEndMake p true held
    let w : Switches := match e with | .inward => { x.sw with home := true } | .outward => { x.sw with openEnd := true }
    let point : Int := match e with | .inward => 0 | .outward => s.openCount p
    let near : Prop := |x.count - point| ≤ s.params.tuning.referenceTolerance
    let referenced (y : Panel) : Prop := y.count = point ∧ y.certain = true ∧ y.sw = w ∧ (near → y.slip = x.slip) ∧
      (¬ near → y.slip = some (max (-255) (min (x.count - point) 255)) ∧ .referenceSlip ∈ y.warnings)
    let braking (t : State) : Prop := referenced (t.panel p) ∧ (t.panel p).mode = .coasting ∧
      (t.panel p).coils = x.coils.travelOff ∧ (t.panel p).activity = .braking ∧
      (t.panel p).brakeTimer = some (s.now + s.params.tuning.brakingWindow) ∧ (t.panel p).stall = .stopped
    w ≠ x.sw →
    (s.jog = none → (x.mode = .coasting ∨ x.mode = .driven) → x.lastDir = some e → s.served p = none →
      ∃ t, exec c s = .next t ∧ referenced (t.panel p) ∧ (t.panel p).mode = x.mode ∧ (t.panel p).coils = x.coils ∧
        t.slots = s.slots ∧ ∀ q, q ≠ p → t.panel q = s.panel q) ∧
    (s.jog = none → x.mode = .driven → x.lastDir = some e → ∀ i o pl, s.served p = some (i, o, .travel) →
      o.phase = some .running → x.plan = some pl → pl.stop = .switch ∨ pl.at point pl.stopAt = true →
      ∃ t o', exec c s = .next t ∧ braking t ∧ (t.panel p).purpose = some .complete ∧ t.slot i = some o' ∧
        o'.phase = some .braking ∧ o'.state = .active ∧ ∀ q, q ≠ p → t.panel q = s.panel q) ∧
    (x.mode = .coasting → x.lastDir = some e →
      let u := (s.modPanel p fun x => { x with sw := w }).reference p point
      exec c s = .next (Res.mk u [.retest p, .jogTest]).settle ∧ referenced (u.panel p) ∧ u.slots = s.slots ∧
        u.jog = s.jog ∧ (u.panel p).mode = .coasting ∧ (u.panel p).coils = x.coils ∧ ∀ q, q ≠ p → u.panel q = s.panel q) ∧
    (∀ j, s.jog = some j → j.panel = p → j.coil = e.coil → s.noneServed → x.mode = .driven → x.lastDir = some e →
      ∃ t, exec c s = .next t ∧ braking t ∧ t.jog = none ∧ t.slots = s.slots ∧ ∀ q, q ≠ p → t.panel q = s.panel q) ∧
    (s.jog = none → x.mode = .quiet ∨ x.lastDir ≠ some e → exec c s = .next (s.modPanel p fun x => { x with sw := w }))

/-- A valid edge of a configured panel: the wheel input low, and then high for 2 ms, a low of 2 ms having come since the last
edge taken. DRIVEN, it moves the count by one in the commanded direction and restarts the stall timer, unless a chop has
suspended it (log entry 16); a RUNNING travel whose stop command point is reached brakes with purpose COMPLETE, one whose
overtravel point is reached gets OVERTRAVEL. COASTING, it moves the count alone, and the step of the panel is tested again.
An edge that would leave the range leaves the count, makes the panel UNCERTAIN and raises POSITION_RANGE. QUIET, it is a
creep edge, after which the hard preconditions and the interlocks of the step are looked at. A pulse or a low that is shorter
changes nothing but whether the next high may be an edge. -/
def Obligations.WheelEdgesMoveTheCount : Prop :=
  ∀ (s : State) (p : PanelNo) (low high : Nat),
    let x := s.panel p
    let c := Instr.wheelEdge p low high
    let now := s.now
    let tun := s.params.tuning
    let out (k : PanelFault) : Prop := ∃ t, exec c s = .next t ∧ (t.panel p).count = x.count ∧
      (t.panel p).certain = false ∧ k ∈ (t.panel p).faults
    let crept (y : Panel) : Prop := y.count = x.count ∧ y.certain = false ∧ y.creep = min 255 (x.creep + 1) ∧
      y.creepQuiet = some (now + tun.brakingWindow) ∧ .creep ∈ y.warnings
    (s.linked → s.configured p = true → 0 < low → 2 ≤ high → x.wheelArmed = true ∨ 2 ≤ low →
    (∀ d : Dir, x.lastDir = some d → x.mode ≠ .quiet →
      let n := x.count + d.sign
      (n < -255 ∨ 4095 < n → s.served p = none ∨ x.mode = .driven ∧ .positionRange ∉ x.faults → out .positionRange) ∧
      (-255 ≤ n → n ≤ 4095 → s.served p = none → x.mode = .coasting →
        exec c s = .next (s.modPanel p fun x => { x with count := n, wheelArmed := false })) ∧
      (-255 ≤ n → n ≤ 4095 → x.mode = .coasting → exec c s =
        .next (Res.mk (s.modPanel p fun x => { x with count := n, wheelArmed := false }) [.retest p]).settle) ∧
      (-255 ≤ n → n ≤ 4095 → s.served p = none → x.mode = .driven → exec c s = .next (s.modPanel p fun x =>
        { x with count := n, wheelArmed := false, stall := x.stall.restart now tun.stallPeriod })) ∧
      (∀ i o pl, -255 ≤ n → n ≤ 4095 → x.mode = .driven → s.served p = some (i, o, .travel) → o.phase = some .running →
        x.plan = some pl → ∃ t, exec c s = .next t ∧ (t.panel p).count = n ∧
        ((∃ q, pl.stopAt = some q ∧ reached pl.dir n q = true) →
          (t.panel p).mode = .coasting ∧ (t.panel p).coils = x.coils.travelOff ∧ (t.panel p).activity = .braking ∧
          (t.panel p).brakeTimer = some (now + tun.brakingWindow) ∧ (t.panel p).purpose = some .complete ∧
          ∃ o', t.slot i = some o' ∧ o'.phase = some .braking ∧ o'.state = .active) ∧
        ((∀ q, pl.stopAt = some q → reached pl.dir n q = false) → (∃ g, pl.overAt = some g ∧ reached pl.dir n g = true) →
          .overtravel ∈ (t.panel p).faults) ∧
        ((∀ q, pl.stopAt = some q ∨ pl.overAt = some q → reached pl.dir n q = false) →
          (t.panel p).mode = .driven ∧ t.slots = s.slots ∧
          (t.panel p).stall = x.stall.restart now tun.stallPeriod ∧
          (t.panel p).coils = (if pl.fast = true ∧ ∃ q ∈ pl.slow, reached pl.dir n q = true then
            { x.coils with fast := false } else x.coils)))) ∧
    (x.mode = .quiet → s.served p = none → ∃ t, exec c s = .next t ∧ crept (t.panel p) ∧
      (tun.creepLimit ≤ min 255 (x.creep + 1) → .runaway ∈ (t.panel p).faults) ∧
      (min 255 (x.creep + 1) < tun.creepLimit → (t.panel p).faults = x.faults ∧ t.slots = s.slots)) ∧
    (x.mode = .quiet → min 255 (x.creep + 1) < tun.creepLimit →
      let u := ((s.modPanel p fun x => { x with wheelArmed := false }).creepEdge p).st
      exec c s = .next (Res.mk u [.watch p, .retest p]).settle ∧ crept (u.panel p) ∧ u.slots = s.slots ∧
        (u.panel p).faults = x.faults ∧ ∀ q, q ≠ p → u.panel q = s.panel q)) ∧
    (s.configured p = true → low = 0 ∨ high < 2 ∨ x.wheelArmed = false ∧ low < 2 →
      exec c s = .next (s.modPanel p fun x => { x with wheelArmed := x.wheelArmed || decide (2 ≤ low) })) ∧
    (s.configured p = false → exec c s = .next s)

/-- A new level of a configured cleat's switch. Outside a move of its group an ENGAGED cleat that opens, and a RELEASED one
that makes, becomes UNKNOWN with CLEAT_LOST, and every other keeps its state; a travel whose released cleat is lost fails
with SEQUENCE. In a move an unconfirmed participant that reaches the commanded level confirms with its time in units of
10 ms, and a confirmed one that leaves it is UNKNOWN and no longer confirmed. In START after a power-on the state follows
the switch. The level of a cleat that has no record is kept and nothing more (log entry 4).

The last confirmation ends the move with its valve off, and the sequencer then has the end of the move. What that does to a
RUNNING cleat step (R28, R80): where the completion condition holds the step is at its end, its grant released and COMPLETED
reported; a step that a move left behind by a jog has held up makes its own move then (log entry 9). -/
def Obligations.CleatSwitchesAreTaken : Prop :=
  (∀ (s : State) (p : PanelNo) (k : CleatNo) (b : Bool) (held : Nat),
    let x := s.panel p
    let r := x.cleats[k]
    let c := Instr.cleatSwitchChange p k b held
    let lost : Prop := r.state = .engaged ∧ b = false ∨ r.state = .released ∧ b = true
    let outside : Prop := ∀ m, x.move = some m → k ∉ m.participants
    let others (y : Panel) : Prop := ∀ l : CleatNo, l ≠ k → y.cleats[l] = x.cleats[l]
    (held < 20 ∨ r.made = b → exec c s = .next s) ∧
    (20 ≤ held → r.made ≠ b →
      (s.cleatConfigured p k = false → exec c s = .next (s.modPanel p fun x =>
        { x with cleats := x.cleats.set k { r with made := b } })) ∧
      (s.cleatConfigured p k = true → s.unit = .start .powerOn → exec c s = .next (s.modPanel p fun x =>
        { x with cleats := x.cleats.set k { r with made := b, state := if b then .engaged else .released } })) ∧
      (∀ d, s.cleatConfigured p k = true → s.unit = .start (.restart d) → exec c s = .next (s.modPanel p fun x =>
        { x with cleats := x.cleats.set k { r with made := b } })) ∧
      (s.cleatConfigured p k = true → s.inStart = false → s.jog = none →
        (s.served p = none → ∃ t, exec c s = .next t ∧ others (t.panel p) ∧ t.slots = s.slots ∧
          (∀ q, q ≠ p → t.panel q = s.panel q) ∧
          (outside → (t.panel p).move = x.move ∧
            (lost → (t.panel p).cleats[k] = { r with made := b, state := .unknown } ∧
              .cleatLost ∈ (t.panel p).warnings ∧ .warning ∈ t.latches) ∧
            (¬ lost → (t.panel p).cleats[k] = { r with made := b } ∧ (t.panel p).warnings = x.warnings)) ∧
          (∀ m, x.move = some m → k ∈ m.participants → k ∉ m.confirmed → b = m.dir.level →
            let u := min ((s.now - m.start) / 10) 65535
            (t.panel p).cleats[k] = ⟨m.dir.confirmed, b, u, max r.greatest u⟩ ∧
            (s.params.tuning.sluggish < s.now - m.start → .cleatSluggish ∈ (t.panel p).warnings) ∧
            ((∀ l ∈ m.participants, l = k ∨ l ∈ m.confirmed) → (t.panel p).move = none ∧
              (t.panel p).coils = x.coils.put false (m.dir.coil m.group)) ∧
            ((∃ l ∈ m.participants, l ≠ k ∧ l ∉ m.confirmed) →
              (t.panel p).move = some { m with confirmed := k :: m.confirmed } ∧ (t.panel p).coils = x.coils)) ∧
          (∀ m, x.move = some m → k ∈ m.participants → k ∈ m.confirmed → b ≠ m.dir.level →
            (t.panel p).cleats[k] = { r with made := b, state := .unknown } ∧
            (t.panel p).move = some { m with confirmed := m.confirmed.filter (· != k) })) ∧
        (∀ i o, s.linked → s.served p = some (i, o, .travel) → o.phase = some .running → outside → r.state = .released →
          b = true → ∃ t o', exec c s = .next t ∧ t.slot i = some o' ∧ o'.state = .failed .sequence ∧
            (t.panel p).live = none ∧ .cleatLost ∈ (t.panel p).warnings ∧ .sequenceStop ∈ (t.panel p).warnings) ∧
        (∀ i o g d m, s.served p = some (i, o, d.step g) → o.phase = some .running → (d = .engage → x.seat = .seated) →
          x.move = some m → m.dir = d → m.byJog = false → k ∈ m.participants → k ∉ m.confirmed → b = d.level →
          (∀ l ∈ m.participants, l = k ∨ l ∈ m.confirmed) →
            let u := ((s.modPanel p fun x => { x with cleats := x.cleats.set k { r with made := b } }).cleatChanged p k b).st
            exec c s = .next (Res.mk u [.moveEnd p]).settle ∧
            u.served p = some (i, o, d.step g) ∧ u.slots = s.slots ∧ u.packA = s.packA ∧ u.packB = s.packB ∧
            (u.panel p).move = none ∧ (u.panel p).coils = x.coils.put false (d.coil m.group) ∧
            (u.panel p).cleats[k].state = d.confirmed ∧ others (u.panel p) ∧ ∀ q, q ≠ p → u.panel q = s.panel q)))) ∧
  ∀ (s : State) (p : PanelNo) (i : SlotNo) (o : Order) (g : GroupNo) (d : CleatDir), s.served p = some (i, o, d.step g) →
    s.flowLaws →
    let r := runJob (.moveEnd p) s
    let x := s.panel p
    (o.phase = some .running → x.move = none →
      (s.stepDone p o (d.step g) → r.st.slot i = some { o with phase := none, reasons := {} } ∧ r.st.flow p = .none ∧
        r.jobs.getLast? = some (.report p .completed) ∧ (r.st.panel p).coils = x.coils ∧
        (r.st.panel p).cleats = x.cleats) ∧
      (¬ s.stepDone p o (d.step g) →
        let t := s.params.tuning
        r.st.slots = s.slots ∧ r.st.packA = s.packA ∧ r.st.packB = s.packB ∧
        (s.atLevel p g d = s.participants p g → r.jobs = [.moveEnd p] ∧ (r.st.panel p).coils = x.coils ∧
          r.st.stepDone p o (d.step g)) ∧
        (s.atLevel p g d ≠ s.participants p g → r.jobs = [] ∧
          (r.st.panel p).coils = (if s.enabled then x.coils.put true (d.coil g) else x.coils) ∧
          ∃ m, (r.st.panel p).move = some m ∧ m.group = g ∧ m.dir = d ∧ m.byJog = false ∧
            m.dwell = some (s.now + t.cleatDwell) ∧ m.window = s.now + t.confirmationWindow))) ∧
    (o.phase ≠ some .running ∨ x.move.isSome = true → r.st = s ∧ r.jobs = [])

/-! ### Timers -/

/-- The ends of the braking window, of the creep quiet time and of a cleat dwell: exactly what changes. When the window of a
step that is BRAKING ends, a false hard precondition fails the order with SEQUENCE; with purpose COMPLETE the step then
completes, with TARGET_MISS when a travel of stop kind COUNT has not come to rest within the tolerance of its target, its
grant released and COMPLETED reported; with purpose REVERSE or EVALUATE it is evaluated from stage 2. What a report of a
step's end does: AT_HOLD at the hold step, the next step evaluated, or DONE after the last, and then the dependents released
one by one. Releasing one clears its predecessor (R62): a PENDING one is admitted at step 1 (R45), ACTIVE and evaluated, or
PAUSED, paused from ACTIVE, for SERVICE, ESTOP or SUPPLY; one PAUSED from PENDING stays PAUSED, from ACTIVE at step 1; an order
that waits on it no more is left alone. An expiry brings the clock to its
deadline, and a timer that is not running has none (log entry 1). -/
def Obligations.TimersRunOut : Prop :=
  (∀ (s : State) (p : PanelNo),
    let x := s.panel p
    let ended (d : Nat) : State := { s with now := max s.now d }.modPanel p fun x =>
      { x with mode := .quiet, brakeTimer := none, activity := if x.activity = Activity.braking then .idle else x.activity }
    (∀ d, x.brakeTimer = some d → s.served p = none → exec (.brakingWindowEnd p) s = .next (ended d)) ∧
    (∀ d i o k, x.brakeTimer = some d → s.served p = some (i, o, k) →
      (o.phase ≠ some .braking → exec (.brakingWindowEnd p) s = .next (ended d)) ∧
      (o.phase = some .braking → x.purpose ≠ some .complete → exec (.brakingWindowEnd p) s =
        .next (runJob (.evaluate p false) ((ended d).setPhase p i none {} none)).settle) ∧
      (o.phase = some .braking → x.purpose = some .complete → ¬ s.stepAllowed p o k → s.linked →
        ∃ t o', exec (.brakingWindowEnd p) s = .next t ∧ t.slot i = some o' ∧ o'.state = .failed .sequence ∧
          o'.finishedAt = some (max s.now d) ∧ (t.panel p).live = none ∧ .sequenceStop ∈ (t.panel p).warnings) ∧
      (o.phase = some .braking → x.purpose = some .complete → s.stepAllowed p o k → k = .travel → s.flowLaws →
        let missed : Prop := ∃ pl, x.plan = some pl ∧ pl.stop = .count ∧
          ¬ (x.certain = true ∧ |x.count - pl.t| ≤ s.params.tuning.positionTolerance)
        let r := ((ended d).arrivalCheck p).completeStep p i k
        let y := r.st.panel p
        exec (.brakingWindowEnd p) s = .next r.settle ∧ r.jobs.getLast? = some (.report p .completed) ∧
          r.st.slot i = some { o with phase := none, reasons := {} } ∧ r.st.flow p = .none ∧ y.coils = x.coils ∧
          y.count = x.count ∧ y.mode = .quiet ∧ y.plan = none ∧ y.purpose = none ∧
          (missed → .targetMiss ∈ y.warnings ∧ (s.inStart = false → .warning ∈ r.st.latches)) ∧
          (¬ missed → y.warnings = x.warnings ∧ r.st.latches = s.latches))) ∧
    (∀ d, x.creepQuiet = some d → exec (.creepQuietExpiry p) s = .next
      ({ s with now := max s.now d }.modPanel p fun x => { x with creepQuiet := none })) ∧
    (∀ m d, x.move = some m → m.dwell = some d → m.byJog = false ∨ s.jog = none →
      exec (.cleatDwellExpiry p) s = .next ({ s with now := max s.now d }.modPanel p fun x =>
        { x with coils := x.coils.put false (m.dir.coil m.group), move := some { m with valve := false, dwell := none }
                 activity := match x.activity with | .cleatMove _ _ => .idle | a => a })) ∧
    (x.brakeTimer = none → exec (.brakingWindowEnd p) s = .next s) ∧
    (x.creepQuiet = none → exec (.creepQuietExpiry p) s = .next s) ∧
    ((∀ m, x.move = some m → m.dwell = none) → exec (.cleatDwellExpiry p) s = .next s) ∧
    (x.move = none → exec (.confirmationWindowExpiry p) s = .next s) ∧
    ((∀ d, x.stall ≠ .running d) → exec (.stallTimerExpiry p) s = .next s) ∧
    (x.stepTimer = none → exec (.stepTimeout p) s = .next s)) ∧
  (∀ (s : State) (p : PanelNo) (i : SlotNo) (o : Order) (k : StepKind) (e : StepEnd), s.served p = some (i, o, k) →
    s.linked → o.phase = none →
    let r := runJob (.report p e) s
    (e = .completed → o.hold = some k → r.st.slot i = some { o with state := .atHold, reasons := {} } ∧ r.jobs = [] ∧
      (s.inStart = false → .holdReached ∈ r.st.latches)) ∧
    (e = .skipped ∨ o.hold ≠ some k → o.step < (stepList o.kind).length →
      r.st = s.setSlot i (some { o with step := o.step + 1, reasons := {} }) ∧ r.jobs = [.evaluate p true]) ∧
    (e = .skipped ∨ o.hold ≠ some k → (stepList o.kind).length ≤ o.step →
      (∃ o', r.st.slot i = some o' ∧ o'.state = .done ∧ o'.step = o.step ∧ o'.finishedAt = some s.now ∧ o'.reasons = {} ∧
        o'.retention = some (s.now + 1000 * s.params.tuning.retentionTime)) ∧ (r.st.panel p).live = none ∧
      (s.inStart = false → .orderDone ∈ r.st.latches) ∧
      ∀ j, .releaseDependent j o.id ∈ r.jobs ↔ ∃ q, s.slot j = some q ∧ q.waitsOn o.id = true)) ∧
  ∀ (s : State) (j : SlotNo) (id : Nat),
    let r := runJob (.releaseDependent j id) s
    (∀ q, s.slot j = some q → q.pred = some id →
      (q.state = .pending →
        let enters (st : OrderState) (f : Option PausedFrom) : Prop :=
          r.st = s.updateOrder j fun q => { q with pred := none, state := st, step := 1, pausedFrom := f }
        (s.unit = .service → enters (.paused .service) (some .active) ∧ r.jobs = []) ∧
        (s.unit ≠ .service → s.loopOpen = true → enters (.paused .estop) (some .active) ∧ r.jobs = []) ∧
        (s.unit ≠ .service → s.loopOpen = false → s.supplyLow = true →
          enters (.paused .supply) (some .active) ∧ r.jobs = []) ∧
        (s.unit ≠ .service → s.loopOpen = false → s.supplyLow = false →
          enters .active none ∧ r.jobs = [.evaluate q.panel true])) ∧
      (q.state.isPaused = true → q.pausedFrom = some .pending →
        r.st = s.setSlot j (some { q with pred := none, pausedFrom := some .active, step := 1 }) ∧ r.jobs = [])) ∧
    (s.slot j = none ∨ (∃ q, s.slot j = some q ∧ q.waitsOn id = false) → r.st = s ∧ r.jobs = [])

/-- The expiry of the stall timer raises TRAVEL_STALL, that of the step timer the fault of the step, and that of the window
of a cleat move CLEAT_JAM, its unconfirmed participants JAMMED. On a configured panel that does not hold the kind yet, the
panel's coils go off and its live order is FAILED with the kind. The expiry brings the clock to its deadline, from which the
finished time is taken (log entry 1). -/
def Obligations.TimeoutsRaiseTheirFaults : Prop :=
  ∀ (s : State) (p : PanelNo), s.linked → s.configured p = true →
    let x := s.panel p
    let out (c : Instr) (d : Nat) (k : PanelFault) (P : Panel → Prop) : Prop := k ∉ x.faults → ∃ t, exec c s = .next t ∧
      t.now = max s.now d ∧ k ∈ (t.panel p).faults ∧ (t.panel p).coils = {} ∧ (t.panel p).live = none ∧
      (t.panel p).mode ≠ .driven ∧ (s.inStart = false → .panelFault ∈ t.latches) ∧ P (t.panel p) ∧
      ∀ i o, s.slot i = some o → x.live = some o.id →
        ∃ o', t.slot i = some o' ∧ o'.state = .failed (.fault k) ∧ o'.finishedAt = some (max s.now d)
    (∀ d, x.stall = .running d → out (.stallTimerExpiry p) d .travelStall fun y => y.stall = .stopped ∧
      (x.mode = .driven → y.mode = .coasting ∧ y.brakeTimer = some (max s.now d + s.params.tuning.brakingWindow))) ∧
    (∀ d, x.stepTimer = some d →
      (x.activity = .lift → out (.stepTimeout p) d .liftTimeout fun y => y.stepTimer = none) ∧
      (x.activity = .lower → out (.stepTimeout p) d .lowerTimeout fun y => y.stepTimer = none) ∧
      (∀ v, x.activity = .stowMove v → out (.stepTimeout p) d .stowTimeout fun y => y.stepTimer = none)) ∧
    (∀ m, x.move = some m → out (.confirmationWindowExpiry p) m.window .cleatJam fun y => y.move = none ∧
      ∀ k : CleatNo, y.cleats[k] = if k ∈ m.participants ∧ k ∉ m.confirmed then { x.cleats[k] with state := .jammed }
        else x.cleats[k])

/-! ### Shared computations -/

/-- A waiting list ranked by class and then by arbitration number stays so when an entry of another key joins it. A grant
pass takes entries from the head of the list for as long as the first one fits in the effective capacity, and stops: it
grants and delivers those in list order, the deliveries following the pass (log entry 5), and leaves the rest as they are.
The sequencer's own work on the step of an ACTIVE order that is not RUNNING, first stage that decides: BRAKING waits for the
end of the window, its reasons emptied (DEDUCED, log entry 7); a TRAVEL whose end switch is made takes the standing
reference, and a step whose completion condition holds is SKIPPED with no flow; a false hard precondition fails the order
with SEQUENCE; interlock conditions hold it in INTERLOCK_WAIT with exactly those reasons and no flow (the region of a waiting
TRAVEL taken with the allowance of the present list: DEDUCED, log entry 8); a step that holds no flow asks the list pack for
its demand (2 for the cleats, 6 for LIFT, 3 for LOWER, 4 for TRAVEL, 1 for the stow), failing with NO_ARBITRATION or
FLOW_IMPOSSIBLE; a step that holds a grant, at its arrival as after a reversal, is RUNNING with its coil, its activity and
its timer. A TRAVEL runs under the plan made from the count at that moment, 4095 for an UNCERTAIN panel, and is chopped at
once where the trip of its pack stands RAISED: its brake stays released and its stall timer is suspended through the
hold-off, or, where one chop is the limit, the order fails with TRAVEL_OVERLOAD. The hard preconditions of a step that waits
or runs are watched, and LIFT, LOWER and the stow steps end with their condition. -/
def Obligations.GrantsFollowTheRanking : Prop :=
  (∀ (w : Waiter) (ws : List Waiter),
    let ranked := List.Pairwise fun a b : Waiter =>
      a.cls = .rain ∧ b.cls = .normal ∨ a.cls = b.cls ∧ b.arb < a.arb
    (insertWaiter w ws).Perm (w :: ws) ∧
      (ranked ws → (∀ v ∈ ws, v.cls ≠ w.cls ∨ v.arb ≠ w.arb) → ranked (insertWaiter w ws))) ∧
  (∀ (s : State) (k : PackId), ∃ granted rest,
    let x := s.pack k
    let y := (s.runPass k).st.pack k
    x.waiting = granted ++ rest ∧ y.waiting = rest ∧
    y.grants = x.grants ++ granted.map (fun w => ⟨w.panel, w.demand, false⟩) ∧
    y.granted = x.granted + (granted.map Waiter.demand).sum ∧
    (granted ≠ [] → y.granted ≤ s.effective k) ∧
    (∀ w ∈ rest.head?, s.effective k < y.granted + w.demand) ∧
    (s.runPass k).jobs = granted.map fun w => .deliver w.panel) ∧
  ∀ (s : State) (p : PanelNo) (i : SlotNo) (o : Order) (k : StepKind), s.served p = some (i, o, k) → s.linked → s.flowLaws →
    let x := s.panel p
    let t := s.params.tuning
    let failed (r : Res) (f : FailReason) : Prop := (r.st.panel p).live = none ∧ r.st.flow p = .none ∧
      ∃ o', r.st.slot i = some o' ∧ o'.state = .failed f ∧ o'.finishedAt = some s.now
    let asks (d : Nat) (r : Res) : Prop :=
      (s.arbitration p = 0 → failed r .noArbitration) ∧
      (s.arbitration p ≠ 0 → s.capacity (s.listPack p) < d → failed r .flowImpossible) ∧
      (s.arbitration p ≠ 0 → d ≤ s.capacity (s.listPack p) →
        r.st.slot i = some { o with phase := some .flowWait, reasons := {} } ∧ r.jobs = [.pass (s.listPack p)] ∧
        r.st.flow p = .waiting (s.listPack p) d ∧
        ⟨p, d, o.cls, s.arbitration p⟩ ∈ (r.st.pack (s.listPack p)).waiting ∧ (r.st.panel p).coils = x.coils)
    let energised (c : Coils) : Coils := if s.enabled then c else x.coils
    let timed (r : Res) (c : Coils) (a : Activity) (d : Nat) : Prop := (r.st.panel p).coils = energised c ∧
      (r.st.panel p).activity = a ∧ (r.st.panel p).stepTimer = some (s.now + d)
    let moves (r : Res) (g : GroupNo) (d : CleatDir) : Prop := x.move = none →
      (s.atLevel p g d = s.participants p g → r.jobs = [.moveEnd p] ∧ (r.st.panel p).coils = x.coils) ∧
      (s.atLevel p g d ≠ s.participants p g → (r.st.panel p).activity = .cleatMove g d ∧
        (r.st.panel p).coils = energised (x.coils.put true (d.coil g)) ∧ ∃ m, (r.st.panel p).move = some m ∧ m.group = g ∧
        m.dir = d ∧ m.byJog = false ∧ m.dwell = some (s.now + t.cleatDwell) ∧ m.window = s.now + t.confirmationWindow)
    let travels (r : Res) : Prop :=
      let y := r.st.panel p
      let count : Int := if x.certain then x.count else 4095
      let pl := (s.modPanel p fun x => { x with chopMark := false, count := count }).planFor p (o.target.getD 0)
      let driven : Prop := s.heads p (o.target.getD 0) pl.dir ∧ y.count = count ∧ y.certain = x.certain ∧
        y.mode = .driven ∧ y.lastDir = some pl.dir ∧ y.creep = 0
      ((s.pack (s.travelPack p)).trip = false → driven ∧ r.jobs = [] ∧ y.plan = some pl ∧ y.chop = 0 ∧
        y.chopMark = false ∧ y.holdoff = none ∧ y.stall = .running (s.now + t.stallPeriod) ∧
        y.activity = .travel pl.dir (if pl.fast then .fast else .slow) ∧
        y.coils = energised { (x.coils.put true pl.dir.coil) with brakeRelease := true, fast := x.coils.fast || pl.fast }) ∧
      ((s.pack (s.travelPack p)).trip = true → 1 < t.chopLimit → driven ∧ r.jobs = [] ∧
        y.plan = some { pl with fast := false } ∧ y.chop = 1 ∧ y.chopMark = true ∧
        y.holdoff = some (s.now + t.chopHoldoff) ∧ y.stall = .suspended t.stallPeriod ∧
        y.activity = .travel pl.dir .slow ∧ .travelTrip ∈ y.warnings ∧ y.coils =
          { (if s.enabled then { x.coils with brakeRelease := true } else x.coils) with
            travelOut := false, travelIn := false, fast := false }) ∧
      ((s.pack (s.travelPack p)).trip = true → t.chopLimit ≤ 1 → .travelOverload ∉ x.faults →
        failed r (.fault .travelOverload) ∧ .travelOverload ∈ y.faults ∧ .travelTrip ∈ y.warnings ∧ y.chop = 1 ∧
        y.coils = {} ∧ y.mode = .coasting)
    (o.phase ≠ some .running →
      (x.activity = .braking →
        let r := runJob (.evaluate p true) s
        r.jobs = [] ∧ r.st.slot i = some { o with phase := some .braking, reasons := {} } ∧
          (r.st.panel p).purpose = some .evaluate ∧ (r.st.panel p).coils = x.coils ∧ r.st.packA = s.packA ∧
          r.st.packB = s.packB) ∧
      ∀ whole : Bool, whole = false ∨ x.activity ≠ .braking →
        let r := runJob (.evaluate p whole) s
        let y := r.st.panel p
        let skipped : Prop := r.st.slot i = some { o with phase := none, reasons := {} } ∧ r.st.flow p = .none ∧
          y.coils = x.coils ∧ y.activity = x.activity ∧ r.jobs.getLast? = some (.report p .skipped)
        let atEnd (q : Int) : Prop := k = .travel ∧ o.target = some q ∧
          (q = 0 ∧ x.sw.home = true ∨ q = s.openCount p ∧ x.sw.openEnd = true)
        (∀ q, atEnd q → skipped ∧ y.count = q ∧ y.certain = true ∧
          (|x.count - q| ≤ t.referenceTolerance → y.slip = x.slip) ∧
          (t.referenceTolerance < |x.count - q| → y.slip = some (max (-255) (min (x.count - q) 255)) ∧
            .referenceSlip ∈ y.warnings)) ∧
        ((∀ q, ¬ atEnd q) →
          (s.stepDone p o k → skipped ∧ y.count = x.count) ∧
          (¬ s.stepDone p o k → ¬ s.stepAllowed p o k → failed r .sequence ∧ .sequenceStop ∈ y.warnings) ∧
          (¬ s.stepDone p o k → s.stepAllowed p o k → ∀ q, s.heldBy p o k q →
            (q ≠ {} → r.st.slot i = some { o with phase := some .interlockWait, reasons := q } ∧ r.st.flow p = .none ∧
              y.coils = x.coils ∧ y.activity = x.activity) ∧
            (q = {} → s.flow p = .none → match k with
              | .uncleat _ | .cleat _ => asks 2 r
              | .lift => asks 6 r
              | .lower => asks 3 r
              | .travel => asks 4 r
              | .lockStow | .unlockStow => asks 1 r) ∧
            (q = {} → ∀ j d, s.flow p = .granted j d →
              (k ≠ .travel ∨ (s.pack (s.travelPack p)).trip = false ∨ 1 < t.chopLimit → r.st.flow p = .granted j d ∧
                r.st.slot i = some { o with phase := some .running, reasons := {} }) ∧ match k with
              | .uncleat g => moves r g .release
              | .cleat g => moves r g .engage
              | .lift => timed r { x.coils with liftUp := true } .lift t.liftTimeout ∧ r.jobs = [.retest (partner p)]
              | .lower => timed r { x.coils with liftDown := true } .lower t.lowerTimeout ∧ r.jobs = [.retest (partner p)]
              | .travel => travels r
              | .lockStow => timed r { x.coils with stowLock := true } (.stowMove .lock) t.stowTimeout
              | .unlockStow => timed r { x.coils with stowUnlock := true } (.stowMove .unlock) t.stowTimeout)))) ∧
    (o.phase = some .flowWait → (s.grantPack p).isSome = true →
      (runJob (.deliver p) s).st = (runJob (.evaluate p false) s).st ∧
      (runJob (.deliver p) s).jobs = (runJob (.evaluate p false) s).jobs) ∧
    let r := runJob (.watch p) s
    (o.phase = some .running → k.endsItself = true → s.stepDone p o k →
      r.st.slot i = some { o with phase := none, reasons := {} } ∧ r.st.flow p = .none ∧
      (r.st.panel p).coils = { x.coils with liftUp := false, liftDown := false, stowLock := false, stowUnlock := false } ∧
      (r.st.panel p).stepTimer = none ∧ .report p .completed ∈ r.jobs) ∧
    (o.phase = some .running ∨ o.phase = some .interlockWait ∨ o.phase = some .flowWait → ¬ s.stepAllowed p o k →
      (k.endsItself = true → ¬ s.stepDone p o k) → failed r .sequence ∧ .sequenceStop ∈ (r.st.panel p).warnings)

/-- The plan of a travel. Its compensation: θ is the size of the list on a downhill move and 0 otherwise, and 0 when
LIST_SOURCE is NONE; the slow-down and stop distances grow with θ by the formulas of R96, rounded up and limited, and a
slow-down distance of 0 makes the whole move slow (log entry 18). For a CERTAIN panel the direction is the way to the target;
the stop kind is SWITCH exactly when the target is 0 and the move inward, or O and the move outward, and COUNT otherwise
(R94); the slow, stop and overtravel points follow from the distances (R97, R99, R100); and FAST is ON exactly when the
target is farther off than the slow-down distance and the fast permission of R98 holds. For an UNCERTAIN panel the plan is
that of homing (R102): to 0, inward, stop kind SWITCH, without a slow point, a stop point or an overtravel point, and slow. -/
def Obligations.PlansAreCompensated : Prop :=
  ∀ (s : State) (p : PanelNo) (t : Int),
    let pl := s.planFor p t
    let tun := s.params.tuning
    let port : Prop := (p.val + 1) % 2 = 1
    let downhill : Prop := match pl.dir with
      | .outward => port ∧ s.list < 0 ∨ ¬ port ∧ 0 < s.list
      | .inward => port ∧ 0 < s.list ∨ ¬ port ∧ s.list < 0
    (s.layout.listSource = 1 → pl.theta = 0) ∧
    (s.layout.listSource ≠ 1 → (downhill → (pl.theta : Int) = |s.list|) ∧ (¬ downhill → pl.theta = 0)) ∧
    (∃ e : Nat, tun.slowDown * pl.theta ≤ 40 * e ∧ 40 * e < tun.slowDown * pl.theta + 40 ∧
      pl.dEff = min (tun.slowDown + e) 4095) ∧
    (∃ e : Nat, tun.stopAllowance * pl.theta ≤ 20 * e ∧ 20 * e < tun.stopAllowance * pl.theta + 20 ∧
      pl.aEff = min (min (tun.stopAllowance + e) pl.dEff) 1023) ∧
    (tun.slowDown = 0 → pl.dEff = 0 ∧ pl.aEff = 0 ∧ pl.slow = none ∧ pl.fast = false) ∧
    ((s.panel p).certain = false → pl.t = 0 ∧ pl.dir = .inward ∧ pl.stop = .switch ∧ pl.slow = none ∧ pl.stopAt = none ∧
      pl.overAt = none ∧ pl.fast = false) ∧
    ((s.panel p).certain = true →
      let dist := |t - (s.panel p).count|
      pl.t = t ∧ ((s.panel p).count < t → pl.dir = .outward) ∧ (t < (s.panel p).count → pl.dir = .inward) ∧
      (pl.stop = .switch ↔ t = 0 ∧ pl.dir = .inward ∨ t = s.openCount p ∧ pl.dir = .outward) ∧
      (pl.fast = true ↔ (pl.dEff : Int) < dist ∧ 0 < tun.slowDown ∧ s.layout.listSource ≠ 1 ∧
        |s.list| ≤ (tun.listWarning : Int) ∧ s.cards[cardOf p] = .normal ∧ (s.panel p).chopMark = false) ∧
      (pl.dEff < dist → 0 < tun.slowDown → pl.slow = some (t - pl.dir.sign * pl.dEff)) ∧
      (dist ≤ pl.dEff → pl.slow = none ∧ pl.fast = false) ∧
      (pl.stop = .switch → pl.stopAt = none ∧ pl.overAt = some (t + pl.dir.sign * (pl.aEff + tun.overtravelMargin))) ∧
      (pl.stop = .count → pl.overAt = none ∧
        (dist ≤ pl.aEff → pl.stopAt = some ((s.panel p).count + pl.dir.sign)) ∧
        (pl.aEff < dist → pl.stopAt = some (t - pl.dir.sign * pl.aEff))))

/-! ### What every step keeps -/

/-- While the output enable is removed, and in START, every coil stays off, and in START no cleat move is in progress; no step
changes that. Nor does any step break the
laws of R72 and R74, under which a lift, travel, lowering or engaging coil is on only while the step or the jog that it
belongs to runs, every configured cleat of a panel lifting or travelling RELEASED or BYPASSED, a travelling panel LIFTED with
its stow UNLOCKED, an engaging panel SEATED, and of two panels of a hatch neither moved against the other. -/
def Obligations.CoilsStayOffWithoutEnable : Prop :=
  ∀ s t : State, step s = .next t →
    (s.coilsFollowEnable → t.coilsFollowEnable) ∧
    (s.linked ∧ s.faultedStand ∧ s.coilsFollowEnable ∧ s.coilsObey → t.coilsObey)

/-- The parameters stay within their ranges, and with them the counts and counters. -/
def Obligations.RangesAreKept : Prop :=
  ∀ s t : State, s.paramsInRange ∧ s.countsInRange → step s = .next t → t.paramsInRange ∧ t.countsInRange

/-- The order table and the live order fields stay in agreement, ids stay unique, and a panel that holds a fault stays out of
service. The laws of R124 stay too: each pack's granted sum within its configured capacity, at most one grant or waiting
request of a panel across both packs, each of them a step's that has begun or the jog's. And so does the law of the
attendance watches: a PENDANT is WATCHING, its deadline timer running, exactly while it is the issuer of an order that is
ACTIVE or AT_HOLD (R144, R145, R147). -/
def Obligations.TablesStayLinked : Prop :=
  ∀ s t : State, step s = .next t →
    (s.linked ∧ s.faultedStand → t.linked ∧ t.faultedStand) ∧
    (s.linked ∧ s.faultedStand ∧ s.flowLaws → t.flowLaws) ∧
    (s.linked ∧ s.faultedStand ∧ s.watchLaws → t.watchLaws)

/-- The state right after power-on has every one of these properties. -/
def Obligations.ResetIsSound : Prop :=
  State.reset.coilsFollowEnable ∧ State.reset.paramsInRange ∧ State.reset.countsInRange ∧ State.reset.linked ∧
    State.reset.faultedStand ∧ State.reset.coilsObey ∧ State.reset.flowLaws ∧ State.reset.watchLaws
end

