-- ==== Sys2Proof/Laws/State.lean ====
section
/-! SUPPORT. What each update of a record leaves of every other record: one lemma for each pair that a proof meets, so that
no proof unfolds a record update. -/

namespace Sys2Proof.Machine

/-! ### Panels -/

@[simp] theorem setPanel_panel_self (s : State) (p : PanelNo) (x : Panel) : (s.setPanel p x).panel p = x := by
  simp [State.setPanel, State.panel]
theorem setPanel_panel_ne (s : State) {p q : PanelNo} (x : Panel) (h : p ≠ q) : (s.setPanel p x).panel q = s.panel q := by
  have : p.val ≠ q.val := fun e => h (Fin.ext e)
  simp [State.setPanel, State.panel, this]
theorem setPanel_panel (s : State) (p q : PanelNo) (x : Panel) :
    (s.setPanel p x).panel q = if p = q then x else s.panel q := by
  by_cases h : p = q
  · subst h; simp
  · simp [h, setPanel_panel_ne]
@[simp] theorem modPanel_panel_self (s : State) (p : PanelNo) (f : Panel → Panel) :
    (s.modPanel p f).panel p = f (s.panel p) := by simp [State.modPanel]
theorem modPanel_panel_ne (s : State) {p q : PanelNo} (f : Panel → Panel) (h : p ≠ q) :
    (s.modPanel p f).panel q = s.panel q := by simp [State.modPanel, setPanel_panel_ne, h]
theorem modPanel_panel (s : State) (p q : PanelNo) (f : Panel → Panel) :
    (s.modPanel p f).panel q = if p = q then f (s.panel p) else s.panel q := by simp [State.modPanel, setPanel_panel]

@[simp] theorem setPanel_slot (s : State) (p : PanelNo) (x : Panel) (i : SlotNo) : (s.setPanel p x).slot i = s.slot i := rfl
@[simp] theorem modPanel_slot (s : State) (p : PanelNo) (f : Panel → Panel) (i : SlotNo) :
    (s.modPanel p f).slot i = s.slot i := rfl
@[simp] theorem modPanel_slots (s : State) (p : PanelNo) (f : Panel → Panel) : (s.modPanel p f).slots = s.slots := rfl
@[simp] theorem modPanel_pack (s : State) (p : PanelNo) (f : Panel → Panel) (k : PackId) :
    (s.modPanel p f).pack k = s.pack k := by cases k <;> rfl
@[simp] theorem modPanel_packA (s : State) (p : PanelNo) (f : Panel → Panel) : (s.modPanel p f).packA = s.packA := rfl
@[simp] theorem modPanel_packB (s : State) (p : PanelNo) (f : Panel → Panel) : (s.modPanel p f).packB = s.packB := rfl
@[simp] theorem modPanel_now (s : State) (p : PanelNo) (f : Panel → Panel) : (s.modPanel p f).now = s.now := rfl
@[simp] theorem modPanel_unit (s : State) (p : PanelNo) (f : Panel → Panel) : (s.modPanel p f).unit = s.unit := rfl
@[simp] theorem modPanel_params (s : State) (p : PanelNo) (f : Panel → Panel) : (s.modPanel p f).params = s.params := rfl
@[simp] theorem modPanel_layout (s : State) (p : PanelNo) (f : Panel → Panel) : (s.modPanel p f).layout = s.layout := rfl
@[simp] theorem modPanel_jog (s : State) (p : PanelNo) (f : Panel → Panel) : (s.modPanel p f).jog = s.jog := rfl
@[simp] theorem modPanel_latches (s : State) (p : PanelNo) (f : Panel → Panel) : (s.modPanel p f).latches = s.latches := rfl
@[simp] theorem modPanel_stations (s : State) (p : PanelNo) (f : Panel → Panel) : (s.modPanel p f).stations = s.stations := rfl
@[simp] theorem modPanel_enabled (s : State) (p : PanelNo) (f : Panel → Panel) : (s.modPanel p f).enabled = s.enabled := rfl
@[simp] theorem modPanel_inStart (s : State) (p : PanelNo) (f : Panel → Panel) : (s.modPanel p f).inStart = s.inStart := rfl
@[simp] theorem modPanel_configured (s : State) (p q : PanelNo) (f : Panel → Panel) :
    (s.modPanel p f).configured q = s.configured q := rfl
@[simp] theorem modPanel_slotOfId (s : State) (p : PanelNo) (f : Panel → Panel) (id : Nat) :
    (s.modPanel p f).slotOfId id = s.slotOfId id := rfl

/-! ### Slots -/

@[simp] theorem setSlot_slot_self (s : State) (i : SlotNo) (o : Option Order) : (s.setSlot i o).slot i = o := by
  simp [State.setSlot, State.slot]
theorem setSlot_slot_ne (s : State) {i j : SlotNo} (o : Option Order) (h : i ≠ j) : (s.setSlot i o).slot j = s.slot j := by
  have : i.val ≠ j.val := fun e => h (Fin.ext e)
  simp [State.setSlot, State.slot, this]
theorem setSlot_slot (s : State) (i j : SlotNo) (o : Option Order) :
    (s.setSlot i o).slot j = if i = j then o else s.slot j := by
  by_cases h : i = j
  · subst h; simp
  · simp [h, setSlot_slot_ne]
theorem modOrder_slot (s : State) (i j : SlotNo) (f : Order → Order) :
    (s.modOrder i f).slot j = if i = j then (s.slot i).map f else s.slot j := by simp [State.modOrder, setSlot_slot]
@[simp] theorem modOrder_slot_self (s : State) (i : SlotNo) (f : Order → Order) :
    (s.modOrder i f).slot i = (s.slot i).map f := by simp [State.modOrder]

@[simp] theorem setSlot_panel (s : State) (i : SlotNo) (o : Option Order) (p : PanelNo) : (s.setSlot i o).panel p = s.panel p := rfl
@[simp] theorem modOrder_panel (s : State) (i : SlotNo) (f : Order → Order) (p : PanelNo) :
    (s.modOrder i f).panel p = s.panel p := rfl
@[simp] theorem setSlot_jog (s : State) (i : SlotNo) (o : Option Order) : (s.setSlot i o).jog = s.jog := rfl
@[simp] theorem modOrder_jog (s : State) (i : SlotNo) (f : Order → Order) : (s.modOrder i f).jog = s.jog := rfl
@[simp] theorem setSlot_enabled (s : State) (i : SlotNo) (o : Option Order) : (s.setSlot i o).enabled = s.enabled := rfl
@[simp] theorem modOrder_enabled (s : State) (i : SlotNo) (f : Order → Order) : (s.modOrder i f).enabled = s.enabled := rfl
@[simp] theorem setSlot_now (s : State) (i : SlotNo) (o : Option Order) : (s.setSlot i o).now = s.now := rfl
@[simp] theorem modOrder_now (s : State) (i : SlotNo) (f : Order → Order) : (s.modOrder i f).now = s.now := rfl
@[simp] theorem setSlot_params (s : State) (i : SlotNo) (o : Option Order) : (s.setSlot i o).params = s.params := rfl
@[simp] theorem modOrder_params (s : State) (i : SlotNo) (f : Order → Order) : (s.modOrder i f).params = s.params := rfl
@[simp] theorem setSlot_latches (s : State) (i : SlotNo) (o : Option Order) : (s.setSlot i o).latches = s.latches := rfl
@[simp] theorem modOrder_latches (s : State) (i : SlotNo) (f : Order → Order) : (s.modOrder i f).latches = s.latches := rfl

/-! ### Packs -/

@[simp] theorem setPack_pack_self (s : State) (x : Pack) (k : PackId) : (s.setPack x k).pack k = x := by cases k <;> rfl
theorem setPack_pack_ne (s : State) (x : Pack) {k j : PackId} (h : k ≠ j) : (s.setPack x k).pack j = s.pack j := by
  cases k <;> cases j <;> first | rfl | exact absurd rfl h
@[simp] theorem setPack_pack_other (s : State) (x : Pack) (k : PackId) :
    (s.setPack x k).pack (otherPack k) = s.pack (otherPack k) := by cases k <;> rfl
@[simp] theorem modPack_pack_self (s : State) (k : PackId) (f : Pack → Pack) : (s.modPack k f).pack k = f (s.pack k) := by
  simp [State.modPack]
@[simp] theorem setPack_panel (s : State) (x : Pack) (k : PackId) (p : PanelNo) : (s.setPack x k).panel p = s.panel p := by
  cases k <;> rfl
@[simp] theorem modPack_panel (s : State) (k : PackId) (f : Pack → Pack) (p : PanelNo) :
    (s.modPack k f).panel p = s.panel p := by simp [State.modPack]
@[simp] theorem setPack_slot (s : State) (x : Pack) (k : PackId) (i : SlotNo) : (s.setPack x k).slot i = s.slot i := by
  cases k <;> rfl
@[simp] theorem modPack_slot (s : State) (k : PackId) (f : Pack → Pack) (i : SlotNo) :
    (s.modPack k f).slot i = s.slot i := by simp [State.modPack]
@[simp] theorem modPack_jog (s : State) (k : PackId) (f : Pack → Pack) : (s.modPack k f).jog = s.jog := by cases k <;> rfl
@[simp] theorem modPack_enabled (s : State) (k : PackId) (f : Pack → Pack) : (s.modPack k f).enabled = s.enabled := by
  cases k <;> rfl
@[simp] theorem modPack_latches (s : State) (k : PackId) (f : Pack → Pack) : (s.modPack k f).latches = s.latches := by
  cases k <;> rfl

/-! ### Stations -/

theorem modStation_station (s : State) (n m : StationNo) (f : Station → Station) :
    (s.modStation n f).station m = if n = m then f (s.station n) else s.station m := by
  by_cases h : n = m
  · subst h; simp [State.modStation, State.station]
  · have : n.val ≠ m.val := fun e => h (Fin.ext e)
    simp [State.modStation, State.station, this, h]
@[simp] theorem modStation_station_self (s : State) (n : StationNo) (f : Station → Station) :
    (s.modStation n f).station n = f (s.station n) := by simp [modStation_station]
@[simp] theorem modStation_panel (s : State) (n : StationNo) (f : Station → Station) (p : PanelNo) :
    (s.modStation n f).panel p = s.panel p := rfl
@[simp] theorem modStation_slot (s : State) (n : StationNo) (f : Station → Station) (i : SlotNo) :
    (s.modStation n f).slot i = s.slot i := rfl
@[simp] theorem modStation_pack (s : State) (n : StationNo) (f : Station → Station) (k : PackId) :
    (s.modStation n f).pack k = s.pack k := by cases k <;> rfl
@[simp] theorem modStation_jog (s : State) (n : StationNo) (f : Station → Station) : (s.modStation n f).jog = s.jog := rfl
@[simp] theorem modStation_enabled (s : State) (n : StationNo) (f : Station → Station) :
    (s.modStation n f).enabled = s.enabled := rfl
@[simp] theorem modStation_latches (s : State) (n : StationNo) (f : Station → Station) :
    (s.modStation n f).latches = s.latches := rfl
@[simp] theorem modStation_stationKind (s : State) (n m : StationNo) (f : Station → Station) :
    (s.modStation n f).stationKind m = s.stationKind m := rfl

/-! ### Claims -/

theorem setClaim_claim (s : State) (z y : ClaimNo) (c : Option Claim) :
    (s.setClaim z c).claim y = if z = y then c else s.claim y := by
  by_cases h : z = y
  · subst h; simp [State.setClaim, State.claim]
  · have : z.val ≠ y.val := fun e => h (Fin.ext e)
    simp [State.setClaim, State.claim, this, h]
@[simp] theorem setClaim_claim_self (s : State) (z : ClaimNo) (c : Option Claim) : (s.setClaim z c).claim z = c := by
  simp [setClaim_claim]
@[simp] theorem setClaim_panel (s : State) (z : ClaimNo) (c : Option Claim) (p : PanelNo) :
    (s.setClaim z c).panel p = s.panel p := rfl
@[simp] theorem setClaim_slot (s : State) (z : ClaimNo) (c : Option Claim) (i : SlotNo) :
    (s.setClaim z c).slot i = s.slot i := rfl

/-! ### Latches -/

theorem setLatch_eq (s : State) (e : EventLatch) : s.setLatch e = { s with latches := (s.setLatch e).latches } := by
  unfold State.setLatch; split <;> rfl
@[simp] theorem setLatch_panel (s : State) (e : EventLatch) (p : PanelNo) : (s.setLatch e).panel p = s.panel p := by
  rw [setLatch_eq]; rfl
@[simp] theorem setLatch_slot (s : State) (e : EventLatch) (i : SlotNo) : (s.setLatch e).slot i = s.slot i := by
  rw [setLatch_eq]; rfl
@[simp] theorem setLatch_pack (s : State) (e : EventLatch) (k : PackId) : (s.setLatch e).pack k = s.pack k := by
  rw [setLatch_eq]; cases k <;> rfl
@[simp] theorem setLatch_jog (s : State) (e : EventLatch) : (s.setLatch e).jog = s.jog := by rw [setLatch_eq]
@[simp] theorem setLatch_now (s : State) (e : EventLatch) : (s.setLatch e).now = s.now := by rw [setLatch_eq]
@[simp] theorem setLatch_params (s : State) (e : EventLatch) : (s.setLatch e).params = s.params := by rw [setLatch_eq]
@[simp] theorem setLatch_enabled (s : State) (e : EventLatch) : (s.setLatch e).enabled = s.enabled := by
  rw [setLatch_eq]; rfl
theorem mem_joinSet {α : Type} [BEq α] [LawfulBEq α] {all : List α} {k j : α} {xs : List α} :
    j ∈ joinSet all k xs ↔ j ∈ all ∧ (j = k ∨ j ∈ xs) := by simp [joinSet]
theorem mem_allLatches (e : EventLatch) : e ∈ allLatches := by cases e <;> decide
theorem mem_allPanelFaults (k : PanelFault) : k ∈ allPanelFaults := by cases k <;> decide
theorem mem_allPanelWarnings (k : PanelWarning) : k ∈ allPanelWarnings := by cases k <;> decide
theorem mem_allPanels (p : PanelNo) : p ∈ allPanels := by revert p; decide
theorem mem_allSlots (i : SlotNo) : i ∈ allSlots := by revert i; decide
theorem mem_allCards (c : CardNo) : c ∈ allCards := by revert c; decide
theorem mem_allStations (n : StationNo) : n ∈ allStations := by revert n; decide
theorem mem_allClaims (z : ClaimNo) : z ∈ allClaims := by revert z; decide

/-- Setting a latch loses none, and outside START it is set afterwards (R171). -/
theorem setLatch_mem (s : State) (e f : EventLatch) :
    f ∈ (s.setLatch e).latches ↔ f ∈ s.latches ∨ (f = e ∧ ¬ (s.inStart = true ∧ 4 ≤ e.code)) := by
  unfold State.setLatch
  split
  · rename_i h; simp at h; constructor
    · exact Or.inl
    · rintro (h' | ⟨-, h'⟩)
      · exact h'
      · exact absurd h h'
  · rename_i h; simp at h; simp [mem_joinSet, mem_allLatches]; tauto

end Sys2Proof.Machine
end

