-- ==== Sys2Proof/Laws/Agenda.lean ====
section
/-! SUPPORT. The agenda, one piece of work at a time. -/

namespace Sys2Proof.Machine

theorem afterDeliveries_nil (js : List Job) : afterDeliveries [] js = js := by
  induction js with
  | nil => rfl
  | cons j js ih => simp only [afterDeliveries, ih, List.nil_append, ite_self]

/-- Work that waits on no delivery comes after the further pass (R129). -/
theorem afterDeliveries_of_none {new js : List Job} (h : js.any Job.isDelivery = false) :
    afterDeliveries new js = new ++ js := by
  cases js with
  | nil => simp [afterDeliveries]
  | cons j js => simp only [afterDeliveries, h]; rfl

@[simp] theorem enqueue_nil (js : List Job) : enqueue [] js = js := by simp [enqueue, afterDeliveries_nil]

@[simp] theorem enqueue_none (new : List Job) : enqueue new [] = new := by
  simp [enqueue, afterDeliveries, List.takeWhile_append_dropWhile]

/-- Where the piece asks for no pass, its work comes before the work that was waiting. -/
theorem enqueue_of_no_pass {new js : List Job} (h : new.any Job.isPass = false) : enqueue new js = new ++ js := by
  have a : ∀ j ∈ new, (!j.isPass) = true := by simpa using h
  rw [enqueue, List.takeWhile_eq_self_iff.2 a, List.dropWhile_eq_nil_iff.2 a, afterDeliveries_nil]

@[simp] theorem drain_nil (n : Nat) (s : State) : drain n [] s = s := by cases n <;> rfl
theorem drain_cons (n : Nat) (j : Job) (js : List Job) (s : State) :
    drain (n + 1) (j :: js) s = drain n (enqueue (runJob j s).jobs js) (runJob j s).st := rfl

@[simp] theorem settle_ok (s : State) : (Res.ok s).settle = s := drain_nil _ s
@[simp] theorem settle_none (s : State) : (Res.mk s []).settle = s := drain_nil _ s
theorem settle_cons (j : Job) (js : List Job) (s : State) :
    (Res.mk s (j :: js)).settle = drain (agendaLimit - 1) (enqueue (runJob j s).jobs js) (runJob j s).st := rfl

@[simp] theorem Res.now_nil (r : Res) : r.now [] = r := rfl
theorem Res.now_cons (r : Res) (j : Job) (js : List Job) : r.now (j :: js) = (r.bind (runJob j)).now js := rfl

/-! A panel that serves no order leaves the sequencer nothing to do. -/

variable {s : State} {p : PanelNo}

theorem evaluate_unserved (h : s.served p = none) (w : Bool) : s.evaluate p w = .ok s := by simp [State.evaluate, h]
theorem deliver_unserved (h : s.served p = none) : s.deliver p = .ok s := by simp [State.deliver, h]
theorem reportStep_unserved (h : s.served p = none) (e : StepEnd) : s.reportStep p e = .ok s := by
  simp [State.reportStep, h]
theorem moveEnded_unserved (h : s.served p = none) : s.moveEnded p = .ok s := by simp [State.moveEnded, h]
theorem retest_unserved (h : s.served p = none) : s.retest p = .ok s := by simp [State.retest, h]
theorem watch_unserved (h : s.served p = none) : s.watch p = .ok s := by simp [State.watch, h]
theorem windowEnded_unserved (h : s.served p = none) : s.windowEnded p = .ok s := by simp [State.windowEnded, h]
theorem jogTest_none (h : s.jog = none) : s.jogTest = .ok s := by simp [State.jogTest, h]

end Sys2Proof.Machine
end

