-- ==== Sys2Proof/Laws/Fields.lean ====
section
/-! SUPPORT. Every field of the state that an update of one record does not write: it is as it was. -/

namespace Sys2Proof.Machine

variable (s : State)

/-! ### `State.setPanel` -/

@[simp] theorem setPanel_pending (p : PanelNo) (x : Panel) : (s.setPanel p x).pending = s.pending := rfl
@[simp] theorem setPanel_now (p : PanelNo) (x : Panel) : (s.setPanel p x).now = s.now := rfl
@[simp] theorem setPanel_free (p : PanelNo) (x : Panel) : (s.setPanel p x).free = s.free := rfl
@[simp] theorem setPanel_created (p : PanelNo) (x : Panel) : (s.setPanel p x).created = s.created := rfl
@[simp] theorem setPanel_unit (p : PanelNo) (x : Panel) : (s.setPanel p x).unit = s.unit := rfl
@[simp] theorem setPanel_params (p : PanelNo) (x : Panel) : (s.setPanel p x).params = s.params := rfl
@[simp] theorem setPanel_layout (p : PanelNo) (x : Panel) : (s.setPanel p x).layout = s.layout := rfl
@[simp] theorem setPanel_store (p : PanelNo) (x : Panel) : (s.setPanel p x).store = s.store := rfl
@[simp] theorem setPanel_writing (p : PanelNo) (x : Panel) : (s.setPanel p x).writing = s.writing := rfl
@[simp] theorem setPanel_locked (p : PanelNo) (x : Panel) : (s.setPanel p x).locked = s.locked := rfl
@[simp] theorem setPanel_servicePermitted (p : PanelNo) (x : Panel) :
    (s.setPanel p x).servicePermitted = s.servicePermitted := rfl
@[simp] theorem setPanel_serviceStation (p : PanelNo) (x : Panel) : (s.setPanel p x).serviceStation = s.serviceStation := rfl
@[simp] theorem setPanel_jog (p : PanelNo) (x : Panel) : (s.setPanel p x).jog = s.jog := rfl
@[simp] theorem setPanel_configAbsent (p : PanelNo) (x : Panel) : (s.setPanel p x).configAbsent = s.configAbsent := rfl
@[simp] theorem setPanel_slots (p : PanelNo) (x : Panel) : (s.setPanel p x).slots = s.slots := rfl
@[simp] theorem setPanel_idCounter (p : PanelNo) (x : Panel) : (s.setPanel p x).idCounter = s.idCounter := rfl
@[simp] theorem setPanel_list (p : PanelNo) (x : Panel) : (s.setPanel p x).list = s.list := rfl
@[simp] theorem setPanel_trim (p : PanelNo) (x : Panel) : (s.setPanel p x).trim = s.trim := rfl
@[simp] theorem setPanel_fresh (p : PanelNo) (x : Panel) : (s.setPanel p x).fresh = s.fresh := rfl
@[simp] theorem setPanel_listHigh (p : PanelNo) (x : Panel) : (s.setPanel p x).listHigh = s.listHigh := rfl
@[simp] theorem setPanel_staleTimer (p : PanelNo) (x : Panel) : (s.setPanel p x).staleTimer = s.staleTimer := rfl
@[simp] theorem setPanel_windSet (p : PanelNo) (x : Panel) : (s.setPanel p x).windSet = s.windSet := rfl
@[simp] theorem setPanel_windLine (p : PanelNo) (x : Panel) : (s.setPanel p x).windLine = s.windLine := rfl
@[simp] theorem setPanel_claims (p : PanelNo) (x : Panel) : (s.setPanel p x).claims = s.claims := rfl
@[simp] theorem setPanel_lineLive (p : PanelNo) (x : Panel) : (s.setPanel p x).lineLive = s.lineLive := rfl
@[simp] theorem setPanel_presence (p : PanelNo) (x : Panel) : (s.setPanel p x).presence = s.presence := rfl
@[simp] theorem setPanel_packA (p : PanelNo) (x : Panel) : (s.setPanel p x).packA = s.packA := rfl
@[simp] theorem setPanel_packB (p : PanelNo) (x : Panel) : (s.setPanel p x).packB = s.packB := rfl
@[simp] theorem setPanel_stations (p : PanelNo) (x : Panel) : (s.setPanel p x).stations = s.stations := rfl
@[simp] theorem setPanel_selector (p : PanelNo) (x : Panel) : (s.setPanel p x).selector = s.selector := rfl
@[simp] theorem setPanel_selectorDue (p : PanelNo) (x : Panel) : (s.setPanel p x).selectorDue = s.selectorDue := rfl
@[simp] theorem setPanel_loopOpen (p : PanelNo) (x : Panel) : (s.setPanel p x).loopOpen = s.loopOpen := rfl
@[simp] theorem setPanel_loopClosedLine (p : PanelNo) (x : Panel) : (s.setPanel p x).loopClosedLine = s.loopClosedLine := rfl
@[simp] theorem setPanel_loopTaken (p : PanelNo) (x : Panel) : (s.setPanel p x).loopTaken = s.loopTaken := rfl
@[simp] theorem setPanel_supplyLow (p : PanelNo) (x : Panel) : (s.setPanel p x).supplyLow = s.supplyLow := rfl
@[simp] theorem setPanel_supplyRecovered (p : PanelNo) (x : Panel) : (s.setPanel p x).supplyRecovered = s.supplyRecovered := rfl
@[simp] theorem setPanel_supplyMv (p : PanelNo) (x : Panel) : (s.setPanel p x).supplyMv = s.supplyMv := rfl
@[simp] theorem setPanel_cards (p : PanelNo) (x : Panel) : (s.setPanel p x).cards = s.cards := rfl
@[simp] theorem setPanel_cardTemp (p : PanelNo) (x : Panel) : (s.setPanel p x).cardTemp = s.cardTemp := rfl
@[simp] theorem setPanel_frameErrorsWarned (p : PanelNo) (x : Panel) :
    (s.setPanel p x).frameErrorsWarned = s.frameErrorsWarned := rfl
@[simp] theorem setPanel_latches (p : PanelNo) (x : Panel) : (s.setPanel p x).latches = s.latches := rfl
@[simp] theorem setPanel_txQueue (p : PanelNo) (x : Panel) : (s.setPanel p x).txQueue = s.txQueue := rfl
@[simp] theorem setPanel_txErrors (p : PanelNo) (x : Panel) : (s.setPanel p x).txErrors = s.txErrors := rfl
@[simp] theorem setPanel_busOff (p : PanelNo) (x : Panel) : (s.setPanel p x).busOff = s.busOff := rfl

/-! ### `State.modPanel` -/

@[simp] theorem modPanel_pending (p : PanelNo) (f : Panel → Panel) : (s.modPanel p f).pending = s.pending := rfl
@[simp] theorem modPanel_free (p : PanelNo) (f : Panel → Panel) : (s.modPanel p f).free = s.free := rfl
@[simp] theorem modPanel_created (p : PanelNo) (f : Panel → Panel) : (s.modPanel p f).created = s.created := rfl
@[simp] theorem modPanel_store (p : PanelNo) (f : Panel → Panel) : (s.modPanel p f).store = s.store := rfl
@[simp] theorem modPanel_writing (p : PanelNo) (f : Panel → Panel) : (s.modPanel p f).writing = s.writing := rfl
@[simp] theorem modPanel_locked (p : PanelNo) (f : Panel → Panel) : (s.modPanel p f).locked = s.locked := rfl
@[simp] theorem modPanel_servicePermitted (p : PanelNo) (f : Panel → Panel) :
    (s.modPanel p f).servicePermitted = s.servicePermitted := rfl
@[simp] theorem modPanel_serviceStation (p : PanelNo) (f : Panel → Panel) :
    (s.modPanel p f).serviceStation = s.serviceStation := rfl
@[simp] theorem modPanel_configAbsent (p : PanelNo) (f : Panel → Panel) : (s.modPanel p f).configAbsent = s.configAbsent := rfl
@[simp] theorem modPanel_idCounter (p : PanelNo) (f : Panel → Panel) : (s.modPanel p f).idCounter = s.idCounter := rfl
@[simp] theorem modPanel_list (p : PanelNo) (f : Panel → Panel) : (s.modPanel p f).list = s.list := rfl
@[simp] theorem modPanel_trim (p : PanelNo) (f : Panel → Panel) : (s.modPanel p f).trim = s.trim := rfl
@[simp] theorem modPanel_fresh (p : PanelNo) (f : Panel → Panel) : (s.modPanel p f).fresh = s.fresh := rfl
@[simp] theorem modPanel_listHigh (p : PanelNo) (f : Panel → Panel) : (s.modPanel p f).listHigh = s.listHigh := rfl
@[simp] theorem modPanel_staleTimer (p : PanelNo) (f : Panel → Panel) : (s.modPanel p f).staleTimer = s.staleTimer := rfl
@[simp] theorem modPanel_windSet (p : PanelNo) (f : Panel → Panel) : (s.modPanel p f).windSet = s.windSet := rfl
@[simp] theorem modPanel_windLine (p : PanelNo) (f : Panel → Panel) : (s.modPanel p f).windLine = s.windLine := rfl
@[simp] theorem modPanel_claims (p : PanelNo) (f : Panel → Panel) : (s.modPanel p f).claims = s.claims := rfl
@[simp] theorem modPanel_lineLive (p : PanelNo) (f : Panel → Panel) : (s.modPanel p f).lineLive = s.lineLive := rfl
@[simp] theorem modPanel_presence (p : PanelNo) (f : Panel → Panel) : (s.modPanel p f).presence = s.presence := rfl
@[simp] theorem modPanel_selector (p : PanelNo) (f : Panel → Panel) : (s.modPanel p f).selector = s.selector := rfl
@[simp] theorem modPanel_selectorDue (p : PanelNo) (f : Panel → Panel) : (s.modPanel p f).selectorDue = s.selectorDue := rfl
@[simp] theorem modPanel_loopOpen (p : PanelNo) (f : Panel → Panel) : (s.modPanel p f).loopOpen = s.loopOpen := rfl
@[simp] theorem modPanel_loopClosedLine (p : PanelNo) (f : Panel → Panel) :
    (s.modPanel p f).loopClosedLine = s.loopClosedLine := rfl
@[simp] theorem modPanel_loopTaken (p : PanelNo) (f : Panel → Panel) : (s.modPanel p f).loopTaken = s.loopTaken := rfl
@[simp] theorem modPanel_supplyLow (p : PanelNo) (f : Panel → Panel) : (s.modPanel p f).supplyLow = s.supplyLow := rfl
@[simp] theorem modPanel_supplyRecovered (p : PanelNo) (f : Panel → Panel) :
    (s.modPanel p f).supplyRecovered = s.supplyRecovered := rfl
@[simp] theorem modPanel_supplyMv (p : PanelNo) (f : Panel → Panel) : (s.modPanel p f).supplyMv = s.supplyMv := rfl
@[simp] theorem modPanel_cards (p : PanelNo) (f : Panel → Panel) : (s.modPanel p f).cards = s.cards := rfl
@[simp] theorem modPanel_cardTemp (p : PanelNo) (f : Panel → Panel) : (s.modPanel p f).cardTemp = s.cardTemp := rfl
@[simp] theorem modPanel_frameErrorsWarned (p : PanelNo) (f : Panel → Panel) :
    (s.modPanel p f).frameErrorsWarned = s.frameErrorsWarned := rfl
@[simp] theorem modPanel_txQueue (p : PanelNo) (f : Panel → Panel) : (s.modPanel p f).txQueue = s.txQueue := rfl
@[simp] theorem modPanel_txErrors (p : PanelNo) (f : Panel → Panel) : (s.modPanel p f).txErrors = s.txErrors := rfl
@[simp] theorem modPanel_busOff (p : PanelNo) (f : Panel → Panel) : (s.modPanel p f).busOff = s.busOff := rfl

/-! ### `State.setSlot` -/

@[simp] theorem setSlot_pending (i : SlotNo) (o : Option Order) : (s.setSlot i o).pending = s.pending := rfl
@[simp] theorem setSlot_free (i : SlotNo) (o : Option Order) : (s.setSlot i o).free = s.free := rfl
@[simp] theorem setSlot_created (i : SlotNo) (o : Option Order) : (s.setSlot i o).created = s.created := rfl
@[simp] theorem setSlot_unit (i : SlotNo) (o : Option Order) : (s.setSlot i o).unit = s.unit := rfl
@[simp] theorem setSlot_layout (i : SlotNo) (o : Option Order) : (s.setSlot i o).layout = s.layout := rfl
@[simp] theorem setSlot_store (i : SlotNo) (o : Option Order) : (s.setSlot i o).store = s.store := rfl
@[simp] theorem setSlot_writing (i : SlotNo) (o : Option Order) : (s.setSlot i o).writing = s.writing := rfl
@[simp] theorem setSlot_locked (i : SlotNo) (o : Option Order) : (s.setSlot i o).locked = s.locked := rfl
@[simp] theorem setSlot_servicePermitted (i : SlotNo) (o : Option Order) :
    (s.setSlot i o).servicePermitted = s.servicePermitted := rfl
@[simp] theorem setSlot_serviceStation (i : SlotNo) (o : Option Order) :
    (s.setSlot i o).serviceStation = s.serviceStation := rfl
@[simp] theorem setSlot_configAbsent (i : SlotNo) (o : Option Order) : (s.setSlot i o).configAbsent = s.configAbsent := rfl
@[simp] theorem setSlot_panels (i : SlotNo) (o : Option Order) : (s.setSlot i o).panels = s.panels := rfl
@[simp] theorem setSlot_idCounter (i : SlotNo) (o : Option Order) : (s.setSlot i o).idCounter = s.idCounter := rfl
@[simp] theorem setSlot_list (i : SlotNo) (o : Option Order) : (s.setSlot i o).list = s.list := rfl
@[simp] theorem setSlot_trim (i : SlotNo) (o : Option Order) : (s.setSlot i o).trim = s.trim := rfl
@[simp] theorem setSlot_fresh (i : SlotNo) (o : Option Order) : (s.setSlot i o).fresh = s.fresh := rfl
@[simp] theorem setSlot_listHigh (i : SlotNo) (o : Option Order) : (s.setSlot i o).listHigh = s.listHigh := rfl
@[simp] theorem setSlot_staleTimer (i : SlotNo) (o : Option Order) : (s.setSlot i o).staleTimer = s.staleTimer := rfl
@[simp] theorem setSlot_windSet (i : SlotNo) (o : Option Order) : (s.setSlot i o).windSet = s.windSet := rfl
@[simp] theorem setSlot_windLine (i : SlotNo) (o : Option Order) : (s.setSlot i o).windLine = s.windLine := rfl
@[simp] theorem setSlot_claims (i : SlotNo) (o : Option Order) : (s.setSlot i o).claims = s.claims := rfl
@[simp] theorem setSlot_lineLive (i : SlotNo) (o : Option Order) : (s.setSlot i o).lineLive = s.lineLive := rfl
@[simp] theorem setSlot_presence (i : SlotNo) (o : Option Order) : (s.setSlot i o).presence = s.presence := rfl
@[simp] theorem setSlot_packA (i : SlotNo) (o : Option Order) : (s.setSlot i o).packA = s.packA := rfl
@[simp] theorem setSlot_packB (i : SlotNo) (o : Option Order) : (s.setSlot i o).packB = s.packB := rfl
@[simp] theorem setSlot_stations (i : SlotNo) (o : Option Order) : (s.setSlot i o).stations = s.stations := rfl
@[simp] theorem setSlot_selector (i : SlotNo) (o : Option Order) : (s.setSlot i o).selector = s.selector := rfl
@[simp] theorem setSlot_selectorDue (i : SlotNo) (o : Option Order) : (s.setSlot i o).selectorDue = s.selectorDue := rfl
@[simp] theorem setSlot_loopOpen (i : SlotNo) (o : Option Order) : (s.setSlot i o).loopOpen = s.loopOpen := rfl
@[simp] theorem setSlot_loopClosedLine (i : SlotNo) (o : Option Order) :
    (s.setSlot i o).loopClosedLine = s.loopClosedLine := rfl
@[simp] theorem setSlot_loopTaken (i : SlotNo) (o : Option Order) : (s.setSlot i o).loopTaken = s.loopTaken := rfl
@[simp] theorem setSlot_supplyLow (i : SlotNo) (o : Option Order) : (s.setSlot i o).supplyLow = s.supplyLow := rfl
@[simp] theorem setSlot_supplyRecovered (i : SlotNo) (o : Option Order) :
    (s.setSlot i o).supplyRecovered = s.supplyRecovered := rfl
@[simp] theorem setSlot_supplyMv (i : SlotNo) (o : Option Order) : (s.setSlot i o).supplyMv = s.supplyMv := rfl
@[simp] theorem setSlot_cards (i : SlotNo) (o : Option Order) : (s.setSlot i o).cards = s.cards := rfl
@[simp] theorem setSlot_cardTemp (i : SlotNo) (o : Option Order) : (s.setSlot i o).cardTemp = s.cardTemp := rfl
@[simp] theorem setSlot_frameErrorsWarned (i : SlotNo) (o : Option Order) :
    (s.setSlot i o).frameErrorsWarned = s.frameErrorsWarned := rfl
@[simp] theorem setSlot_txQueue (i : SlotNo) (o : Option Order) : (s.setSlot i o).txQueue = s.txQueue := rfl
@[simp] theorem setSlot_txErrors (i : SlotNo) (o : Option Order) : (s.setSlot i o).txErrors = s.txErrors := rfl
@[simp] theorem setSlot_busOff (i : SlotNo) (o : Option Order) : (s.setSlot i o).busOff = s.busOff := rfl

/-! ### `State.modOrder` -/

@[simp] theorem modOrder_pending (i : SlotNo) (f : Order → Order) : (s.modOrder i f).pending = s.pending := rfl
@[simp] theorem modOrder_free (i : SlotNo) (f : Order → Order) : (s.modOrder i f).free = s.free := rfl
@[simp] theorem modOrder_created (i : SlotNo) (f : Order → Order) : (s.modOrder i f).created = s.created := rfl
@[simp] theorem modOrder_unit (i : SlotNo) (f : Order → Order) : (s.modOrder i f).unit = s.unit := rfl
@[simp] theorem modOrder_layout (i : SlotNo) (f : Order → Order) : (s.modOrder i f).layout = s.layout := rfl
@[simp] theorem modOrder_store (i : SlotNo) (f : Order → Order) : (s.modOrder i f).store = s.store := rfl
@[simp] theorem modOrder_writing (i : SlotNo) (f : Order → Order) : (s.modOrder i f).writing = s.writing := rfl
@[simp] theorem modOrder_locked (i : SlotNo) (f : Order → Order) : (s.modOrder i f).locked = s.locked := rfl
@[simp] theorem modOrder_servicePermitted (i : SlotNo) (f : Order → Order) :
    (s.modOrder i f).servicePermitted = s.servicePermitted := rfl
@[simp] theorem modOrder_serviceStation (i : SlotNo) (f : Order → Order) :
    (s.modOrder i f).serviceStation = s.serviceStation := rfl
@[simp] theorem modOrder_configAbsent (i : SlotNo) (f : Order → Order) : (s.modOrder i f).configAbsent = s.configAbsent := rfl
@[simp] theorem modOrder_panels (i : SlotNo) (f : Order → Order) : (s.modOrder i f).panels = s.panels := rfl
@[simp] theorem modOrder_idCounter (i : SlotNo) (f : Order → Order) : (s.modOrder i f).idCounter = s.idCounter := rfl
@[simp] theorem modOrder_list (i : SlotNo) (f : Order → Order) : (s.modOrder i f).list = s.list := rfl
@[simp] theorem modOrder_trim (i : SlotNo) (f : Order → Order) : (s.modOrder i f).trim = s.trim := rfl
@[simp] theorem modOrder_fresh (i : SlotNo) (f : Order → Order) : (s.modOrder i f).fresh = s.fresh := rfl
@[simp] theorem modOrder_listHigh (i : SlotNo) (f : Order → Order) : (s.modOrder i f).listHigh = s.listHigh := rfl
@[simp] theorem modOrder_staleTimer (i : SlotNo) (f : Order → Order) : (s.modOrder i f).staleTimer = s.staleTimer := rfl
@[simp] theorem modOrder_windSet (i : SlotNo) (f : Order → Order) : (s.modOrder i f).windSet = s.windSet := rfl
@[simp] theorem modOrder_windLine (i : SlotNo) (f : Order → Order) : (s.modOrder i f).windLine = s.windLine := rfl
@[simp] theorem modOrder_claims (i : SlotNo) (f : Order → Order) : (s.modOrder i f).claims = s.claims := rfl
@[simp] theorem modOrder_lineLive (i : SlotNo) (f : Order → Order) : (s.modOrder i f).lineLive = s.lineLive := rfl
@[simp] theorem modOrder_presence (i : SlotNo) (f : Order → Order) : (s.modOrder i f).presence = s.presence := rfl
@[simp] theorem modOrder_packA (i : SlotNo) (f : Order → Order) : (s.modOrder i f).packA = s.packA := rfl
@[simp] theorem modOrder_packB (i : SlotNo) (f : Order → Order) : (s.modOrder i f).packB = s.packB := rfl
@[simp] theorem modOrder_stations (i : SlotNo) (f : Order → Order) : (s.modOrder i f).stations = s.stations := rfl
@[simp] theorem modOrder_selector (i : SlotNo) (f : Order → Order) : (s.modOrder i f).selector = s.selector := rfl
@[simp] theorem modOrder_selectorDue (i : SlotNo) (f : Order → Order) : (s.modOrder i f).selectorDue = s.selectorDue := rfl
@[simp] theorem modOrder_loopOpen (i : SlotNo) (f : Order → Order) : (s.modOrder i f).loopOpen = s.loopOpen := rfl
@[simp] theorem modOrder_loopClosedLine (i : SlotNo) (f : Order → Order) :
    (s.modOrder i f).loopClosedLine = s.loopClosedLine := rfl
@[simp] theorem modOrder_loopTaken (i : SlotNo) (f : Order → Order) : (s.modOrder i f).loopTaken = s.loopTaken := rfl
@[simp] theorem modOrder_supplyLow (i : SlotNo) (f : Order → Order) : (s.modOrder i f).supplyLow = s.supplyLow := rfl
@[simp] theorem modOrder_supplyRecovered (i : SlotNo) (f : Order → Order) :
    (s.modOrder i f).supplyRecovered = s.supplyRecovered := rfl
@[simp] theorem modOrder_supplyMv (i : SlotNo) (f : Order → Order) : (s.modOrder i f).supplyMv = s.supplyMv := rfl
@[simp] theorem modOrder_cards (i : SlotNo) (f : Order → Order) : (s.modOrder i f).cards = s.cards := rfl
@[simp] theorem modOrder_cardTemp (i : SlotNo) (f : Order → Order) : (s.modOrder i f).cardTemp = s.cardTemp := rfl
@[simp] theorem modOrder_frameErrorsWarned (i : SlotNo) (f : Order → Order) :
    (s.modOrder i f).frameErrorsWarned = s.frameErrorsWarned := rfl
@[simp] theorem modOrder_txQueue (i : SlotNo) (f : Order → Order) : (s.modOrder i f).txQueue = s.txQueue := rfl
@[simp] theorem modOrder_txErrors (i : SlotNo) (f : Order → Order) : (s.modOrder i f).txErrors = s.txErrors := rfl
@[simp] theorem modOrder_busOff (i : SlotNo) (f : Order → Order) : (s.modOrder i f).busOff = s.busOff := rfl

/-! ### `State.setPack` -/

@[simp] theorem setPack_pending (x : Pack) (k : PackId) : (s.setPack x k).pending = s.pending := by cases k <;> rfl
@[simp] theorem setPack_now (x : Pack) (k : PackId) : (s.setPack x k).now = s.now := by cases k <;> rfl
@[simp] theorem setPack_free (x : Pack) (k : PackId) : (s.setPack x k).free = s.free := by cases k <;> rfl
@[simp] theorem setPack_created (x : Pack) (k : PackId) : (s.setPack x k).created = s.created := by cases k <;> rfl
@[simp] theorem setPack_unit (x : Pack) (k : PackId) : (s.setPack x k).unit = s.unit := by cases k <;> rfl
@[simp] theorem setPack_params (x : Pack) (k : PackId) : (s.setPack x k).params = s.params := by cases k <;> rfl
@[simp] theorem setPack_layout (x : Pack) (k : PackId) : (s.setPack x k).layout = s.layout := by cases k <;> rfl
@[simp] theorem setPack_store (x : Pack) (k : PackId) : (s.setPack x k).store = s.store := by cases k <;> rfl
@[simp] theorem setPack_writing (x : Pack) (k : PackId) : (s.setPack x k).writing = s.writing := by cases k <;> rfl
@[simp] theorem setPack_locked (x : Pack) (k : PackId) : (s.setPack x k).locked = s.locked := by cases k <;> rfl
@[simp] theorem setPack_servicePermitted (x : Pack) (k : PackId) :
    (s.setPack x k).servicePermitted = s.servicePermitted := by cases k <;> rfl
@[simp] theorem setPack_serviceStation (x : Pack) (k : PackId) :
    (s.setPack x k).serviceStation = s.serviceStation := by cases k <;> rfl
@[simp] theorem setPack_jog (x : Pack) (k : PackId) : (s.setPack x k).jog = s.jog := by cases k <;> rfl
@[simp] theorem setPack_configAbsent (x : Pack) (k : PackId) :
    (s.setPack x k).configAbsent = s.configAbsent := by cases k <;> rfl
@[simp] theorem setPack_panels (x : Pack) (k : PackId) : (s.setPack x k).panels = s.panels := by cases k <;> rfl
@[simp] theorem setPack_slots (x : Pack) (k : PackId) : (s.setPack x k).slots = s.slots := by cases k <;> rfl
@[simp] theorem setPack_idCounter (x : Pack) (k : PackId) : (s.setPack x k).idCounter = s.idCounter := by cases k <;> rfl
@[simp] theorem setPack_list (x : Pack) (k : PackId) : (s.setPack x k).list = s.list := by cases k <;> rfl
@[simp] theorem setPack_trim (x : Pack) (k : PackId) : (s.setPack x k).trim = s.trim := by cases k <;> rfl
@[simp] theorem setPack_fresh (x : Pack) (k : PackId) : (s.setPack x k).fresh = s.fresh := by cases k <;> rfl
@[simp] theorem setPack_listHigh (x : Pack) (k : PackId) : (s.setPack x k).listHigh = s.listHigh := by cases k <;> rfl
@[simp] theorem setPack_staleTimer (x : Pack) (k : PackId) : (s.setPack x k).staleTimer = s.staleTimer := by cases k <;> rfl
@[simp] theorem setPack_windSet (x : Pack) (k : PackId) : (s.setPack x k).windSet = s.windSet := by cases k <;> rfl
@[simp] theorem setPack_windLine (x : Pack) (k : PackId) : (s.setPack x k).windLine = s.windLine := by cases k <;> rfl
@[simp] theorem setPack_claims (x : Pack) (k : PackId) : (s.setPack x k).claims = s.claims := by cases k <;> rfl
@[simp] theorem setPack_lineLive (x : Pack) (k : PackId) : (s.setPack x k).lineLive = s.lineLive := by cases k <;> rfl
@[simp] theorem setPack_presence (x : Pack) (k : PackId) : (s.setPack x k).presence = s.presence := by cases k <;> rfl
@[simp] theorem setPack_stations (x : Pack) (k : PackId) : (s.setPack x k).stations = s.stations := by cases k <;> rfl
@[simp] theorem setPack_selector (x : Pack) (k : PackId) : (s.setPack x k).selector = s.selector := by cases k <;> rfl
@[simp] theorem setPack_selectorDue (x : Pack) (k : PackId) : (s.setPack x k).selectorDue = s.selectorDue := by cases k <;> rfl
@[simp] theorem setPack_loopOpen (x : Pack) (k : PackId) : (s.setPack x k).loopOpen = s.loopOpen := by cases k <;> rfl
@[simp] theorem setPack_loopClosedLine (x : Pack) (k : PackId) :
    (s.setPack x k).loopClosedLine = s.loopClosedLine := by cases k <;> rfl
@[simp] theorem setPack_loopTaken (x : Pack) (k : PackId) : (s.setPack x k).loopTaken = s.loopTaken := by cases k <;> rfl
@[simp] theorem setPack_supplyLow (x : Pack) (k : PackId) : (s.setPack x k).supplyLow = s.supplyLow := by cases k <;> rfl
@[simp] theorem setPack_supplyRecovered (x : Pack) (k : PackId) :
    (s.setPack x k).supplyRecovered = s.supplyRecovered := by cases k <;> rfl
@[simp] theorem setPack_supplyMv (x : Pack) (k : PackId) : (s.setPack x k).supplyMv = s.supplyMv := by cases k <;> rfl
@[simp] theorem setPack_cards (x : Pack) (k : PackId) : (s.setPack x k).cards = s.cards := by cases k <;> rfl
@[simp] theorem setPack_cardTemp (x : Pack) (k : PackId) : (s.setPack x k).cardTemp = s.cardTemp := by cases k <;> rfl
@[simp] theorem setPack_frameErrorsWarned (x : Pack) (k : PackId) :
    (s.setPack x k).frameErrorsWarned = s.frameErrorsWarned := by cases k <;> rfl
@[simp] theorem setPack_latches (x : Pack) (k : PackId) : (s.setPack x k).latches = s.latches := by cases k <;> rfl
@[simp] theorem setPack_txQueue (x : Pack) (k : PackId) : (s.setPack x k).txQueue = s.txQueue := by cases k <;> rfl
@[simp] theorem setPack_txErrors (x : Pack) (k : PackId) : (s.setPack x k).txErrors = s.txErrors := by cases k <;> rfl
@[simp] theorem setPack_busOff (x : Pack) (k : PackId) : (s.setPack x k).busOff = s.busOff := by cases k <;> rfl

/-! ### `State.modPack` -/

@[simp] theorem modPack_pending (k : PackId) (f : Pack → Pack) : (s.modPack k f).pending = s.pending := by cases k <;> rfl
@[simp] theorem modPack_now (k : PackId) (f : Pack → Pack) : (s.modPack k f).now = s.now := by cases k <;> rfl
@[simp] theorem modPack_free (k : PackId) (f : Pack → Pack) : (s.modPack k f).free = s.free := by cases k <;> rfl
@[simp] theorem modPack_created (k : PackId) (f : Pack → Pack) : (s.modPack k f).created = s.created := by cases k <;> rfl
@[simp] theorem modPack_unit (k : PackId) (f : Pack → Pack) : (s.modPack k f).unit = s.unit := by cases k <;> rfl
@[simp] theorem modPack_params (k : PackId) (f : Pack → Pack) : (s.modPack k f).params = s.params := by cases k <;> rfl
@[simp] theorem modPack_layout (k : PackId) (f : Pack → Pack) : (s.modPack k f).layout = s.layout := by cases k <;> rfl
@[simp] theorem modPack_store (k : PackId) (f : Pack → Pack) : (s.modPack k f).store = s.store := by cases k <;> rfl
@[simp] theorem modPack_writing (k : PackId) (f : Pack → Pack) : (s.modPack k f).writing = s.writing := by cases k <;> rfl
@[simp] theorem modPack_locked (k : PackId) (f : Pack → Pack) : (s.modPack k f).locked = s.locked := by cases k <;> rfl
@[simp] theorem modPack_servicePermitted (k : PackId) (f : Pack → Pack) :
    (s.modPack k f).servicePermitted = s.servicePermitted := by cases k <;> rfl
@[simp] theorem modPack_serviceStation (k : PackId) (f : Pack → Pack) :
    (s.modPack k f).serviceStation = s.serviceStation := by cases k <;> rfl
@[simp] theorem modPack_configAbsent (k : PackId) (f : Pack → Pack) :
    (s.modPack k f).configAbsent = s.configAbsent := by cases k <;> rfl
@[simp] theorem modPack_panels (k : PackId) (f : Pack → Pack) : (s.modPack k f).panels = s.panels := by cases k <;> rfl
@[simp] theorem modPack_slots (k : PackId) (f : Pack → Pack) : (s.modPack k f).slots = s.slots := by cases k <;> rfl
@[simp] theorem modPack_idCounter (k : PackId) (f : Pack → Pack) : (s.modPack k f).idCounter = s.idCounter := by cases k <;> rfl
@[simp] theorem modPack_list (k : PackId) (f : Pack → Pack) : (s.modPack k f).list = s.list := by cases k <;> rfl
@[simp] theorem modPack_trim (k : PackId) (f : Pack → Pack) : (s.modPack k f).trim = s.trim := by cases k <;> rfl
@[simp] theorem modPack_fresh (k : PackId) (f : Pack → Pack) : (s.modPack k f).fresh = s.fresh := by cases k <;> rfl
@[simp] theorem modPack_listHigh (k : PackId) (f : Pack → Pack) : (s.modPack k f).listHigh = s.listHigh := by cases k <;> rfl
@[simp] theorem modPack_staleTimer (k : PackId) (f : Pack → Pack) :
    (s.modPack k f).staleTimer = s.staleTimer := by cases k <;> rfl
@[simp] theorem modPack_windSet (k : PackId) (f : Pack → Pack) : (s.modPack k f).windSet = s.windSet := by cases k <;> rfl
@[simp] theorem modPack_windLine (k : PackId) (f : Pack → Pack) : (s.modPack k f).windLine = s.windLine := by cases k <;> rfl
@[simp] theorem modPack_claims (k : PackId) (f : Pack → Pack) : (s.modPack k f).claims = s.claims := by cases k <;> rfl
@[simp] theorem modPack_lineLive (k : PackId) (f : Pack → Pack) : (s.modPack k f).lineLive = s.lineLive := by cases k <;> rfl
@[simp] theorem modPack_presence (k : PackId) (f : Pack → Pack) : (s.modPack k f).presence = s.presence := by cases k <;> rfl
@[simp] theorem modPack_stations (k : PackId) (f : Pack → Pack) : (s.modPack k f).stations = s.stations := by cases k <;> rfl
@[simp] theorem modPack_selector (k : PackId) (f : Pack → Pack) : (s.modPack k f).selector = s.selector := by cases k <;> rfl
@[simp] theorem modPack_selectorDue (k : PackId) (f : Pack → Pack) :
    (s.modPack k f).selectorDue = s.selectorDue := by cases k <;> rfl
@[simp] theorem modPack_loopOpen (k : PackId) (f : Pack → Pack) : (s.modPack k f).loopOpen = s.loopOpen := by cases k <;> rfl
@[simp] theorem modPack_loopClosedLine (k : PackId) (f : Pack → Pack) :
    (s.modPack k f).loopClosedLine = s.loopClosedLine := by cases k <;> rfl
@[simp] theorem modPack_loopTaken (k : PackId) (f : Pack → Pack) : (s.modPack k f).loopTaken = s.loopTaken := by cases k <;> rfl
@[simp] theorem modPack_supplyLow (k : PackId) (f : Pack → Pack) : (s.modPack k f).supplyLow = s.supplyLow := by cases k <;> rfl
@[simp] theorem modPack_supplyRecovered (k : PackId) (f : Pack → Pack) :
    (s.modPack k f).supplyRecovered = s.supplyRecovered := by cases k <;> rfl
@[simp] theorem modPack_supplyMv (k : PackId) (f : Pack → Pack) : (s.modPack k f).supplyMv = s.supplyMv := by cases k <;> rfl
@[simp] theorem modPack_cards (k : PackId) (f : Pack → Pack) : (s.modPack k f).cards = s.cards := by cases k <;> rfl
@[simp] theorem modPack_cardTemp (k : PackId) (f : Pack → Pack) : (s.modPack k f).cardTemp = s.cardTemp := by cases k <;> rfl
@[simp] theorem modPack_frameErrorsWarned (k : PackId) (f : Pack → Pack) :
    (s.modPack k f).frameErrorsWarned = s.frameErrorsWarned := by cases k <;> rfl
@[simp] theorem modPack_txQueue (k : PackId) (f : Pack → Pack) : (s.modPack k f).txQueue = s.txQueue := by cases k <;> rfl
@[simp] theorem modPack_txErrors (k : PackId) (f : Pack → Pack) : (s.modPack k f).txErrors = s.txErrors := by cases k <;> rfl
@[simp] theorem modPack_busOff (k : PackId) (f : Pack → Pack) : (s.modPack k f).busOff = s.busOff := by cases k <;> rfl

/-! ### `State.modStation` -/

@[simp] theorem modStation_pending (n : StationNo) (f : Station → Station) : (s.modStation n f).pending = s.pending := rfl
@[simp] theorem modStation_now (n : StationNo) (f : Station → Station) : (s.modStation n f).now = s.now := rfl
@[simp] theorem modStation_free (n : StationNo) (f : Station → Station) : (s.modStation n f).free = s.free := rfl
@[simp] theorem modStation_created (n : StationNo) (f : Station → Station) : (s.modStation n f).created = s.created := rfl
@[simp] theorem modStation_unit (n : StationNo) (f : Station → Station) : (s.modStation n f).unit = s.unit := rfl
@[simp] theorem modStation_params (n : StationNo) (f : Station → Station) : (s.modStation n f).params = s.params := rfl
@[simp] theorem modStation_layout (n : StationNo) (f : Station → Station) : (s.modStation n f).layout = s.layout := rfl
@[simp] theorem modStation_store (n : StationNo) (f : Station → Station) : (s.modStation n f).store = s.store := rfl
@[simp] theorem modStation_writing (n : StationNo) (f : Station → Station) : (s.modStation n f).writing = s.writing := rfl
@[simp] theorem modStation_locked (n : StationNo) (f : Station → Station) : (s.modStation n f).locked = s.locked := rfl
@[simp] theorem modStation_servicePermitted (n : StationNo) (f : Station → Station) :
    (s.modStation n f).servicePermitted = s.servicePermitted := rfl
@[simp] theorem modStation_serviceStation (n : StationNo) (f : Station → Station) :
    (s.modStation n f).serviceStation = s.serviceStation := rfl
@[simp] theorem modStation_configAbsent (n : StationNo) (f : Station → Station) :
    (s.modStation n f).configAbsent = s.configAbsent := rfl
@[simp] theorem modStation_panels (n : StationNo) (f : Station → Station) : (s.modStation n f).panels = s.panels := rfl
@[simp] theorem modStation_slots (n : StationNo) (f : Station → Station) : (s.modStation n f).slots = s.slots := rfl
@[simp] theorem modStation_idCounter (n : StationNo) (f : Station → Station) : (s.modStation n f).idCounter = s.idCounter := rfl
@[simp] theorem modStation_list (n : StationNo) (f : Station → Station) : (s.modStation n f).list = s.list := rfl
@[simp] theorem modStation_trim (n : StationNo) (f : Station → Station) : (s.modStation n f).trim = s.trim := rfl
@[simp] theorem modStation_fresh (n : StationNo) (f : Station → Station) : (s.modStation n f).fresh = s.fresh := rfl
@[simp] theorem modStation_listHigh (n : StationNo) (f : Station → Station) : (s.modStation n f).listHigh = s.listHigh := rfl
@[simp] theorem modStation_staleTimer (n : StationNo) (f : Station → Station) :
    (s.modStation n f).staleTimer = s.staleTimer := rfl
@[simp] theorem modStation_windSet (n : StationNo) (f : Station → Station) : (s.modStation n f).windSet = s.windSet := rfl
@[simp] theorem modStation_windLine (n : StationNo) (f : Station → Station) : (s.modStation n f).windLine = s.windLine := rfl
@[simp] theorem modStation_claims (n : StationNo) (f : Station → Station) : (s.modStation n f).claims = s.claims := rfl
@[simp] theorem modStation_lineLive (n : StationNo) (f : Station → Station) : (s.modStation n f).lineLive = s.lineLive := rfl
@[simp] theorem modStation_presence (n : StationNo) (f : Station → Station) : (s.modStation n f).presence = s.presence := rfl
@[simp] theorem modStation_packA (n : StationNo) (f : Station → Station) : (s.modStation n f).packA = s.packA := rfl
@[simp] theorem modStation_packB (n : StationNo) (f : Station → Station) : (s.modStation n f).packB = s.packB := rfl
@[simp] theorem modStation_selector (n : StationNo) (f : Station → Station) : (s.modStation n f).selector = s.selector := rfl
@[simp] theorem modStation_selectorDue (n : StationNo) (f : Station → Station) :
    (s.modStation n f).selectorDue = s.selectorDue := rfl
@[simp] theorem modStation_loopOpen (n : StationNo) (f : Station → Station) : (s.modStation n f).loopOpen = s.loopOpen := rfl
@[simp] theorem modStation_loopClosedLine (n : StationNo) (f : Station → Station) :
    (s.modStation n f).loopClosedLine = s.loopClosedLine := rfl
@[simp] theorem modStation_loopTaken (n : StationNo) (f : Station → Station) : (s.modStation n f).loopTaken = s.loopTaken := rfl
@[simp] theorem modStation_supplyLow (n : StationNo) (f : Station → Station) : (s.modStation n f).supplyLow = s.supplyLow := rfl
@[simp] theorem modStation_supplyRecovered (n : StationNo) (f : Station → Station) :
    (s.modStation n f).supplyRecovered = s.supplyRecovered := rfl
@[simp] theorem modStation_supplyMv (n : StationNo) (f : Station → Station) : (s.modStation n f).supplyMv = s.supplyMv := rfl
@[simp] theorem modStation_cards (n : StationNo) (f : Station → Station) : (s.modStation n f).cards = s.cards := rfl
@[simp] theorem modStation_cardTemp (n : StationNo) (f : Station → Station) : (s.modStation n f).cardTemp = s.cardTemp := rfl
@[simp] theorem modStation_frameErrorsWarned (n : StationNo) (f : Station → Station) :
    (s.modStation n f).frameErrorsWarned = s.frameErrorsWarned := rfl
@[simp] theorem modStation_txQueue (n : StationNo) (f : Station → Station) : (s.modStation n f).txQueue = s.txQueue := rfl
@[simp] theorem modStation_txErrors (n : StationNo) (f : Station → Station) : (s.modStation n f).txErrors = s.txErrors := rfl
@[simp] theorem modStation_busOff (n : StationNo) (f : Station → Station) : (s.modStation n f).busOff = s.busOff := rfl

/-! ### `State.setClaim` -/

@[simp] theorem setClaim_pending (z : ClaimNo) (c : Option Claim) : (s.setClaim z c).pending = s.pending := rfl
@[simp] theorem setClaim_now (z : ClaimNo) (c : Option Claim) : (s.setClaim z c).now = s.now := rfl
@[simp] theorem setClaim_free (z : ClaimNo) (c : Option Claim) : (s.setClaim z c).free = s.free := rfl
@[simp] theorem setClaim_created (z : ClaimNo) (c : Option Claim) : (s.setClaim z c).created = s.created := rfl
@[simp] theorem setClaim_unit (z : ClaimNo) (c : Option Claim) : (s.setClaim z c).unit = s.unit := rfl
@[simp] theorem setClaim_params (z : ClaimNo) (c : Option Claim) : (s.setClaim z c).params = s.params := rfl
@[simp] theorem setClaim_layout (z : ClaimNo) (c : Option Claim) : (s.setClaim z c).layout = s.layout := rfl
@[simp] theorem setClaim_store (z : ClaimNo) (c : Option Claim) : (s.setClaim z c).store = s.store := rfl
@[simp] theorem setClaim_writing (z : ClaimNo) (c : Option Claim) : (s.setClaim z c).writing = s.writing := rfl
@[simp] theorem setClaim_locked (z : ClaimNo) (c : Option Claim) : (s.setClaim z c).locked = s.locked := rfl
@[simp] theorem setClaim_servicePermitted (z : ClaimNo) (c : Option Claim) :
    (s.setClaim z c).servicePermitted = s.servicePermitted := rfl
@[simp] theorem setClaim_serviceStation (z : ClaimNo) (c : Option Claim) :
    (s.setClaim z c).serviceStation = s.serviceStation := rfl
@[simp] theorem setClaim_jog (z : ClaimNo) (c : Option Claim) : (s.setClaim z c).jog = s.jog := rfl
@[simp] theorem setClaim_configAbsent (z : ClaimNo) (c : Option Claim) : (s.setClaim z c).configAbsent = s.configAbsent := rfl
@[simp] theorem setClaim_panels (z : ClaimNo) (c : Option Claim) : (s.setClaim z c).panels = s.panels := rfl
@[simp] theorem setClaim_slots (z : ClaimNo) (c : Option Claim) : (s.setClaim z c).slots = s.slots := rfl
@[simp] theorem setClaim_idCounter (z : ClaimNo) (c : Option Claim) : (s.setClaim z c).idCounter = s.idCounter := rfl
@[simp] theorem setClaim_list (z : ClaimNo) (c : Option Claim) : (s.setClaim z c).list = s.list := rfl
@[simp] theorem setClaim_trim (z : ClaimNo) (c : Option Claim) : (s.setClaim z c).trim = s.trim := rfl
@[simp] theorem setClaim_fresh (z : ClaimNo) (c : Option Claim) : (s.setClaim z c).fresh = s.fresh := rfl
@[simp] theorem setClaim_listHigh (z : ClaimNo) (c : Option Claim) : (s.setClaim z c).listHigh = s.listHigh := rfl
@[simp] theorem setClaim_staleTimer (z : ClaimNo) (c : Option Claim) : (s.setClaim z c).staleTimer = s.staleTimer := rfl
@[simp] theorem setClaim_windSet (z : ClaimNo) (c : Option Claim) : (s.setClaim z c).windSet = s.windSet := rfl
@[simp] theorem setClaim_windLine (z : ClaimNo) (c : Option Claim) : (s.setClaim z c).windLine = s.windLine := rfl
@[simp] theorem setClaim_lineLive (z : ClaimNo) (c : Option Claim) : (s.setClaim z c).lineLive = s.lineLive := rfl
@[simp] theorem setClaim_presence (z : ClaimNo) (c : Option Claim) : (s.setClaim z c).presence = s.presence := rfl
@[simp] theorem setClaim_packA (z : ClaimNo) (c : Option Claim) : (s.setClaim z c).packA = s.packA := rfl
@[simp] theorem setClaim_packB (z : ClaimNo) (c : Option Claim) : (s.setClaim z c).packB = s.packB := rfl
@[simp] theorem setClaim_stations (z : ClaimNo) (c : Option Claim) : (s.setClaim z c).stations = s.stations := rfl
@[simp] theorem setClaim_selector (z : ClaimNo) (c : Option Claim) : (s.setClaim z c).selector = s.selector := rfl
@[simp] theorem setClaim_selectorDue (z : ClaimNo) (c : Option Claim) : (s.setClaim z c).selectorDue = s.selectorDue := rfl
@[simp] theorem setClaim_loopOpen (z : ClaimNo) (c : Option Claim) : (s.setClaim z c).loopOpen = s.loopOpen := rfl
@[simp] theorem setClaim_loopClosedLine (z : ClaimNo) (c : Option Claim) :
    (s.setClaim z c).loopClosedLine = s.loopClosedLine := rfl
@[simp] theorem setClaim_loopTaken (z : ClaimNo) (c : Option Claim) : (s.setClaim z c).loopTaken = s.loopTaken := rfl
@[simp] theorem setClaim_supplyLow (z : ClaimNo) (c : Option Claim) : (s.setClaim z c).supplyLow = s.supplyLow := rfl
@[simp] theorem setClaim_supplyRecovered (z : ClaimNo) (c : Option Claim) :
    (s.setClaim z c).supplyRecovered = s.supplyRecovered := rfl
@[simp] theorem setClaim_supplyMv (z : ClaimNo) (c : Option Claim) : (s.setClaim z c).supplyMv = s.supplyMv := rfl
@[simp] theorem setClaim_cards (z : ClaimNo) (c : Option Claim) : (s.setClaim z c).cards = s.cards := rfl
@[simp] theorem setClaim_cardTemp (z : ClaimNo) (c : Option Claim) : (s.setClaim z c).cardTemp = s.cardTemp := rfl
@[simp] theorem setClaim_frameErrorsWarned (z : ClaimNo) (c : Option Claim) :
    (s.setClaim z c).frameErrorsWarned = s.frameErrorsWarned := rfl
@[simp] theorem setClaim_latches (z : ClaimNo) (c : Option Claim) : (s.setClaim z c).latches = s.latches := rfl
@[simp] theorem setClaim_txQueue (z : ClaimNo) (c : Option Claim) : (s.setClaim z c).txQueue = s.txQueue := rfl
@[simp] theorem setClaim_txErrors (z : ClaimNo) (c : Option Claim) : (s.setClaim z c).txErrors = s.txErrors := rfl
@[simp] theorem setClaim_busOff (z : ClaimNo) (c : Option Claim) : (s.setClaim z c).busOff = s.busOff := rfl

/-! ### `State.queueReply` -/

@[simp] theorem queueReply_pending (r : Reply) : (s.queueReply r).pending = s.pending := rfl
@[simp] theorem queueReply_now (r : Reply) : (s.queueReply r).now = s.now := rfl
@[simp] theorem queueReply_free (r : Reply) : (s.queueReply r).free = s.free := rfl
@[simp] theorem queueReply_created (r : Reply) : (s.queueReply r).created = s.created := rfl
@[simp] theorem queueReply_unit (r : Reply) : (s.queueReply r).unit = s.unit := rfl
@[simp] theorem queueReply_params (r : Reply) : (s.queueReply r).params = s.params := rfl
@[simp] theorem queueReply_layout (r : Reply) : (s.queueReply r).layout = s.layout := rfl
@[simp] theorem queueReply_store (r : Reply) : (s.queueReply r).store = s.store := rfl
@[simp] theorem queueReply_writing (r : Reply) : (s.queueReply r).writing = s.writing := rfl
@[simp] theorem queueReply_locked (r : Reply) : (s.queueReply r).locked = s.locked := rfl
@[simp] theorem queueReply_servicePermitted (r : Reply) : (s.queueReply r).servicePermitted = s.servicePermitted := rfl
@[simp] theorem queueReply_serviceStation (r : Reply) : (s.queueReply r).serviceStation = s.serviceStation := rfl
@[simp] theorem queueReply_jog (r : Reply) : (s.queueReply r).jog = s.jog := rfl
@[simp] theorem queueReply_configAbsent (r : Reply) : (s.queueReply r).configAbsent = s.configAbsent := rfl
@[simp] theorem queueReply_panels (r : Reply) : (s.queueReply r).panels = s.panels := rfl
@[simp] theorem queueReply_slots (r : Reply) : (s.queueReply r).slots = s.slots := rfl
@[simp] theorem queueReply_idCounter (r : Reply) : (s.queueReply r).idCounter = s.idCounter := rfl
@[simp] theorem queueReply_list (r : Reply) : (s.queueReply r).list = s.list := rfl
@[simp] theorem queueReply_trim (r : Reply) : (s.queueReply r).trim = s.trim := rfl
@[simp] theorem queueReply_fresh (r : Reply) : (s.queueReply r).fresh = s.fresh := rfl
@[simp] theorem queueReply_listHigh (r : Reply) : (s.queueReply r).listHigh = s.listHigh := rfl
@[simp] theorem queueReply_staleTimer (r : Reply) : (s.queueReply r).staleTimer = s.staleTimer := rfl
@[simp] theorem queueReply_windSet (r : Reply) : (s.queueReply r).windSet = s.windSet := rfl
@[simp] theorem queueReply_windLine (r : Reply) : (s.queueReply r).windLine = s.windLine := rfl
@[simp] theorem queueReply_claims (r : Reply) : (s.queueReply r).claims = s.claims := rfl
@[simp] theorem queueReply_lineLive (r : Reply) : (s.queueReply r).lineLive = s.lineLive := rfl
@[simp] theorem queueReply_presence (r : Reply) : (s.queueReply r).presence = s.presence := rfl
@[simp] theorem queueReply_packA (r : Reply) : (s.queueReply r).packA = s.packA := rfl
@[simp] theorem queueReply_packB (r : Reply) : (s.queueReply r).packB = s.packB := rfl
@[simp] theorem queueReply_selector (r : Reply) : (s.queueReply r).selector = s.selector := rfl
@[simp] theorem queueReply_selectorDue (r : Reply) : (s.queueReply r).selectorDue = s.selectorDue := rfl
@[simp] theorem queueReply_loopOpen (r : Reply) : (s.queueReply r).loopOpen = s.loopOpen := rfl
@[simp] theorem queueReply_loopClosedLine (r : Reply) : (s.queueReply r).loopClosedLine = s.loopClosedLine := rfl
@[simp] theorem queueReply_loopTaken (r : Reply) : (s.queueReply r).loopTaken = s.loopTaken := rfl
@[simp] theorem queueReply_supplyLow (r : Reply) : (s.queueReply r).supplyLow = s.supplyLow := rfl
@[simp] theorem queueReply_supplyRecovered (r : Reply) : (s.queueReply r).supplyRecovered = s.supplyRecovered := rfl
@[simp] theorem queueReply_supplyMv (r : Reply) : (s.queueReply r).supplyMv = s.supplyMv := rfl
@[simp] theorem queueReply_cards (r : Reply) : (s.queueReply r).cards = s.cards := rfl
@[simp] theorem queueReply_cardTemp (r : Reply) : (s.queueReply r).cardTemp = s.cardTemp := rfl
@[simp] theorem queueReply_frameErrorsWarned (r : Reply) : (s.queueReply r).frameErrorsWarned = s.frameErrorsWarned := rfl
@[simp] theorem queueReply_latches (r : Reply) : (s.queueReply r).latches = s.latches := rfl
@[simp] theorem queueReply_txErrors (r : Reply) : (s.queueReply r).txErrors = s.txErrors := rfl
@[simp] theorem queueReply_busOff (r : Reply) : (s.queueReply r).busOff = s.busOff := rfl

/-! ### `State.setLatch` -/

@[simp] theorem setLatch_pending (e : EventLatch) : (s.setLatch e).pending = s.pending := by rw [setLatch_eq]
@[simp] theorem setLatch_free (e : EventLatch) : (s.setLatch e).free = s.free := by rw [setLatch_eq]
@[simp] theorem setLatch_created (e : EventLatch) : (s.setLatch e).created = s.created := by rw [setLatch_eq]
@[simp] theorem setLatch_unit (e : EventLatch) : (s.setLatch e).unit = s.unit := by rw [setLatch_eq]
@[simp] theorem setLatch_layout (e : EventLatch) : (s.setLatch e).layout = s.layout := by rw [setLatch_eq]
@[simp] theorem setLatch_store (e : EventLatch) : (s.setLatch e).store = s.store := by rw [setLatch_eq]
@[simp] theorem setLatch_writing (e : EventLatch) : (s.setLatch e).writing = s.writing := by rw [setLatch_eq]
@[simp] theorem setLatch_locked (e : EventLatch) : (s.setLatch e).locked = s.locked := by rw [setLatch_eq]
@[simp] theorem setLatch_servicePermitted (e : EventLatch) :
    (s.setLatch e).servicePermitted = s.servicePermitted := by rw [setLatch_eq]
@[simp] theorem setLatch_serviceStation (e : EventLatch) :
    (s.setLatch e).serviceStation = s.serviceStation := by rw [setLatch_eq]
@[simp] theorem setLatch_configAbsent (e : EventLatch) : (s.setLatch e).configAbsent = s.configAbsent := by rw [setLatch_eq]
@[simp] theorem setLatch_panels (e : EventLatch) : (s.setLatch e).panels = s.panels := by rw [setLatch_eq]
@[simp] theorem setLatch_slots (e : EventLatch) : (s.setLatch e).slots = s.slots := by rw [setLatch_eq]
@[simp] theorem setLatch_idCounter (e : EventLatch) : (s.setLatch e).idCounter = s.idCounter := by rw [setLatch_eq]
@[simp] theorem setLatch_list (e : EventLatch) : (s.setLatch e).list = s.list := by rw [setLatch_eq]
@[simp] theorem setLatch_trim (e : EventLatch) : (s.setLatch e).trim = s.trim := by rw [setLatch_eq]
@[simp] theorem setLatch_fresh (e : EventLatch) : (s.setLatch e).fresh = s.fresh := by rw [setLatch_eq]
@[simp] theorem setLatch_listHigh (e : EventLatch) : (s.setLatch e).listHigh = s.listHigh := by rw [setLatch_eq]
@[simp] theorem setLatch_staleTimer (e : EventLatch) : (s.setLatch e).staleTimer = s.staleTimer := by rw [setLatch_eq]
@[simp] theorem setLatch_windSet (e : EventLatch) : (s.setLatch e).windSet = s.windSet := by rw [setLatch_eq]
@[simp] theorem setLatch_windLine (e : EventLatch) : (s.setLatch e).windLine = s.windLine := by rw [setLatch_eq]
@[simp] theorem setLatch_claims (e : EventLatch) : (s.setLatch e).claims = s.claims := by rw [setLatch_eq]
@[simp] theorem setLatch_lineLive (e : EventLatch) : (s.setLatch e).lineLive = s.lineLive := by rw [setLatch_eq]
@[simp] theorem setLatch_presence (e : EventLatch) : (s.setLatch e).presence = s.presence := by rw [setLatch_eq]
@[simp] theorem setLatch_packA (e : EventLatch) : (s.setLatch e).packA = s.packA := by rw [setLatch_eq]
@[simp] theorem setLatch_packB (e : EventLatch) : (s.setLatch e).packB = s.packB := by rw [setLatch_eq]
@[simp] theorem setLatch_stations (e : EventLatch) : (s.setLatch e).stations = s.stations := by rw [setLatch_eq]
@[simp] theorem setLatch_selector (e : EventLatch) : (s.setLatch e).selector = s.selector := by rw [setLatch_eq]
@[simp] theorem setLatch_selectorDue (e : EventLatch) : (s.setLatch e).selectorDue = s.selectorDue := by rw [setLatch_eq]
@[simp] theorem setLatch_loopOpen (e : EventLatch) : (s.setLatch e).loopOpen = s.loopOpen := by rw [setLatch_eq]
@[simp] theorem setLatch_loopClosedLine (e : EventLatch) :
    (s.setLatch e).loopClosedLine = s.loopClosedLine := by rw [setLatch_eq]
@[simp] theorem setLatch_loopTaken (e : EventLatch) : (s.setLatch e).loopTaken = s.loopTaken := by rw [setLatch_eq]
@[simp] theorem setLatch_supplyLow (e : EventLatch) : (s.setLatch e).supplyLow = s.supplyLow := by rw [setLatch_eq]
@[simp] theorem setLatch_supplyRecovered (e : EventLatch) :
    (s.setLatch e).supplyRecovered = s.supplyRecovered := by rw [setLatch_eq]
@[simp] theorem setLatch_supplyMv (e : EventLatch) : (s.setLatch e).supplyMv = s.supplyMv := by rw [setLatch_eq]
@[simp] theorem setLatch_cards (e : EventLatch) : (s.setLatch e).cards = s.cards := by rw [setLatch_eq]
@[simp] theorem setLatch_cardTemp (e : EventLatch) : (s.setLatch e).cardTemp = s.cardTemp := by rw [setLatch_eq]
@[simp] theorem setLatch_frameErrorsWarned (e : EventLatch) :
    (s.setLatch e).frameErrorsWarned = s.frameErrorsWarned := by rw [setLatch_eq]
@[simp] theorem setLatch_txQueue (e : EventLatch) : (s.setLatch e).txQueue = s.txQueue := by rw [setLatch_eq]
@[simp] theorem setLatch_txErrors (e : EventLatch) : (s.setLatch e).txErrors = s.txErrors := by rw [setLatch_eq]
@[simp] theorem setLatch_busOff (e : EventLatch) : (s.setLatch e).busOff = s.busOff := by rw [setLatch_eq]

/-! ### `State.warn` -/

@[simp] theorem warn_pending (p : PanelNo) (k : PanelWarning) :
    (s.warn p k).pending = s.pending := by rw [State.warn, setLatch_eq]; rfl
@[simp] theorem warn_now (p : PanelNo) (k : PanelWarning) : (s.warn p k).now = s.now := by rw [State.warn, setLatch_eq]; rfl
@[simp] theorem warn_free (p : PanelNo) (k : PanelWarning) : (s.warn p k).free = s.free := by rw [State.warn, setLatch_eq]; rfl
@[simp] theorem warn_created (p : PanelNo) (k : PanelWarning) :
    (s.warn p k).created = s.created := by rw [State.warn, setLatch_eq]; rfl
@[simp] theorem warn_unit (p : PanelNo) (k : PanelWarning) : (s.warn p k).unit = s.unit := by rw [State.warn, setLatch_eq]; rfl
@[simp] theorem warn_params (p : PanelNo) (k : PanelWarning) :
    (s.warn p k).params = s.params := by rw [State.warn, setLatch_eq]; rfl
@[simp] theorem warn_layout (p : PanelNo) (k : PanelWarning) :
    (s.warn p k).layout = s.layout := by rw [State.warn, setLatch_eq]; rfl
@[simp] theorem warn_store (p : PanelNo) (k : PanelWarning) :
    (s.warn p k).store = s.store := by rw [State.warn, setLatch_eq]; rfl
@[simp] theorem warn_writing (p : PanelNo) (k : PanelWarning) :
    (s.warn p k).writing = s.writing := by rw [State.warn, setLatch_eq]; rfl
@[simp] theorem warn_locked (p : PanelNo) (k : PanelWarning) :
    (s.warn p k).locked = s.locked := by rw [State.warn, setLatch_eq]; rfl
@[simp] theorem warn_servicePermitted (p : PanelNo) (k : PanelWarning) :
    (s.warn p k).servicePermitted = s.servicePermitted := by rw [State.warn, setLatch_eq]; rfl
@[simp] theorem warn_serviceStation (p : PanelNo) (k : PanelWarning) :
    (s.warn p k).serviceStation = s.serviceStation := by rw [State.warn, setLatch_eq]; rfl
@[simp] theorem warn_jog (p : PanelNo) (k : PanelWarning) : (s.warn p k).jog = s.jog := by rw [State.warn, setLatch_eq]; rfl
@[simp] theorem warn_configAbsent (p : PanelNo) (k : PanelWarning) :
    (s.warn p k).configAbsent = s.configAbsent := by rw [State.warn, setLatch_eq]; rfl
@[simp] theorem warn_slots (p : PanelNo) (k : PanelWarning) :
    (s.warn p k).slots = s.slots := by rw [State.warn, setLatch_eq]; rfl
@[simp] theorem warn_idCounter (p : PanelNo) (k : PanelWarning) :
    (s.warn p k).idCounter = s.idCounter := by rw [State.warn, setLatch_eq]; rfl
@[simp] theorem warn_list (p : PanelNo) (k : PanelWarning) : (s.warn p k).list = s.list := by rw [State.warn, setLatch_eq]; rfl
@[simp] theorem warn_trim (p : PanelNo) (k : PanelWarning) : (s.warn p k).trim = s.trim := by rw [State.warn, setLatch_eq]; rfl
@[simp] theorem warn_fresh (p : PanelNo) (k : PanelWarning) :
    (s.warn p k).fresh = s.fresh := by rw [State.warn, setLatch_eq]; rfl
@[simp] theorem warn_listHigh (p : PanelNo) (k : PanelWarning) :
    (s.warn p k).listHigh = s.listHigh := by rw [State.warn, setLatch_eq]; rfl
@[simp] theorem warn_staleTimer (p : PanelNo) (k : PanelWarning) :
    (s.warn p k).staleTimer = s.staleTimer := by rw [State.warn, setLatch_eq]; rfl
@[simp] theorem warn_windSet (p : PanelNo) (k : PanelWarning) :
    (s.warn p k).windSet = s.windSet := by rw [State.warn, setLatch_eq]; rfl
@[simp] theorem warn_windLine (p : PanelNo) (k : PanelWarning) :
    (s.warn p k).windLine = s.windLine := by rw [State.warn, setLatch_eq]; rfl
@[simp] theorem warn_claims (p : PanelNo) (k : PanelWarning) :
    (s.warn p k).claims = s.claims := by rw [State.warn, setLatch_eq]; rfl
@[simp] theorem warn_lineLive (p : PanelNo) (k : PanelWarning) :
    (s.warn p k).lineLive = s.lineLive := by rw [State.warn, setLatch_eq]; rfl
@[simp] theorem warn_presence (p : PanelNo) (k : PanelWarning) :
    (s.warn p k).presence = s.presence := by rw [State.warn, setLatch_eq]; rfl
@[simp] theorem warn_packA (p : PanelNo) (k : PanelWarning) :
    (s.warn p k).packA = s.packA := by rw [State.warn, setLatch_eq]; rfl
@[simp] theorem warn_packB (p : PanelNo) (k : PanelWarning) :
    (s.warn p k).packB = s.packB := by rw [State.warn, setLatch_eq]; rfl
@[simp] theorem warn_stations (p : PanelNo) (k : PanelWarning) :
    (s.warn p k).stations = s.stations := by rw [State.warn, setLatch_eq]; rfl
@[simp] theorem warn_selector (p : PanelNo) (k : PanelWarning) :
    (s.warn p k).selector = s.selector := by rw [State.warn, setLatch_eq]; rfl
@[simp] theorem warn_selectorDue (p : PanelNo) (k : PanelWarning) :
    (s.warn p k).selectorDue = s.selectorDue := by rw [State.warn, setLatch_eq]; rfl
@[simp] theorem warn_loopOpen (p : PanelNo) (k : PanelWarning) :
    (s.warn p k).loopOpen = s.loopOpen := by rw [State.warn, setLatch_eq]; rfl
@[simp] theorem warn_loopClosedLine (p : PanelNo) (k : PanelWarning) :
    (s.warn p k).loopClosedLine = s.loopClosedLine := by rw [State.warn, setLatch_eq]; rfl
@[simp] theorem warn_loopTaken (p : PanelNo) (k : PanelWarning) :
    (s.warn p k).loopTaken = s.loopTaken := by rw [State.warn, setLatch_eq]; rfl
@[simp] theorem warn_supplyLow (p : PanelNo) (k : PanelWarning) :
    (s.warn p k).supplyLow = s.supplyLow := by rw [State.warn, setLatch_eq]; rfl
@[simp] theorem warn_supplyRecovered (p : PanelNo) (k : PanelWarning) :
    (s.warn p k).supplyRecovered = s.supplyRecovered := by rw [State.warn, setLatch_eq]; rfl
@[simp] theorem warn_supplyMv (p : PanelNo) (k : PanelWarning) :
    (s.warn p k).supplyMv = s.supplyMv := by rw [State.warn, setLatch_eq]; rfl
@[simp] theorem warn_cards (p : PanelNo) (k : PanelWarning) :
    (s.warn p k).cards = s.cards := by rw [State.warn, setLatch_eq]; rfl
@[simp] theorem warn_cardTemp (p : PanelNo) (k : PanelWarning) :
    (s.warn p k).cardTemp = s.cardTemp := by rw [State.warn, setLatch_eq]; rfl
@[simp] theorem warn_frameErrorsWarned (p : PanelNo) (k : PanelWarning) :
    (s.warn p k).frameErrorsWarned = s.frameErrorsWarned := by rw [State.warn, setLatch_eq]; rfl
@[simp] theorem warn_txQueue (p : PanelNo) (k : PanelWarning) :
    (s.warn p k).txQueue = s.txQueue := by rw [State.warn, setLatch_eq]; rfl
@[simp] theorem warn_txErrors (p : PanelNo) (k : PanelWarning) :
    (s.warn p k).txErrors = s.txErrors := by rw [State.warn, setLatch_eq]; rfl
@[simp] theorem warn_busOff (p : PanelNo) (k : PanelWarning) :
    (s.warn p k).busOff = s.busOff := by rw [State.warn, setLatch_eq]; rfl

/-! ### `State.energise` -/

@[simp] theorem energise_pending (p : PanelNo) (c : Coil) :
    (s.energise p c).pending = s.pending := by unfold State.energise; split <;> rfl
@[simp] theorem energise_now (p : PanelNo) (c : Coil) : (s.energise p c).now = s.now := by unfold State.energise; split <;> rfl
@[simp] theorem energise_free (p : PanelNo) (c : Coil) :
    (s.energise p c).free = s.free := by unfold State.energise; split <;> rfl
@[simp] theorem energise_created (p : PanelNo) (c : Coil) :
    (s.energise p c).created = s.created := by unfold State.energise; split <;> rfl
@[simp] theorem energise_unit (p : PanelNo) (c : Coil) :
    (s.energise p c).unit = s.unit := by unfold State.energise; split <;> rfl
@[simp] theorem energise_params (p : PanelNo) (c : Coil) :
    (s.energise p c).params = s.params := by unfold State.energise; split <;> rfl
@[simp] theorem energise_layout (p : PanelNo) (c : Coil) :
    (s.energise p c).layout = s.layout := by unfold State.energise; split <;> rfl
@[simp] theorem energise_store (p : PanelNo) (c : Coil) :
    (s.energise p c).store = s.store := by unfold State.energise; split <;> rfl
@[simp] theorem energise_writing (p : PanelNo) (c : Coil) :
    (s.energise p c).writing = s.writing := by unfold State.energise; split <;> rfl
@[simp] theorem energise_locked (p : PanelNo) (c : Coil) :
    (s.energise p c).locked = s.locked := by unfold State.energise; split <;> rfl
@[simp] theorem energise_servicePermitted (p : PanelNo) (c : Coil) :
    (s.energise p c).servicePermitted = s.servicePermitted := by unfold State.energise; split <;> rfl
@[simp] theorem energise_serviceStation (p : PanelNo) (c : Coil) :
    (s.energise p c).serviceStation = s.serviceStation := by unfold State.energise; split <;> rfl
@[simp] theorem energise_jog (p : PanelNo) (c : Coil) : (s.energise p c).jog = s.jog := by unfold State.energise; split <;> rfl
@[simp] theorem energise_configAbsent (p : PanelNo) (c : Coil) :
    (s.energise p c).configAbsent = s.configAbsent := by unfold State.energise; split <;> rfl
@[simp] theorem energise_slots (p : PanelNo) (c : Coil) :
    (s.energise p c).slots = s.slots := by unfold State.energise; split <;> rfl
@[simp] theorem energise_idCounter (p : PanelNo) (c : Coil) :
    (s.energise p c).idCounter = s.idCounter := by unfold State.energise; split <;> rfl
@[simp] theorem energise_list (p : PanelNo) (c : Coil) :
    (s.energise p c).list = s.list := by unfold State.energise; split <;> rfl
@[simp] theorem energise_trim (p : PanelNo) (c : Coil) :
    (s.energise p c).trim = s.trim := by unfold State.energise; split <;> rfl
@[simp] theorem energise_fresh (p : PanelNo) (c : Coil) :
    (s.energise p c).fresh = s.fresh := by unfold State.energise; split <;> rfl
@[simp] theorem energise_listHigh (p : PanelNo) (c : Coil) :
    (s.energise p c).listHigh = s.listHigh := by unfold State.energise; split <;> rfl
@[simp] theorem energise_staleTimer (p : PanelNo) (c : Coil) :
    (s.energise p c).staleTimer = s.staleTimer := by unfold State.energise; split <;> rfl
@[simp] theorem energise_windSet (p : PanelNo) (c : Coil) :
    (s.energise p c).windSet = s.windSet := by unfold State.energise; split <;> rfl
@[simp] theorem energise_windLine (p : PanelNo) (c : Coil) :
    (s.energise p c).windLine = s.windLine := by unfold State.energise; split <;> rfl
@[simp] theorem energise_claims (p : PanelNo) (c : Coil) :
    (s.energise p c).claims = s.claims := by unfold State.energise; split <;> rfl
@[simp] theorem energise_lineLive (p : PanelNo) (c : Coil) :
    (s.energise p c).lineLive = s.lineLive := by unfold State.energise; split <;> rfl
@[simp] theorem energise_presence (p : PanelNo) (c : Coil) :
    (s.energise p c).presence = s.presence := by unfold State.energise; split <;> rfl
@[simp] theorem energise_packA (p : PanelNo) (c : Coil) :
    (s.energise p c).packA = s.packA := by unfold State.energise; split <;> rfl
@[simp] theorem energise_packB (p : PanelNo) (c : Coil) :
    (s.energise p c).packB = s.packB := by unfold State.energise; split <;> rfl
@[simp] theorem energise_stations (p : PanelNo) (c : Coil) :
    (s.energise p c).stations = s.stations := by unfold State.energise; split <;> rfl
@[simp] theorem energise_selector (p : PanelNo) (c : Coil) :
    (s.energise p c).selector = s.selector := by unfold State.energise; split <;> rfl
@[simp] theorem energise_selectorDue (p : PanelNo) (c : Coil) :
    (s.energise p c).selectorDue = s.selectorDue := by unfold State.energise; split <;> rfl
@[simp] theorem energise_loopOpen (p : PanelNo) (c : Coil) :
    (s.energise p c).loopOpen = s.loopOpen := by unfold State.energise; split <;> rfl
@[simp] theorem energise_loopClosedLine (p : PanelNo) (c : Coil) :
    (s.energise p c).loopClosedLine = s.loopClosedLine := by unfold State.energise; split <;> rfl
@[simp] theorem energise_loopTaken (p : PanelNo) (c : Coil) :
    (s.energise p c).loopTaken = s.loopTaken := by unfold State.energise; split <;> rfl
@[simp] theorem energise_supplyLow (p : PanelNo) (c : Coil) :
    (s.energise p c).supplyLow = s.supplyLow := by unfold State.energise; split <;> rfl
@[simp] theorem energise_supplyRecovered (p : PanelNo) (c : Coil) :
    (s.energise p c).supplyRecovered = s.supplyRecovered := by unfold State.energise; split <;> rfl
@[simp] theorem energise_supplyMv (p : PanelNo) (c : Coil) :
    (s.energise p c).supplyMv = s.supplyMv := by unfold State.energise; split <;> rfl
@[simp] theorem energise_cards (p : PanelNo) (c : Coil) :
    (s.energise p c).cards = s.cards := by unfold State.energise; split <;> rfl
@[simp] theorem energise_cardTemp (p : PanelNo) (c : Coil) :
    (s.energise p c).cardTemp = s.cardTemp := by unfold State.energise; split <;> rfl
@[simp] theorem energise_frameErrorsWarned (p : PanelNo) (c : Coil) :
    (s.energise p c).frameErrorsWarned = s.frameErrorsWarned := by unfold State.energise; split <;> rfl
@[simp] theorem energise_latches (p : PanelNo) (c : Coil) :
    (s.energise p c).latches = s.latches := by unfold State.energise; split <;> rfl
@[simp] theorem energise_txQueue (p : PanelNo) (c : Coil) :
    (s.energise p c).txQueue = s.txQueue := by unfold State.energise; split <;> rfl
@[simp] theorem energise_txErrors (p : PanelNo) (c : Coil) :
    (s.energise p c).txErrors = s.txErrors := by unfold State.energise; split <;> rfl
@[simp] theorem energise_busOff (p : PanelNo) (c : Coil) :
    (s.energise p c).busOff = s.busOff := by unfold State.energise; split <;> rfl

end Sys2Proof.Machine
end

