-- ==== Sys2Proof/Laws/Lasting.lean ====
section
/-! SUPPORT. What the operations of the order table, the sequencers, the arbiters and the fault table leave alone: each of
them, and so the whole agenda, keeps `State.lasting`. -/

namespace Sys2Proof.Machine

/-! ### Updates of one record -/

theorem map_set_of_eq {α β : Type} {n : Nat} (f : α → β) (v : Vector α n) (i : Nat) (h : i < n) (x : α)
    (e : f x = f v[i]) : (v.set i x h).map f = v.map f := by
  apply Vector.ext
  intro j hj
  by_cases hij : i = j
  · subst hij; simp [e]
  · simp [hij]

theorem lasting_modPanel {s : State} {p : PanelNo} {f : Panel → Panel} (h : ∀ x, (f x).lasting = x.lasting) :
    (s.modPanel p f).lasting = s.lasting := by
  simp only [State.lasting, State.modPanel, State.setPanel]
  rw [show (s.panels.set p (f (s.panel p))).map Panel.lasting = s.panels.map Panel.lasting from
    map_set_of_eq _ _ _ _ _ (by rw [h]; rfl)]

theorem lasting_setSlot {s : State} {i : SlotNo} {o : Option Order}
    (h : o.map Order.lasting = (s.slot i).map Order.lasting) : (s.setSlot i o).lasting = s.lasting := by
  simp only [State.lasting, State.setSlot]
  rw [show (s.slots.set i o).map (Option.map Order.lasting) = s.slots.map (Option.map Order.lasting) from
    map_set_of_eq _ _ _ _ _ (by rw [h]; rfl)]

theorem lasting_modOrder {s : State} {i : SlotNo} {f : Order → Order} (h : ∀ o, (f o).lasting = o.lasting) :
    (s.modOrder i f).lasting = s.lasting := by
  apply lasting_setSlot; cases s.slot i <;> simp [h]

theorem lasting_modPack {s : State} {k : PackId} {f : Pack → Pack} (h : ∀ x, (f x).lasting = x.lasting) :
    (s.modPack k f).lasting = s.lasting := by
  cases k <;> simp [State.lasting, State.modPack, State.setPack, State.pack, h]

theorem lasting_setPack {s : State} {k : PackId} {x : Pack} (h : x.lasting = (s.pack k).lasting) :
    (s.setPack x k).lasting = s.lasting := by
  cases k <;> simp [State.lasting, State.setPack, State.pack] at * <;> exact h

theorem lasting_modStation {s : State} {n : StationNo} {f : Station → Station} (h : ∀ x, (f x).lasting = x.lasting) :
    (s.modStation n f).lasting = s.lasting := by
  simp only [State.lasting, State.modStation]
  rw [show (s.stations.set n (f s.stations[n])).map Station.lasting = s.stations.map Station.lasting from
    map_set_of_eq _ _ _ _ _ (by rw [h]; rfl)]

@[simp] theorem lasting_setLatch (s : State) (e : EventLatch) : (s.setLatch e).lasting = s.lasting := by
  rw [setLatch_eq]; rfl
@[simp] theorem lasting_latchIf (s : State) (b : Bool) (e : EventLatch) : (s.latchIf b e).lasting = s.lasting := by
  cases b <;> simp [State.latchIf]
@[simp] theorem lasting_warn (s : State) (p : PanelNo) (k : PanelWarning) : (s.warn p k).lasting = s.lasting := by
  rw [State.warn, lasting_setLatch]; exact lasting_modPanel fun _ => rfl
@[simp] theorem lasting_jog (s : State) (j : Option Jog) : ({ s with jog := j }).lasting = s.lasting := rfl
@[simp] theorem lasting_energise (s : State) (p : PanelNo) (c : Coil) : (s.energise p c).lasting = s.lasting := by
  unfold State.energise; split
  · exact lasting_modPanel fun _ => rfl
  · rfl
@[simp] theorem lasting_deEnergise (s : State) (p : PanelNo) (c : Coil) : (s.deEnergise p c).lasting = s.lasting :=
  lasting_modPanel fun _ => rfl

/-! ### Cleats -/

theorem Panel.lasting_modCleat (x : Panel) (k : CleatNo) (f : Cleat → Cleat) (h : ∀ c, (f c).made = c.made) :
    (x.modCleat k f).lasting = x.lasting := by
  simp only [Panel.modCleat, Panel.setCleat, Panel.lasting]
  rw [show (x.cleats.set k (f x.cleats[k])).map (fun c : Cleat => Cleat.mk .engaged c.made 0 0) =
    x.cleats.map (fun c : Cleat => Cleat.mk .engaged c.made 0 0) from map_set_of_eq _ _ _ _ _ (by simp only [h]; rfl)]
theorem Panel.lasting_foldCleat {α : Type} (f : α → Cleat → Cleat) (g : α → CleatNo) (h : ∀ a c, (f a c).made = c.made) :
    ∀ (ks : List α) (x : Panel), (ks.foldl (fun x a => x.modCleat (g a) (f a)) x).lasting = x.lasting
  | [], _ => rfl
  | a :: ks, x => by
    rw [List.foldl_cons, Panel.lasting_foldCleat f g h ks]; exact Panel.lasting_modCleat _ _ _ (h a)
theorem Panel.lasting_setStates (x : Panel) (ks : List CleatNo) (st : CleatState) :
    (x.setStates ks st).lasting = x.lasting :=
  Panel.lasting_foldCleat (fun _ c => { c with state := st }) id (fun _ _ => rfl) ks x
theorem lasting_modCleat {s : State} {p : PanelNo} {k : CleatNo} {f : Cleat → Cleat} (h : ∀ c, (f c).made = c.made) :
    (s.modCleat p k f).lasting = s.lasting := lasting_modPanel fun x => x.lasting_modCleat k f h
@[simp] theorem lasting_valveOff (s : State) (p : PanelNo) : (s.valveOff p).lasting = s.lasting := by
  unfold State.valveOff; split
  · rfl
  · exact lasting_modPanel fun _ => rfl
@[simp] theorem lasting_clearMove (s : State) (p : PanelNo) : (s.clearMove p).lasting = s.lasting := by
  rw [State.clearMove]; refine Eq.trans (lasting_modPanel fun _ => rfl) ?_; rw [lasting_valveOff]
@[simp] theorem lasting_cutMove (s : State) (p : PanelNo) : (s.cutMove p).lasting = s.lasting := by
  unfold State.cutMove; split
  · rfl
  · rw [lasting_modPanel fun x => x.lasting_setStates _ _, lasting_clearMove]
@[simp] theorem lasting_startMove (s : State) (p : PanelNo) (g : GroupNo) (d : CleatDir) (a b : Nat) (j : Bool) :
    (s.startMove p g d a b j).lasting = s.lasting := by
  have h : ∀ ks : List CleatNo, (s.modPanel p fun x => ks.foldl (fun x k => x.modCleat k fun c => c.confirm d 0) x).lasting
      = s.lasting := fun ks =>
    lasting_modPanel fun x => Panel.lasting_foldCleat (fun _ c => c.confirm d 0) id (fun _ _ => rfl) ks x
  unfold State.startMove
  dsimp only
  split
  · exact h _
  · rw [lasting_energise]; refine Eq.trans (lasting_modPanel fun _ => rfl) ?_; rw [h]
@[simp] theorem lasting_sluggishIf (s : State) (p : PanelNo) (ms : Nat) : (s.sluggishIf p ms).lasting = s.lasting := by
  unfold State.sluggishIf; split <;> simp

/-! ### Outcomes -/

theorem Res.lasting_bind {l : State} {r : Res} {f : State → Res} (h : r.st.lasting = l)
    (hf : ∀ s : State, s.lasting = l → (f s).st.lasting = l) : (r.bind f).st.lasting = l := hf _ h
theorem Res.lasting_map {l : State} {r : Res} {f : State → State} (h : r.st.lasting = l)
    (hf : ∀ s : State, s.lasting = l → (f s).lasting = l) : (r.map f).st.lasting = l := hf _ h
@[simp] theorem Res.lasting_add (r : Res) (js : List Job) : (r.add js).st.lasting = r.st.lasting := rfl
@[simp] theorem Res.lasting_ok (s : State) : (Res.ok s).st.lasting = s.lasting := rfl
@[simp] theorem Res.ok_st (s : State) : (Res.ok s).st = s := rfl
@[simp] theorem Res.add_st (r : Res) (js : List Job) : (r.add js).st = r.st := rfl
@[simp] theorem Res.bind_st (r : Res) (f : State → Res) : (r.bind f).st = (f r.st).st := rfl
@[simp] theorem Res.map_st (r : Res) (f : State → State) : (r.map f).st = f r.st := rfl
/-- A property that every step of `each` keeps holds at its end. -/
theorem Res.each_ind {α : Type} {P : State → Prop} {f : α → State → Res} (hf : ∀ a s, P s → P (f a s).st) :
    ∀ (xs : List α) (r : Res), P r.st → P (Res.each xs f r).st
  | [], _, h => h
  | a :: xs, r, h => Res.each_ind hf xs (r.bind (f a)) (hf a _ h)
theorem Res.lasting_each {α : Type} {f : α → State → Res} (hf : ∀ a s, (f a s).st.lasting = s.lasting) (xs : List α)
    (r : Res) : (Res.each xs f r).st.lasting = r.st.lasting :=
  Res.each_ind (P := fun s => s.lasting = r.st.lasting) (fun a s h => (hf a s).trans h) xs r rfl

/-! ### Flow -/

@[simp] theorem lasting_runPass (s : State) (k : PackId) : (s.runPass k).st.lasting = s.lasting := lasting_setPack rfl
@[simp] theorem lasting_dropFlow (s : State) (p : PanelNo) : (s.dropFlow p).st.lasting = s.lasting := by
  unfold State.dropFlow; split
  · rfl
  · exact lasting_modPack fun _ => rfl
  · exact lasting_modPack fun _ => rfl
@[simp] theorem lasting_rekey (s : State) (p : PanelNo) (c : OrderClass) : (s.rekey p c).st.lasting = s.lasting := by
  unfold State.rekey; split
  · split
    · exact lasting_modPack fun _ => rfl
    · rfl
  · rfl

/-! ### Stopping -/

@[simp] theorem lasting_stopTravel (s : State) (p : PanelNo) : (s.stopTravel p).lasting = s.lasting := by
  unfold State.stopTravel; split
  · exact lasting_modPanel fun _ => rfl
  · rfl
@[simp] theorem lasting_panelOff (s : State) (p : PanelNo) : (s.panelOff p).lasting = s.lasting := by
  unfold State.panelOff; refine Eq.trans (lasting_modPanel fun _ => rfl) ?_; simp
@[simp] theorem lasting_jogCoilsOff (s : State) (j : Jog) : (s.jogCoilsOff j).lasting = s.lasting := by
  unfold State.jogCoilsOff; split <;> simp
@[simp] theorem lasting_endJog (s : State) : s.endJog.st.lasting = s.lasting := by
  unfold State.endJog; split
  · rfl
  · rw [Res.lasting_add, lasting_dropFlow]; refine Eq.trans (lasting_modPanel fun _ => rfl) ?_; rw [lasting_jogCoilsOff, lasting_jog]
@[simp] theorem lasting_endJogOn (s : State) (p : PanelNo) : (s.endJogOn p).st.lasting = s.lasting := by
  unfold State.endJogOn; split
  · rfl
  · split <;> simp
@[simp] theorem lasting_stepCoilsOff (s : State) (p : PanelNo) : (s.stepCoilsOff p).lasting = s.lasting :=
  lasting_modPanel fun _ => rfl
@[simp] theorem lasting_stopStep (s : State) (p : PanelNo) (k : StepKind) : (s.stopStep p k).lasting = s.lasting := by
  unfold State.stopStep; repeat' split
  all_goals simp
@[simp] theorem lasting_setPhase (s : State) (p : PanelNo) (i : SlotNo) (a : Option Phase) (b : Reasons) (c : Option Purpose) :
    (s.setPhase p i a b c).lasting = s.lasting := by
  rw [State.setPhase]; refine Eq.trans (lasting_modPanel fun _ => rfl) ?_; refine Eq.trans (lasting_modOrder fun _ => rfl) ?_; rfl
@[simp] theorem lasting_interrupt (s : State) (p : PanelNo) : (s.interrupt p).st.lasting = s.lasting := by
  unfold State.interrupt; split
  · rfl
  · rw [Res.lasting_add, lasting_dropFlow]; refine Eq.trans (lasting_modPanel fun _ => rfl) ?_; rw [lasting_setPhase]
    split <;> simp

/-! ### Orders -/

@[simp] theorem lasting_recount (s : State) (n : StationNo) : (s.recount n).lasting = s.lasting := by
  unfold State.recount; dsimp only; repeat' split
  all_goals first
    | rfl
    | exact lasting_modStation fun _ => rfl
theorem lasting_updateOrder {s : State} {i : SlotNo} {f : Order → Order} (h : ∀ o, (f o).lasting = o.lasting) :
    (s.updateOrder i f).lasting = s.lasting := by
  unfold State.updateOrder; split
  · rfl
  · rename_i o ho
    rw [lasting_recount, lasting_recount]; exact lasting_setSlot (by simp [ho, h])
@[simp] theorem lasting_finishOrder (s : State) (i : SlotNo) (st : OrderState) (t : Nat) :
    (s.finishOrder i st t).lasting = s.lasting := by
  unfold State.finishOrder; split
  · rfl
  · rw [lasting_setLatch]; refine Eq.trans (lasting_updateOrder fun _ => rfl) ?_; refine Eq.trans (lasting_modPanel fun _ => rfl) ?_; rfl
theorem lasting_foldl {α : Type} {f : State → α → State} (h : ∀ s a, (f s a).lasting = s.lasting) :
    ∀ (xs : List α) (s : State), (xs.foldl f s).lasting = s.lasting
  | [], _ => rfl
  | a :: xs, s => (lasting_foldl h xs _).trans (h s a)
@[simp] theorem lasting_cascade (t : Nat) : ∀ (n : Nat) (ids : List Nat) (s : State),
    (State.cascade t n ids s).lasting = s.lasting
  | 0, _, _ => rfl
  | n + 1, ids, s => by
    unfold State.cascade; dsimp only; split
    · rfl
    · rw [lasting_cascade t n]; exact lasting_foldl (fun _ _ => lasting_finishOrder _ _ _ _) _ _
@[simp] theorem lasting_endOrder (s : State) (i : SlotNo) (st : OrderState) : (s.endOrder i st).st.lasting = s.lasting := by
  unfold State.endOrder; split
  · rfl
  · split
    · rw [Res.map_st, lasting_cascade, lasting_finishOrder]; split <;> simp
    · rfl
@[simp] theorem lasting_failLive (s : State) (p : PanelNo) (r : FailReason) : (s.failLive p r).st.lasting = s.lasting := by
  unfold State.failLive; split <;> simp
@[simp] theorem lasting_completeOrder (s : State) (i : SlotNo) : (s.completeOrder i).st.lasting = s.lasting := by
  unfold State.completeOrder; split <;> simp
@[simp] theorem lasting_pauseOrder (s : State) (i : SlotNo) (r : PauseReason) : (s.pauseOrder i r).st.lasting = s.lasting := by
  unfold State.pauseOrder; split
  · rfl
  · split
    · rfl
    · rw [Res.map_st]; refine Eq.trans (lasting_updateOrder fun _ => rfl) ?_; split <;> simp
@[simp] theorem lasting_pauseIf (s : State) (f : Order → Bool) (r : PauseReason) (p : PanelNo) :
    (s.pauseIf f r p).st.lasting = s.lasting := by
  unfold State.pauseIf; repeat' split
  all_goals simp
@[simp] theorem lasting_pauseWorking (s : State) (ps : List PanelNo) (r : PauseReason) :
    (s.pauseWorking ps r).st.lasting = s.lasting := Res.lasting_each (fun _ _ => lasting_pauseIf _ _ _ _) _ _
@[simp] theorem lasting_admit (s : State) (i : SlotNo) : (s.admitted i).st.lasting = s.lasting := by
  unfold State.admitted; split
  · rfl
  · exact lasting_updateOrder fun _ => rfl
@[simp] theorem lasting_unlink (s : State) (i : SlotNo) : (s.unlink i).st.lasting = s.lasting := by
  unfold State.unlink; split
  · rfl
  · have h : (s.modOrder i fun o => { o with pred := none }).lasting = s.lasting := lasting_modOrder fun _ => rfl
    dsimp only; split
    · rw [lasting_admit, h]
    · split
      · rw [Res.lasting_ok]; refine Eq.trans (lasting_modOrder fun _ => rfl) ?_; rw [h]
      · exact h

/-! ### Faults and the counter -/

@[simp] theorem lasting_raise (s : State) (p : PanelNo) (k : PanelFault) : (s.raise p k).st.lasting = s.lasting := by
  unfold State.raise; split
  · rfl
  · simp only [Res.add_st, Res.map_st, Res.bind_st, lasting_setLatch, lasting_endJogOn, lasting_failLive, lasting_panelOff]
    exact lasting_modPanel fun _ => rfl
@[simp] theorem lasting_raiseAll (s : State) (ps : List PanelNo) (k : PanelFault) :
    (s.raiseAll ps k).st.lasting = s.lasting := Res.lasting_each (fun _ _ => lasting_raise _ _ _) _ _
@[simp] theorem lasting_reference (s : State) (p : PanelNo) (t : Int) : (s.reference p t).lasting = s.lasting := by
  unfold State.reference; dsimp only; split
  · exact lasting_modPanel fun _ => rfl
  · rw [lasting_warn]; exact lasting_modPanel fun _ => rfl
@[simp] theorem lasting_driveTravel (s : State) (p : PanelNo) (d : Dir) (a b : Bool) :
    (s.driveTravel p d a b).lasting = s.lasting := by
  unfold State.driveTravel; dsimp only; split <;> simp only [lasting_energise] <;> exact lasting_modPanel fun _ => rfl
@[simp] theorem lasting_fastOff (s : State) (p : PanelNo) : (s.fastOff p).lasting = s.lasting := lasting_modPanel fun _ => rfl
@[simp] theorem lasting_chopPanel (s : State) (p : PanelNo) : (s.chopPanel p).st.lasting = s.lasting := by
  have h : ∀ (t : State) (f : Panel → Panel), (∀ x, (f x).lasting = x.lasting) →
      (((t.fastOff p).modPanel p f).warn p .travelTrip).lasting = t.lasting := by
    intro t f hf; rw [lasting_warn, lasting_modPanel hf, lasting_fastOff]
  unfold State.chopPanel; dsimp only; split
  · rw [lasting_raise]; refine Eq.trans (lasting_modPanel fun _ => rfl) ?_; exact h s _ fun _ => rfl
  · exact h s _ fun _ => rfl
@[simp] theorem lasting_chopIfTripped (s : State) (p : PanelNo) : (s.chopIfTripped p).st.lasting = s.lasting := by
  unfold State.chopIfTripped; split <;> simp

/-! ### The sequencer -/

@[simp] theorem lasting_runMove (s : State) (p : PanelNo) (g : GroupNo) (d : CleatDir) :
    (s.runMove p g d).st.lasting = s.lasting := by
  unfold State.runMove; split
  · rfl
  · exact lasting_startMove _ _ _ _ _ _ _
@[simp] theorem lasting_runTimed (s : State) (p : PanelNo) (c : Coil) (a : Activity) (t : Nat) :
    (s.runTimed p c a t).lasting = s.lasting := by
  rw [State.runTimed]; refine Eq.trans (lasting_modPanel fun _ => rfl) ?_; rw [lasting_energise]
@[simp] theorem lasting_runTravel (s : State) (p : PanelNo) (o : Order) : (s.runTravel p o).st.lasting = s.lasting := by
  unfold State.runTravel
  rw [lasting_chopIfTripped, lasting_driveTravel]; refine Eq.trans (lasting_modPanel fun _ => rfl) ?_; exact lasting_modPanel fun _ => rfl
@[simp] theorem lasting_run (s : State) (p : PanelNo) (i : SlotNo) (o : Order) (k : StepKind) :
    (s.run p i o k).st.lasting = s.lasting := by
  unfold State.run; dsimp only; split <;> simp
@[simp] theorem lasting_standingReference (s : State) (p : PanelNo) (o : Order) (k : StepKind) :
    (s.standingReference p o k).lasting = s.lasting := by
  unfold State.standingReference; repeat' split
  all_goals simp
@[simp] theorem lasting_skip (s : State) (p : PanelNo) (i : SlotNo) : (s.skip p i).st.lasting = s.lasting := by
  unfold State.skip; rw [Res.lasting_add, lasting_dropFlow]; refine Eq.trans (lasting_modPanel fun _ => rfl) ?_; rw [lasting_setPhase]
@[simp] theorem lasting_sequenceFail (s : State) (p : PanelNo) : (s.sequenceFail p).st.lasting = s.lasting := by
  simp [State.sequenceFail]
@[simp] theorem lasting_toWait (s : State) (p : PanelNo) (i : SlotNo) (r : Reasons) :
    (s.toWait p i r).st.lasting = s.lasting := by
  unfold State.toWait; rw [lasting_dropFlow]; refine Eq.trans (lasting_modPanel fun _ => rfl) ?_; rw [lasting_setPhase]
@[simp] theorem lasting_request (s : State) (p : PanelNo) (i : SlotNo) (o : Order) (k : StepKind) :
    (s.request p i o k).st.lasting = s.lasting := by
  unfold State.request; dsimp only; split
  · simp
  · split
    · simp
    · have h : ((s.setPhase p i (some .flowWait) {} none).modPanel p fun x => { x with plan := none }).lasting = s.lasting := by
        refine Eq.trans (lasting_modPanel fun _ => rfl) ?_; rw [lasting_setPhase]
      split
      · refine Eq.trans (lasting_modPack fun _ => rfl) ?_; exact h
      · exact h
@[simp] theorem lasting_stages (s : State) (p : PanelNo) (i : SlotNo) (o : Order) (k : StepKind) :
    (s.stages p i o k).st.lasting = s.lasting := by
  unfold State.stages; dsimp only; repeat' split
  all_goals simp
@[simp] theorem lasting_evaluate (s : State) (p : PanelNo) (w : Bool) : (s.evaluate p w).st.lasting = s.lasting := by
  unfold State.evaluate; repeat' split
  all_goals simp
@[simp] theorem lasting_deliver (s : State) (p : PanelNo) : (s.deliver p).st.lasting = s.lasting := by
  unfold State.deliver; repeat' split
  all_goals simp
@[simp] theorem lasting_completeStep (s : State) (p : PanelNo) (i : SlotNo) (k : StepKind) :
    (s.completeStep p i k).st.lasting = s.lasting := by
  unfold State.completeStep; rw [Res.lasting_add, lasting_dropFlow]; refine Eq.trans (lasting_modPanel fun _ => rfl) ?_; rw [lasting_setPhase]
  split <;> simp
@[simp] theorem lasting_reportStep (s : State) (p : PanelNo) (e : StepEnd) : (s.reportStep p e).st.lasting = s.lasting := by
  unfold State.reportStep; split
  · rfl
  · split
    · rfl
    split
    · rw [Res.ok_st, lasting_setLatch]; refine Eq.trans (lasting_updateOrder fun _ => rfl) ?_; rfl
    · split
      · exact lasting_modOrder fun _ => rfl
      · simp
@[simp] theorem lasting_moveEnded (s : State) (p : PanelNo) : (s.moveEnded p).st.lasting = s.lasting := by
  unfold State.moveEnded; repeat' split
  all_goals simp
@[simp] theorem lasting_lapStop (s : State) (p : PanelNo) (i : SlotNo) (r : Reasons) (k : StepKind) :
    (s.lapStop p i r k).st.lasting = s.lasting := by simp [State.lapStop]
@[simp] theorem lasting_interlockStop (s : State) (p : PanelNo) (i : SlotNo) (r : Reasons) :
    (s.interlockStop p i r).st.lasting = s.lasting := by simp [State.interlockStop]
@[simp] theorem lasting_retest (s : State) (p : PanelNo) : (s.retest p).st.lasting = s.lasting := by
  have h : ∀ (i : SlotNo) (r : Reasons), (s.modOrder i fun o => { o with reasons := r }).lasting = s.lasting :=
    fun i r => lasting_modOrder fun _ => rfl
  unfold State.retest; dsimp only; repeat' split
  all_goals simp [h]
@[simp] theorem lasting_watch (s : State) (p : PanelNo) : (s.watch p).st.lasting = s.lasting := by
  unfold State.watch; repeat' split
  all_goals simp
@[simp] theorem lasting_jogTest (s : State) : s.jogTest.st.lasting = s.lasting := by
  unfold State.jogTest; repeat' split
  all_goals simp
@[simp] theorem lasting_releaseDependent (s : State) (i : SlotNo) (id : Nat) :
    (s.releaseDependent i id).st.lasting = s.lasting := by
  unfold State.releaseDependent; repeat' split
  all_goals simp

/-! ### The agenda -/

@[simp] theorem lasting_runJob (j : Job) (s : State) : (runJob j s).st.lasting = s.lasting := by
  cases j <;> simp [runJob]
/-- A property that every piece of work keeps is kept by work that is carried out at once. -/
theorem now_ind {P : State → Prop} (h : ∀ j s, P s → P (runJob j s).st) :
    ∀ (js : List Job) (r : Res), P r.st → P (r.now js).st
  | [], _, hr => hr
  | j :: js, r, hr => now_ind h js (r.bind (runJob j)) (h j r.st hr)
/-- Work that is carried out at once keeps what lasts. -/
@[simp] theorem Res.lasting_now (r : Res) (js : List Job) : (r.now js).st.lasting = r.st.lasting :=
  now_ind (P := fun s => s.lasting = r.st.lasting) (fun j s h => (lasting_runJob j s).trans h) js r rfl
/-- A property that every piece of work keeps is kept by the agenda. -/
theorem drain_ind {P : State → Prop} (h : ∀ j s, P s → P (runJob j s).st) :
    ∀ (n : Nat) (js : List Job) (s : State), P s → P (drain n js s)
  | 0, _, _, hs => by simpa [drain] using hs
  | _ + 1, [], _, hs => by simpa [drain] using hs
  | n + 1, j :: js, s, hs => drain_ind h n _ _ (h j s hs)
/-- The agenda keeps what lasts. -/
@[simp] theorem lasting_settle (r : Res) : r.settle.lasting = r.st.lasting :=
  drain_ind (P := fun s => s.lasting = r.st.lasting) (fun j s h => (lasting_runJob j s).trans h) _ _ _ rfl

end Sys2Proof.Machine
end

