-- ==== Sys2Proof/Laws/Tables.lean ====
section
/-! SUPPORT. The tables of the rules against what the operations compute: the completion conditions and hard preconditions
of a step, its interlock conditions, the region a travel enters, the LIST condition, the reported status. -/

namespace Sys2Proof.Machine

variable {s : State} {p : PanelNo}

theorem doneUncleat_iff {c : CleatState} : c.doneUncleat = true ↔ c = .released ∨ c = .bypassed := by cases c <;> simp [CleatState.doneUncleat]
theorem doneCleat_iff {c : CleatState} : c.doneCleat = true ↔ c = .engaged ∨ c = .bypassed := by cases c <;> simp [CleatState.doneCleat]
theorem isEngaged_iff {c : CleatState} : c.isEngaged = true ↔ c = .engaged := by cases c <;> simp [CleatState.isEngaged]

theorem uncleated_iff : s.uncleated p ↔ s.everyCleat p CleatState.doneUncleat = true := by
  simp [State.uncleated, State.everyCleat, doneUncleat_iff]

/-- The completion conditions (R69). -/
theorem stepDone_iff {o : Order} {k : StepKind} : s.stepDone p o k ↔ s.completion p o k = true := by
  cases k <;> simp [State.stepDone, State.completion, doneUncleat_iff, doneCleat_iff]
  exact fun _ => Iff.rfl

/-- The hard preconditions (R72). -/
theorem stepAllowed_iff {o : Order} {k : StepKind} : s.stepAllowed p o k ↔ s.hard p o k = true := by
  cases k <;> simp [State.stepAllowed, State.hard, uncleated_iff, and_assoc]

theorem covers_iff {c : Side} : c.covers p = true ↔ c = .both ∨ c = if isPort p then .port else .starboard := by
  cases c <;> cases h : isPort p <;> simp [Side.covers, h]

theorem overlap_iff {a b : Int × Int} : overlap a b = true ↔ a.1 < b.2 ∧ b.1 < a.2 := by simp [overlap]

theorem zoneMeets_iff {a b : Int} : s.zoneMeets p a b ↔ s.zoneConflict p (a, b) = true := by
  simp only [State.zoneMeets, State.zoneConflict, Bool.or_eq_true, List.any_eq_true, Bool.and_eq_true, overlap_iff]
  refine or_congr ⟨fun h => ?_, fun h => ?_⟩ (by simp)
  · obtain ⟨z, c, hc, h1, h2, h3⟩ := h
    refine ⟨z, mem_allClaims z, ?_⟩
    simp [hc, h1, covers_iff.2 h2, overlap_iff, h3]
  · obtain ⟨z, -, h⟩ := h
    cases hc : s.claim z with
    | none => simp [hc] at h
    | some c =>
      simp only [hc, Bool.and_eq_true, beq_iff_eq, covers_iff, overlap_iff] at h
      exact ⟨z, c, hc, h.1.1, h.1.2, h.2⟩

/-- The region entered (R104). -/
theorem entersZone_iff {t : Int} {d : Dir} {e : Nat} :
    s.entersZone p t d e ↔ s.zoneConflict p (s.region p t d e) = true := by
  cases d with
  | inward => cases h : (s.panel p).certain <;> simp [State.entersZone, State.region, h, zoneMeets_iff]
  | outward => simp [State.entersZone, State.region, zoneMeets_iff]

theorem heads_iff {t : Int} {d : Dir} : s.heads p t d ↔ s.direction p t = some d := by
  unfold State.heads State.direction
  cases d <;> cases h : (s.panel p).certain <;> simp [h]
  all_goals split_ifs <;> simp <;> omega

theorem listBars_iff : s.listBars ↔ s.listCondition = true := by
  have e (n : Nat) (i : Int) : (n : Int) < |i| ↔ n < i.natAbs := by rw [Int.abs_eq_natAbs]; omega
  simp only [State.listBars, e]
  simp [State.listCondition, State.noListSource, or_assoc]

theorem lapBars_iff {k : StepKind} : s.lapBars p k ↔ s.lapHolds p k = true := by
  cases k <;> simp [State.lapBars, State.lapHolds]

/-- The interlock conditions a waiting step is held by are those the sequencer takes, and no others (R73). -/
theorem heldBy_iff {o : Order} {k : StepKind} {r : Reasons} : s.heldBy p o k r ↔ r = s.reasons p o k := by
  obtain ⟨l, z, i, w⟩ := r
  have e : (∃ d, s.heads p (o.target.getD 0) d ∧ s.entersZone p (o.target.getD 0) d (s.allowance p d)) ↔
      s.waitingConflict p (o.target.getD 0) = true := by
    simp only [heads_iff, entersZone_iff, State.waitingConflict]
    cases s.direction p (o.target.getD 0) <;> simp
  simp only [State.heldBy, e]
  simp only [heads_iff, listBars_iff, lapBars_iff]
  cases k <;> simp [State.reasons, State.lapHolds] <;> cases l <;> cases z <;> cases i <;> cases w <;> simp

/-- The conditions a RUNNING travel is stopped by (R82). -/
theorem haltedBy_iff {pl : Plan} {r : Reasons} : s.haltedBy p pl r ↔ r = s.runningReasons p pl := by
  obtain ⟨l, z, i, w⟩ := r
  simp only [State.haltedBy, entersZone_iff, listBars_iff]
  cases l <;> cases z <;> cases i <;> cases w <;> simp [State.runningReasons]

theorem reasons_any {r : Reasons} : r.any = true ↔ r ≠ {} := by
  obtain ⟨l, z, i, w⟩ := r; cases l <;> cases z <;> cases i <;> cases w <;> decide

/-- The conditions of the fault kinds (R166). -/
theorem conditionGone_iff {k : PanelFault} : s.conditionGone p k ↔ s.faultGone p k = true := by
  cases k <;> simp [State.conditionGone, State.faultGone, State.cardsCool, Switches.conflict]
  case solenoidShort => cases (s.panel p).shortCoil <;> simp
  case solenoidOpen => cases (s.panel p).openCoil <;> simp
  case sensorConflict =>
    generalize (s.panel p).sw.seated1 = a, (s.panel p).sw.seated2 = b, (s.panel p).sw.lifted1 = c, (s.panel p).sw.lifted2 = d
    revert a b c d; decide
  case cardOvertemp => simp [mem_allCards]

/-- The card states (R162). -/
theorem cardAfter_eq {c : CardState} {r : Option Int} : cardAfter c r = c.next r := by
  cases r with
  | none => simp [cardAfter, CardState.next]
  | some t =>
    cases c <;> simp only [cardAfter, CardState.next, Option.getD_some]
    split_ifs <;> first | rfl | omega

/-- A PENDANT is attended as R144 says. -/
theorem attends_iff {n : StationNo} : s.attends n ↔ s.attended n = true := by
  simp only [State.attends, State.attended, Bool.and_eq_true, List.any_eq_true, beq_iff_eq]
  refine and_congr Iff.rfl ⟨?_, ?_⟩
  · rintro ⟨i, o, h, rfl, hw⟩
    exact ⟨i, mem_allSlots i, by simp [h, hw]⟩
  · rintro ⟨i, -, h⟩
    cases hs : s.slot i with
    | none => simp [hs] at h
    | some o => exact ⟨i, o, hs, by simpa [hs] using h⟩

/-- The reported status and its code (R9, R183). -/
theorem statusCode_eq : s.statusCode p = (s.status p).code := by
  have e : (∀ k ∈ s.panelCleats p, (s.panel p).cleats[k].state = .engaged) ↔ s.everyCleat p CleatState.isEngaged = true := by
    simp [State.everyCleat, isEngaged_iff]
  unfold State.statusCode State.status
  simp only [e]
  change (if _ then _ else _) = _
  simp only [apply_ite Status.code]
  rfl

end Sys2Proof.Machine
end

