-- ==== Sys2Proof/WellFormed.lean ====
section
/-! DEFINITION. What a command's operands must satisfy beyond their types. Only two rows carry raw material from outside
that can be ill formed: a frame as the port receives it, and a transducer's reading in degrees. -/

namespace Sys2Proof

/-- The data bytes a frame carries for its data length code: 0 to 8, and a remote frame carries none (R175, R176). -/
def Frame.lengthOk (f : Frame) : Bool := if f.remote then f.data.isEmpty else f.data.length == min f.dlc 8
/-- A data length code has four bits. -/
def Frame.dlcOk (f : Frame) : Bool := decide (f.dlc ≤ 15)
/-- An identifier has 11 bits, or 29 in the extended format (R174). -/
def Frame.idOk (f : Frame) : Bool := decide (f.id < if f.extended then 2 ^ 29 else 2 ^ 11)

/-- A frame as it can stand on the bus. -/
def Frame.wellFormed (f : Frame) : Bool := f.lengthOk && f.dlcOk && f.idOk

/-- A temperature lies above absolute zero. -/
def tempOk (t : Option Int) : Bool :=
  match t with
  | some c => decide (-273 ≤ c)
  | none => true

/-- The operands of a command are ones that can come from outside. -/
def Instr.wellFormed : Instr → Bool
  | .unknownRequest f => f.wellFormed
  | .oilTemperatureChange _ t => tempOk t
  | .cardTemperatureChange _ t => tempOk t
  | _ => true

end Sys2Proof
end

