-- ==== Sys2Proof/Tests/Slice0.lean ====
section
/-! SUPPORT. Tests: ill-formed operands refused, frames decoded, one step each of some commands on small states with results
from the manual, and for each statement a state and operands that meet its hypotheses. -/

open Sys2Proof Sys2Proof.Machine

namespace Sys2Proof.Tests

set_option Elab.async false

/-! ### WellFormed refuses each ill-formed operand -/

theorem test_frame_with_too_few_bytes_refused :
    (Instr.unknownRequest ⟨false, false, 0x1A1, 8, [1, 2, 3]⟩).wellFormed = false := by decide
theorem test_remote_frame_with_data_refused :
    (Instr.unknownRequest ⟨false, true, 0x1A1, 1, [1]⟩).wellFormed = false := by decide
theorem test_length_code_of_five_bits_refused :
    (Instr.unknownRequest ⟨false, false, 0x1A1, 16, [0, 0, 0, 0, 0, 0, 0, 0]⟩).wellFormed = false := by decide
theorem test_identifier_of_twelve_bits_refused :
    (Instr.unknownRequest ⟨false, false, 2048, 0, []⟩).wellFormed = false := by decide
theorem test_identifier_of_thirty_bits_refused :
    (Instr.unknownRequest ⟨true, false, 2 ^ 29, 0, []⟩).wellFormed = false := by decide
theorem test_oil_below_absolute_zero_refused : (Instr.oilTemperatureChange .a (some (-274))).wellFormed = false := by decide
theorem test_card_below_absolute_zero_refused : (Instr.cardTemperatureChange 0 (some (-274))).wellFormed = false := by decide
theorem test_request_frame_accepted :
    (Instr.unknownRequest ⟨false, false, 0x1A1, 8, [7, 0, 0, 0, 0, 0, 0, 0]⟩).wellFormed = true := by decide

/-! ### Frames, from the request code table (R175, before R180) -/

theorem test_frame_jog :
    requestOf 1 ⟨false, false, 0x1A2, 8, [70, 9, 4, 3, 0x88, 0x13, 0, 0]⟩ = some (.jog 1 9 4 3 5000) := by decide
theorem test_frame_hatch_order :
    requestOf 2 ⟨false, false, 0x1A3, 8, [17, 0, 9, 0x02, 5, 0, 0x10, 0x0E]⟩ =
      some (.hatchOrder 2 0 9 2 0 5 0 3600) := by decide
theorem test_frame_list_report :
    requestOf 4 ⟨false, false, 0x1A5, 8, [48, 0, 0xF6, 0xFF, 0x05, 0x00, 0, 0]⟩ = some (.listReport 4 0 0xFFF6 5) := by
  decide
theorem test_frame_identifiers : (Frame.station ⟨false, false, 0x1AC, 8, []⟩ = some 11) ∧
    (Frame.station ⟨false, false, 0x1AD, 8, []⟩ = none) ∧ (Frame.station ⟨false, false, 0x1A0, 8, []⟩ = none) := by decide

/-! ### States to test on -/

/-- A pack that runs, with its lines evaluated. -/
def runningPack : Pack := { Pack.atPowerOn true (some 150) 0 (some 40) 0 with evaluated := true }

/-- In RUN, the loop closed, both packs up; station 1 BRIDGE, 2 CARGO_CONTROL, 3 PENDANT of hatch 1, 4 SHORE,
5 INCLINOMETER; three cleats on each panel, one in each group. -/
def bench : State :=
  { State.reset with
    unit := .run, loopOpen := false, loopClosedLine := true, loopTaken := true, packA := runningPack, packB := runningPack
    fresh := true
    layout := { Layout.default with
      stationKind := #v[1, 2, 3, 4, 5, 0, 0, 0, 0, 0, 0, 0], stationHatch := #v[0, 0, 1, 0, 0, 0, 0, 0, 0, 0, 0, 0]
      cleatCount := .replicate 18 3 } }

/-- The switches of a seated panel at the coaming, and of one on its wheels. -/
def seatedHome : Switches := ⟨true, true, false, false, false, true, false⟩
def onWheels : Switches := ⟨false, false, true, true, false, false, false⟩

/-- Order 7 of station 1, an OPEN of panel 1 in its TRAVEL step. -/
def travelOrder : Order :=
  { id := 7, issuer := 0, panel := 0, kind := .openHatch, target := some 2000, cls := .normal, hold := none, pred := none
    state := .active, step := 5, phase := some .running, reasons := {}, pausedFrom := none, finishedAt := none
    retention := none, created := 0 }

/-- `s` with an order in slot 1, live on its panel. -/
def withLive (s : State) (o : Order) : State :=
  (s.setSlot 0 (some o)).modPanel o.panel fun x => { x with live := some o.id }

/-- The plan of the travel from 100 to 2000 (R97, R99): slow point 1850, overtravel point 2052. -/
def travelPlan : Plan :=
  { t := 2000, dir := .outward, stop := .switch, theta := 0, dEff := 150, aEff := 12, slow := some 1850, stopAt := none
    overAt := some 2052, fast := true }

/-- Panel 1 runs outward at count 1849 with FAST on, its order 7 served. -/
def travelling : State :=
  (withLive bench travelOrder).modPanel 0 fun x =>
    { x with
      sw := onWheels, count := 1849, certain := true, activity := .travel .outward .fast, mode := .driven
      lastDir := some .outward, stall := .running 2000, plan := some travelPlan
      coils := { travelOut := true, fast := true, brakeRelease := true }
      cleats := .replicate 12 ⟨.released, false, 0, 0⟩ }

/-- Order 7 at its step `n`, in a phase, and so on panel 1, with what `f` makes of the panel's record. -/
def stepOrder (n : Nat) (ph : Option Phase) : Order := { travelOrder with step := n, phase := ph }
def atStep (n : Nat) (ph : Option Phase) (f : Panel → Panel) : State := (withLive bench (stepOrder n ph)).modPanel 0 f

/-- Panel 1 uncleated: seated at the coaming, or on its wheels at count 100. -/
def freed (w : Switches) (c : Int) (x : Panel) : Panel :=
  { x with sw := w, count := c, certain := true, cleats := .replicate 12 ⟨.released, false, 0, 0⟩ }

/-- The travel of `travelling` with its grant, 200 ms later. -/
def granted : State := { travelling with now := 200, packA := { runningPack with grants := [⟨0, 4, false⟩] } }

/-! ### A check that implies `State.linked` -/

def linkedCheck (s : State) : Bool :=
  (allSlots.all fun i => allSlots.all fun j =>
    match s.slot i, s.slot j with | some a, some b => a.id != b.id || i == j | _, _ => true) &&
  (allSlots.all fun i =>
    match s.slot i with
    | some o =>
      (decide (1 ≤ o.id) && decide (o.id ≤ 255) && o.state.live == o.finishedAt.isNone &&
        o.state.live == o.retention.isNone && o.state.isPaused == o.pausedFrom.isSome) &&
        (!o.state.live || (s.panel o.panel).live == some o.id) &&
        (!o.state.live || s.unit == .run || s.unit == .service) && (!o.state.working || s.unit != .service) &&
        (!o.state.live || s.configured o.panel)
    | none => true) &&
  (allPanels.all fun p =>
    match (s.panel p).live with
    | some id => allSlots.any fun i => match s.slot i with | some o => o.id == id && o.panel == p && o.state.live | none => false
    | none => true) &&
  (match s.jog with | some j => s.unit == .service && s.configured j.panel | none => true) &&
  (s.writing.isNone || s.unit == .setup) && decide (1 ≤ s.idCounter) && decide (s.idCounter ≤ 255)

theorem linked_of_check (s : State) (h : linkedCheck s = true) : s.linked := by
  simp only [linkedCheck, Bool.and_eq_true, List.all_eq_true, decide_eq_true_eq] at h
  obtain ⟨⟨⟨⟨⟨⟨h1, h2⟩, h3⟩, hj⟩, h4⟩, h5⟩, h6⟩ := h
  have ok : ∀ i o, s.slot i = some o → o.consistent ∧ (o.state.live = true → (s.panel o.panel).live = some o.id) ∧
      (o.state.live = true → s.unit = .run ∨ s.unit = .service) ∧ (s.unit = .service → o.state.working = false) ∧
      (o.state.live = true → s.configured o.panel = true) := by
    intro i o ho
    have := h2 i (mem_allSlots i)
    simp only [ho, Bool.and_eq_true, Bool.or_eq_true, Bool.not_eq_true', beq_iff_eq, bne_iff_ne, decide_eq_true_eq] at this
    obtain ⟨⟨⟨⟨⟨⟨⟨⟨a, b⟩, c⟩, d⟩, p⟩, e⟩, f⟩, w⟩, g⟩ := this
    refine ⟨⟨a, b, ?_, ?_, by rw [p]⟩, fun l => ?_, fun l => ?_, fun u => ?_, fun l => ?_⟩
    · rw [c]; exact Option.isNone_iff_eq_none
    · rw [d]; exact Option.isNone_iff_eq_none
    · simpa [l] using e
    · simpa [l] using f
    · simpa [u] using w
    · simpa [l] using g
  refine ⟨fun i j a b hi hj e => ?_, fun i o ho => (ok i o ho).1, fun p id hp => ?_, fun i o ho => (ok i o ho).2.1,
    fun a b i o ho => ?_, fun u i o ho => (ok i o ho).2.2.2.1 u, fun i o ho => (ok i o ho).2.2.2.2, fun j h => ?_,
    fun w => ?_, h5, h6⟩
  · have := h1 i (mem_allSlots i) j (mem_allSlots j)
    simp only [hi, hj] at this
    simpa [e] using this
  · have := h3 p (mem_allPanels p)
    simp only [hp, List.any_eq_true] at this
    obtain ⟨i, -, hi⟩ := this
    split at hi
    · rename_i o ho
      simp only [Bool.and_eq_true, beq_iff_eq] at hi
      exact ⟨i, o, ho, hi.1.1, hi.1.2, hi.2⟩
    · cases hi
  · by_contra l
    rcases (ok i o ho).2.2.1 (by simpa using l) with e | e
    · exact a e
    · exact b e
  · simpa [h] using hj
  · cases hw : s.writing with
    | none => simp [hw] at w
    | some x => simpa [hw] using h4

/-! ### A check that implies `State.flowLaws` -/

def flowCheck (s : State) : Bool :=
  ([PackId.a, .b].all fun k => decide ((s.pack k).granted ≤ s.capacity k) &&
    ((s.pack k).grants.all fun g =>
      if g.jog then s.jog.any fun j => j.panel == g.panel else (s.served g.panel).any fun x => x.2.1.phase != none) &&
    ((s.pack k).waiting.all fun w => (s.served w.panel).any fun x => x.2.1.phase != none)) &&
  decide (s.packA.panels ++ s.packB.panels).Nodup

theorem flowLaws_of_check (s : State) (h : flowCheck s = true) : s.flowLaws := by
  simp only [flowCheck, Bool.and_eq_true, List.all_eq_true, decide_eq_true_eq] at h
  obtain ⟨h, nodup⟩ := h
  have every : ∀ k, k ∈ [PackId.a, .b] := fun k => by cases k <;> simp
  have served : ∀ p, (s.served p).any (fun x => x.2.1.phase != none) = true →
      ∃ i o q, s.served p = some (i, o, q) ∧ o.phase ≠ none := fun p a => by
    cases e : s.served p with
    | none => simp [e] at a
    | some x => exact ⟨x.1, x.2.1, x.2.2, rfl, by simpa [e] using a⟩
  refine ⟨fun k => (h k (every k)).1.1, nodup, fun k g hg => ?_, fun k w hw => served _ ((h k (every k)).2 w hw)⟩
  have := (h k (every k)).1.2 g hg
  split at this
  · rename_i j
    simp only [j, if_true]
    cases e : s.jog with
    | none => simp [e] at this
    | some x => exact ⟨x, rfl, by simpa [e] using this⟩
  · rename_i j
    simp only [j]
    exact served _ this

/-! ### One step each, with results from the rules -/

/-- The state a command leads to. -/
def after (c : Instr) (s : State) : State :=
  match exec c s with
  | .next t => t
  | _ => State.reset

/-- R12, R97: the edge to the slow point moves the count and switches FAST off. -/
theorem test_wheel_edge_slow_point :
    let y := (after (.wheelEdge 0 2 2) travelling).panel 0
    y.count = 1850 ∧ y.coils = { travelOut := true, brakeRelease := true } ∧ y.activity = .travel .outward .slow := by
  decide +kernel
/-- R10: a high of 1 ms gives no edge. -/
theorem test_wheel_edge_too_short : (after (.wheelEdge 0 2 1) travelling).panel 0 = travelling.panel 0 := by decide +kernel
/-- R10: a low of 5 ms before a high of 1 ms arms the next high, the low before which lasts 1 ms. -/
theorem test_wheel_edge_armed :
    let s := travelling.modPanel 0 fun x => { x with wheelArmed := false }
    ((after (.wheelEdge 0 1 2) s).panel 0).count = 1849 ∧
      ((after (.wheelEdge 0 1 2) (after (.wheelEdge 0 5 1) s)).panel 0).count = 1850 := by decide +kernel
/-- R14: a creep edge leaves the count and makes the panel UNCERTAIN. -/
theorem test_wheel_edge_creep :
    let s := bench.modPanel 2 fun x => { x with count := 5, certain := true }
    let y := (after (.wheelEdge 2 2 2) s).panel 2
    y.count = 5 ∧ y.certain = false ∧ y.creep = 1 ∧ y.creepQuiet = some 1000 ∧ y.warnings = [.creep] := by decide +kernel
/-- R15: a coasting edge at the limit. -/
theorem test_wheel_edge_at_the_limit :
    let s := bench.modPanel 2 fun x => { x with count := -255, mode := .coasting, lastDir := some .inward }
    let y := (after (.wheelEdge 2 2 2) s).panel 2
    y.count = -255 ∧ y.faults = [.positionRange] := by decide +kernel
/-- R16: HOME made inward with the count at 14 gives slip 14. -/
theorem test_home_slip :
    let s := bench.modPanel 2 fun x => { x with count := 14, mode := .coasting, lastDir := some .inward }
    let y := (after (.homeMake 2 true 2) s).panel 2
    y.count = 0 ∧ y.certain = true ∧ y.slip = some 14 ∧ y.warnings = [.referenceSlip] := by decide +kernel
/-- R17, R99: OPEN-END stops the travel to O. -/
theorem test_open_end_stops_travel :
    let t := after (.openEndMake 0 true 2) travelling
    (t.panel 0).mode = .coasting ∧ (t.panel 0).coils = {} ∧ (t.panel 0).count = 2000 ∧
      (t.slot 0).map (·.phase) = some (some .braking) := by decide +kernel
/-- R96: d_sd 150 and a_st 12 with θ 25 give 244 and 27. -/
theorem test_compensation : effSlowDown 150 25 = 244 ∧ effAllowance 12 150 25 = 27 := by decide
/-- R96: d_sd 12, a_st 12 and θ 200 give 72 for both. -/
theorem test_compensation_limited : effSlowDown 12 200 = 72 ∧ effAllowance 12 12 200 = 72 := by decide
/-- R25: 1234 ms are 123 units of 10 ms. -/
theorem test_confirmation_time : (Cleat.confirm ⟨.unknown, false, 5, 200⟩ .release 1234) = ⟨.released, false, 123, 200⟩ := by
  decide
/-- R33: a released cleat whose switch makes. -/
theorem test_cleat_lost :
    let t := after (.cleatSwitchChange 2 1 true 20) (bench.modPanel 2 fun x => { x with cleats := .replicate 12 ⟨.released, false, 0, 0⟩ })
    (t.panel 2).cleats[(1 : CleatNo)] = ⟨.unknown, true, 0, 0⟩ ∧ (t.panel 2).warnings = [.cleatLost] := by decide +kernel
/-- R18: the stall fails the order. -/
theorem test_stall :
    let t := after (.stallTimerExpiry 0) travelling
    (t.panel 0).faults = [.travelStall] ∧ (t.slot 0).map (·.state) = some (.failed (.fault .travelStall)) ∧
      t.latches = [.powerUp, .panelFault, .orderFailed] := by decide +kernel
/-- R155, R156: the loop opens for 10 ms, and for 9. -/
theorem test_estop :
    let t := after (.estopOpen 10) travelling
    (t.panel 0).coils = {} ∧ (t.slot 0).map (·.state) = some (.paused .estop) ∧ t.loopOpen = true := by decide +kernel
theorem test_estop_too_short : (after (.estopOpen 9) travelling).loopOpen = false := by decide +kernel
/-- R158: 18.9 V for 50 ms. -/
theorem test_supply_low : (after (.supplyUndervoltage 18999 50) bench).unitFaults = [.supplyLow] := by decide +kernel
/-- R158: a dip of 49 ms below 19.0 V is no reading; one of 50 ms that START_END finds is LOW. -/
theorem test_supply_dip :
    let s := { State.reset with supplyMv := 24000 }
    (after (.startEnd true) (after (.supplyUndervoltage 15000 49) s)).supplyLow = false ∧
      (after (.startEnd true) { s with supplyMv := 18999 }).supplyLow = true := by decide +kernel
/-- R160: the oil turns HOT at 60 °C and OVERTEMP at 75 °C. -/
theorem test_oil :
    let t := after (.oilTemperatureChange .a (some 75)) bench
    t.packA.hot = true ∧ t.packA.up = false ∧ t.unitWarnings.contains .packAHot = true := by decide +kernel
/-- R159: pressure is judged from 2000 ms after the pump starts, and 1000 ms of it below the threshold give PRESSURE. -/
theorem test_pressure : (after (.pressureLow .a (some 0) 3000 2999) bench).packA.up = true ∧
    (after (.pressureLow .a (some 0) 3000 3000) bench).packA.up = false := by decide +kernel
/-- R162: a card cools from OVERTEMP at 94 °C to HOT. -/
theorem test_card : (after (.cardTemperatureChange 1 (some 94)) { bench with cards := #v[.normal, .overtemp, .normal] }).cards =
    #v[.normal, .hot, .normal] := by decide +kernel
/-- R129: nobody is overtaken: the second entry does not fit, so the third waits though it would. -/
theorem test_grant_pass :
    let s := bench.modPack .a fun x => { x with waiting := [⟨0, 6, .rain, 1⟩, ⟨1, 7, .normal, 9⟩, ⟨2, 1, .normal, 3⟩] }
    ((s.runPass .a).st.pack .a).waiting = [⟨1, 7, .normal, 9⟩, ⟨2, 1, .normal, 3⟩] := by decide +kernel
/-- R128: class before number. -/
theorem test_ranking : insertWaiter ⟨4, 2, .rain, 1⟩ [⟨1, 2, .rain, 8⟩, ⟨2, 2, .normal, 17⟩] =
    [⟨1, 2, .rain, 8⟩, ⟨4, 2, .rain, 1⟩, ⟨2, 2, .normal, 17⟩] := by decide
/-- R189: 30000 for the braking window (606 is the slow-down distance, 0 to 1000) is stored as 1000 with CLAMPED. -/
theorem test_set_param :
    let t := after (.setParam 0 3 606 30000) { bench with unit := .setup }
    t.params.tuning.slowDown = 1000 ∧ t.txQueue.map (·.payload) = [[1, 0x5E, 2, 0xE8, 3, 0]] := by decide +kernel
/-- R172: POWER_UP (2) outranks PANEL_FAULT (5). -/
theorem test_read_events :
    (after (.readEvents 0 1) { bench with latches := [.powerUp, .panelFault] }).txQueue.map (·.payload) =
      [[2, 0x12, 0, 0, 0, 0]] := by decide +kernel
/-- R110: the first claim has id 1. -/
theorem test_claim_zone :
    let t := after (.claimZone 3 0 1 2 0 0 8192) bench
    (t.claim 0).map (fun c => (c.lo, c.hi, c.timed, c.deadline)) = some (0, 8192, true, some 30000) := by decide +kernel
/-- R43: an OPEN of a panel that is UNCERTAIN is refused POSITION_UNCERTAIN. -/
theorem test_create_uncertain :
    (after (.createOrder 0 0 1 1 0 0 0 0) bench).txQueue.map (·.code) = [.positionUncertain] := by decide +kernel
/-- R196: a jog of an uncleated panel's LIFT_UP on the lap side. -/
theorem test_jog :
    let s := { bench with unit := .service, serviceStation := some 0 }.modPanel 0 fun x =>
      { x with cleats := .replicate 12 ⟨.released, false, 0, 0⟩ }
    let t := after (.jog 0 0 1 1 100) s
    (t.panel 0).coils = { liftUp := true } ∧ (t.panel 0).activity = .jog ∧ t.packA.granted = 6 ∧
      t.jog = some ⟨0, .liftUp, 100⟩ := by decide +kernel
/-- R107: a chop of the running travel. -/
theorem test_chop :
    let t := after (.travelTripRaised .a (some 161) 200) { travelling with now := 200 }
    (t.panel 0).coils = { brakeRelease := true } ∧ (t.panel 0).chop = 1 ∧ (t.panel 0).holdoff = some 700 ∧
      (t.panel 0).stall = .suspended 1800 ∧ (t.panel 0).warnings = [.travelTrip] := by decide +kernel
/-- R175, R176: a short frame is refused FRAME_ERROR and counted. -/
theorem test_frame_error :
    let t := after (.unknownRequest ⟨false, false, 0x1A1, 3, [7, 9, 0]⟩) bench
    (t.station 0).frameErrors = 1 ∧ (t.station 0).lastReply = 16 ∧ t.frameErrorsWarned = true := by decide +kernel
/-- The step takes the front of the queue. -/
theorem test_step :
    (match step { bench with pending := [.pumpStop .b, .pumpRun .a] } with
      | .next t => (t.pending, t.packB.pump) | _ => ([], false)) = ([.pumpRun .a], true) := by decide +kernel

/-! ### The hypotheses of the statements can be met

One theorem for each statement that has hypotheses; its parts are the statement's clauses, at boundary values. -/

theorem bench_ready (n : StationNo) (h : n.val < 5) : bench.ready n := by
  unfold State.ready; revert n; decide +kernel
theorem bench_linked : bench.linked := linked_of_check _ (by decide +kernel)
theorem travelling_linked : travelling.linked := linked_of_check _ (by decide +kernel)
/-- A state in which no panel holds a fault, and hold-offs and windows stand with the travels they belong to. -/
theorem faultedStand_of_check (s : State)
    (h : ∀ p, (s.panel p).faults = [] ∧ ((s.panel p).holdoff.isSome = true → (s.panel p).mode = .driven) ∧
      ((s.panel p).mode = .driven → (s.panel p).brakeTimer = none)) : s.faultedStand :=
  ⟨fun p => (h p).2.1, fun p => (h p).2.2, fun p f => absurd (h p).1 f⟩
theorem granted_faulted_stand : granted.faultedStand := faultedStand_of_check _ (by decide +kernel)
theorem travelling_ready : travelling.ready 0 := by unfold State.ready; decide +kernel

theorem witness_StepTakesTheFront :
    (∃ s : State, ∃ c cs, s.pending = c :: cs) ∧ ∃ s : State, s.pending = [] :=
  ⟨⟨{ bench with pending := [.powerOn, .jogTimeExpiry] }, _, _, rfl⟩, bench, rfl⟩

/-- A restart has ended and a power-on; panel 18 with its switches together; the oil at each of the bounds of R160. -/
theorem witness_StartEnds :
    (∃ s : State, s.unit = .start .powerOn ∧ s.linked ∧ s.configured 17 = true ∧ (s.panel 17).sw.seated1 = true ∧
      (s.panel 17).sw.lifted2 = true ∧ (s.panel 17).move = none ∧ (s.pack .a).oil = none) ∧
    (∀ c ∈ [(54 : Int), 55, 59, 60, 75], ∃ s : State, s.unit = .start (.restart true) ∧ (s.pack .a).oil = some c) ∧
    ((54 : Int) < bench.params.tuning.oilHot - 5 ∧ (bench.params.tuning.oilHot : Int) - 5 ≤ 55 ∧
      (59 : Int) < bench.params.tuning.oilHot ∧ (bench.params.tuning.oilHot : Int) ≤ 60 ∧
      (bench.params.tuning.oilOvertemp : Int) ≤ 75) ∧ bench.inStart = false :=
  ⟨⟨{ bench.modPanel 17 fun x => { x with sw := ⟨true, false, false, true, false, false, false⟩ } with
      unit := .start .powerOn, packA := { runningPack with oil := none } }, rfl, linked_of_check _ (by decide +kernel),
      by decide +kernel⟩,
    fun c _ => ⟨{ bench with unit := .start (.restart true), packA := { runningPack with oil := some c } }, rfl, rfl⟩,
    by decide +kernel, rfl⟩

theorem witness_LinkChecksFrames :
    (∃ s : State, s.busOff = true) ∧ bench.busOff = false ∧
    (∃ f : Frame, f.extended = true) ∧ (∃ f : Frame, f.remote = true) ∧ ((0x1A0 : Nat) < 0x1A1 ∧ 0x1AC < 0x1AD) ∧
    (∃ f : Frame, f.extended = false ∧ f.remote = false ∧ f.id = 0x1A1 + (11 : StationNo).val ∧
      bench.stationKind 11 = none) ∧
    (∃ f : Frame, f.extended = false ∧ f.remote = false ∧ f.id = 0x1A1 + (0 : StationNo).val ∧
      (bench.stationKind 0).isSome = true ∧ f.dlc ≠ 8) ∧
    (∃ f : Frame, ∃ s : State, f.id = 0x1A1 + (0 : StationNo).val ∧ (s.stationKind 0).isSome = true ∧ f.dlc = 8 ∧
      s.inStart = true) ∧
    (∃ f : Frame, f.id = 0x1A1 + (0 : StationNo).val ∧ f.dlc = 8 ∧ bench.inStart = false ∧ (f.byte 0).toNat = 74) ∧
    ∃ f : Frame, ∃ s : State, s.inStart = false ∧ (requestOf 0 f).isSome = true ∧ (s.station 0).occupied = true :=
  ⟨⟨{ bench with busOff := true }, rfl⟩, rfl, ⟨⟨true, false, 0x1A1, 8, []⟩, rfl⟩, ⟨⟨false, true, 0x1A1, 8, []⟩, rfl⟩, by decide,
    ⟨⟨false, false, 0x1AC, 8, []⟩, by decide +kernel⟩, ⟨⟨false, false, 0x1A1, 7, []⟩, by decide +kernel⟩,
    ⟨⟨false, false, 0x1A1, 8, []⟩, State.reset, by decide +kernel⟩,
    ⟨⟨false, false, 0x1A1, 8, [74, 0, 0, 0, 0, 0, 0, 0]⟩, by decide +kernel⟩,
    ⟨⟨false, false, 0x1A1, 8, [7, 0, 0, 0, 0, 0, 0, 0]⟩, bench.taken 0, by decide +kernel⟩⟩

theorem witness_FramesAreTheirRequests :
    let f : Frame := ⟨false, false, 0x1A1, 8, [7, 9, 0, 0, 0, 0, 0, 0]⟩
    f.station = some 0 ∧ bench.busOff = false ∧ (bench.stationKind 0).isSome = true ∧ f.dlc = 8 ∧
      bench.inStart = false ∧ requestOf 0 f = some (.readEvents 0 9) := by decide +kernel

theorem witness_RequestsPassTheLink :
    requestFrom (.readEvents 0 9) = some (0, 9) ∧ requestFrom (.readEvents 11 9) = some (11, 9) ∧
    (∃ s : State, s.busOff = true) ∧ (bench.busOff = false ∧ bench.stationKind 11 = none) ∧
    (State.reset.busOff = false ∧ (State.reset.stationKind 0).isSome = true ∧ State.reset.inStart = true) ∧
    ((bench.taken 0).inStart = false ∧ ((bench.taken 0).station 0).occupied = true) :=
  ⟨rfl, rfl, ⟨{ bench with busOff := true }, rfl⟩, by decide +kernel, by decide +kernel, by decide +kernel⟩

theorem witness_RefusedRequestsChangeNothing :
    ∃ t, requestFrom (.retire 0 1 9) = some (0, 1) ∧ bench.ready 0 ∧ exec (.retire 0 1 9) bench = .next t ∧
      t.txQueue = bench.txQueue ++ [replyTo 0 1 .noSuchOrder []] ∧ ReplyCode.noSuchOrder ≠ .accepted ∧
      ReplyCode.noSuchOrder ≠ .data :=
  ⟨_, rfl, bench_ready 0 (by decide), rfl, by decide +kernel, by decide, by decide⟩

theorem witness_ReplyTransmittedFreesTheSlot : ∃ s : State, ∃ r rs, s.txQueue = r :: rs ∧ r.restarts = false :=
  ⟨{ bench with txQueue := [replyTo 0 1 .accepted [0]] }, _, _, rfl, rfl⟩

theorem witness_RestartKeepsAndDiscards :
    let r : Reply := { replyTo 0 1 .accepted [0] with restarts := true }
    (∃ s : State, s.txQueue = [r] ∧ (s.panel 0).mode = .driven ∧ (s.panel 0).move = none) ∧
    (∃ s : State, s.txQueue = [r] ∧ (s.panel 0).brakeTimer.isSome = true) ∧
    (∀ m ∈ [0, 1], ∃ s : State, s.txQueue = [r] ∧ s.params.tuning.supplyMode = m ∧ s.supplyLow = true) ∧
    ∃ (s : State) (m : Move), s.txQueue = [r] ∧ (s.panel 0).move = some m ∧ 0 ∈ m.participants ∧ 0 ∉ m.confirmed ∧
      1 ∈ m.confirmed :=
  ⟨⟨{ travelling with txQueue := [{ replyTo 0 1 .accepted [0] with restarts := true }] }, by decide +kernel⟩,
    ⟨{ travelling.modPanel 0 fun x => { x with brakeTimer := some 9 } with
        txQueue := [{ replyTo 0 1 .accepted [0] with restarts := true }] }, by decide +kernel⟩,
    fun m _ => ⟨{ bench with
      txQueue := [{ replyTo 0 1 .accepted [0] with restarts := true }], supplyLow := true
      params := { bench.params with tuning := { bench.params.tuning with supplyMode := m } } }, rfl, rfl, rfl⟩,
    { bench.modPanel 0 fun x => { x with move := some ⟨0, .release, [0, 1], [1], true, 0, some 3000, 6000, false⟩ } with
        txQueue := [{ replyTo 0 1 .accepted [0] with restarts := true }] }, _, rfl, rfl, by decide +kernel⟩

theorem witness_BusOffEmptiesTheLink :
    let r : Reply := { replyTo 0 1 .accepted [0] with restarts := true }
    (∀ r ∈ bench.txQueue, r.restarts = false) ∧ bench.busOff = false ∧ (247 : Nat) < 248 ∧ (247 : Nat) ≤ 247 ∧
    (∃ s : State, s.txQueue = [] ∧ s.busOff = false ∧ s.txErrors = 247) ∧
    (∃ s : State, s.txQueue = [] ∧ s.busOff = false ∧ s.txErrors = 248) ∧
    (∃ s : State, r ∈ s.txQueue ∧ r.restarts = true ∧ s.busOff = false ∧ s.txErrors = 248) ∧
    (∃ s : State, s.txQueue = [] ∧ s.busOff = true) ∧ 128 ≤ 128 ∧ 127 < 128 :=
  ⟨by decide +kernel, rfl, by decide, by decide, ⟨{ bench with txErrors := 247 }, rfl, rfl, rfl⟩,
    ⟨{ bench with txErrors := 248 }, rfl, rfl, rfl⟩,
    ⟨{ bench with txErrors := 248, txQueue := [{ replyTo 0 1 .accepted [0] with restarts := true }] }, by decide +kernel⟩,
    ⟨{ bench with busOff := true }, rfl, rfl⟩, by decide, by decide⟩

theorem witness_LookupsAnswerAndChangeNothing :
    (bench.ready 0 ∧ bench.linked) ∧ (travelling.ready 0 ∧ travelling.linked) ∧
    (panelArg 18 = some 17 ∧ bench.configured 17 = true) ∧ (cleatArg 3 = some 2 ∧ bench.cleatConfigured 17 2 = true) ∧
    travelling.orderNamed 7 = some (0, travelOrder) ∧ ((travelling.panel 0).live = some 7) ∧
    ((bench.panel 0).live = none ∧ ∀ i o, bench.slot i = some o → o.panel = 0 → o.finishedAt = none) ∧
    (∃ s : State, s.ready 0 ∧ s.linked ∧ (s.panel 0).live = none ∧
      ∃ i o, s.slot i = some o ∧ o.panel = 0 ∧ o.finishedAt.isSome = true) ∧
    (zoneArg 1 = some (.claimed 0) ∧ zoneArg 16 = some (.claimed 15) ∧ zoneArg 17 = some (.line 0) ∧
      zoneArg 25 = some (.line 8)) ∧ (1 : Byte).toNat ≤ 1 ∧ bench.claim 15 = none ∧
    (∃ (s : State) (c : Claim), s.ready 0 ∧ s.linked ∧ s.claim 0 = some c ∧ c.deadline = some 30000) ∧
    (ParamId.overcurrentDeglitch.number = (636 : Half).toNat) ∧
    (stationArg 12 = some 11 ∧ bench.stationKind 11 = none ∧ stationArg 3 = some 2 ∧ bench.stationKind 2 = some .pendant) :=
  ⟨⟨bench_ready 0 (by decide), bench_linked⟩, ⟨travelling_ready, travelling_linked⟩, by decide +kernel,
    by decide +kernel, by decide +kernel, by decide +kernel,
    ⟨by decide +kernel, fun i o h => by
      have e : ∀ i, bench.slot i = none := by decide +kernel
      rw [e i] at h; cases h⟩,
    ⟨bench.setSlot 0 (some { travelOrder with state := .done, finishedAt := some 5, retention := some 9 }),
      bench_ready 0 (by decide), linked_of_check _ (by decide +kernel), by decide +kernel, 0, _, rfl, rfl, rfl⟩,
    by decide, by decide, by decide +kernel,
    ⟨bench.setClaim 0 (some ⟨false, 3, .spout, 0, .both, 0, 8192, true, some 30000⟩), _, bench_ready 0 (by decide),
      linked_of_check _ (by decide +kernel), rfl, rfl⟩, by decide, by decide +kernel⟩

theorem witness_ReadEventsGivesTheHighest : bench.ready 0 ∧ bench.latches ≠ [] ∧
    ∃ s : State, s.ready 0 ∧ s.latches = [] :=
  ⟨bench_ready 0 (by decide), by decide +kernel, { bench with latches := [] }, bench_ready 0 (by decide), rfl⟩

theorem witness_ClearEventsClearsWhatItNames :
    (bench.ready 0 ∧ bench.isKind 0 [.bridge, .cargoControl, .pendant, .shore] = true) ∧
    ((0x3FFF : Half).getLsbD 14 = false ∧ (0x3FFF : Half).getLsbD 15 = false) ∧ (0x4000 : Half).getLsbD 14 = true ∧
    (0x8000 : Half).getLsbD 15 = true ∧
    (∃ (s : State) (n : StationNo), s.ready n ∧ s.isKind n [.bridge, .cargoControl, .pendant, .shore] = false) ∧
    ∃ (s : State) (r : Reply), s.txQueue = [r] ∧ r.restarts = true :=
  ⟨⟨bench_ready 0 (by decide), by decide +kernel⟩, by decide, by decide, by decide, ⟨bench, 4, bench_ready 4 (by decide), by decide +kernel⟩,
    { bench with txQueue := [{ replyTo 0 1 .accepted [0] with restarts := true }] }, _, rfl, rfl⟩

theorem witness_LatchesStaySet : ∃ t, exec (.estopOpen 9) bench = .next t ∧ .powerUp ∈ bench.latches ∧
    Instr.estopOpen 9 ≠ .powerOn ∧ (∀ n tag codes, Instr.estopOpen 9 ≠ .clearEvents n tag codes) ∧
    ∀ f n, Instr.estopOpen 9 = .unknownRequest f → requestOf n f ≠ some (.clearEvents n (f.byte 1) (f.half 2)) :=
  ⟨_, rfl, by decide +kernel, by decide, fun _ _ _ => by simp, fun _ _ h => by cases h⟩

/-- A seated, CERTAIN panel 1. -/
def seated : State := bench.modPanel 0 fun x => { x with sw := seatedHome, certain := true }

/-- An order that ends a chain may be named: order 7 is live on panel 1, panel 3 has none. -/
theorem witness_CreateOrderMakesTheOrder :
    (seated.ready 0 ∧ seated.unit = .run ∧ panelArg 1 = some 0 ∧ wishArg 1 1 3 = some (.openHatch, .rain, some (.uncleat 2)) ∧
      seated.configured 0 = true ∧ seated.authority 0 (hatchOf 0) = true ∧ (seated.panel 0).faults = [] ∧
      (seated.panel 0).live = none ∧ (seated.panel 0).seat = .seated ∧ (seated.panel 0).certain = true ∧
      seated.predOk 0 = true ∧ seated.orderNamed 0 = none ∧ seated.loopOpen = false ∧ seated.supplyLow = false) ∧
    (∀ b, let s := { seated with loopOpen := b, supplyLow := !b };
      s.ready 0 ∧ s.unit = .run ∧ s.configured 0 = true ∧ s.authority 0 (hatchOf 0) = true ∧ (s.panel 0).faults = [] ∧
        (s.panel 0).live = none ∧ s.predOk 0 = true ∧ (s.loopOpen = true ∨ s.supplyLow = true)) ∧
    (let s := seated.setSlot 0 (some { travelOrder with state := .done, finishedAt := some 5, retention := some 9 });
      s.ready 0 ∧ s.unit = .run ∧ s.configured 0 = true ∧ s.authority 0 (hatchOf 0) = true ∧ (s.panel 0).faults = [] ∧
        (s.panel 0).live = none ∧ s.predOk 7 = true ∧ (s.orderNamed 7).map (·.2.state.live) = some false) ∧
    (travelling.ready 0 ∧ travelling.unit = .run ∧ panelArg 3 = some 2 ∧ wishArg 2 0 0 = some (.close, .normal, none) ∧
      travelling.configured 2 = true ∧ travelling.authority 0 (hatchOf 2) = true ∧ (travelling.panel 2).faults = [] ∧
      (travelling.panel 2).live = none ∧ travelling.predOk 7 = true ∧ travelling.orderNamed 7 = some (0, travelOrder) ∧
      travelOrder.state.live = true) ∧
    (let s := { seated with selector := .replicate 9 true };
      s.ready 2 ∧ s.unit = .run ∧ s.authority 2 (hatchOf 0) = true ∧ (s.panel 0).faults = [] ∧ (s.panel 0).live = none ∧
        s.predOk 0 = true ∧ s.stationKind 2 = some .pendant ∧ (s.station 2).watching = false) :=
  ⟨⟨by unfold State.ready; decide +kernel, by decide +kernel⟩,
    fun b => ⟨bench_ready 0 (by decide), by cases b <;> decide +kernel⟩,
    ⟨bench_ready 0 (by decide), by decide +kernel⟩, ⟨travelling_ready, by decide +kernel⟩,
    ⟨bench_ready 2 (by decide), by decide +kernel⟩⟩

theorem witness_HatchOrderMakesBothOrders :
    hatchArg 9 = some 8 ∧ hatchArg 1 = some 0 ∧ wishArg 4 0 0 = some (.home, .normal, none) ∧
    (∀ l b, let s := { bench with loopOpen := l, supplyLow := b };
      s.ready 0 ∧ s.linked ∧ s.unit = .run ∧ s.createRefusal 0 (portOf 8) .home 0 = none ∧
        s.createRefusal 0 (starboardOf 8) .home 0 = none ∧ s.orderNamed 0 = none) ∧
    (travelling.ready 0 ∧ travelling.linked ∧ travelling.unit = .run ∧ travelling.createRefusal 0 (portOf 8) .home 7 = none ∧
      travelling.createRefusal 0 (starboardOf 8) .home 7 = none ∧ travelling.orderNamed 7 = some (0, travelOrder) ∧
      travelOrder.state.live = true) ∧
    (let s := { bench with selector := .replicate 9 true };
      s.ready 2 ∧ s.linked ∧ s.unit = .run ∧ s.createRefusal 2 (portOf 0) .home 0 = none ∧
        s.createRefusal 2 (starboardOf 0) .home 0 = none ∧ s.stationKind 2 = some .pendant ∧
        (s.station 2).watching = false ∧ s.loopOpen = false ∧ s.supplyLow = false) :=
  ⟨rfl, rfl, rfl, fun l b => ⟨bench_ready 0 (by decide), linked_of_check _ (by revert l b; decide +kernel),
      by cases l <;> cases b <;> decide +kernel⟩,
    ⟨travelling_ready, travelling_linked, by decide +kernel⟩,
    ⟨bench_ready 2 (by decide), linked_of_check _ (by decide +kernel), by decide +kernel⟩⟩

/-- Order 7 as it stands in a state `st`. -/
def held (st : OrderState) (from_ : Option PausedFrom) (step : Nat) : Order :=
  { travelOrder with state := st, pausedFrom := from_, step := step, phase := none }

/-- Order 7 as a MOVE_TO. -/
def moveOrder : Order := { travelOrder with kind := .moveTo, target := some 500 }
def moving : State := withLive bench moveOrder

/-- Order 7 as a MOVE_TO at its TRAVEL step, panel 1 at count 1849 of a travel outward; in a phase with a purpose. -/
def moveStep (ph : Phase) : Order := { moveOrder with step := 6, phase := some ph }
/-- An order of panel 1 whose request waits on the list of pack A. -/
def waits (o : Order) : State :=
  (withLive bench o).modPack .a fun x => { x with waiting := [⟨0, 4, .normal, bench.arbitration 0⟩] }
def moveAt (ph : Phase) (u : Option Purpose) : State :=
  (withLive bench (moveStep ph)).modPanel 0 fun _ =>
    { travelling.panel 0 with purpose := u, mode := if ph = .running then .driven else .coasting }

theorem witness_AmendStoresTheSelection :
    (moving.ready 0 ∧ moving.unit.working = true ∧
      moving.orderNamed 7 = some (0, moveOrder) ∧ moveOrder.issuer = 0 ∧ moving.authority 0 (hatchOf moveOrder.panel) = true ∧
      moveOrder.state.live = true ∧ moveOrder.kind = .moveTo ∧ holdArg 0 = some none ∧ holdArg 11 = some (some .travel) ∧
      StepKind.travel ∈ stepList moveOrder.kind ∧ classArg (1 : Byte).toNat = some .rain) ∧
    (let o : Order := { moveOrder with state := .pending, step := 1, phase := none, pred := some 3 };
     let s : State := { withLive bench o with unit := .service };
     s.ready 0 ∧ s.unit = .service ∧ s.orderNamed 7 = some (0, o) ∧ s.authority 0 (hatchOf o.panel) = true ∧
      o.state = .pending ∧ o.pred.isSome = true) ∧
    (let s := moveAt .running none;
     s.ready 0 ∧ s.unit.working = true ∧ s.orderNamed 7 = some (0, moveStep .running) ∧
      s.authority 0 (hatchOf 0) = true ∧ s.served 0 = some (0, moveStep .running, .travel) ∧
      (s.panel 0).plan = some travelPlan ∧ (s.panel 0).mode = .driven ∧
      (s.params.tuning.positionTolerance : Int) < travelPlan.dir.sign * (1858 - (s.panel 0).count) ∧
      travelPlan.dir.sign * (1857 - (s.panel 0).count) ≤ (s.params.tuning.positionTolerance : Int)) ∧
    (∀ u, let s := moveAt .braking u;
     s.ready 0 ∧ s.orderNamed 7 = some (0, moveStep .braking) ∧
      s.authority 0 (hatchOf 0) = true ∧ s.served 0 = some (0, moveStep .braking, .travel) ∧
      (s.panel 0).purpose = u) ∧
    (∀ ph ∈ [Phase.flowWait, .interlockWait], let s := moveAt ph none;
     s.ready 0 ∧ s.flowLaws ∧ s.orderNamed 7 = some (0, moveStep ph) ∧
      s.served 0 = some (0, moveStep ph, .travel)) ∧
    (let s := waits (moveStep .flowWait);
     s.ready 0 ∧ s.flowLaws ∧ s.unit.working = true ∧ s.orderNamed 7 = some (0, moveStep .flowWait) ∧
      (moveStep .flowWait).cls ≠ .rain ∧ (moveStep .flowWait).state = .active ∧ s.authority 0 (hatchOf 0) = true ∧
      ∃ v ∈ (s.pack .a).waiting, v.panel = (moveStep .flowWait).panel) ∧
    ((15 : BitVec 4) ≠ 0 ∧ (8 : BitVec 4).getLsbD 0 = false) ∧
    (let o := held .atHold none 5; (withLive bench o).served 0 = none) := by
  refine ⟨⟨?_, by decide +kernel⟩, ⟨bench_ready 0 (by decide), by decide +kernel⟩,
    ⟨bench_ready 0 (by decide), by decide +kernel⟩,
    fun u => ⟨bench_ready 0 (by decide), by rcases u with _ | u <;> [skip; cases u] <;> decide +kernel⟩,
    fun ph h => ⟨bench_ready 0 (by decide), flowLaws_of_check _ ?_, ?_⟩,
    ⟨bench_ready 0 (by decide), flowLaws_of_check _ (by decide +kernel), by decide +kernel⟩, by decide, by decide +kernel⟩
  · unfold State.ready; decide +kernel
  all_goals simp at h; rcases h with rfl | rfl <;> decide +kernel

/-- R48, R49: an AMEND of TARGET and HOLD whose target the panel stands at ends the order, and stores the hold step too. -/
theorem test_amend_finished :
    let s := after (.amend 0 1 7 3 11 0 1849) (moveAt .interlockWait none)
    (s.slot 0).map (fun o => (o.state, o.target, o.hold)) = some (.done, some 1849, some .travel) := by decide +kernel

theorem witness_PauseHoldsTheOrder : travelling.ready 0 ∧ travelling.unit.working = true ∧ travelling.linked ∧
    travelling.orderNamed 7 = some (0, travelOrder) ∧ travelling.authority 0 (hatchOf travelOrder.panel) = true ∧
    travelOrder.state.pausedFrom = some .active ∧
    ∃ (s : State) (o : Order), s.linked ∧ s.orderNamed 7 = some (0, o) ∧ o.state.pausedFrom = some .pending ∧ o.state ≠ .active :=
  ⟨travelling_ready, by decide +kernel, travelling_linked, by decide +kernel, by decide +kernel, by decide,
    withLive bench { travelOrder with state := .pending }, _, linked_of_check _ (by decide +kernel), rfl, rfl, by decide⟩

theorem held_ok (st : OrderState) (f : Option PausedFrom) (step : Nat)
    (h : linkedCheck (withLive bench (held st f step)) = true ∧
      (withLive bench (held st f step)).authority 0 (hatchOf (held st f step).panel) = true) :
    (withLive bench (held st f step)).ready 0 ∧ (withLive bench (held st f step)).unit = .run ∧
    (withLive bench (held st f step)).linked ∧
    (withLive bench (held st f step)).authority 0 (hatchOf (held st f step).panel) = true ∧
    (withLive bench (held st f step)).loopOpen = false ∧ (withLive bench (held st f step)).supplyLow = false :=
  ⟨bench_ready 0 (by decide), rfl, linked_of_check _ h.1, h.2, rfl, rfl⟩

theorem witness_ResumeReturnsTheOrder (f : PausedFrom) :
    let o := held (.paused .estop) (some f) 5
    let s := withLive bench o
    s.ready 0 ∧ s.unit = .run ∧ s.linked ∧ s.orderNamed 7 = some (0, o) ∧ o.issuer = 0 ∧
      s.authority 0 (hatchOf o.panel) = true ∧ o.state = .paused .estop ∧ s.loopOpen = false ∧ s.supplyLow = false ∧
      o.pausedFrom = some f := by
  have h := held_ok (.paused .estop) (some f) 5 (by cases f <;> decide +kernel)
  exact ⟨h.1, h.2.1, h.2.2.1, by cases f <;> decide +kernel, rfl, h.2.2.2.1, rfl, h.2.2.2.2.1, h.2.2.2.2.2, rfl⟩

/-- Order 7 of the pendant, PAUSED, its hatch LOCAL. -/
theorem witness_ResumeStartsTheWatch (f : PausedFrom) :
    let o := { held (.paused .request) (some f) 5 with issuer := 2 }
    let s := { withLive bench o with selector := .replicate 9 true }
    s.ready 2 ∧ s.unit = .run ∧ s.linked ∧ s.orderNamed 7 = some (0, o) ∧ o.issuer = 2 ∧
      s.authority 2 (hatchOf o.panel) = true ∧ o.state = .paused .request ∧ s.loopOpen = false ∧ s.supplyLow = false ∧
      o.pausedFrom = some f ∧ s.stationKind 2 = some .pendant ∧ (s.station 2).watching = false :=
  ⟨bench_ready 2 (by decide), rfl, linked_of_check _ (by cases f <;> decide +kernel), by cases f <;> decide +kernel⟩

theorem witness_ContinuePassesTheHold :
    ∀ k ∈ [5, 6], let o := held .atHold none k
      let s := withLive bench o
      s.ready 0 ∧ s.unit = .run ∧ s.linked ∧ s.orderNamed 7 = some (0, o) ∧ o.issuer = 0 ∧
        s.authority 0 (hatchOf o.panel) = true ∧ o.state = .atHold ∧
        (k = 5 → o.step < (stepList o.kind).length) ∧ (k = 6 → (stepList o.kind).length ≤ o.step) := by
  intro k hk
  have h := held_ok .atHold none k (by simp at hk; rcases hk with rfl | rfl <;> decide +kernel)
  refine ⟨h.1, h.2.1, h.2.2.1, ?_, rfl, h.2.2.2.1, rfl, ?_, ?_⟩ <;> simp at hk <;> rcases hk with rfl | rfl <;> decide +kernel

/-- Order 9 of panel 3, waiting on order 7. -/
def waitingOrder : Order := { travelOrder with id := 9, panel := 2, state := .pending, step := 1, phase := none, pred := some 7 }
def chained : State := (travelling.setSlot 1 (some waitingOrder)).modPanel 2 fun x => { x with live := some 9 }

theorem witness_CancelEndsTheOrder : chained.ready 0 ∧ chained.unit.working = true ∧ chained.linked ∧
    chained.orderNamed 7 = some (0, travelOrder) ∧ chained.authority 0 (hatchOf travelOrder.panel) = true ∧
    travelOrder.state.live = true ∧ chained.slot 1 = some waitingOrder ∧ waitingOrder.waitsOn travelOrder.id = true :=
  ⟨by unfold State.ready; decide +kernel, by decide +kernel, linked_of_check _ (by decide +kernel), by decide +kernel⟩

/-- Order 7 as it finished. -/
def doneOrder : Order := { travelOrder with state := .done, phase := none, finishedAt := some 5, retention := some 120005 }
def finished : State := bench.setSlot 0 (some doneOrder)

/-- The pendant watches order 7 from moment 0. -/
def attended : State :=
  { withLive bench { travelOrder with issuer := 2, state := .atHold, phase := none } with
    now := 50, stations := bench.stations.set 2 { Station.atPowerOn with watching := true, deadline := some 400 } }

theorem witness_AdoptRetireAndRetention :
    (travelling.ready 1 ∧ travelling.unit.working = true ∧ travelling.orderNamed 7 = some (0, travelOrder) ∧
      travelling.authority 1 (hatchOf travelOrder.panel) = true ∧ travelOrder.state.live = true) ∧
    (finished.ready 0 ∧ finished.orderNamed 7 = some (0, doneOrder) ∧ doneOrder.issuer = 0 ∧ doneOrder.state.live = false ∧
      finished.slot 0 = some doneOrder ∧ doneOrder.retention = some 120005) ∧
    (let s := { travelling with selector := .replicate 9 true };
      s.ready 2 ∧ s.orderNamed 7 = some (0, travelOrder) ∧ s.authority 2 (hatchOf travelOrder.panel) = true ∧
        s.stationKind 2 = some .pendant ∧ (s.station 2).watching = false ∧ travelOrder.state.working = true) ∧
    (let o := { travelOrder with issuer := 2, state := .atHold, phase := none };
      attended.ready 0 ∧ attended.orderNamed 7 = some (0, o) ∧ attended.authority 0 (hatchOf o.panel) = true ∧
        o.issuer ≠ 0 ∧ (attended.station o.issuer).watching = true ∧
        ∀ j q, j ≠ 0 → attended.slot j = some q → q.issuer = o.issuer → q.state.working = false) ∧
    ∀ q, travelling.slot 0 = some q → q.retention = none :=
  ⟨⟨by unfold State.ready; decide +kernel, by decide +kernel⟩, ⟨by unfold State.ready; decide +kernel, by decide +kernel⟩,
    ⟨by unfold State.ready; decide +kernel, by decide +kernel⟩,
    ⟨by unfold State.ready; decide +kernel, by decide +kernel, by decide +kernel, by decide +kernel, by decide +kernel,
      fun j q hj h => by
        have e : ∀ j, j ≠ 0 → attended.slot j = none := by decide +kernel
        rw [e j hj] at h; cases h⟩,
    fun q h => by have : travelling.slot 0 = some travelOrder := by decide +kernel
                  rw [this] at h; cases h; rfl⟩

theorem witness_FinishedOrdersStayAsTheyFinished : ∃ t, finished.linked ∧ exec .jogTimeExpiry finished = .next t ∧
    finished.slot 0 = some doneOrder ∧ doneOrder.state.live = false :=
  ⟨_, linked_of_check _ (by decide +kernel), rfl, by decide +kernel, rfl⟩

/-- A zone of the SHORE station 4 in slot 1. -/
def zone : Claim := ⟨false, 3, .spout, 0, .both, 0, 8192, true, some 30000⟩
def zoned : State := bench.setClaim 0 (some zone)

theorem witness_ClaimZoneTakesTheLowestFreeSlot :
    (zoned.ready 3 ∧ hatchArg 9 = some 8 ∧ zoned.hatchConfigured 8 = true ∧ sideArg 2 = some .both ∧
      (8191 : Half).toNat < (8192 : Half).toNat ∧ (8192 : Half).toNat ≤ 8192 ∧
      zoned.isKind 3 [.shore, .cargoControl, .bridge] = true ∧ zoned.claim 1 = none ∧ ∀ y : ClaimNo, y < 1 → zoned.claim y ≠ none) ∧
    (bench.ready 2 ∧ hatchArg 1 = some 0 ∧ bench.pendantHatch 2 = some 0 ∧ bench.claim 0 = none) ∧
    (∀ ph ∈ [Phase.interlockWait, .flowWait], ∀ b, let s := { atStep 5 (some ph) (freed onWheels 100) with windSet := b };
      s.flowLaws ∧ s.served 0 = some (0, stepOrder 5 (some ph), .travel) ∧
        ∃ q, s.heldBy 0 (stepOrder 5 (some ph)) .travel q ∧ (q = {} ↔ b = false)) ∧
    (∀ b, let s := (atStep 4 (some .running) (freed seatedHome 0)).modPanel 1 fun x => if b then freed onWheels 0 x else x;
      s.flowLaws ∧ s.served 0 = some (0, stepOrder 4 (some .running), .lift) ∧
        ∃ q, s.heldBy 0 (stepOrder 4 (some .running)) .lift q ∧ (q.lap = false ↔ b = true ∨ s.isLap 0 = true)) ∧
    (let s := atStep 5 (some .braking) fun x => { freed onWheels 100 x with purpose := some .evaluate };
      s.flowLaws ∧ s.served 0 = some (0, stepOrder 5 (some .braking), .travel) ∧ (s.panel 0).purpose = some .evaluate ∧
        ∃ q, s.heldBy 0 (stepOrder 5 (some .braking)) .travel q) ∧
    ∀ b, let s := { granted with windSet := b };
      s.flowLaws ∧ s.served 0 = some (0, travelOrder, .travel) ∧ (s.panel 0).plan = some travelPlan ∧
        (s.panel 0).mode = .driven ∧ ∃ q, s.haltedBy 0 travelPlan q ∧ (q = {} ↔ b = false) := by
  refine ⟨⟨by unfold State.ready; decide +kernel, by decide +kernel⟩, ⟨bench_ready 2 (by decide), by decide +kernel⟩,
    fun ph h b => ⟨flowLaws_of_check _ ?_, ?_, _, heldBy_iff.2 rfl, ?_⟩,
    fun b => ⟨flowLaws_of_check _ ?_, ?_, _, heldBy_iff.2 rfl, ?_⟩,
    ⟨flowLaws_of_check _ ?_, ?_, ?_, _, heldBy_iff.2 rfl⟩,
    fun b => ⟨flowLaws_of_check _ ?_, ?_, ?_, ?_, _, haltedBy_iff.2 rfl, ?_⟩⟩
  all_goals first
    | decide +kernel
    | (cases b <;> decide +kernel)
    | (simp at h; rcases h with rfl | rfl <;> cases b <;> decide +kernel)

theorem witness_ZonesChangeAsTheirRulesSay :
    (∀ b, let s := zoned.setClaim 0 (some { zone with timed := b })
      (s.claim 0).map (·.owner) = some 3 ∧ s.ready 3 ∧ zoneArg 1 = some (.claimed 0) ∧
        s.stationKind 3 ≠ some .inclinometer) ∧
    (let s := zoned.setClaim 0 (some { zone with stale := true, deadline := none })
     (s.claim 0).map (·.stale) = some true ∧ s.ready 3 ∧ s.stationKind 3 ≠ some .inclinometer) ∧
    (zoned.claim 0 = some zone ∧ zoned.ready 0 ∧ zoned.isKind 0 [.bridge, .cargoControl] = true ∧ zone.owner ≠ 0) ∧
    (zoned.ready 2 ∧ zone.owner ≠ 2 ∧ zoned.isKind 2 [.bridge, .cargoControl] = false) ∧
    (let s := zoned.setClaim 0 (some { zone with owner := 4 })
     (s.claim 0).map (·.owner) = some 4 ∧ s.ready 4 ∧ s.stationKind 4 = some .inclinometer ∧
       s.isKind 4 [.bridge, .cargoControl] = false) ∧
    (zone.deadline = some 30000 ∧ zoned.inStart = false ∧ zoned.anyZoneStale = false) ∧
    (∀ c, bench.claim 0 = some c → c.deadline = none) ∧
    (500 ≤ 500 ∧ 499 < 500 ∧ 5000 ≤ 5000 ∧ 4999 < 5000 ∧ zoned.hatchConfigured 8 = true ∧
      zoned.lineLive[(8 : HatchNo)] ≠ true) :=
  ⟨fun b => ⟨by cases b <;> decide +kernel, bench_ready 3 (by decide), by decide, by cases b <;> decide +kernel⟩,
    ⟨by decide +kernel, bench_ready 3 (by decide), by decide +kernel⟩,
    ⟨by decide +kernel, bench_ready 0 (by decide), by decide +kernel⟩, ⟨bench_ready 2 (by decide), by decide +kernel⟩,
    ⟨by decide +kernel, bench_ready 4 (by decide), by decide +kernel⟩, by decide +kernel,
    fun c h => (by have e : bench.claim 0 = none := by decide +kernel
                   rw [e] at h; cases h), by decide +kernel⟩

theorem witness_KeepaliveKeepsTheWatch :
    (bench.ready 2 ∧ bench.stationKind 2 = some .pendant ∧ (bench.station 2).watching = false) ∧
    (attended.ready 2 ∧ attended.stationKind 2 = some .pendant ∧ (attended.station 2).watching = true ∧
      attended.params.tuning.attendanceLower ≤ attended.now - (attended.station 2).reference) ∧
    ((attended.slot 0).isSome = true ∧ (attended.updateOrder 0 id).attends 2 ∧
      ¬ (attended.updateOrder 0 fun o => { o with state := .paused .request }).attends 2) ∧
    (let s := withLive bench { travelOrder with issuer := 2, state := .paused .request };
      (s.slot 0).isSome = true ∧ (s.station 2).watching = false ∧ ¬ (s.updateOrder 0 id).attends 2 ∧
        (s.updateOrder 0 fun o => { o with state := .active }).attends 2) :=
  ⟨⟨bench_ready 2 (by decide), by decide +kernel⟩, ⟨by unfold State.ready; decide +kernel, by decide +kernel⟩,
    by simp only [attends_iff]; decide +kernel, by simp only [attends_iff]; decide +kernel⟩

theorem witness_ViolationStopsThePendant :
    (attended.linked ∧ attended.inStart = false ∧ attended.pendantHatch 2 = some 0 ∧ attended.hatchConfigured 0 = true ∧
      (attended.station 2).deadline = some 400 ∧ attended.ready 2 ∧ attended.params.tuning.attendanceMode = 0) ∧
    ∃ s : State, s.linked ∧ s.ready 2 ∧ s.pendantHatch 2 = some 0 ∧ (s.station 2).watching = true ∧
      s.now - (s.station 2).reference < s.params.tuning.attendanceLower :=
  ⟨⟨linked_of_check _ (by decide +kernel), by decide +kernel, by decide +kernel, by decide +kernel, by decide +kernel,
      by unfold State.ready; decide +kernel, by decide +kernel⟩,
    { attended with now := 49 }, linked_of_check _ (by decide +kernel), by unfold State.ready; decide +kernel,
      by decide +kernel⟩

theorem witness_StopsPauseAndEndTheJog : travelling.ready 3 ∧ travelling.linked ∧
    travelling.isKind 3 [.bridge, .cargoControl, .pendant, .shore] = true ∧ hatchArg 1 = some 0 ∧
    travelling.hatchConfigured 0 = true :=
  ⟨by unfold State.ready; decide +kernel, travelling_linked, by decide +kernel⟩

theorem witness_RainCloseClosesEveryPanel :
    (bench.ready 0 ∧ bench.unit = .run ∧ bench.linked ∧ bench.faultedStand ∧ bench.jog = none ∧
      bench.isKind 0 [.bridge, .cargoControl] = true ∧ (∀ i, bench.slot i = none) ∧ bench.configured 17 = true ∧
      bench.isLocal (hatchOf 17) = false ∧ (bench.panel 17).faults = [] ∧ bench.statusCode 17 ≠ 3 ∧
      bench.liveOrder 17 = none) ∧
    (let s := bench.modPanel 0 fun x => { x with
       sw := seatedHome, certain := true, cleats := .replicate 12 ⟨.engaged, true, 0, 0⟩ }
     s.statusCode 0 = 3 ∧ s.liveOrder 0 = none ∧ s.isLocal (hatchOf 0) = false ∧ (s.panel 0).faults = []) ∧
    ((after (.stallTimerExpiry 0) travelling).panel 0).faults ≠ [] ∧
    (∃ s : State, s.isLocal (hatchOf 0) = true) ∧
    (travelling.liveOrder 0 = some (0, travelOrder) ∧ travelOrder.kind.closes = false ∧ travelling.slot 23 = none ∧
      travelling.isLocal (hatchOf 0) = false ∧ (travelling.panel 0).faults = []) ∧
    (∀ st ∈ [OrderState.active, .atHold], ∃ o : Order, o.state = st ∧ o.kind.closes = true ∧
      (withLive bench o).liveOrder 0 = some (0, o) ∧ o.state.live = true ∧ o.pausedFrom ≠ some .pending ∧
      o.phase ≠ some .flowWait) ∧
    (∃ o : Order, o.state.isPaused = true ∧ o.kind.closes = true ∧ (withLive bench o).liveOrder 0 = some (0, o) ∧
      o.pausedFrom = some .pending ∧ o.pred.isSome = true) ∧
    (let o : Order := { travelOrder with kind := .close, step := 3, phase := some .flowWait, pred := some 3 };
     let s := waits o;
     s.flowLaws ∧ s.liveOrder 0 = some (0, o) ∧ o.state = .active ∧ o.pausedFrom = none ∧ o.cls ≠ .rain ∧
      s.isLocal (hatchOf 0) = false ∧ (s.panel 0).faults = [] ∧ ∃ v ∈ (s.pack .a).waiting, v.panel = o.panel) :=
  ⟨⟨bench_ready 0 (by decide), rfl, bench_linked, ⟨by decide +kernel, by decide +kernel, fun p h => absurd
      (by revert p; decide +kernel : (bench.panel p).faults = []) h⟩, by decide +kernel⟩, by decide +kernel, by decide +kernel,
    ⟨{ bench with selector := .replicate 9 true }, by decide +kernel⟩, by decide +kernel,
    fun st h => ⟨{ travelOrder with kind := .secure, state := st, step := 1 }, rfl, rfl,
      by simp at h; rcases h with rfl | rfl <;> decide +kernel⟩,
    ⟨{ travelOrder with kind := .close, state := .paused .estop, pausedFrom := some .pending, pred := some 3, phase := none },
      by decide +kernel⟩, ⟨flowLaws_of_check _ (by decide +kernel), by decide +kernel⟩⟩

theorem witness_SelectorChangePausesTheHatch : travelling.linked ∧ travelling.selector[(0 : HatchNo)] ≠ true ∧
    travelling.hatchConfigured 0 = true ∧ travelling.hasSelector 0 = true ∧ travelling.slot 0 = some travelOrder ∧
    hatchOf travelOrder.panel = 0 ∧ travelOrder.state.working = true ∧ (199 < 200 ∧ 200 ≤ 200) ∧
    { travelling with selector := .replicate 9 true }.authority 0 0 = false ∧
    (∃ s : State, s.hatchConfigured 0 = true ∧ s.hasSelector 0 = false) ∧
    (∃ s : State, s.linked ∧ s.hatchConfigured 8 = false ∧ s.selector[(8 : HatchNo)] ≠ true) :=
  ⟨travelling_linked, by decide +kernel, by decide +kernel, by decide +kernel, by decide +kernel, by decide +kernel, by decide,
    by decide, by decide +kernel, ⟨{ bench with selectorDue := .replicate 9 (some 200) }, by decide +kernel⟩,
    { bench with layout := { bench.layout with hatchCount := 8 } }, linked_of_check _ (by decide +kernel), by decide +kernel⟩

theorem witness_AttitudeAndWindAreTaken :
    (travelling.ready 4 ∧ travelling.stationKind 4 = some .inclinometer ∧ travelling.layout.listSource ≠ 1 ∧
      travelling.listHigh = false ∧ (travelling.params.tuning.listWarning : Int) < |(250 : Int)| ∧
      (travelling.panel 0).plan = some travelPlan ∧ travelPlan.fast = true) ∧
    (∃ s : State, s.ready 4 ∧ s.stationKind 4 = some .inclinometer ∧ s.layout.listSource = 1) ∧
    (∃ s : State, s.staleTimer = some 5000 ∧ s.inStart = false ∧ s.fresh = true ∧ s.layout.listSource ≠ 1 ∧
      s.listHigh = false) ∧ bench.windSet ≠ true ∧ bench.inStart = false ∧ (2000 ≤ 2000 ∧ 1999 < 2000) :=
  ⟨⟨bench_ready 4 (by decide), by decide +kernel⟩,
    ⟨{ bench with layout := { bench.layout with listSource := 1 } }, bench_ready 4 (by decide), by decide +kernel⟩,
    ⟨{ bench with staleTimer := some 5000 }, rfl, by decide +kernel⟩, by decide +kernel⟩

theorem witness_LostEnableStopsEverything : travelling.linked ∧ travelling.loopOpen = false ∧ travelling.supplyLow = false ∧
    (18999 < 19000 ∧ travelling.inStart = false) := ⟨travelling_linked, by decide +kernel⟩

theorem witness_ReturnedEnableResumesNothing : (∃ s : State, s.loopOpen = true ∧ s.loopTaken = true) ∧
    (500 ≤ 500 ∧ 499 < 500 ∧ 50 ≤ 50 ∧ 49 < 50 ∧ 20000 ≤ 20000 ∧ 19999 < 20000) :=
  ⟨⟨{ bench with loopOpen := true }, rfl, rfl⟩, by decide⟩

/-- Order 7 in FLOW_WAIT before its travel, on pack A's list, with the crossover parameter at `c`. -/
def waiting (c : Nat) : State :=
  { atStep 5 (some .flowWait) (freed onWheels 100) with
    packA := { runningPack with waiting := [⟨0, 4, .normal, 1⟩] }, layout := { bench.layout with crossover := c } }

/-- In SERVICE, a jog of LIFT_UP of panel 1 in progress. -/
def jogging : State :=
  { bench with
    unit := .service, serviceStation := some 0, jog := some ⟨0, .liftUp, 100⟩
    packA := { runningPack with grants := [⟨0, 6, true⟩] } }

theorem witness_PackCausesFollowTheirLines :
    (bench.inStart = false ∧ (bench.pack .a).anyCause = false ∧ (bench.pack .a).hot = false ∧
      ((after (.pumpStop .a) bench).pack .a).anyCause = true ∧ (bench.params.tuning.oilHot : Int) ≤ 60 ∧
      (54 : Int) < bench.params.tuning.oilHot - 5 ∧ (bench.params.tuning.oilHot : Int) - 5 ≤ 55 ∧
      (55 : Int) < bench.params.tuning.oilHot) ∧
    (granted.linked ∧ granted.flowLaws ∧ (granted.pack .a).up = true ∧ { granted.packA with pump := true }.up = false ∧
      ∃ g ∈ (granted.pack .a).grants, g.jog = false) ∧
    (jogging.linked ∧ jogging.flowLaws ∧ (jogging.pack .a).up = true ∧ ∃ g ∈ (jogging.pack .a).grants, g.jog = true) ∧
    (∀ c ∈ [0, 1], let s := waiting c;
      s.linked ∧ s.flowLaws ∧ (s.pack .a).up = true ∧ s.homePack 0 = .a ∧ (s.pack .b).up = true ∧
        s.layout.crossover = c ∧ ∃ w ∈ (s.pack .a).waiting, w.panel = 0 ∧ w.demand ≤ s.capacity .b) ∧
    (let s := { waiting 1 with params := { bench.params with tuning := { bench.params.tuning with capacityB := 3 } } };
      s.linked ∧ s.flowLaws ∧ (s.pack .a).up = true ∧ ∃ w ∈ (s.pack .a).waiting, s.capacity .b < w.demand) ∧
    (let s := { granted with packB := { runningPack with pump := true } };
      s.linked ∧ s.flowLaws ∧ (s.pack .b).up = false ∧ runningPack.up = true ∧ runningPack.grants = (s.pack .b).grants) ∧
    ((granted.pack .a).up = { granted.packA with hot := true }.up ∧ (granted.pack .a).hot = false) := by
  refine ⟨by decide +kernel, ⟨linked_of_check _ ?_, flowLaws_of_check _ ?_, ?_⟩,
    ⟨linked_of_check _ ?_, flowLaws_of_check _ ?_, ?_⟩,
    fun c h => ⟨linked_of_check _ ?_, flowLaws_of_check _ ?_, ?_⟩,
    ⟨linked_of_check _ ?_, flowLaws_of_check _ ?_, ?_⟩, ⟨linked_of_check _ ?_, flowLaws_of_check _ ?_, ?_⟩, ?_⟩
  all_goals first
    | decide +kernel
    | (simp at h; rcases h with rfl | rfl <;> decide +kernel)

theorem witness_CardStatesFollowTheTemperature : bench.cards[(2 : CardNo)] = .normal ∧ bench.configured 17 = true ∧
    cardOf 17 = 2 ∧ bench.params.tuning.otsdMode = 0 ∧
    (granted.linked ∧ granted.faultedStand ∧ granted.configured 0 = true ∧ cardOf 0 = 0 ∧
      (granted.panel 0).plan = some travelPlan ∧ travelPlan.fast = true ∧ granted.cards[(0 : CardNo)] = .normal) ∧
    (cardAfter .normal (some 85) = .hot ∧ cardAfter .normal (some 105) = .overtemp ∧ cardAfter .overtemp (some 94) = .hot ∧
      cardAfter .overtemp (some 95) = .overtemp) :=
  ⟨by decide +kernel, by decide +kernel, by decide +kernel, by decide +kernel,
    ⟨linked_of_check _ (by decide +kernel), granted_faulted_stand, by decide +kernel⟩, by decide⟩

theorem witness_CoilDiagnosticsRaiseTheirFaults :
    travelling.linked ∧ travelling.configured 0 = true ∧ travelling.enabled = true ∧
    ((travelling.panel 0).coils.get .travelOut = true ∧ 4000 < 4001 ∧
      travelling.params.tuning.overcurrentDeglitch ≤ 20 ∧ .solenoidShort ∉ (travelling.panel 0).faults) ∧
    (travelling.coilTested 0 .travelOut = true ∧ 79 < 80 ∧ .solenoidOpen ∉ (travelling.panel 0).faults) ∧
    ((travelling.panel 0).coils.get (.cleatRel 2) = false ∧ travelling.coilTested 0 (.cleatRel 2) = true ∧
      travelling.params.tuning.offStateTest = 1 ∧ 300 < 301) ∧
    (travelling.slot 0 = some travelOrder ∧ (travelling.panel 0).live = some travelOrder.id) :=
  ⟨travelling_linked, by decide +kernel⟩

theorem witness_TheTripFollowsThePressure : granted.params.tuning.tripLevel < 161 ∧
    granted.params.tuning.tripDeglitch ≤ min 200 (granted.now - (granted.pack .a).deglitchFrom) ∧
    (granted.pack .a).trip = false ∧ (granted.panel 0).travelling = true ∧ granted.travelPack 0 = .a ∧
    160 ≤ granted.params.tuning.tripLevel ∧ min 199 (granted.now - (granted.pack .a).deglitchFrom) <
      granted.params.tuning.tripDeglitch ∧
    (∃ s : State, (s.pack .a).trip = false ∧ min 200 (s.now - (s.pack .a).deglitchFrom) < s.params.tuning.tripDeglitch) :=
  ⟨by decide +kernel, by decide +kernel, by decide +kernel, by decide +kernel, by decide +kernel, by decide +kernel,
    by decide +kernel, { granted with packA := { granted.packA with deglitchFrom := 1 } }, by decide +kernel⟩

/-- Panel 1 in the hold-off of a chop. -/
def chopped : State := after (.travelTripRaised .a (some 161) 200) granted

theorem witness_ChopsAndTheirHoldoff :
    (granted.params.tuning.tripLevel < 161 ∧ (granted.pack .a).trip = false ∧
      granted.params.tuning.tripDeglitch ≤ min 200 (granted.now - (granted.pack .a).deglitchFrom) ∧
      granted.travellers .a = [0]) ∧
    (min 255 ((granted.panel 0).chop + 1) < granted.params.tuning.chopLimit ∧
      (granted.panel 0).stall = .running 2000) ∧
    (let s := granted.modPanel 0 fun x => { x with chop := bench.params.tuning.chopLimit - 1 };
     s.linked ∧ s.params.tuning.chopLimit ≤ min 255 ((s.panel 0).chop + 1) ∧ s.configured 0 = true ∧
      .travelOverload ∉ (s.panel 0).faults ∧ (s.panel 0).mode = .driven ∧ s.slot 0 = some travelOrder ∧
      (s.panel 0).live = some travelOrder.id) ∧
    ((chopped.panel 0).holdoff = some 700 ∧ chopped.params.tuning.tripLevel < (chopped.pack (chopped.travelPack 0)).travelBar) ∧
    (let s := after (.travelTripClear .a (some 160)) chopped;
     (s.panel 0).holdoff = some 700 ∧ (s.panel 0).lastDir = some .outward ∧
      (s.pack (s.travelPack 0)).travelBar ≤ s.params.tuning.tripLevel ∧ (s.pack (s.travelPack 0)).trip = false) ∧
    (granted.panel 0).holdoff = none :=
  ⟨by decide +kernel, by decide +kernel, ⟨linked_of_check _ (by decide +kernel), by decide +kernel⟩, by decide +kernel⟩

theorem witness_ClearFaultsRemovesWhatIsGone :
    (bench.ready 0 ∧ panelArg 18 = some 17 ∧ bench.configured 17 = true ∧ hatchArg 9 = some 8 ∧
      bench.hatchConfigured 8 = true ∧ bench.isKind 0 [.bridge, .cargoControl] = true) ∧
    (bench.ready 2 ∧ panelArg 1 = some 0 ∧ bench.pendantHatch 2 = some (hatchOf 0) ∧ hatchArg 1 = some 0) ∧
    (∀ k : PanelFault, k ≠ .attendance → ∃ s : State, ¬ s.conditionGone 0 k) ∧ bench.conditionGone 0 .attendance := by
  refine ⟨⟨bench_ready 0 (by decide), by decide +kernel⟩, ⟨bench_ready 2 (by decide), by decide +kernel⟩, fun k h =>
    ⟨{ bench.modPanel 0 fun x => { x with
        coils := { liftUp := true, liftDown := true, stowLock := true }, shortCoil := some .liftUp, openCoil := some .liftUp
        openFound := [.liftUp], move := some ⟨0, .release, [0, 1], [1], true, 0, some 3000, 6000, false⟩
        brakeTimer := some 1, creepQuiet := some 1, activity := .braking, sw := ⟨true, false, true, false, false, false, false⟩ } with
        cards := .replicate 3 .overtemp }, ?_⟩, trivial⟩
  rw [conditionGone_iff]
  cases k <;> first | exact absurd rfl h | decide +kernel

/-- In SETUP. -/
def setup : State := { bench with unit := .setup }

theorem witness_SetParamStoresInRange :
    (bench.ready 0 ∧ bench.unit ≠ .setup) ∧ (setup.ready 1 ∧ setup.unit = .setup ∧ setup.stationKind 1 ≠ some .bridge) ∧
    (setup.ready 0 ∧ setup.stationKind 0 = some .bridge ∧ setup.writing = none ∧ setup.locked = false) ∧
    (ParamId.number (.stationHatch 11) = (532 : Half).toNat ∧ (ParamId.stationHatch 11).enumerated = false ∧
      ParamId.number .slowDown = (606 : Half).toNat) ∧
    (∀ i : ParamId, i.number ≠ (0 : Half).toNat) ∧
    (∃ s : State, s.ready 0 ∧ s.unit = .setup ∧ s.writing.isSome = true) ∧
    (∃ s : State, s.ready 0 ∧ s.unit = .setup ∧ s.writing = none ∧ s.locked = true) :=
  ⟨⟨bench_ready 0 (by decide), by decide +kernel⟩, ⟨bench_ready 1 (by decide), by decide +kernel⟩,
    ⟨bench_ready 0 (by decide), by decide +kernel⟩, by decide +kernel,
    fun i => by cases i <;> simp [ParamId.number],
    ⟨{ setup with writing := some ⟨0, 1, true⟩ }, bench_ready 0 (by decide), rfl, rfl⟩,
    ⟨{ setup with locked := true }, bench_ready 0 (by decide), rfl, rfl, rfl⟩⟩

theorem witness_ConfigurationTakesEffectAtCommit :
    (setup.ready 0 ∧ setup.stationKind 0 = some .bridge ∧ setup.unit = .setup ∧ setup.writing = none ∧
      setup.params.inconsistent = none) ∧
    (∃ s : State, s.writing = some ⟨0, 1, true⟩ ∧ s.layout.listSource ≠ s.params.layout.listSource ∧
      ∃ c, s.claim 0 = some c) ∧
    (∃ s : State, s.writing = some ⟨0, 1, true⟩ ∧ decide ((8 : HatchNo).val < s.layout.hatchCount) = false ∧
      decide ((8 : HatchNo).val < s.params.layout.hatchCount) = true) ∧
    (∃ s : State, s.writing = some ⟨0, 1, false⟩ ∧ s.layout.hatchCount = s.params.layout.hatchCount ∧
      ¬ s.layout.cleatCount[(0 : PanelNo)] = s.params.layout.cleatCount[(0 : PanelNo)]) ∧
    (bench.ready 0 ∧ bench.unit = .run ∧ (∀ i o, bench.slot i = some o → o.state.live = false) ∧
      ∀ p, (bench.panel p).activity = .idle) ∧
    (bench.stationKind 0 = some .bridge ∧ bench.writing = none) :=
  ⟨⟨bench_ready 0 (by decide), by decide +kernel⟩,
    ⟨{ zoned with writing := some ⟨0, 1, true⟩, layout := { zoned.layout with listSource := 1 } }, rfl, by decide +kernel, _, rfl⟩,
    ⟨{ setup with writing := some ⟨0, 1, true⟩, layout := { setup.layout with hatchCount := 8 } }, by decide +kernel⟩,
    ⟨{ setup with writing := some ⟨0, 1, false⟩ }, by decide +kernel⟩,
    ⟨bench_ready 0 (by decide), rfl, fun i o h => (by
        have e : ∀ i, bench.slot i = none := by decide +kernel
        rw [e i] at h; cases h), by decide +kernel⟩, by decide +kernel⟩

theorem witness_TheLayoutIsHeld : ∃ t, exec (.storeWriteEnd false) bench = .next t ∧ Instr.storeWriteEnd false ≠ .powerOn ∧
    Instr.storeWriteEnd false ≠ .storeWriteEnd true := ⟨_, rfl, by decide, by decide⟩

/-- In SERVICE, station 1 the service station, panel 1 uncleated and on its wheels. -/
def service : State :=
  { bench with unit := .service, serviceStation := some 0, servicePermitted := true }.modPanel 0 fun x =>
    { x with sw := onWheels, certain := true, cleats := .replicate 12 ⟨.released, false, 0, 0⟩ }
theorem service_ready : service.ready 0 := by unfold State.ready; decide +kernel
theorem service_none_served : service.noneServed := by unfold State.noneServed; decide +kernel

theorem witness_ServiceIsEnteredAndLeft :
    (∃ s : State, s.ready 0 ∧ s.linked ∧ s.unit = .run ∧ s.isKind 0 [.bridge, .cargoControl] = true ∧ s.servicePermitted = true) ∧
    (service.ready 0 ∧ service.linked ∧ service.unit = .service ∧ service.serviceStation = some 0 ∧ service.noneServed) :=
  ⟨⟨{ travelling with servicePermitted := true }, travelling_ready, linked_of_check _ (by decide +kernel), by decide +kernel⟩,
    service_ready, linked_of_check _ (by decide +kernel), by decide +kernel, by decide +kernel, service_none_served⟩

/-- `service` with a move of group 1 that an earlier cleat jog has left behind: its valve off, its window running. -/
def leftMove : State :=
  service.modPanel 0 fun x => { x with move := some ⟨0, .release, [0], [], false, 0, none, 6000, true⟩ }

/-- `service` with one trip RAISED and a chop limit. -/
def tripped (k : PackId) (limit : Nat) : State :=
  { service.modPack k fun x => { x with trip := true } with
    params := { service.params with tuning := { service.params.tuning with chopLimit := limit } } }

/-- The coils of each sort that may be jogged on panel 1 in `service`, the shortest and the longest time. -/
theorem witness_JogsDriveTheirCoil :
    (∀ s ∈ [service, leftMove, tripped .a 1, tripped .a 3, tripped .b 3],
      s.ready 0 ∧ s.unit = .service ∧ s.configured 0 = true ∧ s.serviceStation = some 0 ∧ (s.panel 0).faults = [] ∧
      s.jog = none ∧ (s.panel 0).activity = .idle ∧ s.servingPack 0 = some .a ∧
      ∀ c ∈ [Coil.travelOut, .cleatRel 0, .liftUp], s.jogConditions 0 c = true ∧ s.jogFlow 0 c = true) ∧
    (∀ s ∈ [service, leftMove, tripped .a 1, tripped .a 3, tripped .b 3], s.noneServed) ∧
    panelArg 1 = some 0 ∧ coilArg 3 = some .travelOut ∧ coilArg 9 = some (.cleatRel 0) ∧ coilArg 1 = some .liftUp ∧
    100 ≤ (100 : Half).toNat ∧ (5000 : Half).toNat ≤ 5000 ∧
    (service.panel 0).move = none ∧ (leftMove.panel 0).move ≠ none ∧
    (service.pack .a).trip = false ∧ ((tripped .a 3).pack .a).trip = true ∧
    ((tripped .b 3).pack .a).trip = false ∧ ((tripped .b 3).pack .b).trip = true ∧
    service.atLevel 0 0 .release = service.participants 0 0 ∧
    (let s := service.modPanel 0 fun x => { x with cleats := .replicate 12 ⟨.unknown, true, 0, 0⟩ }
     s.jogConditions 0 (.cleatRel 0) = true ∧ s.atLevel 0 0 .release ≠ s.participants 0 0) :=
  ⟨by unfold State.ready; decide +kernel, by unfold State.noneServed; decide +kernel, by decide +kernel⟩

theorem witness_JogsEndWithTheirTime :
    (∀ c : Coil, c ∈ [.travelOut, .liftUp] → ∃ s : State, s.jog = some ⟨0, c, 100⟩ ∧ s.noneServed ∧
      (s.panel 0).activity = .jog ∧ ∀ d : Dir, c = d.coil → (s.panel 0).mode = .driven) ∧
    (∃ s : State, ∃ m, s.jog = some ⟨0, .cleatRel 0, 100⟩ ∧ s.noneServed ∧ (s.panel 0).activity = .jog ∧
      (s.panel 0).move = some m ∧ CleatDir.release.coil 0 = m.dir.coil m.group) ∧ service.jog = none :=
  ⟨fun c hc => ⟨{ service.modPanel 0 fun x => { x with activity := .jog, mode := .driven } with jog := some ⟨0, c, 100⟩ }, rfl,
      (by unfold State.noneServed; simp at hc; rcases hc with rfl | rfl <;> decide +kernel), rfl, fun _ _ => rfl⟩,
    ⟨{ service.modPanel 0 fun x => { x with
        activity := .jog, move := some ⟨0, .release, [0], [], true, 0, some 100, 6000, true⟩ } with
        jog := some ⟨0, .cleatRel 0, 100⟩ }, _, rfl, by unfold State.noneServed; decide +kernel, by decide +kernel, rfl, rfl⟩,
    rfl⟩

theorem witness_ServiceSetsTheRecords : service.ready 0 ∧ service.unit = .service ∧ service.serviceStation = some 0 ∧
    service.noneServed ∧ panelArg 1 = some 0 ∧ service.configured 0 = true ∧ -255 ≤ (0xFF01 : Half).toInt ∧
    (4095 : Half).toInt ≤ 4095 ∧ (service.panel 0).activity = .idle ∧ cleatArg 3 = some 2 ∧
    (2 : CleatNo).val < service.layout.cleatCount[(0 : PanelNo)] :=
  ⟨service_ready, by decide +kernel, by decide +kernel, service_none_served, by decide +kernel⟩

/-- Order 7 in its last step, LOCK_STOW. -/
def locking : State :=
  (withLive bench { travelOrder with step := 6 }).modPanel 0 fun x =>
    { x with sw := onWheels, activity := .stowMove .lock, stepTimer := some 5000, coils := { stowLock := true } }

theorem witness_SwitchesTakeStableLevels :
    ((bench.panel 0).sw.get .lifted2 ≠ true ∧ (bench.panel 0).sw.stowLocked ≠ true ∧ (bench.panel 0).sw.home ≠ true ∧
      (bench.panel 0).sw.openEnd ≠ true) ∧
    (((seated.panel 0).sw.put true .lifted1).conflict = true ∧ seated.configured 0 = true) ∧
    (∃ s : State, s.configured 17 = false) ∧
    (locking.linked ∧ locking.served 0 = some (0, { travelOrder with step := 6 }, .lockStow) ∧ travelOrder.hold = none ∧
      locking.jog = none ∧ locking.configured 0 = true ∧ (locking.panel 0).sw.stowLocked = false) :=
  ⟨by decide +kernel, by decide +kernel,
    ⟨{ bench with layout := { bench.layout with hatchCount := 8 } }, by decide +kernel⟩,
    linked_of_check _ (by decide +kernel), by decide +kernel⟩

theorem witness_ReferencesSetTheCount :
    (travelling.configured 0 = true ∧ travelling.jog = none ∧
      { (travelling.panel 0).sw with openEnd := true } ≠ (travelling.panel 0).sw ∧ (travelling.panel 0).mode = .driven ∧
      (travelling.panel 0).lastDir = some .outward ∧ travelling.served 0 = some (0, travelOrder, .travel) ∧
      travelOrder.phase = some .running ∧ (travelling.panel 0).plan = some travelPlan ∧ travelPlan.stop = .switch) ∧
    (let pl : Plan := { travelPlan with t := 1990, stop := .count, stopAt := some 1978, overAt := none };
     let s := travelling.modPanel 0 fun x => { x with plan := some pl };
     (s.panel 0).plan = some pl ∧ s.served 0 = some (0, travelOrder, .travel) ∧ s.openCount 0 = 2000 ∧
       pl.at 1977 pl.stopAt = false ∧ pl.at 1978 pl.stopAt = true) ∧
    (∀ c ∈ [(8 : Int), 9], ∃ s : State, s.configured 0 = true ∧ s.jog = none ∧ (s.panel 0).mode = .coasting ∧
      (s.panel 0).lastDir = some .inward ∧ s.served 0 = none ∧ (s.panel 0).count = c ∧ (s.panel 0).sw.home = false) ∧
    (let s := atStep 5 (some .interlockWait) fun x => { x with mode := .coasting, lastDir := some .inward };
     (s.panel 0).mode = .coasting ∧ (s.panel 0).lastDir = some .inward ∧ (s.panel 0).sw.home = false ∧
       s.served 0 = some (0, stepOrder 5 (some .interlockWait), .travel)) ∧
    (∃ s : State, s.jog = some ⟨0, Dir.inward.coil, 100⟩ ∧ s.noneServed ∧ (s.panel 0).mode = .driven ∧
      (s.panel 0).lastDir = some .inward ∧ (s.panel 0).sw.home = false ∧ s.configured 0 = true) ∧
    ((bench.panel 0).mode = .quiet ∧ (bench.panel 0).sw.home = false) :=
  ⟨by decide +kernel, by decide +kernel,
    fun c hc => ⟨bench.modPanel 0 fun x => { x with mode := .coasting, lastDir := some .inward, count := c },
      (by simp at hc; rcases hc with rfl | rfl <;> decide +kernel)⟩, by decide +kernel,
    ⟨{ service.modPanel 0 fun x => { x with mode := .driven, lastDir := some .inward } with
        jog := some ⟨0, .travelIn, 100⟩ }, rfl, by unfold State.noneServed; decide +kernel, by decide +kernel⟩,
    by decide +kernel⟩

theorem witness_WheelEdgesMoveTheCount :
    (travelling.linked ∧ travelling.configured 0 = true ∧ 2 ≤ 2 ∧ (travelling.panel 0).lastDir = some .outward ∧
      (travelling.panel 0).mode = .driven ∧ travelling.served 0 = some (0, travelOrder, .travel) ∧
      (travelling.panel 0).plan = some travelPlan ∧ (∃ q ∈ travelPlan.slow, reached .outward (1849 + 1) q = true)) ∧
    (let s := travelling.modPanel 0 fun x => { x with wheelArmed := true };
     (s.panel 0).wheelArmed = true ∧ 0 < 1) ∧
    (∃ s : State, s.linked ∧ s.configured 0 = true ∧ (s.panel 0).lastDir = some .outward ∧ (s.panel 0).mode = .driven ∧
      .positionRange ∉ (s.panel 0).faults ∧ 4095 < (s.panel 0).count + Dir.outward.sign) ∧
    (∃ s : State, s.linked ∧ s.configured 0 = true ∧ (s.panel 0).lastDir = some .inward ∧ (s.panel 0).mode = .coasting ∧
      s.served 0 = none ∧ (s.panel 0).count + Dir.inward.sign = -255) ∧
    (let s := atStep 5 (some .braking) fun x => { x with mode := .coasting, lastDir := some .outward, count := 4094 };
     s.linked ∧ (s.panel 0).mode = .coasting ∧ (s.panel 0).count + Dir.outward.sign = 4095 ∧
       s.served 0 = some (0, stepOrder 5 (some .braking), .travel)) ∧
    (reached .outward 2052 2052 = true ∧ reached .outward 2051 2052 = false) ∧
    (∀ c ∈ [0, bench.params.tuning.creepLimit - 1], let s := bench.modPanel 0 fun x => { x with creep := c };
      s.linked ∧ (s.panel 0).mode = .quiet ∧ s.served 0 = none) ∧
    (let s := atStep 5 (some .interlockWait) (freed onWheels 100);
     s.linked ∧ (s.panel 0).mode = .quiet ∧ min 255 ((s.panel 0).creep + 1) < s.params.tuning.creepLimit) ∧
    (let s := bench.modPanel 0 fun x => { x with wheelArmed := false };
     (s.panel 0).wheelArmed = false ∧ 1 < 2) ∧ ∃ s : State, s.configured 0 = false :=
  ⟨⟨travelling_linked, by decide +kernel, by decide, by decide +kernel, by decide +kernel, by decide +kernel, by decide +kernel,
      1850, by decide, by decide⟩, by decide +kernel,
    ⟨travelling.modPanel 0 fun x => { x with count := 4095 }, linked_of_check _ (by decide +kernel), by decide +kernel⟩,
    ⟨bench.modPanel 0 fun x => { x with mode := .coasting, lastDir := some .inward, count := -254 },
      linked_of_check _ (by decide +kernel), by decide +kernel⟩,
    ⟨linked_of_check _ (by decide +kernel), by decide +kernel⟩, by decide,
    fun c h => ⟨linked_of_check _ (by simp at h; rcases h with rfl | rfl <;> decide +kernel),
      (by simp at h; rcases h with rfl | rfl <;> decide +kernel)⟩,
    ⟨linked_of_check _ (by decide +kernel), by decide +kernel⟩, by decide +kernel,
    { bench with layout := { bench.layout with hatchCount := 0 } }, by decide +kernel⟩

/-- A RELEASE move of group 1 of panel 1 in which cleat 1 has not confirmed and cleat 2 has. -/
def inMove : State :=
  { bench with now := 4001 }.modPanel 0 fun x => { x with
    cleats := .replicate 12 ⟨.unknown, true, 0, 0⟩
    move := some ⟨0, .release, [0, 1], [1], true, 0, some 3000, 6000, false⟩ }

/-- Order 7 in its first step, UNCLEAT of group 1, RUNNING with its grant; cleat 1 of panel 1 as `c` gives it, cleat 2
RELEASED, and a move in progress as `m` gives it. -/
def cleating (c : Cleat) (m : Option Move) : State :=
  { atStep 1 (some .running) fun x => { x with
      sw := seatedHome, cleats := (Vector.replicate 12 ⟨.released, false, 0, 0⟩).set 0 c, move := m } with
    now := 4001, packA := { runningPack with grants := [⟨0, 2, false⟩] } }

theorem witness_CleatSwitchesAreTaken :
    (((bench.panel 0).cleats[(0 : CleatNo)]).made ≠ true ∧ bench.cleatConfigured 0 3 = false) ∧
    (bench.cleatConfigured 0 2 = true ∧ (∃ s : State, s.cleatConfigured 0 2 = true ∧ s.unit = .start .powerOn) ∧
      ∃ s : State, s.cleatConfigured 0 2 = true ∧ s.unit = .start (.restart true)) ∧
    (bench.inStart = false ∧ bench.jog = none ∧ bench.served 0 = none ∧ (bench.panel 0).move = none ∧
      ((bench.panel 0).cleats[(0 : CleatNo)]).state = .released) ∧
    (∃ m, inMove.served 0 = none ∧ (inMove.panel 0).move = some m ∧ 0 ∈ m.participants ∧ 0 ∉ m.confirmed ∧
      false = m.dir.level ∧ inMove.params.tuning.sluggish < inMove.now - m.start ∧ 1 ∈ m.participants ∧ 1 ∈ m.confirmed ∧
      (∀ l ∈ m.participants, l = 0 ∨ l ∈ m.confirmed)) ∧
    (travelling.linked ∧ travelling.served 0 = some (0, travelOrder, .travel) ∧ travelOrder.phase = some .running ∧
      (travelling.panel 0).move = none ∧ ((travelling.panel 0).cleats[(0 : CleatNo)]).state = .released ∧
      ((travelling.panel 0).cleats[(0 : CleatNo)]).made ≠ true ∧ travelling.cleatConfigured 0 0 = true) ∧
    (let s := cleating ⟨.engaged, true, 0, 0⟩ (some ⟨0, .release, [0], [], true, 0, some 3000, 6000, false⟩);
      s.served 0 = some (0, stepOrder 1 (some .running), CleatDir.release.step 0) ∧ s.inStart = false ∧ s.jog = none ∧
        s.cleatConfigured 0 0 = true) ∧
    (∀ c ∈ [(⟨.released, false, 0, 0⟩ : Cleat), ⟨.unknown, false, 0, 0⟩, ⟨.engaged, true, 0, 0⟩], let s := cleating c none;
      let k := CleatDir.release.step 0
      s.served 0 = some (0, stepOrder 1 (some .running), k) ∧ s.flowLaws ∧ (s.panel 0).move = none ∧
        (s.stepDone 0 (stepOrder 1 (some .running)) k ↔ c.state = .released) ∧
        (s.atLevel 0 0 .release = s.participants 0 0 ↔ c.made = false)) :=
  ⟨by decide +kernel, ⟨by decide +kernel, ⟨{ bench with unit := .start .powerOn }, by decide +kernel⟩,
      ⟨{ bench with unit := .start (.restart true) }, by decide +kernel⟩⟩, by decide +kernel,
    ⟨_, by decide +kernel, rfl, by decide +kernel⟩, ⟨travelling_linked, by decide +kernel⟩, by decide +kernel,
    fun c h => by
      simp only [stepDone_iff]
      simp at h
      rcases h with rfl | rfl | rfl <;>
        exact ⟨by decide +kernel, flowLaws_of_check _ (by decide +kernel), by decide +kernel⟩⟩

/-- Panel 1 at rest at count `c` after a travel to 2000 of stop kind COUNT, its braking window about to end. -/
def resting (c : Int) (w : Switches) : State :=
  atStep 5 (some .braking) fun x => { freed w c x with
    mode := .coasting, lastDir := some .outward, activity := .braking, brakeTimer := some 1000, purpose := some .complete
    plan := some { travelPlan with stop := .count, stopAt := some 1988, overAt := none } }

theorem witness_TimersRunOut :
    (∃ s : State, (s.panel 0).brakeTimer = some 1000 ∧ s.served 0 = none) ∧ (∃ s : State, (s.panel 0).creepQuiet = some 1000) ∧
    (∃ m, (inMove.panel 0).move = some m ∧ m.dwell = some 3000 ∧ m.byJog = false ∧ inMove.jog = none) ∧
    ((bench.panel 0).brakeTimer = none ∧ (bench.panel 0).creepQuiet = none ∧ (bench.panel 0).move = none ∧
      (bench.panel 0).stepTimer = none ∧ ∀ d, (bench.panel 0).stall ≠ .running d) ∧
    (∃ s : State, (s.panel 0).brakeTimer = some 1000 ∧
      s.served 0 = some (0, stepOrder 5 (some .interlockWait), .travel)) ∧
    (∀ w, ∃ s : State, (s.panel 0).brakeTimer = some 1000 ∧ (s.panel 0).purpose = some w ∧
      s.served 0 = some (0, stepOrder 5 (some .braking), .travel)) ∧
    (let s := resting 2000 seatedHome;
     s.linked ∧ (s.panel 0).purpose = some .complete ∧ s.served 0 = some (0, stepOrder 5 (some .braking), .travel) ∧
       ¬ s.stepAllowed 0 (stepOrder 5 (some .braking)) .travel) ∧
    (∀ c ∈ [(2008 : Int), 2009], let s := resting c onWheels;
     s.flowLaws ∧ (s.panel 0).brakeTimer = some 1000 ∧ (s.panel 0).purpose = some .complete ∧
       s.served 0 = some (0, stepOrder 5 (some .braking), .travel) ∧
       s.stepAllowed 0 (stepOrder 5 (some .braking)) .travel ∧
       (|(s.panel 0).count - 2000| ≤ s.params.tuning.positionTolerance ↔ c = 2008)) ∧
    (∀ n ∈ [5, 6], (atStep n none id).linked ∧
      (atStep n none id).served 0 = some (0, stepOrder n none, if n = 5 then .travel else .lockStow) ∧
      ((stepOrder n none).step < (stepList (stepOrder n none).kind).length ↔ n = 5)) ∧
    (let o := { stepOrder 5 none with hold := some .travel };
     (withLive bench o).linked ∧ (withLive bench o).served 0 = some (0, o, .travel) ∧ o.hold = some .travel) ∧
    (chained.slot 1 = some waitingOrder ∧ waitingOrder.pred = some 7 ∧ waitingOrder.state = .pending ∧
      chained.unit ≠ .service ∧ chained.loopOpen = false ∧ chained.supplyLow = false) ∧
    (∃ (s : State) (q : Order), s.slot 1 = some q ∧ q.pred = some 7 ∧ q.state.isPaused = true ∧
      q.pausedFrom = some .pending) ∧
    (chained.slot 2 = none ∧ waitingOrder.waitsOn 8 = false) :=
  ⟨⟨bench.modPanel 0 fun x => { x with brakeTimer := some 1000 }, by decide +kernel⟩,
    ⟨bench.modPanel 0 fun x => { x with creepQuiet := some 1000 }, by decide +kernel⟩,
    ⟨_, rfl, by decide +kernel⟩, ⟨by decide +kernel, by decide +kernel, by decide +kernel, by decide +kernel, fun d h => by
      have : (bench.panel 0).stall = .stopped := by decide +kernel
      rw [this] at h; cases h⟩,
    ⟨atStep 5 (some .interlockWait) fun x => { x with brakeTimer := some 1000 }, by decide +kernel⟩,
    fun w => ⟨atStep 5 (some .braking) fun x => { x with brakeTimer := some 1000, purpose := some w },
      by cases w <;> decide +kernel⟩,
    ⟨linked_of_check _ (by decide +kernel), by decide +kernel, by decide +kernel, by rw [stepAllowed_iff]; decide +kernel⟩,
    fun c h => ⟨flowLaws_of_check _ (by simp at h; rcases h with rfl | rfl <;> decide +kernel), by
      rw [stepAllowed_iff]; simp at h; rcases h with rfl | rfl <;> decide +kernel⟩,
    fun n h => ⟨linked_of_check _ (by simp at h; rcases h with rfl | rfl <;> decide +kernel),
      by simp at h; rcases h with rfl | rfl <;> decide +kernel⟩,
    ⟨linked_of_check _ (by decide +kernel), by decide +kernel⟩, by decide +kernel,
    ⟨bench.setSlot 1 (some { waitingOrder with state := .paused .estop, pausedFrom := some .pending }), _, rfl, rfl, rfl, rfl⟩,
    by decide +kernel⟩

theorem witness_TimeoutsRaiseTheirFaults :
    (travelling.linked ∧ travelling.configured 0 = true ∧ (travelling.panel 0).stall = .running 2000 ∧
      .travelStall ∉ (travelling.panel 0).faults ∧ (travelling.panel 0).mode = .driven ∧
      travelling.slot 0 = some travelOrder ∧ (travelling.panel 0).live = some travelOrder.id ∧ travelling.inStart = false) ∧
    (locking.linked ∧ locking.configured 0 = true ∧ (locking.panel 0).stepTimer = some 5000 ∧
      (locking.panel 0).activity = .stowMove .lock ∧ .stowTimeout ∉ (locking.panel 0).faults) ∧
    (∀ a ∈ [Activity.lift, .lower], ∃ s : State, s.linked ∧ s.configured 0 = true ∧ (s.panel 0).stepTimer = some 5000 ∧
      (s.panel 0).activity = a ∧ (s.panel 0).faults = []) ∧
    ∃ m, inMove.linked ∧ (inMove.panel 0).move = some m ∧ .cleatJam ∉ (inMove.panel 0).faults :=
  ⟨⟨travelling_linked, by decide +kernel⟩, ⟨linked_of_check _ (by decide +kernel), by decide +kernel⟩,
    fun a ha => ⟨locking.modPanel 0 fun x => { x with activity := a },
      linked_of_check _ (by simp at ha; rcases ha with rfl | rfl <;> decide +kernel),
      (by simp at ha; rcases ha with rfl | rfl <;> decide +kernel)⟩,
    ⟨_, linked_of_check _ (by decide +kernel), rfl, by decide +kernel⟩⟩

/-- Order 7 in FLOW_WAIT before its travel, its grant just made on pack A, whose trip stands as `b` says; chop limit `c`. -/
def flowing (b : Bool) (c : Nat) : State :=
  { atStep 5 (some .flowWait) (freed onWheels 100) with
    packA := { runningPack with grants := [⟨0, 4, false⟩], trip := b }
    params := { bench.params with tuning := { bench.params.tuning with chopLimit := c } } }

theorem witness_GrantsFollowTheRanking :
    (let ws : List Waiter := [⟨1, 2, .rain, 8⟩, ⟨2, 2, .normal, 17⟩]
     ws.Pairwise (fun a b => a.cls = .rain ∧ b.cls = .normal ∨ a.cls = b.cls ∧ b.arb < a.arb) ∧
      ∀ v ∈ ws, v.cls ≠ (Waiter.mk 4 2 .rain 1).cls ∨ v.arb ≠ (Waiter.mk 4 2 .rain 1).arb) ∧
    (let s := atStep 5 none fun x => { x with activity := .braking };
     s.linked ∧ s.flowLaws ∧ s.served 0 = some (0, stepOrder 5 none, .travel) ∧ (s.panel 0).activity = .braking) ∧
    (∀ c ∈ [(1992 : Int), 1991], let s := atStep 5 none (freed { onWheels with openEnd := true } c);
     s.linked ∧ s.flowLaws ∧ s.served 0 = some (0, stepOrder 5 none, .travel) ∧ (stepOrder 5 none).target = some 2000 ∧
       s.openCount 0 = 2000 ∧ (s.panel 0).sw.openEnd = true ∧
       (|(s.panel 0).count - 2000| ≤ s.params.tuning.referenceTolerance ↔ c = 1992)) ∧
    (∀ c ∈ [(1992 : Int), 1991], let s := atStep 5 none (freed onWheels c);
     s.linked ∧ s.flowLaws ∧ s.served 0 = some (0, stepOrder 5 none, .travel) ∧ (s.panel 0).sw.openEnd = false ∧
       (s.stepDone 0 (stepOrder 5 none) .travel ↔ c = 1992) ∧ s.stepAllowed 0 (stepOrder 5 none) .travel) ∧
    (let s := atStep 5 none (freed seatedHome 100);
     s.linked ∧ s.flowLaws ∧ s.served 0 = some (0, stepOrder 5 none, .travel) ∧
       ¬ s.stepDone 0 (stepOrder 5 none) .travel ∧ ¬ s.stepAllowed 0 (stepOrder 5 none) .travel) ∧
    (∀ b, let s := { atStep 5 none (freed onWheels 100) with windSet := b };
     s.linked ∧ s.flowLaws ∧ s.served 0 = some (0, stepOrder 5 none, .travel) ∧ s.flow 0 = .none ∧ s.arbitration 0 ≠ 0 ∧
       4 ≤ s.capacity (s.listPack 0) ∧ ∃ q, s.heldBy 0 (stepOrder 5 none) .travel q ∧ (q = {} ↔ b = false)) ∧
    (let s := { atStep 5 none (freed onWheels 100) with layout := { bench.layout with arbitration := .replicate 18 0 } };
     s.linked ∧ s.flowLaws ∧ s.served 0 = some (0, stepOrder 5 none, .travel) ∧ s.arbitration 0 = 0) ∧
    (let s := { atStep 5 none (freed onWheels 100) with
       params := { bench.params with tuning := { bench.params.tuning with capacityA := 3 } } };
     s.linked ∧ s.flowLaws ∧ s.served 0 = some (0, stepOrder 5 none, .travel) ∧ s.arbitration 0 ≠ 0 ∧
       s.capacity (s.listPack 0) < 4) ∧
    (∀ k ∈ [(1, StepKind.uncleat 0), (4, .lift), (6, .lockStow)], ∃ s : State, s.linked ∧ s.flowLaws ∧
      s.served 0 = some (0, stepOrder k.1 (some .flowWait), k.2) ∧ (s.grantPack 0).isSome = true ∧
      ¬ s.stepDone 0 (stepOrder k.1 (some .flowWait)) k.2 ∧ s.stepAllowed 0 (stepOrder k.1 (some .flowWait)) k.2 ∧
      s.heldBy 0 (stepOrder k.1 (some .flowWait)) k.2 {}) ∧
    (locking.linked ∧ locking.flowLaws ∧ locking.served 0 = some (0, { travelOrder with step := 6 }, .lockStow) ∧
      ¬ locking.stepDone 0 { travelOrder with step := 6 } .lockStow ∧
      (locking.modPanel 0 fun x => { x with sw := { onWheels with stowLocked := true } }).stepDone 0
        { travelOrder with step := 6 } .lockStow) ∧
    (let s := granted.modPanel 0 fun x => { x with sw := { onWheels with lifted1 := false } };
     s.linked ∧ s.flowLaws ∧ s.served 0 = some (0, travelOrder, .travel) ∧ ¬ s.stepAllowed 0 travelOrder .travel) ∧
    (∀ b, ∀ c ∈ [1, 2], let s := flowing b c; let o := stepOrder 5 (some .flowWait);
     s.linked ∧ s.flowLaws ∧ s.served 0 = some (0, o, .travel) ∧ s.flow 0 = .granted .a 4 ∧ (s.panel 0).faults = [] ∧
       (s.pack (s.travelPack 0)).trip = b ∧ s.params.tuning.chopLimit = c ∧ (s.panel 0).activity ≠ .braking ∧
       (s.panel 0).sw.openEnd = false ∧ ¬ s.stepDone 0 o .travel ∧ s.stepAllowed 0 o .travel ∧
       s.heldBy 0 o .travel {}) := by
  refine ⟨by decide, ⟨linked_of_check _ ?_, flowLaws_of_check _ ?_, ?_⟩,
    fun c h => ⟨linked_of_check _ ?_, flowLaws_of_check _ ?_, ?_⟩,
    fun c h => ⟨linked_of_check _ ?_, flowLaws_of_check _ ?_, ?_⟩,
    ⟨linked_of_check _ ?_, flowLaws_of_check _ ?_, ?_⟩,
    fun b => ⟨linked_of_check _ ?_, flowLaws_of_check _ ?_, ?_, ?_, ?_, ?_, _, heldBy_iff.2 rfl, ?_⟩,
    ⟨linked_of_check _ ?_, flowLaws_of_check _ ?_, ?_⟩, ⟨linked_of_check _ ?_, flowLaws_of_check _ ?_, ?_⟩, ?kinds,
    ⟨linked_of_check _ ?_, flowLaws_of_check _ ?_, ?_⟩, ⟨linked_of_check _ ?_, flowLaws_of_check _ ?_, ?_⟩, ?chop⟩
  case chop =>
    intro b c h
    simp only [stepDone_iff, stepAllowed_iff, heldBy_iff]
    simp at h
    rcases h with rfl | rfl <;> cases b <;>
      exact ⟨linked_of_check _ (by decide +kernel), flowLaws_of_check _ (by decide +kernel), by decide +kernel⟩
  case kinds =>
    intro k h
    refine ⟨{ atStep k.1 (some .flowWait) fun x => { freed (if k.1 = 6 then onWheels else seatedHome) 0 x with
        cleats := .replicate 12 ⟨if k.1 = 1 then .engaged else .released, k.1 == 1, 0, 0⟩ } with
        packA := { runningPack with grants := [⟨0, k.2.demand, false⟩] } }, linked_of_check _ ?_, flowLaws_of_check _ ?_, ?_⟩
    all_goals
      try simp only [stepDone_iff, stepAllowed_iff, heldBy_iff]
      simp at h; rcases h with rfl | rfl | rfl <;> decide +kernel
  all_goals first
    | decide +kernel
    | (cases b <;> decide +kernel)
    | (simp only [stepDone_iff, stepAllowed_iff]; decide +kernel)
    | (try simp only [stepDone_iff, stepAllowed_iff]
       simp at h; rcases h with rfl | rfl <;> decide +kernel)

/-- Panel 1 UNCERTAIN; a travel of it at count 1849 to 1999, of stop kind COUNT, and to 2000, of stop kind SWITCH; 150 is
slow throughout, 151 is not. -/
theorem witness_PlansAreCompensated : bench.layout.listSource ≠ 1 ∧ (∃ s : State, s.layout.listSource = 1) ∧
    (bench.panel 0).certain = false ∧ (travelling.panel 0).certain = true ∧ travelling.openCount 0 = 2000 ∧
    ((travelling.planFor 0 1999).stop = .count ∧ (travelling.planFor 0 1999).fast = false) ∧
    ((travelling.planFor 0 2000).stop = .switch ∧ (travelling.planFor 0 2000).fast = true) :=
  ⟨by decide +kernel, ⟨{ bench with layout := { bench.layout with listSource := 1 } }, rfl⟩, by decide +kernel⟩

/-- A set whose every parameter has its default lies within the ranges. -/
theorem default_in_range : ParamSet.default.inRange := by
  intro i
  cases i <;> first
    | exact ⟨by decide, by decide⟩
    | (rename_i a; revert a; decide +kernel)
    | (rename_i a b; revert a b; decide +kernel)

theorem granted_obeys : granted.coilsObey := by
  have run : granted.stepRuns 0 .travel := ⟨0, travelOrder, by decide +kernel, rfl⟩
  have off : ∀ p : PanelNo, p ≠ 0 → (granted.panel p).coils = {} ∧ (granted.panel p).mode = .quiet := by decide +kernel
  have drive : ∀ p, (granted.panel p).driving → p = 0 := fun p d => by
    by_contra h
    simp [Panel.driving, off p h] at d
  have up : ∀ p, (granted.panel p).coils.liftUp = false ∧ (granted.panel p).coils.liftDown = false ∧
      ∀ g, (granted.panel p).coils.get (.cleatEng g) = false := by decide +kernel
  refine ⟨fun p => ⟨fun h => ?_, fun h => ?_, fun h => ?_, fun g h => ?_⟩,
    fun p => ⟨fun h => ?_, fun h => ?_, fun g h => ?_⟩, fun p => ⟨fun h => ?_, fun h => ?_⟩⟩
  · simp [up p] at h
  · simp [up p] at h
  · cases drive p h; exact ⟨by decide +kernel, .inl run⟩
  · simp [up p] at h
  · rcases h with h | h
    · simp [up p] at h
    · cases drive p h; rw [uncleated_iff]; decide +kernel
  · cases drive p h; decide +kernel
  · simp [up p] at h
  · simp [up p] at h
  · simp [up p] at h

theorem witness_CoilsStayOffWithoutEnable :
    (∃ t, ({ bench with pending := [.jogTimeExpiry] } : State).coilsFollowEnable ∧
      step { bench with pending := [.jogTimeExpiry] } = .next t) ∧
    ∃ t, (granted.linked ∧ granted.faultedStand ∧ granted.coilsFollowEnable ∧ granted.coilsObey) ∧ step granted = .next t :=
  ⟨⟨_, ⟨by decide +kernel, by decide +kernel⟩, rfl⟩, _,
    ⟨linked_of_check _ (by decide +kernel), granted_faulted_stand, ⟨by decide +kernel, by decide +kernel⟩, granted_obeys⟩, rfl⟩

theorem witness_RangesAreKept : ∃ s t : State, (s.paramsInRange ∧ s.countsInRange) ∧ step s = .next t :=
  ⟨{ State.reset with pending := [.startEnd true] }, _, ⟨⟨default_in_range, default_in_range, fun ps h => by cases h⟩,
    fun p => ⟨by revert p; decide +kernel, by revert p; decide +kernel, by revert p; decide +kernel, by revert p; decide +kernel,
      fun i h => by
        have : ∀ p, (State.reset.panel p).slip = none := by decide +kernel
        exact absurd h (by simp [show ({ State.reset with pending := [.startEnd true] } : State).panel p = State.reset.panel p from rfl, this]),
      by revert p; decide +kernel⟩, by decide +kernel⟩, rfl⟩

theorem witness_TablesStayLinked :
    (∃ t, (granted.linked ∧ granted.faultedStand ∧ granted.flowLaws) ∧ step granted = .next t) ∧
    ∃ t, (attended.linked ∧ attended.faultedStand ∧ attended.watchLaws ∧ attended.attends 2) ∧ step attended = .next t :=
  ⟨⟨_, ⟨linked_of_check _ (by decide +kernel), granted_faulted_stand, flowLaws_of_check _ (by decide +kernel)⟩, rfl⟩,
    _, ⟨linked_of_check _ (by decide +kernel), faultedStand_of_check _ (by decide +kernel),
      ⟨fun n => by rw [attends_iff]; revert n; decide +kernel, fun i o h _ _ => by
        have e : ∀ i, attended.slot i =
            if i = 0 then some { travelOrder with issuer := 2, state := .atHold, phase := none } else none := by
          decide +kernel
        rw [e i] at h
        split at h
        · cases h; decide +kernel
        · cases h⟩, by rw [attends_iff]; decide +kernel⟩, rfl⟩

end Sys2Proof.Tests
end

section
/-! What the latch requests READ_EVENTS and CLEAR_EVENTS answer and change (R172, R173), on top of three layers: a
set of kinds as a bitmap, the owner's answer as the outcome of a request, and which latches a power-on and a restart leave. -/

namespace Sys2Proof.Machine

/-! ### A set of kinds in two bytes (R175) -/

/-- Bit `i` of the bitmap stands for the kind at place `i` of the code list. -/
theorem testBit_bitmap {α : Type} [BEq α] (all xs : List α) (i : Nat) :
    (bitmap all xs).testBit i = all[i]?.any xs.contains := by
  induction all generalizing i with
  | nil => simp [bitmap]
  | cons k all ih =>
    cases i with
    | zero => cases h : xs.contains k <;> simp [bitmap, bit, h, Nat.testBit_zero]
    | succ i =>
      have hdiv : bitmap (k :: all) xs / 2 = bitmap all xs := by
        simp only [bitmap, bit]; split <;> omega
      rw [Nat.testBit_succ, hdiv, ih, List.getElem?_cons_succ]

/-- The low and the high byte of a quantity of two bytes. -/
theorem bytes2_eq_extractLsb' (n : Nat) :
    bytes2 n = [(BitVec.ofNat 16 n).extractLsb' 0 8, (BitVec.ofNat 16 n).extractLsb' 8 8] := by
  have hlow : byteOf n = (BitVec.ofNat 16 n).extractLsb' 0 8 := by
    apply BitVec.eq_of_toNat_eq
    simp only [byteOf, BitVec.toNat_ofNat, BitVec.extractLsb'_toNat, Nat.shiftRight_zero]
    omega
  have hhigh : byteOf (n / 256) = (BitVec.ofNat 16 n).extractLsb' 8 8 := by
    apply BitVec.eq_of_toNat_eq
    simp only [byteOf, BitVec.toNat_ofNat, BitVec.extractLsb'_toNat, Nat.shiftRight_eq_div_pow]
    omega
  rw [bytes2, hlow, hhigh]

/-! ### The latches in their code order -/

/-- The code list holds each latch at the place before its code. -/
theorem allLatches_getElem?_code (e : EventLatch) : allLatches[e.code - 1]? = some e := by cases e <;> rfl

theorem allLatches_pairwise_code : allLatches.Pairwise fun e f => e.code < f.code := by decide

theorem testBit_latchBitmap (xs : List EventLatch) (e : EventLatch) :
    (bitmap allLatches xs).testBit (e.code - 1) = true ↔ e ∈ xs := by
  simp [testBit_bitmap, allLatches_getElem?_code]

theorem testBit_latchBitmap_of_le (xs : List EventLatch) {i : Nat} (h : 14 ≤ i) :
    (bitmap allLatches xs).testBit i = false := by
  have hnone : allLatches[i]? = none := List.getElem?_eq_none h
  simp [testBit_bitmap, hnone]

/-- The first latch found in the code order has the smallest code of those sought. -/
theorem code_le_of_find_allLatches {q : EventLatch → Bool} {e f : EventLatch} (he : allLatches.find? q = some e)
    (hf : q f = true) : e.code ≤ f.code := by
  obtain ⟨-, before, after, hsplit, hbefore⟩ := List.find?_eq_some_iff_append.mp he
  have hlater : ∀ g ∈ after, e.code < g.code := by
    have hsuffix : (e :: after).Pairwise fun e f => e.code < f.code :=
      allLatches_pairwise_code.sublist (hsplit ▸ List.sublist_append_right before _)
    exact (List.pairwise_cons.mp hsuffix).1
  have hmem : f ∈ before ++ e :: after := hsplit ▸ mem_allLatches f
  rcases List.mem_append.mp hmem with hf' | hf'
  · exact absurd hf (by simpa using hbefore f hf')
  · rcases List.mem_cons.mp hf' with rfl | hf'
    · exact le_rfl
    · exact (hlater f hf').le

theorem highestLatch_of_empty {s : State} (h : s.latches = []) : s.highestLatch = 0 := by
  have hnone : (allLatches.find? fun e => s.latches.contains e) = none := by simp [h]
  rw [State.highestLatch, hnone]

theorem highestLatch_of_ne_nil {s : State} (h : s.latches ≠ []) :
    ∃ e ∈ s.latches, s.highestLatch = e.code ∧ ∀ f ∈ s.latches, e.code ≤ f.code := by
  obtain ⟨g, hg⟩ := List.exists_mem_of_ne_nil _ h
  have hfound : (allLatches.find? fun e => s.latches.contains e).isSome :=
    List.find?_isSome.mpr ⟨g, mem_allLatches g, by simpa using hg⟩
  obtain ⟨e, he⟩ := Option.isSome_iff_exists.mp hfound
  exact ⟨e, by simpa using List.find?_some he, by rw [State.highestLatch, he],
    fun f hf => code_le_of_find_allLatches he (by simpa using hf)⟩

/-! ### A request that passes the link (R176, R177) -/

theorem request_of_ready {s : State} {n : StationNo} (h : s.ready n) (tag : Byte) (owner : State → Answer) :
    request n tag owner s = .next (s.handOver n tag owner) := by
  obtain ⟨hbus, hkind, hstart, hfree⟩ := h
  have hknown : (s.stationKind n).isNone = false := by simpa using hkind
  simp [request, State.takeRequest, hbus, hknown, hstart, hfree]

/-- The answer of an owner that neither defers its outcome nor restarts the unit is queued at once. -/
theorem request_eq_replied {s t : State} {n : StationNo} {tag : Byte} {owner : State → Answer} {c : ReplyCode}
    {bytes : List Byte} (h : s.ready n) (ha : owner (s.taken n) = { st := t, code := c, bytes := bytes }) :
    request n tag owner s = .next (t.replied n tag c bytes) := by
  have hanswer : owner (s.modStation n fun x => { x with occupied := true }) = _ := ha
  rw [request_of_ready h, State.handOver, hanswer]
  rfl

@[simp] theorem taken_latches (s : State) (n : StationNo) : (s.taken n).latches = s.latches := rfl

@[simp] theorem taken_highestLatch (s : State) (n : StationNo) : (s.taken n).highestLatch = s.highestLatch := rfl

@[simp] theorem taken_isKind (s : State) (n m : StationNo) (ks : List StationKind) :
    (s.taken n).isKind m ks = s.isKind m ks := rfl

@[simp] theorem replied_latches (s : State) (n : StationNo) (tag : Byte) (c : ReplyCode) (bytes : List Byte) :
    (s.replied n tag c bytes).latches = s.latches := rfl

/-! ### READ_EVENTS -/

theorem exec_readEvents_of_ready {s : State} {n : StationNo} (h : s.ready n) (tag : Byte) :
    exec (.readEvents n tag) s =
      .next (s.answered n tag .data (byteOf s.highestLatch :: bytes2 (bitmap allLatches s.latches))) :=
  request_eq_replied h rfl

/-- Settles O14: the reply is that of the owner, whose first byte is the first latch found in the code order and whose
other two are the bitmap. -/
theorem readEventsGivesTheHighest : Obligations.ReadEventsGivesTheHighest := by
  intro s n tag h
  refine ⟨s.highestLatch, BitVec.ofNat 16 (bitmap allLatches s.latches), ?_, highestLatch_of_empty,
    highestLatch_of_ne_nil, fun e => ?_, ?_, ?_⟩
  · rw [exec_readEvents_of_ready h, bytes2_eq_extractLsb']
  · have hcode : e.code - 1 < 16 := by cases e <;> decide
    rw [BitVec.getLsbD_ofNat, decide_eq_true hcode, Bool.true_and, testBit_latchBitmap]
  · rw [BitVec.getLsbD_ofNat, testBit_latchBitmap_of_le _ le_rfl, Bool.and_false]
  · rw [BitVec.getLsbD_ofNat, testBit_latchBitmap_of_le _ (by decide), Bool.and_false]

/-! ### CLEAR_EVENTS -/

@[simp] theorem mem_latchesLeft {codes : Half} {xs : List EventLatch} {e : EventLatch} :
    e ∈ latchesLeft codes xs ↔ e ∈ xs ∧ codes.getLsbD (e.code - 1) = false := by
  simp [latchesLeft]

@[simp] theorem latchesLeft_zero (xs : List EventLatch) : latchesLeft 0 xs = xs := by
  simp [latchesLeft]

theorem ownerClearEvents_of_outside {codes : Half} (h : codes.getLsbD 14 = true ∨ codes.getLsbD 15 = true)
    (n : StationNo) (s : State) : ownerClearEvents n codes s = refuse s .badArgument := by
  unfold ownerClearEvents
  rw [if_pos (by simpa using h)]

section
variable {codes : Half} (h14 : codes.getLsbD 14 = false) (h15 : codes.getLsbD 15 = false) {n : StationNo} {s : State}
include h14 h15

theorem ownerClearEvents_of_not_kind (h : s.isKind n [.bridge, .cargoControl, .pendant, .shore] = false) :
    ownerClearEvents n codes s = refuse s .notAuthorised := by
  simp only [ownerClearEvents, h14, h15, h, Bool.or_self, Bool.false_eq_true, if_false, Bool.not_false, if_true]

theorem ownerClearEvents_of_kind (h : s.isKind n [.bridge, .cargoControl, .pendant, .shore] = true) :
    ownerClearEvents n codes s = accept { s with latches := latchesLeft codes s.latches } false
      (bytes2 (bitmap allLatches (latchesLeft codes s.latches))) := by
  simp only [ownerClearEvents, h14, h15, h, Bool.or_self, Bool.false_eq_true, if_false, Bool.not_true]

end

/-! ### ATTN -/

theorem attn_iff {s : State} : s.attn = true ↔ s.latches ≠ [] := by simp [State.attn]

theorem attn_of_mem {s : State} {e : EventLatch} (h : e ∈ s.latches) : s.attn = true :=
  attn_iff.mpr (List.ne_nil_of_mem h)

theorem powerUp_mem_powerOn (s : State) : .powerUp ∈ s.powerOn.latches := List.mem_singleton.mpr rfl

/-- RESTARTED has a code below 4, so that START does not keep it from being set (R171). -/
theorem restarted_mem_restart (s : State) : .restarted ∈ s.restart.latches := by
  unfold State.restart
  exact (setLatch_mem _ _ _).mpr (.inr ⟨rfl, by simp [EventLatch.code]⟩)

theorem exec_replyTransmitted_restarts {s : State} {r : Reply} {rs : List Reply} (hq : s.txQueue = r :: rs)
    (hr : r.restarts = true) : ∃ u : State, exec .replyTransmitted s = .next u.restart := by
  change ∃ u : State, execReplyTransmitted s = .next u.restart
  simp only [execReplyTransmitted, hq, hr, if_true]
  exact ⟨_, rfl⟩

/-- Settles O15: the refusals and the clear are the branches of the owner's answer; ATTN follows from the latch that the
power-on and the restart set. -/
theorem clearEventsClearsWhatItNames : Obligations.ClearEventsClearsWhatItNames := by
  refine ⟨fun s n tag codes h => ⟨fun hout => ?_, fun h14 h15 => ⟨fun hkind => ?_, fun hkind => ?_⟩⟩,
    fun s => ⟨attn_iff, ?_, fun r rs hq hr => ?_⟩⟩
  · exact request_eq_replied h (ownerClearEvents_of_outside hout n _)
  · exact request_eq_replied h (ownerClearEvents_of_not_kind h14 h15 hkind)
  · refine ⟨_, request_eq_replied h (ownerClearEvents_of_kind h14 h15 hkind), fun e => ?_, fun hzero => ?_, rfl⟩
    · exact mem_latchesLeft
    · subst hzero; exact latchesLeft_zero s.latches
  · exact ⟨s.powerOn, rfl, attn_of_mem (powerUp_mem_powerOn s), powerUp_mem_powerOn s⟩
  · obtain ⟨u, hu⟩ := exec_replyTransmitted_restarts hq hr
    exact ⟨u.restart, hu, attn_of_mem (restarted_mem_restart u), restarted_mem_restart u⟩

end Sys2Proof.Machine
end

section
/-! The queue of commands. -/

namespace Sys2Proof.Machine

/-- Settles O1: by the two cases of the queue. -/
theorem stepTakesTheFront : Obligations.StepTakesTheFront := by
  intro s
  exact ⟨fun c cs h => by simp [step, h], fun h => by simp [step, h, State.tick]⟩

end Sys2Proof.Machine
end

section
/-! What one command's work is made of. Every operation that a block carries out, and every piece of work on the agenda, is a
run of a few kinds of changes (`Change`), each with what it may touch; what holds of each kind then holds of all the work that
follows a command. A `Leave` says what a command may do besides: which panels' orders it may end, pause or resume itself, and at
which panels coils may be energised and hold-offs begun. -/

namespace Sys2Proof.Machine

/-! ### What a change of a record keeps -/

/-- A hold-off is part of a running travel, and a running travel has no braking window (R11, R107). -/
def Panel.timersAgree (x : Panel) : Prop :=
  (x.holdoff.isSome = true → x.mode = .driven) ∧ (x.mode = .driven → x.brakeTimer = none)

/-- What every change of a panel's record by the work of a command keeps; `top` is the panel's open count. -/
structure Panel.Kept (top : Int) (x y : Panel) : Prop where
  lasting : y.lasting = x.lasting
  live : y.live = x.live
  faults : y.faults = x.faults
  warnings : ∀ w ∈ x.warnings, w ∈ y.warnings
  range : 0 ≤ top → top ≤ 4095 → x.inRange → y.inRange

/-- A change that energises nothing and starts no travel and no cleat move. -/
structure Panel.Quieter (top : Int) (x y : Panel) : Prop extends Panel.Kept top x y where
  coils : ∀ c, y.coils.get c = true → x.coils.get c = true
  mode : y.mode = .driven → x.mode = .driven
  timers : x.timersAgree → y.timersAgree
  move : x.move = none → y.move = none

/-- The order waits on its predecessor, or was paused while it did. -/
def Order.waiting (o : Order) : Bool := o.state == .pending || (o.state.live && o.pausedFrom == some .pending)

/-- An ACTIVE order is moved on by its sequencer: to a later step, a hold, its end or a failure. -/
def Order.Advances (o o' : Order) : Prop :=
  o.state = .active ∧ o.step ≤ o'.step ∧ (o'.pausedFrom = o.pausedFrom ∨ o'.pausedFrom = none) ∧
    (o'.state = .active ∨ o'.state = .atHold ∨ o'.state = .done ∨ ∃ r, o'.state = .failed r)

/-- A waiting order is released, admitted, or cancelled with its predecessor. -/
def Order.Released (o o' : Order) : Prop :=
  o.waiting = true ∧ (o'.state = o.state ∨ o'.state = .cancelled .predecessor ∨ o.state = .pending)

/-- How a live order may change: by the command itself, if it is on a panel of `F`, by its sequencer, or by its release. -/
structure Order.Moves (F : PanelNo → Prop) (o o' : Order) : Prop where
  lasting : o'.lasting = o.lasting
  live : o.state.live = true
  pred : o'.pred = o.pred ∨ o'.pred = none
  consistent : o.consistent → o'.consistent
  how : F o.panel ∨ o.Advances o' ∨ o.Released o'

/-- The panel serves an order no more (R8, R86). -/
def Panel.unassigned (x : Panel) : Panel := { x with live := none, purpose := none, plan := none }

/-- What a command may do. -/
structure Leave where
  /-- The panels whose orders the command itself may end, pause or resume. -/
  orders : PanelNo → Prop
  /-- The panels at which coils may be energised. -/
  drives : State → PanelNo → Prop
  /-- The panels at which a hold-off may begin. -/
  holds : State → PanelNo → Prop
  /-- A panel fault may be recorded, apart from the raise as a whole. -/
  faults : Prop

/-- One change that the work of a command makes. -/
inductive Change (L : Leave) : State → State → Prop where
  | quiet {s : State} (p : PanelNo) (f : Panel → Panel) (h : (s.panel p).Quieter (s.openCount p) (f (s.panel p))) :
      Change L s (s.modPanel p f)
  | drive {s : State} (p : PanelNo) (f : Panel → Panel) (hd : L.drives s p)
      (h : (s.panel p).Kept (s.openCount p) (f (s.panel p)))
      (hc : s.enabled = false → ∀ c, (f (s.panel p)).coils.get c = true → (s.panel p).coils.get c = true)
      (ht : (s.panel p).timersAgree → (f (s.panel p)).timersAgree) : Change L s (s.modPanel p f)
  | hold {s : State} (p : PanelNo) (d : Nat) (h : L.holds s p) : Change L s (s.modPanel p fun x => { x with holdoff := some d })
  | fault {s : State} (p : PanelNo) (k : PanelFault) (h : L.faults) :
      Change L s (s.modPanel p fun x => { x with faults := joinSet allPanelFaults k x.faults })
  | touch {s : State} (i : SlotNo) (o : Order) (f : Order → Order) (hi : s.slot i = some o) (h : o.Moves L.orders (f o))
      (hs : (f o).state = o.state) : Change L s (s.modOrder i f)
  | update {s : State} (i : SlotNo) (o : Order) (f : Order → Order) (hi : s.slot i = some o) (h : o.Moves L.orders (f o))
      (hl : (f o).state.live = true) (hw : (f o).state.working = true → o.state.working = true ∨ s.admissionState = .active) :
      Change L s (s.updateOrder i f)
  | finish {s : State} (i : SlotNo) (o : Order) (f : Order → Order) (hi : s.slot i = some o) (h : o.Moves L.orders (f o))
      (hl : (f o).state.live = false) : Change L s ((s.modPanel o.panel Panel.unassigned).updateOrder i f)
  | pack {s : State} (k : PackId) (f : Pack → Pack) (h : (f (s.pack k)).lasting = (s.pack k).lasting) :
      Change L s (s.modPack k f)
  | latch {s : State} (e : EventLatch) (h : 4 ≤ e.code) : Change L s (s.setLatch e)
  | endJog {s : State} : Change L s { s with jog := none }

/-- What a run of changes leads to. -/
abbrev Changes (L : Leave) : State → State → Prop := Relation.ReflTransGen (Change L)

/-- A hold-off begins in a running travel only. -/
def inTravel : State → PanelNo → Prop := fun s p => (s.panel p).mode = .driven

/-- Nothing is driven, and only the orders of the panels in `F` are ended, paused or resumed. -/
def Leave.calm (F : PanelNo → Prop) : Leave := ⟨F, fun _ _ => False, inTravel, False⟩
/-- The work of the agenda: only a panel whose sequencer serves an order is driven. -/
def Leave.agenda (F : PanelNo → Prop) : Leave := ⟨F, fun s p => (s.served p).isSome = true, inTravel, False⟩
/-- Every change. -/
def Leave.all : Leave := ⟨fun _ => True, fun _ _ => True, fun _ _ => True, True⟩

end Sys2Proof.Machine
end

section
/-! Each operation as a run of changes (`Changes`): first what a served order is after an update, then the operations in the order
of the model's files. -/

namespace Sys2Proof.Machine

/-! ### Runs of changes -/

section
variable {L L' : Leave}

/-- `L'` allows all that `L` allows. -/
structure Leave.Le (L L' : Leave) : Prop where
  orders : ∀ p, L.orders p → L'.orders p
  drives : ∀ s p, L.drives s p → L'.drives s p
  holds : ∀ s p, L.holds s p → L'.holds s p
  faults : L.faults → L'.faults

theorem Order.Moves.mono {F F' : PanelNo → Prop} {o o' : Order} (hF : ∀ p, F p → F' p) (h : o.Moves F o') : o.Moves F' o' :=
  { h with how := h.how.imp_left (hF _) }

theorem Change.mono {s t : State} (hL : L.Le L') (h : Change L s t) : Change L' s t := by
  cases h with
  | quiet p f h => exact .quiet p f h
  | drive p f hd h hc ht => exact .drive p f (hL.drives _ _ hd) h hc ht
  | hold p d h => exact .hold p d (hL.holds _ _ h)
  | fault p k h => exact .fault p k (hL.faults h)
  | touch i o f hi h hs => exact .touch i o f hi (h.mono hL.orders) hs
  | update i o f hi h hl hw => exact .update i o f hi (h.mono hL.orders) hl hw
  | finish i o f hi h hl => exact .finish i o f hi (h.mono hL.orders) hl
  | pack k f h => exact .pack k f h
  | latch e h => exact .latch e h
  | endJog => exact .endJog

theorem Changes.mono {s t : State} (hL : L.Le L') (h : Changes L s t) : Changes L' s t := by
  induction h with
  | refl => exact .refl
  | tail _ hc ih => exact ih.tail (hc.mono hL)

theorem Changes.of_eq {s t : State} (h : s = t) : Changes L s t := h ▸ .refl
end

/-! ### Coils -/

@[simp] theorem Coils.get_off (c : Coil) : Coils.get {} c = false := by
  cases c <;> simp [Coils.get]

theorem Coils.get_put (x : Coils) (b : Bool) (c e : Coil) : (x.put b c).get e = if c = e then b else x.get e := by
  cases c <;> cases e <;> simp [Coils.put, Coils.get] <;> grind

theorem Coils.get_of_put_false {x : Coils} {c e : Coil} (h : (x.put false c).get e = true) : x.get e = true := by
  rw [Coils.get_put] at h; split at h
  · cases h
  · exact h

theorem Coils.get_of_travelOff {x : Coils} {e : Coil} (h : x.travelOff.get e = true) : x.get e = true := by
  cases e <;> simp [Coils.travelOff, Coils.get] at h ⊢ <;> exact h

/-! ### The order a panel serves -/

section
variable {s t : State} {p : PanelNo}

theorem slotOfId_congr (h : t.slots = s.slots) (id : Nat) : t.slotOfId id = s.slotOfId id := by
  simp only [State.slotOfId, State.slot, h]

theorem liveOrder_congr (hl : (t.panel p).live = (s.panel p).live) (hs : t.slots = s.slots) :
    t.liveOrder p = s.liveOrder p := by
  simp only [State.liveOrder, hl, slotOfId_congr hs, State.slot, hs]

theorem served_congr (hl : (t.panel p).live = (s.panel p).live) (hs : t.slots = s.slots) : t.served p = s.served p := by
  simp only [State.served, liveOrder_congr hl hs]

theorem slotOfId_some {id : Nat} {i : SlotNo} (h : s.slotOfId id = some i) : ∃ o, s.slot i = some o ∧ o.id = id := by
  have := List.find?_some h
  cases ho : s.slot i with
  | none => simp [ho] at this
  | some o => exact ⟨o, rfl, by simpa [ho] using this⟩

theorem liveOrder_some {i : SlotNo} {o : Order} (h : s.liveOrder p = some (i, o)) :
    s.slot i = some o ∧ (s.panel p).live = some o.id ∧ s.slotOfId o.id = some i := by
  unfold State.liveOrder at h
  cases hl : (s.panel p).live with
  | none => simp [hl] at h
  | some id =>
    cases hi : s.slotOfId id with
    | none => simp [hl, hi] at h
    | some j =>
      obtain ⟨q, hq, rfl⟩ := slotOfId_some hi
      simp only [hl, hi, hq, Option.map_some, Option.some.injEq, Prod.mk.injEq] at h
      obtain ⟨rfl, rfl⟩ := h
      exact ⟨hq, rfl, hi⟩

theorem liveOrder_of {i : SlotNo} {o : Order} (hl : (s.panel p).live = some o.id) (hi : s.slotOfId o.id = some i)
    (ho : s.slot i = some o) : s.liveOrder p = some (i, o) := by
  simp [State.liveOrder, hl, hi, ho]

theorem served_some {i : SlotNo} {o : Order} {k : StepKind} (h : s.served p = some (i, o, k)) :
    s.liveOrder p = some (i, o) ∧ o.state = .active ∧ (stepList o.kind)[o.step - 1]? = some k := by
  unfold State.served at h
  cases hl : s.liveOrder p with
  | none => simp [hl] at h
  | some io =>
    obtain ⟨j, q⟩ := io
    simp only [hl] at h
    split at h
    · rename_i hact
      cases hk : (stepList q.kind)[q.step - 1]? with
      | none => simp [hk] at h
      | some k' =>
        simp only [hk, Option.map_some, Option.some.injEq, Prod.mk.injEq] at h
        obtain ⟨rfl, rfl, rfl⟩ := h
        exact ⟨rfl, hact, hk⟩
    · cases h

theorem served_of {i : SlotNo} {o : Order} {k : StepKind} (h : s.liveOrder p = some (i, o)) (ha : o.state = .active)
    (hk : (stepList o.kind)[o.step - 1]? = some k) : s.served p = some (i, o, k) := by
  simp [State.served, h, ha, hk]

theorem served_slot {i : SlotNo} {o : Order} {k : StepKind} (h : s.served p = some (i, o, k)) : s.slot i = some o :=
  (liveOrder_some (served_some h).1).1
theorem served_active {i : SlotNo} {o : Order} {k : StepKind} (h : s.served p = some (i, o, k)) : o.state = .active :=
  (served_some h).2.1

theorem served_none_of_live (h : (s.panel p).live = none) : s.served p = none := by
  simp [State.served, State.liveOrder, h]

/-- An update of a slot that keeps the id of its order does not change which slot an id names. -/
theorem slotOfId_setSlot {i : SlotNo} {o o' : Order} (hi : s.slot i = some o) (hid : o'.id = o.id) (id : Nat) :
    (s.setSlot i (some o')).slotOfId id = s.slotOfId id := by
  unfold State.slotOfId
  congr 1
  funext j
  by_cases h : i = j
  · subst h; simp [hi, hid]
  · simp [setSlot_slot_ne _ _ h]

theorem liveOrder_setSlot {i : SlotNo} {o o' : Order} (hi : s.slot i = some o) (hid : o'.id = o.id) :
    (s.setSlot i (some o')).liveOrder p = (s.liveOrder p).map fun x => if x.1 = i then (i, o') else x := by
  unfold State.liveOrder
  rw [setSlot_panel]
  cases (s.panel p).live with
  | none => rfl
  | some id =>
    simp only [slotOfId_setSlot hi hid]
    cases hj : s.slotOfId id with
    | none => rfl
    | some j =>
      by_cases h : j = i
      · subst h; simp [hi]
      · obtain ⟨q, hq, -⟩ := slotOfId_some hj
        simp [setSlot_slot_ne _ _ (Ne.symm h), hq, h]

theorem modOrder_eq {i : SlotNo} {o : Order} (hi : s.slot i = some o) (f : Order → Order) :
    s.modOrder i f = s.setSlot i (some (f o)) := by simp [State.modOrder, hi]

/-- The served order after a change of its record that leaves it at its step. -/
theorem served_modOrder {i : SlotNo} {o : Order} {k : StepKind} {f : Order → Order} (h : s.served p = some (i, o, k))
    (hid : (f o).id = o.id) (hst : (f o).state = o.state) (hkind : (f o).kind = o.kind) (hstep : (f o).step = o.step) :
    (s.modOrder i f).served p = some (i, f o, k) := by
  obtain ⟨hl, ha, hk⟩ := served_some h
  rw [modOrder_eq (served_slot h)]
  refine served_of ?_ (hst.trans ha) (by rw [hkind, hstep, hk])
  rw [liveOrder_setSlot (served_slot h) hid, hl]
  simp

@[simp] theorem served_modPack (k : PackId) (f : Pack → Pack) : (s.modPack k f).served p = s.served p :=
  served_congr (by simp) (by cases k <;> rfl)

theorem served_modPanel {q : PanelNo} {f : Panel → Panel} (h : (f (s.panel q)).live = (s.panel q).live) :
    (s.modPanel q f).served p = s.served p := by
  refine served_congr ?_ rfl
  by_cases e : q = p
  · subst e; simpa using h
  · rw [modPanel_panel_ne _ _ e]

/-- The served order in a new phase. -/
theorem served_setPhase {i : SlotNo} {o : Order} {k : StepKind} (h : s.served p = some (i, o, k)) (q : PanelNo)
    (ph : Option Phase) (r : Reasons) (u : Option Purpose) :
    (s.setPhase q i ph r u).served p = some (i, { o with phase := ph, reasons := r }, k) := by
  rw [State.setPhase, served_modPanel rfl]
  exact served_modOrder h rfl rfl rfl rfl
end

/-! ### Changes of a panel's record -/

section
variable {L : Leave} {s : State} {p : PanelNo}

theorem changes_quiet {f : Panel → Panel} (h : ∀ x, Panel.Quieter (s.openCount p) x (f x)) :
    Changes L s (s.modPanel p f) := .single (.quiet p f (h _))

/-- A change of what neither the switches, the count, the coils nor the travel hold. -/
theorem Panel.Quieter.of_same {top : Int} {x y : Panel} (hl : y.lasting = x.lasting) (hv : y.live = x.live)
    (hf : y.faults = x.faults) (hw : y.warnings = x.warnings) (hr : x.inRange → y.inRange) (hc : y.coils = x.coils)
    (hm : y.mode = x.mode) (hh : y.holdoff = x.holdoff) (hb : y.brakeTimer = x.brakeTimer)
    (hv' : x.move = none → y.move = none := by exact id) : Panel.Quieter top x y where
  lasting := hl
  live := hv
  faults := hf
  warnings := by simp [hw]
  range := fun _ _ => hr
  coils := by simp [hc]
  mode := by simp [hm]
  timers := by simp [Panel.timersAgree, hm, hh, hb]
  move := hv'

theorem Panel.Quieter.refl (top : Int) (x : Panel) : Panel.Quieter top x x := .of_same rfl rfl rfl rfl id rfl rfl rfl rfl

/-- Coils go off, and nothing else of what a record keeps changes. -/
theorem Panel.Quieter.of_coils {top : Int} {x y : Panel} (hl : y.lasting = x.lasting) (hv : y.live = x.live)
    (hf : y.faults = x.faults) (hw : y.warnings = x.warnings) (hr : x.inRange → y.inRange)
    (hc : ∀ c, y.coils.get c = true → x.coils.get c = true)
    (hm : y.mode = x.mode) (hh : y.holdoff = x.holdoff) (hb : y.brakeTimer = x.brakeTimer)
    (hv' : x.move = none → y.move = none := by exact id) : Panel.Quieter top x y where
  lasting := hl
  live := hv
  faults := hf
  warnings := by simp [hw]
  range := fun _ _ => hr
  coils := hc
  mode := by simp [hm]
  timers := by simp [Panel.timersAgree, hm, hh, hb]
  move := hv'

theorem changes_latch {e : EventLatch} (h : 4 ≤ e.code) : Changes L s (s.setLatch e) := .single (.latch e h)

theorem changes_latchIf {b : Bool} {e : EventLatch} (h : 4 ≤ e.code) : Changes L s (s.latchIf b e) := by
  unfold State.latchIf; split
  · exact changes_latch h
  · exact .refl

theorem Panel.Quieter.of_warn (top : Int) (x : Panel) (k : PanelWarning) :
    Panel.Quieter top x { x with warnings := joinSet allPanelWarnings k x.warnings } :=
  { Panel.Quieter.refl top x with
    warnings := fun w h => mem_joinSet.2 ⟨mem_allPanelWarnings w, .inr h⟩ }

theorem changes_warn (k : PanelWarning) : Changes L s (s.warn p k) :=
  (changes_quiet fun x => Panel.Quieter.of_warn _ x k).trans (changes_latch (by decide))

theorem Panel.Quieter.trans {top : Int} {x y z : Panel} (a : Panel.Quieter top x y) (b : Panel.Quieter top y z) :
    Panel.Quieter top x z where
  lasting := b.lasting.trans a.lasting
  live := b.live.trans a.live
  faults := b.faults.trans a.faults
  warnings := fun w h => b.warnings w (a.warnings w h)
  range := fun h0 h1 h => b.range h0 h1 (a.range h0 h1 h)
  coils := fun c h => a.coils c (b.coils c h)
  mode := fun h => a.mode (b.mode h)
  timers := fun h => b.timers (a.timers h)
  move := fun h => b.move (a.move h)

/-! ### Changes of one panel's record -/

@[simp] theorem setPanel_self (s : State) (p : PanelNo) : s.setPanel p (s.panel p) = s := by
  simp [State.setPanel, State.panel]
@[simp] theorem setPanel_setPanel (s : State) (p : PanelNo) (x y : Panel) : (s.setPanel p x).setPanel p y = s.setPanel p y := by
  simp [State.setPanel]

/-- `t` is `s` but for the record of the panel `p`, which has become quieter. -/
def State.Calms (s : State) (p : PanelNo) (t : State) : Prop :=
  ∃ y, t = s.setPanel p y ∧ Panel.Quieter (s.openCount p) (s.panel p) y

theorem State.Calms.refl (s : State) (p : PanelNo) : s.Calms p s :=
  ⟨s.panel p, (setPanel_self s p).symm, .refl _ _⟩

theorem calms_modPanel {f : Panel → Panel} (h : ∀ x, Panel.Quieter (s.openCount p) x (f x)) : s.Calms p (s.modPanel p f) :=
  ⟨f (s.panel p), rfl, h _⟩

theorem State.Calms.changes {t : State} (h : s.Calms p t) : Changes L s t := by
  obtain ⟨y, rfl, hy⟩ := h
  exact .single (.quiet p (fun _ => y) hy)

theorem State.Calms.trans {t u : State} (h : s.Calms p t) (g : t.Calms p u) : s.Calms p u := by
  obtain ⟨x, rfl, hx⟩ := h
  obtain ⟨y, rfl, hy⟩ := g
  rw [setPanel_panel_self] at hy
  exact ⟨y, setPanel_setPanel _ _ _ _, hx.trans hy⟩

theorem State.Calms.slots {t : State} (h : s.Calms p t) : t.slots = s.slots := by
  obtain ⟨y, rfl, -⟩ := h; rfl
theorem State.Calms.slot {t : State} (h : s.Calms p t) (i : SlotNo) : t.slot i = s.slot i := by
  simp only [State.slot, h.slots]
theorem State.Calms.live {t : State} (h : s.Calms p t) (q : PanelNo) : (t.panel q).live = (s.panel q).live := by
  obtain ⟨y, rfl, hy⟩ := h
  rw [setPanel_panel]; split
  · rename_i e; subst e; exact hy.live
  · rfl
theorem State.Calms.served {t : State} (h : s.Calms p t) (q : PanelNo) : t.served q = s.served q :=
  served_congr (h.live q) h.slots
theorem State.Calms.liveOrder {t : State} (h : s.Calms p t) (q : PanelNo) : t.liveOrder q = s.liveOrder q :=
  liveOrder_congr (h.live q) h.slots

theorem calms_deEnergise (c : Coil) : s.Calms p (s.deEnergise p c) :=
  calms_modPanel fun _ => .of_coils rfl rfl rfl rfl id (fun _ => Coils.get_of_put_false) rfl rfl rfl

theorem changes_energise (c : Coil) (hd : L.drives s p) : Changes L s (s.energise p c) := by
  unfold State.energise; split
  · rename_i he
    exact .single (.drive p _ hd ⟨rfl, rfl, rfl, fun _ h => h, fun _ _ h => h⟩ (by simp [he]) fun h => h)
  · exact .refl

/-! ### Cleats -/

theorem Panel.inRange_modCleat {x : Panel} {k : CleatNo} {f : Cleat → Cleat}
    (hf : ∀ c : Cleat, c.last ≤ 65535 → c.greatest ≤ 65535 → (f c).last ≤ 65535 ∧ (f c).greatest ≤ 65535)
    (h : x.inRange) : (x.modCleat k f).inRange := by
  obtain ⟨h1, h2, h3, h4, h5, h6⟩ := h
  refine ⟨h1, h2, h3, h4, h5, fun j => ?_⟩
  by_cases e : k = j
  · subst e
    simpa [Panel.modCleat, Panel.setCleat] using hf _ (h6 k).1 (h6 k).2
  · have : k.val ≠ j.val := fun he => e (Fin.ext he)
    simpa [Panel.modCleat, Panel.setCleat, this] using h6 j

theorem Panel.Quieter.of_modCleat {top : Int} (x : Panel) (k : CleatNo) {f : Cleat → Cleat} (hm : ∀ c, (f c).made = c.made)
    (hf : ∀ c : Cleat, c.last ≤ 65535 → c.greatest ≤ 65535 → (f c).last ≤ 65535 ∧ (f c).greatest ≤ 65535) :
    Panel.Quieter top x (x.modCleat k f) :=
  .of_same (x.lasting_modCleat k f hm) rfl rfl rfl (Panel.inRange_modCleat hf) rfl rfl rfl rfl

theorem Panel.Quieter.of_foldCleat {top : Int} {f : Cleat → Cleat} (hm : ∀ c, (f c).made = c.made)
    (hf : ∀ c : Cleat, c.last ≤ 65535 → c.greatest ≤ 65535 → (f c).last ≤ 65535 ∧ (f c).greatest ≤ 65535) :
    ∀ (ks : List CleatNo) (x : Panel), Panel.Quieter top x (ks.foldl (fun x k => x.modCleat k f) x)
  | [], x => .refl top x
  | k :: ks, x => (Panel.Quieter.of_modCleat x k hm hf).trans (of_foldCleat hm hf ks _)

theorem Panel.Quieter.of_setStates {top : Int} (x : Panel) (ks : List CleatNo) (st : CleatState) :
    Panel.Quieter top x (x.setStates ks st) := .of_foldCleat (f := fun c => { c with state := st }) (fun _ => rfl)
  (fun _ h1 h2 => ⟨h1, h2⟩) ks x

theorem Cleat.confirm_range (c : Cleat) (d : CleatDir) (ms : Nat) (h2 : c.greatest ≤ 65535) :
    (c.confirm d ms).last ≤ 65535 ∧ (c.confirm d ms).greatest ≤ 65535 := by
  simp only [Cleat.confirm]; omega

theorem changes_modCleat {k : CleatNo} {f : Cleat → Cleat} (hm : ∀ c, (f c).made = c.made)
    (hf : ∀ c : Cleat, c.last ≤ 65535 → c.greatest ≤ 65535 → (f c).last ≤ 65535 ∧ (f c).greatest ≤ 65535) :
    Changes L s (s.modCleat p k f) := changes_quiet fun x => .of_modCleat x k hm hf

theorem calms_valveOff : s.Calms p (s.valveOff p) := by
  unfold State.valveOff; split
  · exact .refl s p
  · rename_i hm
    exact ⟨_, rfl, .of_coils rfl rfl rfl rfl id (fun _ => Coils.get_of_put_false) rfl rfl rfl fun h => by simp [h] at hm⟩

theorem calms_clearMove : s.Calms p (s.clearMove p) :=
  calms_valveOff.trans (calms_modPanel fun _ => .of_same rfl rfl rfl rfl id rfl rfl rfl rfl fun _ => rfl)

theorem calms_cutMove : s.Calms p (s.cutMove p) := by
  unfold State.cutMove; split
  · exact .refl s p
  · exact calms_clearMove.trans (calms_modPanel fun x => .of_setStates x _ _)

theorem changes_startMove (g : GroupNo) (d : CleatDir) (a b : Nat) (j : Bool) (hd : ∀ t : State, t.slots = s.slots →
    (t.panel p).live = (s.panel p).live → t.unit = s.unit → (t.panel p).faults = (s.panel p).faults → L.drives t p) :
    Changes L s (s.startMove p g d a b j) := by
  have confirmed : ∀ ks : List CleatNo,
      Changes L s (s.modPanel p fun x => ks.foldl (fun x k => x.modCleat k fun c => c.confirm d 0) x) := fun ks =>
    changes_quiet fun x => .of_foldCleat (f := fun c => c.confirm d 0) (fun _ => rfl) (fun c _ h => c.confirm_range d 0 h) ks x
  have kept (ks : List CleatNo) (x : Panel) := Panel.Quieter.of_foldCleat (top := 0) (f := fun c => c.confirm d 0)
    (fun _ => rfl) (fun c _ h => c.confirm_range d 0 h) ks x
  have live (ks : List CleatNo) (x : Panel) := (kept ks x).live
  have faults (ks : List CleatNo) (x : Panel) := (kept ks x).faults
  unfold State.startMove
  dsimp only
  split
  · exact confirmed _
  · refine .trans ?_ (changes_energise _ (hd _ rfl ?_ rfl ?_))
    · refine .trans (confirmed _) (.single (.drive p _ (hd _ rfl ?_ rfl ?_) ⟨rfl, rfl, rfl, fun _ h => h, fun _ _ h => h⟩
        (fun _ _ h => h) fun h => h))
      · simp [live]
      · simp [faults]
    · simp [live]
    · simp [faults]

theorem changes_sluggishIf (ms : Nat) : Changes L s (s.sluggishIf p ms) := by
  unfold State.sluggishIf; split
  · exact changes_warn _
  · exact .refl

/-! ### Flow -/

theorem changes_modPack {k : PackId} {f : Pack → Pack} (h : ∀ x, (f x).lasting = x.lasting) :
    Changes L s (s.modPack k f) := .single (.pack k f (h _))

theorem changes_runPass (k : PackId) : Changes L s (s.runPass k).st :=
  changes_modPack (f := fun x => x.afterPass (s.effective k)) fun _ => rfl

theorem changes_dropFlow : Changes L s (s.dropFlow p).st := by
  unfold State.dropFlow; split
  · exact .refl
  · exact changes_modPack (f := fun x => x.dropPanel p) fun _ => rfl
  · exact changes_modPack (f := fun x => x.dropPanel p) fun _ => rfl

theorem changes_rekey (c : OrderClass) : Changes L s (s.rekey p c).st := by
  unfold State.rekey; split
  · split
    · rename_i w _
      exact changes_modPack (f := fun x => (x.dropPanel p).insert { w with cls := c }) fun _ => rfl
    · exact .refl
  · exact .refl

/-! ### Stopping -/

theorem Panel.Quieter.of_stopped {top : Int} (x : Panel) (d : Nat) : Panel.Quieter top x
    { x with coils := x.coils.travelOff, mode := .coasting, activity := .braking, brakeTimer := some d
             stall := .stopped, holdoff := none } where
  lasting := rfl
  live := rfl
  faults := rfl
  warnings := fun _ h => h
  range := fun _ _ h => h
  timers := fun _ => by simp [Panel.timersAgree]
  move := id
  coils := fun _ => Coils.get_of_travelOff
  mode := by simp

theorem calms_stopTravel : s.Calms p (s.stopTravel p) := by
  unfold State.stopTravel; split
  · exact calms_modPanel fun x => .of_stopped x _
  · exact .refl s p

theorem calms_panelOff : s.Calms p (s.panelOff p) :=
  (calms_cutMove.trans calms_stopTravel).trans
    (calms_modPanel fun _ => .of_coils rfl rfl rfl rfl id (by simp) rfl rfl rfl)

theorem calms_jogCoilsOff (j : Jog) : s.Calms j.panel (s.jogCoilsOff j) := by
  unfold State.jogCoilsOff; split
  · exact calms_stopTravel
  · exact calms_stopTravel
  · exact calms_valveOff
  · exact calms_valveOff
  · exact calms_deEnergise _

theorem changes_endJog : Changes L s s.endJog.st := by
  unfold State.endJog; split
  · exact .refl
  · dsimp only [Res.add_st]
    refine .trans ?_ changes_dropFlow
    refine .trans ?_ (changes_quiet fun _ => .of_same rfl rfl rfl rfl id rfl rfl rfl rfl)
    exact (Relation.ReflTransGen.single .endJog).trans (calms_jogCoilsOff _).changes

theorem changes_endJogOn : Changes L s (s.endJogOn p).st := by
  unfold State.endJogOn; split
  · exact .refl
  · split
    · exact changes_endJog
    · exact .refl

theorem calms_stepCoilsOff : s.Calms p (s.stepCoilsOff p) :=
  calms_modPanel fun x => .of_coils rfl rfl rfl rfl id
    (fun c h => by cases c <;> simp [Coils.get] at h ⊢ <;> exact h) rfl rfl rfl

theorem calms_stopStep (k : StepKind) : s.Calms p (s.stopStep p k) := by
  cases k with
  | uncleat _ | cleat _ =>
    unfold State.stopStep
    dsimp only
    split
    · split
      · exact .refl s p
      · exact calms_cutMove
    · exact .refl s p
  | travel => exact calms_stopTravel
  | _ => exact calms_stepCoilsOff

end

/-! ### The served order -/

section
variable {L : Leave} {s : State} {p : PanelNo}

/-- An ACTIVE order at the same step, in another phase. -/
theorem Order.Moves.of_phase {o : Order} (ha : o.state = .active) (ph : Option Phase) (r : Reasons) :
    o.Moves L.orders { o with phase := ph, reasons := r } where
  lasting := rfl
  live := by simp [ha, OrderState.live]
  pred := .inl rfl
  consistent := fun h => h
  how := .inr (.inl ⟨ha, le_rfl, .inl rfl, .inl ha⟩)

theorem changes_setPhase {i : SlotNo} {o : Order} (hi : s.slot i = some o) (ha : o.state = .active) (ph : Option Phase)
    (r : Reasons) (u : Option Purpose) : Changes L s (s.setPhase p i ph r u) :=
  (Relation.ReflTransGen.single (.touch i o _ hi (.of_phase ha ph r) rfl)).trans
    (changes_quiet fun _ => .of_same rfl rfl rfl rfl id rfl rfl rfl rfl)

/-- What the end of a step leaves of the panel's plan. -/
theorem changes_dropPlan : Changes L s (s.modPanel p fun x => { x with plan := none }) :=
  changes_quiet fun _ => .of_same rfl rfl rfl rfl id rfl rfl rfl rfl

theorem changes_interrupt : Changes L s (s.interrupt p).st := by
  unfold State.interrupt
  cases h : s.served p with
  | none => exact .refl
  | some iok =>
    obtain ⟨i, o, k⟩ := iok
    have calm : s.Calms p (if o.phase = some .running then s.stopStep p k else s) := by
      split
      · exact calms_stopStep k
      · exact .refl s p
    have hi : (if o.phase = some .running then s.stopStep p k else s).slot i = some o := by
      rw [calm.slot]; exact served_slot h
    refine .trans ?_ changes_dropFlow
    refine .trans ?_ changes_dropPlan
    exact calm.changes.trans (changes_setPhase hi (served_active h) _ _ _)

end

end Sys2Proof.Machine
end

section
/-! The order table's operations, the fault table, the counter, the sequencer and the agenda as runs of changes (`Changes`). -/

namespace Sys2Proof.Machine

variable {L : Leave} {s : State} {p : PanelNo}

/-! ### Orders -/

theorem interrupt_slot {q : PanelNo} {i : SlotNo} {o : Order} (h : s.slot i = some o) :
    (s.interrupt q).st.slot i = some o ∨
      (s.interrupt q).st.slot i = some { o with phase := none, reasons := {} } ∧ o.state = .active := by
  have dropped : ∀ t : State, (t.dropFlow q).st.slots = t.slots := fun t => by
    unfold State.dropFlow; split
    · rfl
    · exact modPack_slots _ _ _
    · exact modPack_slots _ _ _
  unfold State.interrupt
  cases hs : s.served q with
  | none => exact .inl h
  | some iok =>
    obtain ⟨j, a, k⟩ := iok
    dsimp only [Res.add_st]
    rw [State.slot, dropped]
    have calm : s.Calms q (if a.phase = some .running then s.stopStep q k else s) := by
      split
      · exact calms_stopStep k
      · exact .refl s q
    generalize (if a.phase = some .running then s.stopStep q k else s) = u at calm ⊢
    change ((u.modOrder j fun o => { o with phase := none, reasons := {} }).slot i = _) ∨
      ((u.modOrder j fun o => { o with phase := none, reasons := {} }).slot i = _) ∧ _
    rw [modOrder_slot, calm.slot, calm.slot, h]
    split
    · rename_i e
      subst e
      have : a = o := Option.some.inj ((served_slot hs).symm.trans h)
      subst this
      right
      simp [served_slot hs, served_active hs]
    · exact .inl rfl

theorem recount_eq (s : State) (n : StationNo) : ∃ x, s.recount n = { s with stations := x } := by
  unfold State.recount; dsimp only; repeat' split
  all_goals exact ⟨_, rfl⟩

theorem updateOrder_eq {i : SlotNo} {o : Order} (hi : s.slot i = some o) (f : Order → Order) :
    s.updateOrder i f = { s.setSlot i (some (f o)) with stations := (s.updateOrder i f).stations } := by
  simp only [State.updateOrder, hi]
  obtain ⟨x, hx⟩ := recount_eq (s.setSlot i (some (f o))) o.issuer
  rw [hx]
  obtain ⟨y, hy⟩ := recount_eq { s.setSlot i (some (f o)) with stations := x } (f o).issuer
  rw [hy]

/-- An update of an order changes no slot but its own. -/
theorem updateOrder_slot {i j : SlotNo} {f : Order → Order} :
    (s.updateOrder i f).slot j = if i = j then (s.slot i).map f else s.slot j := by
  cases hi : s.slot i with
  | none =>
    simp only [State.updateOrder, hi]
    split
    · rename_i e; subst e; simpa using hi
    · rfl
  | some o =>
    rw [updateOrder_eq hi]
    change (s.setSlot i (some (f o))).slot j = _
    rw [setSlot_slot]; rfl

theorem finishOrder_slot {i j : SlotNo} {st : OrderState} {t : Nat} (h : i ≠ j) :
    (s.finishOrder i st t).slot j = s.slot j := by
  unfold State.finishOrder; split
  · rfl
  · rw [setLatch_slot, updateOrder_slot, if_neg h]; rfl

/-- A live order that finishes; it keeps what lasts. -/
theorem Order.Moves.of_finish {o : Order} {st : OrderState} {t d : Nat} {b : Bool} (hl : o.state.live = true)
    (hst : st.live = false)
    (how : L.orders o.panel ∨ o.Advances (o.finish st t d b) ∨ o.Released (o.finish st t d b)) :
    o.Moves L.orders (o.finish st t d b) where
  lasting := rfl
  live := hl
  pred := by cases b <;> simp [Order.finish]
  consistent := fun ⟨h1, h2, _⟩ => by
    refine ⟨h1, h2, ?_⟩
    cases st <;> simp_all [Order.finish, OrderState.live, OrderState.isPaused]
  how := how

theorem OrderState.latch_code (st : OrderState) : 4 ≤ st.latch.code := by
  cases st <;> simp [OrderState.latch, EventLatch.code]

theorem changes_finishOrder {i : SlotNo} {o : Order} {st : OrderState} {t : Nat} (hi : s.slot i = some o)
    (hl : o.state.live = true) (hst : st.live = false)
    (how : ∀ d b, L.orders o.panel ∨ o.Advances (o.finish st t d b) ∨ o.Released (o.finish st t d b)) :
    Changes L s (s.finishOrder i st t) := by
  unfold State.finishOrder
  simp only [hi]
  exact (Relation.ReflTransGen.single (.finish i o _ hi (.of_finish hl hst (how _ _)) hst)).trans
    (changes_latch st.latch_code)

/-- Orders that wait on a finished one are cancelled one after another (R63). -/
theorem changes_cancelWaiting {t : Nat} : ∀ (ds : List SlotNo) (s : State), ds.Nodup →
    (∀ i ∈ ds, ∃ o, s.slot i = some o ∧ o.waiting = true) →
    Changes L s (ds.foldl (fun s i => s.finishOrder i (.cancelled .predecessor) t) s)
  | [], _, _, _ => .refl
  | i :: ds, s, hn, h => by
    obtain ⟨hni, hn⟩ := List.nodup_cons.1 hn
    obtain ⟨o, hi, hw⟩ := h i List.mem_cons_self
    have hl : o.state.live = true := by
      simp only [Order.waiting, Bool.or_eq_true, beq_iff_eq, Bool.and_eq_true] at hw
      obtain hw | hw := hw
      · simp [hw, OrderState.live]
      · exact hw.1
    refine .trans (changes_finishOrder (t := t) hi hl rfl fun d b => .inr (.inr ⟨hw, .inr (.inl rfl)⟩)) ?_
    refine changes_cancelWaiting ds _ hn fun j hj => ?_
    have hij : i ≠ j := fun e => hni (e ▸ hj)
    rw [finishOrder_slot hij]
    exact h j (List.mem_cons_of_mem _ hj)

theorem waiting_of_waitsOn {o : Order} {id : Nat} (h : o.waitsOn id = true) : o.waiting = true := by
  simp only [Order.waitsOn, Bool.and_eq_true] at h
  exact h.2

theorem allSlots_nodup : allSlots.Nodup := by decide

theorem mem_dependents {ids : List Nat} {i : SlotNo} :
    i ∈ s.dependents ids ↔ ∃ o, s.slot i = some o ∧ ∃ id ∈ ids, o.waitsOn id = true := by
  simp only [State.dependents, List.mem_filter, mem_allSlots, true_and]
  cases s.slot i <;> simp

theorem changes_cascade (t : Nat) : ∀ (n : Nat) (ids : List Nat) (s : State), Changes L s (State.cascade t n ids s)
  | 0, _, _ => .refl
  | n + 1, ids, s => by
    unfold State.cascade; dsimp only; split
    · exact .refl
    · refine .trans (changes_cancelWaiting _ s (allSlots_nodup.filter _) fun i hi => ?_) (changes_cascade t n _ _)
      obtain ⟨o, ho, id, -, hw⟩ := mem_dependents.1 hi
      exact ⟨o, ho, waiting_of_waitsOn hw⟩

/-- The end of an order that its command ends, or that its sequencer fails. -/
theorem changes_endOrder {i : SlotNo} {st : OrderState} (hst : st.live = false)
    (how : ∀ o, s.slot i = some o → o.state.live = true → L.orders o.panel ∨ o.state = .active ∧ ∃ r, st = .failed r) :
    Changes L s (s.endOrder i st).st := by
  unfold State.endOrder
  cases hi : s.slot i with
  | none => exact .refl
  | some o =>
    dsimp only
    split
    · rename_i hl
      rw [Res.map_st]
      refine .trans ?_ (changes_cascade _ _ _ _)
      have next : ∀ q : Order, (q = o ∨ q = { o with phase := none, reasons := {} }) → ∀ t d b,
          L.orders q.panel ∨ q.Advances (q.finish st t d b) ∨ q.Released (q.finish st t d b) := by
        intro q hq t d b
        have hp : q.panel = o.panel ∧ q.state = o.state := by obtain rfl | rfl := hq <;> exact ⟨rfl, rfl⟩
        obtain hF | ⟨ha, r, rfl⟩ := how o hi hl
        · exact .inl (hp.1 ▸ hF)
        · exact .inr (.inl ⟨hp.2.trans ha, le_rfl, .inr rfl, .inr (.inr (.inr ⟨r, rfl⟩))⟩)
      split
      · refine .trans (changes_interrupt (p := o.panel)) ?_
        obtain hs | ⟨hs, -⟩ := interrupt_slot (q := o.panel) hi
        · exact changes_finishOrder hs hl hst (next o (.inl rfl) _)
        · exact changes_finishOrder hs hl hst (next _ (.inr rfl) _)
      · exact changes_finishOrder hi hl hst (next o (.inl rfl) _)
    · exact .refl

/-- The panel's live order may be ended: by the command itself, or because its sequencer fails it. -/
def Leave.Ends (L : Leave) (s : State) (p : PanelNo) : Prop :=
  ∀ i o, s.liveOrder p = some (i, o) → L.orders o.panel ∨ o.state = .active

theorem Leave.Ends.of_served (h : (s.served p).isSome = true) : L.Ends s p := by
  intro i o hl
  obtain ⟨⟨j, a, k⟩, hs⟩ := Option.isSome_iff_exists.1 h
  obtain ⟨hj, ha, -⟩ := served_some hs
  rw [hl] at hj
  obtain ⟨rfl, rfl⟩ := Prod.mk.inj (Option.some.inj hj)
  exact .inr ha

theorem Leave.Ends.congr {t : State} (h : L.Ends s p) (e : t.liveOrder p = s.liveOrder p) : L.Ends t p := by
  unfold Leave.Ends; rw [e]; exact h

theorem changes_failLive {r : FailReason} (h : L.Ends s p) : Changes L s (s.failLive p r).st := by
  unfold State.failLive
  cases hl : s.liveOrder p with
  | none => exact .refl
  | some io =>
    obtain ⟨i, o⟩ := io
    refine changes_endOrder rfl fun q hq _ => ?_
    have : q = o := Option.some.inj (hq.symm.trans (liveOrder_some hl).1)
    exact this ▸ (h i o hl).imp_right fun ha => ⟨ha, r, rfl⟩

end Sys2Proof.Machine
end

section
/-! The rest of the order table's operations, the fault table and the position counter as runs of changes (`Changes`). -/

namespace Sys2Proof.Machine

variable {L : Leave} {s : State} {p : PanelNo}

/-! ### Completion, pausing and admission -/

theorem changes_completeOrder {i : SlotNo} {o : Order} (hi : s.slot i = some o) (hl : o.state.live = true)
    (how : L.orders o.panel ∨ o.state = .active) : Changes L s (s.completeOrder i).st := by
  unfold State.completeOrder
  simp only [hi]
  exact changes_finishOrder hi hl rfl fun d b =>
    how.imp_right fun ha => .inl ⟨ha, le_rfl, .inr rfl, .inr (.inr (.inl rfl))⟩

theorem OrderState.pausedFrom_live {st : OrderState} {f : PausedFrom} (h : st.pausedFrom = some f) : st.live = true := by
  cases st <;> simp_all [OrderState.pausedFrom, OrderState.live]

theorem changes_pauseOrder {i : SlotNo} {r : PauseReason} (how : ∀ o, s.slot i = some o → L.orders o.panel) :
    Changes L s (s.pauseOrder i r).st := by
  unfold State.pauseOrder
  cases hi : s.slot i with
  | none => exact .refl
  | some o =>
    dsimp only
    cases hf : o.state.pausedFrom with
    | none => exact .refl
    | some f =>
      dsimp only
      rw [Res.map_st]
      have paused : ∀ (t : State) (q : Order), (q = o ∨ q = { o with phase := none, reasons := {} }) →
          t.slot i = some q → Changes L t (t.updateOrder i fun o =>
            { o with state := .paused r, pausedFrom := some f, phase := none, reasons := {} }) := by
        intro t q hq hti
        have hp : q.panel = o.panel ∧ q.state = o.state := by obtain rfl | rfl := hq <;> exact ⟨rfl, rfl⟩
        have hl : q.state.live = true := hp.2 ▸ OrderState.pausedFrom_live hf
        refine .single (.update i q _ hti ⟨rfl, hl, .inl rfl, fun ⟨h1, h2, h3, h4, _⟩ => ?_, .inl (hp.1 ▸ how o hi)⟩ rfl ?_)
        · exact ⟨h1, h2, ⟨fun _ => h3.1 hl, fun _ => rfl⟩, ⟨fun _ => h4.1 hl, fun _ => rfl⟩,
            by simp [OrderState.isPaused]⟩
        · simp [OrderState.working]
      split
      · refine .trans (changes_interrupt (p := o.panel)) ?_
        obtain hs | ⟨hs, -⟩ := interrupt_slot (q := o.panel) hi
        · exact paused _ o (.inl rfl) hs
        · exact paused _ _ (.inr rfl) hs
      · exact paused s o (.inl rfl) hi

theorem changes_pauseIf {f : Order → Bool} {r : PauseReason}
    (how : ∀ i o, s.liveOrder p = some (i, o) → f o = true → L.orders o.panel) : Changes L s (s.pauseIf f r p).st := by
  unfold State.pauseIf
  cases hl : s.liveOrder p with
  | none => exact .refl
  | some io =>
    obtain ⟨i, o⟩ := io
    dsimp only
    split
    · rename_i hf
      refine changes_pauseOrder fun q hq => ?_
      have : q = o := Option.some.inj (hq.symm.trans (liveOrder_some hl).1)
      exact this ▸ how i o hl hf
    · exact .refl

theorem State.admissionState_cases (s : State) :
    s.admissionState = .active ∨ ∃ r, s.admissionState = .paused r := by
  unfold State.admissionState
  split
  · exact .inr ⟨_, rfl⟩
  · split
    · exact .inr ⟨_, rfl⟩
    · split
      · exact .inr ⟨_, rfl⟩
      · exact .inl rfl

theorem changes_admitted {i : SlotNo}
    (how : ∀ o, s.slot i = some o → o.state = .pending ∨ o.state.live = true ∧ L.orders o.panel) :
    Changes L s (s.admitted i).st := by
  unfold State.admitted
  cases hi : s.slot i with
  | none => exact .refl
  | some o =>
    have hl : o.state.live = true := (how o hi).elim (fun hp => by simp [hp, OrderState.live]) And.left
    have entered : s.admissionState.live = true := by
      obtain ha | ⟨r, ha⟩ := s.admissionState_cases <;> simp [ha, OrderState.live]
    refine .single (.update i o _ hi ⟨rfl, hl, .inl rfl, fun ⟨h1, h2, h3, h4, _⟩ => ?_, (how o hi).symm.imp And.right fun hp =>
      .inr ⟨by simp [Order.waiting, hp], .inr (.inr hp)⟩⟩ entered fun h => ?_)
    · refine ⟨h1, h2, ⟨fun _ => h3.1 hl, fun _ => entered⟩, ⟨fun _ => h4.1 hl, fun _ => entered⟩, ?_⟩
      obtain ha | ⟨r, ha⟩ := s.admissionState_cases <;> simp [ha, OrderState.isPaused]
    · obtain ha | ⟨r, ha⟩ := s.admissionState_cases
      · exact .inr ha
      · simp [ha, OrderState.working] at h

theorem Order.waiting_live {o : Order} (h : o.waiting = true) : o.state.live = true := by
  simp only [Order.waiting, Bool.or_eq_true, beq_iff_eq, Bool.and_eq_true] at h
  obtain h | h := h
  · simp [h, OrderState.live]
  · exact h.1

theorem changes_unlink {i : SlotNo}
    (how : ∀ o, s.slot i = some o → o.waiting = true ∨ o.state.live = true ∧ L.orders o.panel) :
    Changes L s (s.unlink i).st := by
  unfold State.unlink
  cases hi : s.slot i with
  | none => exact .refl
  | some o =>
    dsimp only
    have hl : o.state.live = true := (how o hi).elim Order.waiting_live And.left
    have cleared : Changes L s (s.modOrder i fun o => { o with pred := none }) :=
      .single (.touch i o _ hi ⟨rfl, hl, .inr rfl, id, (how o hi).elim (fun hw => .inr (.inr ⟨hw, .inl rfl⟩))
        fun h => .inl h.2⟩ rfl)
    have hi' : (s.modOrder i fun o => { o with pred := none }).slot i = some { o with pred := none } := by simp [hi]
    split
    · rename_i hp
      refine cleared.trans (changes_admitted fun q hq => ?_)
      rw [hi'] at hq; cases hq; exact .inl hp
    · split
      · rename_i _ hw
        refine cleared.trans (.single (.touch i _ _ hi' ⟨rfl, hl, .inl rfl, fun ⟨h1, h2, h3, h4, h5⟩ => ?_,
          .inr (.inr ⟨?_, .inl rfl⟩)⟩ rfl))
        · exact ⟨h1, h2, h3, h4, by simpa [hw.2] using h5⟩
        · simp [Order.waiting, hw.1, hw.2]
      · exact cleared

theorem changes_releaseDependent (i : SlotNo) (id : Nat) : Changes L s (s.releaseDependent i id).st := by
  unfold State.releaseDependent
  cases hi : s.slot i with
  | none => exact .refl
  | some o =>
    dsimp only
    split
    · rename_i hw
      refine changes_unlink fun q hq => ?_
      rw [hi] at hq; cases hq
      exact .inl (waiting_of_waitsOn hw)
    · exact .refl

/-! ### Faults -/

theorem changes_raise {k : PanelFault} (hf : L.faults) (h : L.Ends s p) : Changes L s (s.raise p k).st := by
  unfold State.raise; split
  · exact .refl
  · dsimp only [Res.add_st, Res.map_st, Res.bind_st]
    refine .trans ?_ (changes_latch (by decide))
    refine .trans ?_ changes_endJogOn
    have calm := calms_panelOff (s := s.modPanel p fun x => { x with faults := joinSet allPanelFaults k x.faults }) (p := p)
    refine .trans ?_ (changes_failLive (h.congr ((calm.liveOrder p).trans (liveOrder_congr (by simp) rfl))))
    exact (Relation.ReflTransGen.single (.fault p k hf)).trans calm.changes

/-- The raise of a fault, seen as a run of changes. -/
theorem raise_changes (s : State) (p : PanelNo) (k : PanelFault) : Changes Leave.all s (s.raise p k).st :=
  changes_raise trivial fun _ _ _ => .inl trivial

/-- A change, or the raise of a panel fault as a whole (R166). -/
inductive Deed (L : Leave) : State → State → Prop where
  | change {s t : State} (h : Change L s t) : Deed L s t
  | raise {s : State} (p : PanelNo) (k : PanelFault) (h : L.Ends s p) : Deed L s (s.raise p k).st

/-- What a run of changes and raised faults leads to. -/
abbrev Deeds (L : Leave) : State → State → Prop := Relation.ReflTransGen (Deed L)

theorem Changes.deeds {t : State} (h : Changes L s t) : Deeds L s t := by
  induction h with
  | refl => exact .refl
  | tail _ h ih => exact ih.tail (.change h)

theorem deeds_raise {k : PanelFault} (h : L.Ends s p) : Deeds L s (s.raise p k).st := .single (.raise p k h)

theorem Leave.le_faults : L.Le { L with faults := True } := ⟨fun _ h => h, fun _ _ h => h, fun _ _ h => h, fun _ => trivial⟩

theorem Deeds.changes {t : State} (h : Deeds L s t) : Changes { L with faults := True } s t := by
  induction h with
  | refl => exact .refl
  | tail _ hd ih =>
    cases hd with
    | change h => exact ih.tail (h.mono Leave.le_faults)
    | raise p k h => exact ih.trans (changes_raise trivial h)

theorem Deeds.mono {L' : Leave} {t : State} (hL : L.Le L') (h : Deeds L s t) : Deeds L' s t := by
  induction h with
  | refl => exact .refl
  | tail _ hd ih =>
    cases hd with
    | change h => exact ih.tail (.change (h.mono hL))
    | raise p k h => exact ih.tail (.raise p k fun i o hl => (h i o hl).imp_left (hL.orders _))

/-! ### The position counter -/

theorem clampSlip_range (i : Int) : -255 ≤ clampSlip i ∧ clampSlip i ≤ 255 := by unfold clampSlip; omega
theorem edgeCount_range (c : Int) (d : Dir) : -255 ≤ edgeCount c d ∧ edgeCount c d ≤ 4095 := by unfold edgeCount; omega

/-- A new count, within its range. -/
theorem Panel.Quieter.of_count {top : Int} {x y : Panel} (hl : y.lasting = x.lasting) (hv : y.live = x.live)
    (hf : y.faults = x.faults) (hw : y.warnings = x.warnings) (hr : 0 ≤ top → top ≤ 4095 → x.inRange → y.inRange)
    (hc : y.coils = x.coils) (hm : y.mode = x.mode) (hh : y.holdoff = x.holdoff) (hb : y.brakeTimer = x.brakeTimer)
    (hv' : x.move = none → y.move = none := by exact id) : Panel.Quieter top x y where
  lasting := hl
  live := hv
  faults := hf
  warnings := by simp [hw]
  range := hr
  coils := by simp [hc]
  mode := by simp [hm]
  timers := by simp [Panel.timersAgree, hm, hh, hb]
  move := hv'

/-- The counts a reference may take: that of an end of the travel. -/
theorem changes_reference {t : Int} (ht : t = 0 ∨ t = s.openCount p) : Changes L s (s.reference p t) := by
  unfold State.reference; dsimp only; split
  · refine changes_quiet fun x => .of_count rfl rfl rfl rfl (fun h0 h1 ⟨_, _, h⟩ => ?_) rfl rfl rfl rfl
    exact ⟨by dsimp only; omega, by dsimp only; omega, h⟩
  · refine .trans ?_ (changes_warn _)
    refine changes_quiet fun x => .of_count rfl rfl rfl rfl (fun h0 h1 ⟨_, _, h3, h4, _, h6⟩ => ?_) rfl rfl rfl rfl
    refine ⟨by dsimp only; omega, by dsimp only; omega, h3, h4, ?_, h6⟩
    rintro i ⟨⟩
    exact clampSlip_range _

theorem modPanel_modPanel (s : State) (p : PanelNo) (f g : Panel → Panel) :
    (s.modPanel p f).modPanel p g = s.modPanel p fun x => g (f x) := by
  simp [State.modPanel]

/-- A coil commanded on at a panel (R155). -/
def Panel.energised (x : Panel) (on : Bool) (c : Coil) : Panel := { x with coils := if on then x.coils.put true c else x.coils }

theorem energise_eq (s : State) (p : PanelNo) (c : Coil) : s.energise p c = s.modPanel p fun x => x.energised s.enabled c := by
  unfold State.energise; split
  · rename_i h; simp [Panel.energised, h]
  · rename_i h
    rw [Bool.not_eq_true] at h
    simp only [Panel.energised, h]
    exact (setPanel_self s p).symm

/-- The record of a panel whose travel is started (R11, R18, R19), before its coils are energised. -/
def Panel.started (x : Panel) (d : Dir) (fast jog : Bool) (deadline : Nat) : Panel :=
  { x with mode := .driven, lastDir := some d, brakeTimer := none, stall := .running deadline
           creep := 0, chop := 0, chopMark := false, holdoff := none
           activity := if jog then .jog else .travel d (if fast then .fast else .slow) }

/-- The record of a panel whose travel is started (R11, R18, R19). -/
def Panel.setTravelling (x : Panel) (d : Dir) (fast jog on : Bool) (deadline : Nat) : Panel :=
  let y := ((x.started d fast jog deadline).energised on .brakeRelease).energised on d.coil
  if fast then y.energised on .fast else y

theorem driveTravel_eq (s : State) (p : PanelNo) (d : Dir) (fast jog : Bool) : s.driveTravel p d fast jog =
    s.modPanel p fun x => x.setTravelling d fast jog s.enabled (s.now + s.params.tuning.stallPeriod) := by
  cases fast <;> simp only [State.driveTravel, energise_eq, modPanel_modPanel] <;> rfl

theorem Panel.Kept.of_energised {top : Int} {x y : Panel} (h : Panel.Kept top x y) (on : Bool) (c : Coil) :
    Panel.Kept top x (y.energised on c) := ⟨h.lasting, h.live, h.faults, h.warnings, h.range⟩

theorem Panel.kept_setTravelling {top : Int} (x : Panel) (d : Dir) (fast jog on : Bool) (n : Nat) :
    Panel.Kept top x (x.setTravelling d fast jog on n) := by
  have started : Panel.Kept top x (x.started d fast jog n) :=
    ⟨rfl, rfl, rfl, fun _ h => h, fun _ _ ⟨h1, h2, _, _, h⟩ => ⟨h1, h2, Nat.zero_le _, Nat.zero_le _, h⟩⟩
  have driven := (started.of_energised on .brakeRelease).of_energised on d.coil
  cases fast
  · exact driven
  · exact driven.of_energised on .fast

theorem Panel.setTravelling_off (x : Panel) (d : Dir) (fast jog : Bool) (n : Nat) :
    (x.setTravelling d fast jog false n).coils = x.coils := by cases fast <;> rfl

theorem Panel.setTravelling_mode (x : Panel) (d : Dir) (fast jog on : Bool) (n : Nat) :
    (x.setTravelling d fast jog on n).mode = .driven ∧ (x.setTravelling d fast jog on n).brakeTimer = none ∧
      (x.setTravelling d fast jog on n).holdoff = none := by cases fast <;> exact ⟨rfl, rfl, rfl⟩

theorem changes_driveTravel {d : Dir} {fast jog : Bool} (hd : L.drives s p) : Changes L s (s.driveTravel p d fast jog) := by
  rw [driveTravel_eq]
  refine .single (.drive p _ hd (Panel.kept_setTravelling _ _ _ _ _ _) ?_ fun _ => ?_)
  · intro he c
    rw [he, Panel.setTravelling_off]
    exact id
  · obtain ⟨-, hb, hh⟩ := Panel.setTravelling_mode (s.panel p) d fast jog s.enabled (s.now + s.params.tuning.stallPeriod)
    exact ⟨by simp [hh], fun _ => hb⟩

theorem calms_fastOff : s.Calms p (s.fastOff p) :=
  calms_modPanel fun x => .of_coils rfl rfl rfl rfl id
    (fun c h => by cases c <;> simp [Coils.get] at h ⊢ <;> exact h) rfl rfl rfl

end Sys2Proof.Machine
end

section
/-! The panel sequencer and the agenda as runs of changes (`Changes`). -/

namespace Sys2Proof.Machine

/-- The leave has what the sequencers need: a panel that serves an order may be driven, and a running travel chopped. -/
structure Leave.Works (L : Leave) : Prop where
  drives : ∀ s p, (s.served p).isSome = true → L.drives s p
  holds : ∀ s p, (s.panel p).mode = .driven → L.holds s p

theorem Leave.works_agenda (F : PanelNo → Prop) : (Leave.agenda F).Works := ⟨fun _ _ h => h, fun _ _ h => h⟩
/-- The sequencer of the panel serves the order in the slot. -/
def State.serves (s : State) (p : PanelNo) (i : SlotNo) : Prop := ∃ o k, s.served p = some (i, o, k)

variable {L : Leave} {s t : State} {p : PanelNo} {i : SlotNo}

theorem State.serves.congr (h : s.serves p i) (hl : (t.panel p).live = (s.panel p).live) (hs : t.slots = s.slots) :
    t.serves p i := by
  obtain ⟨o, k, h⟩ := h
  exact ⟨o, k, (served_congr hl hs).trans h⟩

theorem State.serves.of_calms (h : s.serves p i) {q : PanelNo} (c : s.Calms q t) : t.serves p i := h.congr (c.live p) c.slots

theorem State.serves.setPhase (h : s.serves p i) (q : PanelNo) (ph : Option Phase) (r : Reasons) (u : Option Purpose) :
    (s.setPhase q i ph r u).serves p i := by
  obtain ⟨o, k, h⟩ := h
  exact ⟨_, k, served_setPhase h q ph r u⟩

theorem State.serves.modPanel (h : s.serves p i) {q : PanelNo} {f : Panel → Panel} (hf : ∀ x, (f x).live = x.live) :
    (s.modPanel q f).serves p i := by
  obtain ⟨o, k, h⟩ := h
  exact ⟨o, k, (served_modPanel (hf _)).trans h⟩

theorem State.serves.warn (h : s.serves p i) (q : PanelNo) (k : PanelWarning) : (s.warn q k).serves p i :=
  (h.modPanel (q := q) (f := fun x => { x with warnings := joinSet allPanelWarnings k x.warnings }) fun _ => rfl).congr
    (by simp [State.warn]) (by simp [State.warn])

theorem State.serves.isSome (h : s.serves p i) : (s.served p).isSome = true := by
  obtain ⟨o, k, h⟩ := h; simp [h]

theorem State.serves.ends (h : s.serves p i) : L.Ends s p := .of_served h.isSome

theorem State.serves.phased (h : s.serves p i) (ph : Option Phase) (r : Reasons) (u : Option Purpose) :
    Changes L s (s.setPhase p i ph r u) := by
  obtain ⟨o, k, h⟩ := h
  exact changes_setPhase (served_slot h) (served_active h) ph r u

/-! ### Chops and edges -/

/-- The record of a panel that is chopped (R107): the direction coils and FAST off, the hold-off running. -/
def Panel.chopped (x : Panel) (now hold : Nat) : Panel :=
  { x with coils := { x.coils with fast := false, travelOut := false, travelIn := false }, activity := x.activity.slowed
           plan := x.plan.map fun pl => { pl with fast := false }, stall := x.stall.suspend now, chopMark := true
           holdoff := some (now + hold), chop := min 255 (x.chop + 1) }

/-- The rest of a chop: the warning, and TRAVEL_OVERLOAD where it is the last one allowed (R107, R108). -/
def State.afterChop (s : State) (p : PanelNo) : Res :=
  let u := s.warn p .travelTrip
  if (u.panel p).chop ≥ u.params.tuning.chopLimit then
    (u.modPanel p fun x => { x with overloadPack := some (s.travelPack p) }).raise p .travelOverload
  else .ok u

theorem chopPanel_eq (s : State) (p : PanelNo) :
    s.chopPanel p = (s.modPanel p fun x => x.chopped s.now s.params.tuning.chopHoldoff).afterChop p := by
  simp only [State.chopPanel, State.fastOff, modPanel_modPanel]
  rfl

/-- A chop but for its hold-off. -/
theorem changes_unheld :
    Changes L s (s.modPanel p fun x => { x.chopped s.now s.params.tuning.chopHoldoff with holdoff := x.holdoff }) :=
  changes_quiet fun x => .of_coils rfl rfl rfl rfl
    (fun ⟨h1, h2, h3, _, h⟩ => ⟨h1, h2, h3, Nat.min_le_left _ _, h⟩)
    (fun c h => by cases c <;> simp [Panel.chopped, Coils.get] at h ⊢ <;> exact h) rfl rfl rfl

theorem chopped_eq : s.modPanel p (fun x => x.chopped s.now s.params.tuning.chopHoldoff) =
    (s.modPanel p fun x => { x.chopped s.now s.params.tuning.chopHoldoff with holdoff := x.holdoff }).modPanel p fun x =>
      { x with holdoff := some (s.now + s.params.tuning.chopHoldoff) } := by
  rw [modPanel_modPanel]
  rfl

theorem changes_chopped (hh : ∀ t : State, (t.panel p).mode = (s.panel p).mode → L.holds t p) :
    Changes L s (s.modPanel p fun x => x.chopped s.now s.params.tuning.chopHoldoff) := by
  rw [chopped_eq]
  exact changes_unheld.tail (.hold p _ (hh _ (by simp [Panel.chopped])))

theorem deeds_afterChop (he : L.Ends s p) : Deeds L s (s.afterChop p).st := by
  unfold State.afterChop
  extract_lets u
  have warned : Changes L s u := changes_warn (p := p) .travelTrip
  split
  · refine .trans (Changes.deeds (warned.trans ?_)) (deeds_raise (he.congr ?_))
    · exact changes_quiet (f := fun x => { x with overloadPack := some (s.travelPack p) }) fun _ =>
        .of_same rfl rfl rfl rfl id rfl rfl rfl rfl
    · exact liveOrder_congr (by simp [u, State.warn]) (by simp [u, State.warn])
  · exact Changes.deeds warned

theorem deeds_chopPanel (hw : L.Works) (he : L.Ends s p) (hm : (s.panel p).mode = .driven) :
    Deeds L s (s.chopPanel p).st := by
  rw [chopPanel_eq]
  exact (changes_chopped fun t h => hw.holds t p (h.trans hm)).deeds.trans
    (deeds_afterChop (he.congr (liveOrder_congr (by simp [Panel.chopped]) rfl)))

theorem deeds_chopIfTripped (hw : L.Works) (he : L.Ends s p) : Deeds L s (s.chopIfTripped p).st := by
  unfold State.chopIfTripped; split
  · rename_i h
    simp only [Panel.travelling, Bool.and_eq_true, beq_iff_eq] at h
    exact deeds_chopPanel hw he h.1.1
  · exact .refl

theorem deeds_moveEdge {d : Dir} (he : L.Ends s p) : Deeds L s (s.moveEdge p d).st := by
  unfold State.moveEdge; dsimp only; split
  · refine .trans (Changes.deeds ?_) (deeds_raise (he.congr (liveOrder_congr (by simp) rfl)))
    exact changes_quiet fun _ => .of_same rfl rfl rfl rfl id rfl rfl rfl rfl
  · refine Changes.deeds (changes_quiet (f := fun x => { x with count := edgeCount (s.panel p).count d }) fun x => .of_count rfl rfl rfl rfl (fun _ _ ⟨_, _, h⟩ => ?_) rfl rfl rfl rfl)
    exact ⟨(edgeCount_range _ _).1, (edgeCount_range _ _).2, h⟩

/-! ### Running -/

theorem changes_runMove (hw : L.Works) (h : s.serves p i) (g : GroupNo) (d : CleatDir) :
    Changes L s (s.runMove p g d).st := by
  unfold State.runMove; split
  · exact .refl
  · exact changes_startMove g d _ _ _ fun t h1 h2 _ _ => hw.drives t p (h.congr h2 h1).isSome

theorem changes_runTimed (hw : L.Works) (h : s.serves p i) (c : Coil) (a : Activity) (n : Nat) :
    Changes L s (s.runTimed p c a n) :=
  (changes_energise c (hw.drives s p h.isSome)).trans (changes_quiet fun _ => .of_same rfl rfl rfl rfl id rfl rfl rfl rfl)

theorem deeds_runTravel (hw : L.Works) (h : s.serves p i) (o : Order) : Deeds L s (s.runTravel p o).st := by
  unfold State.runTravel; dsimp only
  have homed : Changes L s (s.modPanel p fun x => { x with chopMark := false, count := if x.certain then x.count else 4095 }) :=
    changes_quiet fun x => .of_count rfl rfl rfl rfl
      (fun _ _ ⟨h1, h2, h⟩ => ⟨by dsimp only; split <;> omega, by dsimp only; split <;> omega, h⟩) rfl rfl rfl rfl
  have h1 := h.modPanel (q := p) (f := fun x => { x with chopMark := false, count := if x.certain then x.count else 4095 })
    fun _ => rfl
  generalize (s.modPanel p fun x => { x with chopMark := false, count := if x.certain then x.count else 4095 }) = u at homed h1 ⊢
  have planned : Changes L u (u.modPanel p fun x => { x with plan := some (u.planFor p (o.target.getD 0)) }) :=
    changes_quiet fun _ => .of_same rfl rfl rfl rfl id rfl rfl rfl rfl
  have h2 := h1.modPanel (q := p) (f := fun x => { x with plan := some (u.planFor p (o.target.getD 0)) }) fun _ => rfl
  refine homed.deeds.trans (planned.deeds.trans (.trans ?_
    (deeds_chopIfTripped hw (State.serves.ends (i := i) ?_))))
  · exact (changes_driveTravel (hw.drives _ p h2.isSome)).deeds
  · rw [driveTravel_eq]
    exact h2.modPanel fun x => (Panel.kept_setTravelling (top := 0) x _ _ _ _ _).live

theorem deeds_run (hw : L.Works) (h : s.serves p i) (o : Order) (k : StepKind) : Deeds L s (s.run p i o k).st := by
  unfold State.run
  refine .trans (h.phased (some .running) {} none).deeds ?_
  have h' := h.setPhase p (some .running) {} none
  cases k with
  | uncleat g => exact (changes_runMove hw h' g .release).deeds
  | cleat g => exact (changes_runMove hw h' g .engage).deeds
  | lift => exact (changes_runTimed hw h' _ _ _).deeds
  | lower => exact (changes_runTimed hw h' _ _ _).deeds
  | lockStow => exact (changes_runTimed hw h' _ _ _).deeds
  | unlockStow => exact (changes_runTimed hw h' _ _ _).deeds
  | travel => exact deeds_runTravel hw h' o

/-! ### Evaluation -/

theorem changes_standingReference (o : Order) (k : StepKind) : Changes L s (s.standingReference p o k) := by
  unfold State.standingReference; split
  · split
    · rename_i t _ h
      refine changes_reference ?_
      simp only [State.endSwitch, Bool.or_eq_true, Bool.and_eq_true, beq_iff_eq] at h
      exact h.imp And.left And.left
    · exact .refl
  · exact .refl

theorem reference_live (s : State) (p : PanelNo) (n : Int) (q : PanelNo) : ((s.reference p n).panel q).live = (s.panel q).live := by
  unfold State.reference State.warn; dsimp only; split
  · rw [modPanel_panel]; split <;> simp_all
  · rw [setLatch_panel, modPanel_modPanel, modPanel_panel]; split <;> simp_all

theorem State.serves.standingReference (h : s.serves p i) (o : Order) (k : StepKind) : (s.standingReference p o k).serves p i := by
  unfold State.standingReference; split
  · split
    · refine h.congr (reference_live _ _ _ _) ?_
      unfold State.reference State.warn; dsimp only; split <;> simp
    · exact h
  · exact h

theorem changes_skip (h : s.serves p i) : Changes L s (s.skip p i).st :=
  ((h.phased none {} none).trans changes_dropPlan).trans changes_dropFlow

theorem changes_sequenceFail (h : L.Ends s p) : Changes L s (s.sequenceFail p).st :=
  (changes_warn .sequenceStop).trans
    (changes_failLive (h.congr (liveOrder_congr (by simp [State.warn]) (by simp [State.warn]))))

theorem changes_toWait (h : s.serves p i) (r : Reasons) : Changes L s (s.toWait p i r).st :=
  ((h.phased (some .interlockWait) r none).trans changes_dropPlan).trans changes_dropFlow

theorem changes_request (h : s.serves p i) (o : Order) (k : StepKind) : Changes L s (s.request p i o k).st := by
  unfold State.request; dsimp only; split
  · exact changes_failLive h.ends
  · split
    · exact changes_failLive h.ends
    · have asked := (h.phased (L := L) (some .flowWait) {} none).trans (changes_dropPlan (p := p))
      split
      · exact asked.trans (changes_modPack (f := fun x => x.insert ⟨p, k.demand, o.cls, s.arbitration p⟩) fun _ => rfl)
      · exact asked

theorem deeds_stages (hw : L.Works) (h : s.serves p i) (o : Order) (k : StepKind) : Deeds L s (s.stages p i o k).st := by
  unfold State.stages
  refine .trans (b := s.standingReference p o k) (changes_standingReference o k).deeds ?_
  have h := h.standingReference o k
  dsimp only
  split
  · exact (changes_skip h).deeds
  · split
    · exact (changes_sequenceFail h.ends).deeds
    · split
      · exact (changes_toWait h _).deeds
      · split
        · exact deeds_run hw h o k
        · exact (changes_request h o k).deeds

theorem deeds_evaluate (hw : L.Works) (w : Bool) : Deeds L s (s.evaluate p w).st := by
  unfold State.evaluate
  cases h : s.served p with
  | none => exact .refl
  | some iok =>
    obtain ⟨i, o, k⟩ := iok
    have hs : s.serves p i := ⟨o, k, h⟩
    dsimp only; split
    · exact .refl
    · split
      · exact (hs.phased _ _ _).deeds
      · exact deeds_stages hw hs o k

theorem deeds_deliver (hw : L.Works) : Deeds L s (s.deliver p).st := by
  unfold State.deliver
  cases h : s.served p with
  | none => exact .refl
  | some iok =>
    obtain ⟨i, o, k⟩ := iok
    dsimp only; split
    · exact deeds_stages hw ⟨o, k, h⟩ o k
    · exact .refl

/-! ### Completion -/

theorem changes_completeStep (h : s.serves p i) (k : StepKind) : Changes L s (s.completeStep p i k).st := by
  unfold State.completeStep; dsimp only
  have calm : s.Calms p (match k with
      | .lift | .lower | .lockStow | .unlockStow => s.stepCoilsOff p
      | _ => s) := by
    split
    iterate 4 exact calms_stepCoilsOff
    exact .refl s p
  exact ((calm.changes.trans ((h.of_calms calm).phased none {} none)).trans changes_dropPlan).trans changes_dropFlow

theorem changes_reportStep (e : StepEnd) : Changes L s (s.reportStep p e).st := by
  unfold State.reportStep
  cases h : s.served p with
  | none => exact .refl
  | some iok =>
    obtain ⟨i, o, k⟩ := iok
    have hi := served_slot h
    have ha := served_active h
    have hl : o.state.live = true := by simp [ha, OrderState.live]
    dsimp only; split
    · exact .refl
    · split
      · refine .trans (.single (.update i o _ hi ⟨rfl, hl, .inl rfl, fun ⟨h1, h2, h3, h4, h5⟩ => ?_,
          .inr (.inl ⟨ha, le_rfl, .inl rfl, .inr (.inl rfl)⟩)⟩ rfl fun _ => .inl (by simp [ha, OrderState.working])))
          (changes_latch (by decide))
        exact ⟨h1, h2, ⟨fun _ => h3.1 hl, fun _ => rfl⟩, ⟨fun _ => h4.1 hl, fun _ => rfl⟩,
          by simpa [ha, OrderState.isPaused] using h5⟩
      · split
        · exact .single (.touch i o _ hi ⟨rfl, hl, .inl rfl, id, .inr (.inl ⟨ha, Nat.le_succ _, .inl rfl, .inl ha⟩)⟩ rfl)
        · exact changes_completeOrder hi hl (.inr ha)

theorem changes_moveEnded (hw : L.Works) : Changes L s (s.moveEnded p).st := by
  unfold State.moveEnded
  cases h : s.served p with
  | none => exact .refl
  | some iok =>
    obtain ⟨i, o, k⟩ := iok
    have hs : s.serves p i := ⟨o, k, h⟩
    dsimp only; split
    · split
      · split
        · exact changes_completeStep hs _
        · exact changes_runMove hw hs _ _
      · split
        · exact changes_completeStep hs _
        · exact changes_runMove hw hs _ _
      · exact .refl
    · exact .refl

/-! ### Watches -/

theorem changes_lapStop (h : s.serves p i) (r : Reasons) (k : StepKind) : Changes L s (s.lapStop p i r k).st :=
  calms_stepCoilsOff.changes.trans (changes_toWait (h.of_calms calms_stepCoilsOff) r)

theorem changes_stopPhased (h : s.serves p i) (r : Reasons) (u : Option Purpose) :
    Changes L s ((s.stopTravel p).setPhase p i (some .braking) r u) :=
  calms_stopTravel.changes.trans ((h.of_calms calms_stopTravel).phased _ _ _)

theorem changes_interlockStop (h : s.serves p i) (r : Reasons) : Changes L s (s.interlockStop p i r).st :=
  (changes_stopPhased h r _).trans changes_dropFlow

theorem changes_newReasons {o : Order} {k : StepKind} (h : s.served p = some (i, o, k)) (r : Reasons) :
    Changes L s (s.modOrder i fun o => { o with reasons := r }) :=
  .single (.touch i o _ (served_slot h) (.of_phase (served_active h) o.phase r) rfl)

theorem changes_retest : Changes L s (s.retest p).st := by
  unfold State.retest
  cases h : s.served p with
  | none => exact .refl
  | some iok =>
    obtain ⟨i, o, k⟩ := iok
    have hs : s.serves p i := ⟨o, k, h⟩
    dsimp only; split
    · exact changes_newReasons h _
    · split
      · exact changes_toWait hs _
      · exact .refl
    · split
      · split
        · exact changes_interlockStop hs _
        · exact .refl
      · split
        · exact changes_lapStop hs _ _
        · exact .refl
      · split
        · exact changes_lapStop hs _ _
        · exact .refl
      · exact .refl
    · split
      · exact changes_newReasons h _
      · exact .refl
    · exact .refl

theorem changes_watch : Changes L s (s.watch p).st := by
  unfold State.watch
  cases h : s.served p with
  | none => exact .refl
  | some iok =>
    obtain ⟨i, o, k⟩ := iok
    have hs : s.serves p i := ⟨o, k, h⟩
    have failed : Changes L s (if !s.hard p o k then s.sequenceFail p else .ok s).st := by
      split
      · exact changes_sequenceFail hs.ends
      · exact .refl
    dsimp only; split
    · split
      · exact changes_completeStep hs k
      · exact failed
    · exact failed
    · exact failed
    · exact .refl

/-! ### Travel -/

theorem changes_slowPoint (pl : Plan) : Changes L s (s.slowPoint p pl) := by
  unfold State.slowPoint; split
  · split
    · exact calms_fastOff.changes
    · exact .refl
  · exact .refl

theorem calms_slowPoint (pl : Plan) : s.Calms p (s.slowPoint p pl) := by
  unfold State.slowPoint; split
  · split
    · exact calms_fastOff
    · exact .refl s p
  · exact .refl s p

theorem deeds_checkPoints : Deeds L s (s.checkPoints p).st := by
  unfold State.checkPoints; split
  · rename_i i o pl h _
    have hs : (s.slowPoint p pl).serves p i := State.serves.of_calms ⟨o, .travel, h⟩ (calms_slowPoint pl)
    dsimp only; split
    · split
      · exact Changes.deeds ((calms_slowPoint pl).changes.trans (changes_stopPhased hs _ _))
      · split
        · exact (calms_slowPoint pl).changes.deeds.trans (deeds_raise hs.ends)
        · exact (calms_slowPoint pl).changes.deeds
    · exact .refl
  · exact .refl

theorem deeds_referenceTaken : Deeds L s (s.referenceTaken p).st := by
  unfold State.referenceTaken; split
  · rename_i i o pl h _
    split
    · split
      · exact (changes_stopPhased ⟨o, .travel, h⟩ _ _).deeds
      · exact deeds_checkPoints
    · exact .refl
  · exact changes_endJogOn.deeds

theorem deeds_endMake {n : Int} (hn : n = 0 ∨ n = s.openCount p) (d : Dir) : Deeds L s (s.endMake p n d).st := by
  unfold State.endMake; dsimp only; split
  · split
    · exact (changes_reference hn).deeds.trans deeds_referenceTaken
    · exact (changes_reference hn).deeds
  · exact .refl

/-! ### The agenda -/

theorem deeds_runJob (hw : L.Works) (j : Job) : Deeds L s (runJob j s).st := by
  cases j with
  | evaluate p w => exact deeds_evaluate hw w
  | deliver p => exact deeds_deliver hw
  | report p e => exact (changes_reportStep e).deeds
  | pass k => exact (changes_runPass k).deeds
  | retest p => exact changes_retest.deeds
  | watch p => exact changes_watch.deeds
  | moveEnd p => exact (changes_moveEnded hw).deeds
  | releaseDependent i id => exact (changes_releaseDependent i id).deeds
  | jogTest =>
    change Deeds L s s.jogTest.st
    unfold State.jogTest; split
    · exact .refl
    · split
      · exact .refl
      · exact changes_endJog.deeds

end Sys2Proof.Machine
end

section
/-! What every change keeps: what lasts, the latches, the finished orders, the ranges, and the agreement of the order table with
the panels. -/

namespace Sys2Proof.Machine

/-! ### What the layout gives -/

section
variable {s t : State} (h : t.layout = s.layout)
include h

theorem configured_congr (p : PanelNo) : t.configured p = s.configured p := by
  simp only [State.configured, State.hatchConfigured, h]
theorem openCount_congr (p : PanelNo) : t.openCount p = s.openCount p := by simp only [State.openCount, h]
theorem stationKind_congr (n : StationNo) : t.stationKind n = s.stationKind n := by simp only [State.stationKind, h]
theorem pendantHatch_congr (n : StationNo) : t.pendantHatch n = s.pendantHatch n := by
  simp only [State.pendantHatch, stationKind_congr h, h]
end

/-! ### What lasts -/

section
variable {s t : State} (h : t.lasting = s.lasting)
include h

theorem lasting_unit : t.unit = s.unit := (congrArg State.unit h : t.lasting.unit = s.lasting.unit)
theorem lasting_params : t.params = s.params := (congrArg State.params h : t.lasting.params = s.lasting.params)
theorem lasting_layout : t.layout = s.layout := (congrArg State.layout h : t.lasting.layout = s.lasting.layout)
theorem lasting_store : t.store = s.store := (congrArg State.store h : t.lasting.store = s.lasting.store)
theorem lasting_writing : t.writing = s.writing := (congrArg State.writing h : t.lasting.writing = s.lasting.writing)
theorem lasting_idCounter : t.idCounter = s.idCounter := (congrArg State.idCounter h : t.lasting.idCounter = s.lasting.idCounter)
theorem lasting_now : t.now = s.now := (congrArg State.now h : t.lasting.now = s.lasting.now)
theorem lasting_created : t.created = s.created := (congrArg State.created h : t.lasting.created = s.lasting.created)
theorem lasting_list : t.list = s.list := (congrArg State.list h : t.lasting.list = s.lasting.list)
theorem lasting_trim : t.trim = s.trim := (congrArg State.trim h : t.lasting.trim = s.lasting.trim)
theorem lasting_inStart : t.inStart = s.inStart := by simp only [State.inStart, lasting_unit h]
theorem lasting_enabled : t.enabled = s.enabled := by
  simp only [State.enabled, show t.loopOpen = s.loopOpen from (congrArg State.loopOpen h : t.lasting.loopOpen = _),
    show t.supplyLow = s.supplyLow from (congrArg State.supplyLow h : t.lasting.supplyLow = _)]
theorem lasting_configured (p : PanelNo) : t.configured p = s.configured p := configured_congr (lasting_layout h) p
theorem lasting_openCount (p : PanelNo) : t.openCount p = s.openCount p := openCount_congr (lasting_layout h) p
theorem lasting_stationKind (n : StationNo) : t.stationKind n = s.stationKind n := stationKind_congr (lasting_layout h) n
theorem lasting_pendantHatch (n : StationNo) : t.pendantHatch n = s.pendantHatch n := pendantHatch_congr (lasting_layout h) n
theorem lasting_slot (i : SlotNo) : (t.slot i).map Order.lasting = (s.slot i).map Order.lasting := by
  have := congrArg (fun u : State => u.slots[i]) h
  simpa [State.lasting, State.slot] using this
theorem lasting_panel (p : PanelNo) : (t.panel p).lasting = (s.panel p).lasting := by
  have := congrArg (fun u : State => u.panels[p]) h
  simpa [State.lasting, State.panel] using this
theorem lasting_pack (k : PackId) : (t.pack k).lasting = (s.pack k).lasting := by
  cases k
  · exact (congrArg State.packA h : t.lasting.packA = s.lasting.packA)
  · exact (congrArg State.packB h : t.lasting.packB = s.lasting.packB)
theorem lasting_station (n : StationNo) : (t.station n).lasting = (s.station n).lasting := by
  have := congrArg (fun u : State => u.stations[n]) h
  simpa [State.lasting, State.station] using this
end

/-- An order keeps its id and its panel with what lasts of it. -/
theorem Order.lasting_fields {o o' : Order} (h : o'.lasting = o.lasting) :
    o'.id = o.id ∧ o'.issuer = o.issuer ∧ o'.panel = o.panel ∧ o'.kind = o.kind ∧ o'.target = o.target ∧ o'.cls = o.cls ∧
      o'.hold = o.hold ∧ o'.created = o.created := by
  simpa [Order.lasting] using h

/-! ### One change -/

section
variable {L : Leave} {s t : State}

@[simp] theorem updateOrder_panel (s : State) (i : SlotNo) (f : Order → Order) (p : PanelNo) :
    (s.updateOrder i f).panel p = s.panel p := by
  cases hi : s.slot i with
  | none => simp [State.updateOrder, hi]
  | some o => rw [updateOrder_eq hi]; rfl

@[simp] theorem updateOrder_jog (s : State) (i : SlotNo) (f : Order → Order) : (s.updateOrder i f).jog = s.jog := by
  cases hi : s.slot i with
  | none => simp [State.updateOrder, hi]
  | some o => rw [updateOrder_eq hi]; rfl

@[simp] theorem updateOrder_latches (s : State) (i : SlotNo) (f : Order → Order) : (s.updateOrder i f).latches = s.latches := by
  cases hi : s.slot i with
  | none => simp [State.updateOrder, hi]
  | some o => rw [updateOrder_eq hi]; rfl

theorem lasting_setPanel {p : PanelNo} {x : Panel} (h : x.lasting = (s.panel p).lasting) :
    (s.setPanel p x).lasting = s.lasting := by
  simp only [State.lasting, State.setPanel]
  rw [show (s.panels.set p x).map Panel.lasting = s.panels.map Panel.lasting from map_set_of_eq _ _ _ _ _ (by rw [h]; rfl)]

theorem lasting_updateOrder_at {i : SlotNo} {o : Order} {f : Order → Order} (hi : s.slot i = some o)
    (h : (f o).lasting = o.lasting) : (s.updateOrder i f).lasting = s.lasting := by
  simp only [State.updateOrder, hi, lasting_recount]
  exact lasting_setSlot (by simp [hi, h])

theorem Change.lasting (h : Change L s t) : t.lasting = s.lasting := by
  cases h with
  | quiet p f h => exact lasting_setPanel h.lasting
  | drive p f _ h => exact lasting_setPanel h.lasting
  | hold p d => exact lasting_modPanel fun _ => rfl
  | fault p k => exact lasting_modPanel fun _ => rfl
  | touch i o f hi h =>
    rw [modOrder_eq hi]
    exact lasting_setSlot (by simp [hi, h.lasting])
  | update i o f hi h => exact lasting_updateOrder_at hi h.lasting
  | finish i o f hi h =>
    exact (lasting_updateOrder_at (s := s.modPanel o.panel Panel.unassigned) hi h.lasting).trans (lasting_modPanel fun _ => rfl)
  | pack k f h => exact lasting_setPack h
  | latch e => exact lasting_setLatch _ _
  | endJog => rfl

/-- A latch that is set stays set. -/
theorem Change.latches (h : Change L s t) {e : EventLatch} (he : e ∈ s.latches) : e ∈ t.latches := by
  cases h with
  | quiet p f => exact he
  | drive p f => exact he
  | hold p d => exact he
  | fault p k => exact he
  | touch i o f => exact he
  | update i o f => simpa using he
  | finish i o f => simpa using he
  | pack k f => simpa using he
  | latch e' => exact (setLatch_mem _ _ _).2 (.inl he)
  | endJog => exact he

/-- No latch is set in START. -/
theorem Change.latches_start (h : Change L s t) (hs : s.inStart = true) : t.latches = s.latches := by
  cases h with
  | quiet p f => rfl
  | drive p f => rfl
  | hold p d => rfl
  | fault p k => rfl
  | touch i o f => rfl
  | update i o f => simp
  | finish i o f => simp
  | pack k f => simp
  | latch e he => simp [State.setLatch, hs, he]
  | endJog => rfl

/-- An order stays as it is, or moves as it may. -/
theorem Change.slot (h : Change L s t) {i : SlotNo} {o : Order} (ho : s.slot i = some o) :
    t.slot i = some o ∨ ∃ o', t.slot i = some o' ∧ o.Moves L.orders o' := by
  have updated : ∀ {j : SlotNo} {q : Order} {f : Order → Order}, s.slot j = some q → q.Moves L.orders (f q) →
      (if j = i then (s.slot j).map f else s.slot i) = some o ∨
        ∃ o', (if j = i then (s.slot j).map f else s.slot i) = some o' ∧ o.Moves L.orders o' := by
    intro j q f hq hm
    split
    · rename_i e
      subst e
      obtain rfl : o = q := Option.some.inj (ho.symm.trans hq)
      exact .inr ⟨f o, by simp [ho], hm⟩
    · exact .inl ho
  cases h with
  | quiet p f => exact .inl ho
  | drive p f => exact .inl ho
  | hold p d => exact .inl ho
  | fault p k => exact .inl ho
  | touch j q f hq hm => rw [modOrder_slot]; exact updated hq hm
  | update j q f hq hm => rw [updateOrder_slot]; exact updated hq hm
  | finish j q f hq hm => rw [updateOrder_slot]; exact updated hq hm
  | pack k f => exact .inl (by simpa using ho)
  | latch e => exact .inl (by simpa using ho)
  | endJog => exact .inl ho

/-- What every change of a panel's record keeps. -/
structure Panel.Moved (top : Int) (x y : Panel) : Prop where
  live : y.live = x.live ∨ y.live = none
  faults : ∀ k ∈ x.faults, k ∈ y.faults
  warnings : ∀ w ∈ x.warnings, w ∈ y.warnings
  range : 0 ≤ top → top ≤ 4095 → x.inRange → y.inRange

theorem Panel.Moved.refl (top : Int) (x : Panel) : Panel.Moved top x x := ⟨.inl rfl, fun _ h => h, fun _ h => h, fun _ _ h => h⟩

theorem Panel.Kept.moved {top : Int} {x y : Panel} (h : Panel.Kept top x y) : Panel.Moved top x y :=
  ⟨.inl h.live, by simp [h.faults], h.warnings, h.range⟩

theorem Change.panel (h : Change L s t) (q : PanelNo) : Panel.Moved (s.openCount q) (s.panel q) (t.panel q) := by
  have moved : ∀ {p : PanelNo} {f : Panel → Panel}, Panel.Moved (s.openCount p) (s.panel p) (f (s.panel p)) →
      Panel.Moved (s.openCount q) (s.panel q) ((s.modPanel p f).panel q) := by
    intro p f hf
    rw [modPanel_panel]; split
    · rename_i e; subst e; exact hf
    · exact .refl _ _
  cases h with
  | quiet p f h => exact moved h.toKept.moved
  | drive p f _ h => exact moved h.moved
  | hold p d => exact moved ⟨.inl rfl, fun _ h => h, fun _ h => h, fun _ _ h => h⟩
  | fault p k => exact moved ⟨.inl rfl, fun j h => mem_joinSet.2 ⟨mem_allPanelFaults j, .inr h⟩, fun _ h => h, fun _ _ h => h⟩
  | touch i o f => exact .refl _ _
  | update i o f => simpa using .refl _ _
  | finish i o f =>
    rw [updateOrder_panel]
    exact moved ⟨.inr rfl, fun _ h => h, fun _ h => h, fun _ _ h => h⟩
  | pack k f => simpa using .refl _ _
  | latch e => simpa using .refl _ _
  | endJog => exact .refl _ _

/-- No fault joins or leaves a fault set, but by the raise of one. -/
theorem Change.faults_eq (h : Change L s t) (hL : ¬ L.faults) (q : PanelNo) : (t.panel q).faults = (s.panel q).faults := by
  have same : ∀ {p : PanelNo} {f : Panel → Panel}, (f (s.panel p)).faults = (s.panel p).faults →
      ((s.modPanel p f).panel q).faults = (s.panel q).faults := by
    intro p f hf
    rw [modPanel_panel]; split
    · rename_i e; subst e; exact hf
    · rfl
  cases h with
  | quiet p f h => exact same h.faults
  | drive p f _ h => exact same h.faults
  | hold p d => exact same rfl
  | fault p k h => exact absurd h hL
  | touch i o f => rfl
  | update i o f => simp
  | finish i o f =>
    rw [updateOrder_panel]
    exact same rfl
  | pack k f => simp
  | latch e => simp
  | endJog => rfl

theorem Change.jog (h : Change L s t) : t.jog = s.jog ∨ t.jog = none := by
  cases h with
  | quiet p f => exact .inl rfl
  | drive p f => exact .inl rfl
  | hold p d => exact .inl rfl
  | fault p k => exact .inl rfl
  | touch i o f => exact .inl rfl
  | update i o f => exact .inl (by simp)
  | finish i o f => exact .inl (by simp)
  | pack k f => exact .inl (by simp)
  | latch e => exact .inl (by simp)
  | endJog => exact .inr rfl
end

/-! ### The order table and the live order fields -/

/-- `State.linked` with its parts named. -/
structure State.Linked (s : State) : Prop where
  ids : ∀ i j a b, s.slot i = some a → s.slot j = some b → a.id = b.id → i = j
  consistent : ∀ i o, s.slot i = some o → o.consistent
  order : ∀ p id, (s.panel p).live = some id → ∃ i o, s.slot i = some o ∧ o.id = id ∧ o.panel = p ∧ o.state.live = true
  field : ∀ i o, s.slot i = some o → o.state.live = true → (s.panel o.panel).live = some o.id
  idle : s.unit ≠ .run → s.unit ≠ .service → ∀ i o, s.slot i = some o → o.state.live = false
  serviced : s.unit = .service → ∀ i o, s.slot i = some o → o.state.working = false
  configured : ∀ i o, s.slot i = some o → o.state.live = true → s.configured o.panel = true
  jog : ∀ j, s.jog = some j → s.unit = .service ∧ s.configured j.panel = true
  writing : s.writing.isSome = true → s.unit = .setup
  counter : 1 ≤ s.idCounter ∧ s.idCounter ≤ 255

theorem linked_iff {s : State} : s.linked ↔ s.Linked :=
  ⟨fun ⟨h1, h2, h3, h4, h5, h6, h7, h8, h9, h10⟩ => ⟨h1, h2, h3, h4, h5, h6, h7, h8, h9, h10⟩,
    fun ⟨h1, h2, h3, h4, h5, h6, h7, h8, h9, h10⟩ => ⟨h1, h2, h3, h4, h5, h6, h7, h8, h9, h10⟩⟩

section
variable {L : Leave} {s t : State}

/-- Every order of the table after a change stood there before, as it was or where it has moved from. -/
theorem Change.slot_from (h : Change L s t) {i : SlotNo} {o' : Order} (ho : t.slot i = some o') :
    ∃ o, s.slot i = some o ∧ (o' = o ∨ o.Moves L.orders o') := by
  have hl := lasting_slot h.lasting i
  cases hs : s.slot i with
  | none => simp [ho, hs] at hl
  | some o =>
    refine ⟨o, rfl, ?_⟩
    obtain h | ⟨q, h, hm⟩ := h.slot hs
    · exact .inl (Option.some.inj (ho.symm.trans h))
    · obtain rfl : o' = q := Option.some.inj (ho.symm.trans h)
      exact .inr hm

theorem Order.Moves.lasting' {F : PanelNo → Prop} {o o' : Order} (h : o' = o ∨ o.Moves F o') : o'.lasting = o.lasting := by
  obtain rfl | h := h
  · rfl
  · exact h.lasting

theorem Order.Moves.live' {F : PanelNo → Prop} {o o' : Order} (h : o' = o ∨ o.Moves F o') (hl : o'.state.live = true) :
    o.state.live = true := by
  obtain rfl | h := h
  · exact hl
  · exact h.live

theorem OrderState.live_of_working {st : OrderState} (h : st.working = true) : st.live = true := by
  cases st <;> simp_all [OrderState.working, OrderState.live]

/-- A live order field is kept, or cleared at the finishing of the panel's order. -/
theorem Change.field (h : Change L s t) (hs : s.Linked) :
    (∀ p id, (t.panel p).live = some id → ∃ i o, t.slot i = some o ∧ o.id = id ∧ o.panel = p ∧ o.state.live = true) ∧
    ∀ i o, t.slot i = some o → o.state.live = true → (t.panel o.panel).live = some o.id := by
  have same : (∀ p, (t.panel p).live = (s.panel p).live) →
      (∀ i o, s.slot i = some o → o.state.live = true → ∃ o', t.slot i = some o' ∧ o'.state.live = true) →
      (∀ p id, (t.panel p).live = some id → ∃ i o, t.slot i = some o ∧ o.id = id ∧ o.panel = p ∧ o.state.live = true) ∧
      ∀ i o, t.slot i = some o → o.state.live = true → (t.panel o.panel).live = some o.id := by
    intro hp hl
    constructor
    · intro p id hid
      obtain ⟨i, o, ho, rfl, rfl, hlo⟩ := hs.order p id (hp p ▸ hid)
      obtain ⟨o', ho', hlo'⟩ := hl i o ho hlo
      obtain ⟨q, hq, hm⟩ := h.slot_from ho'
      obtain rfl : o = q := Option.some.inj (ho.symm.trans hq)
      obtain ⟨e1, -, e2, -⟩ := Order.lasting_fields (Order.Moves.lasting' hm)
      exact ⟨i, o', ho', e1, e2, hlo'⟩
    · intro i o' ho' hlo'
      obtain ⟨o, ho, hm⟩ := h.slot_from ho'
      obtain ⟨e1, -, e2, -⟩ := Order.lasting_fields (Order.Moves.lasting' hm)
      rw [hp, e1, e2]
      exact hs.field i o ho (Order.Moves.live' hm hlo')
  have panels : ∀ {p : PanelNo} {f : Panel → Panel}, (f (s.panel p)).live = (s.panel p).live →
      ∀ q, ((s.modPanel p f).panel q).live = (s.panel q).live := by
    intro p f hf q
    rw [modPanel_panel]; split
    · rename_i e; subst e; exact hf
    · rfl
  have kept : ∀ {u : State}, u.slots = s.slots → ∀ i o, s.slot i = some o → o.state.live = true →
      ∃ o', u.slot i = some o' ∧ o'.state.live = true := by
    intro u hu i o ho hl
    exact ⟨o, by simpa only [State.slot, hu] using ho, hl⟩
  cases h with
  | quiet p f h => exact same (panels h.live) (kept rfl)
  | drive p f _ h => exact same (panels h.live) (kept rfl)
  | hold p d => exact same (panels rfl) (kept rfl)
  | fault p k => exact same (panels rfl) (kept rfl)
  | touch i o f hi hm hst =>
    refine same (fun _ => rfl) fun j q hq hl => ?_
    rw [modOrder_slot]; split
    · rename_i e
      subst e
      obtain rfl : o = q := Option.some.inj (hi.symm.trans hq)
      exact ⟨f o, by simp [hi], hst ▸ hl⟩
    · exact ⟨q, hq, hl⟩
  | update i o f hi hm hlf =>
    refine same (fun _ => by simp) fun j q hq hl => ?_
    rw [updateOrder_slot]; split
    · rename_i e
      subst e
      obtain rfl : o = q := Option.some.inj (hi.symm.trans hq)
      exact ⟨f o, by simp [hi], hlf⟩
    · exact ⟨q, hq, hl⟩
  | finish i o f hi hm hlf =>
    have hf := hs.field i o hi hm.live
    have other : ∀ j q, ((s.modPanel o.panel Panel.unassigned).updateOrder i f).slot j = some q → q.state.live = true →
        i ≠ j ∧ s.slot j = some q := by
      intro j q hq hl
      rw [updateOrder_slot] at hq
      split at hq
      · rename_i e
        subst e
        simp only [modPanel_slot, hi, Option.map_some, Option.some.injEq] at hq
        subst hq
        simp [hlf] at hl
      · rename_i e
        exact ⟨e, hq⟩
    have away : ∀ j q, s.slot j = some q → q.state.live = true → i ≠ j → o.panel ≠ q.panel := by
      intro j q hq hl hij e
      have hq' := hs.field j q hq hl
      rw [← e, hf] at hq'
      exact hij (hs.ids i j o q hi hq (Option.some.inj hq'))
    constructor
    · intro p id hid
      rw [updateOrder_panel, modPanel_panel] at hid
      split at hid
      · simp [Panel.unassigned] at hid
      · rename_i hne
        obtain ⟨j, q, hq, e1, e2, hl⟩ := hs.order p id hid
        refine ⟨j, q, ?_, e1, e2, hl⟩
        rw [updateOrder_slot, if_neg]
        · exact hq
        · rintro rfl
          obtain rfl : o = q := Option.some.inj (hi.symm.trans hq)
          exact hne e2
    · intro j q hq hl
      obtain ⟨hij, hq'⟩ := other j q hq hl
      rw [updateOrder_panel, modPanel_panel, if_neg (away j q hq' hl hij)]
      exact hs.field j q hq' hl
  | pack k f => exact same (fun _ => by simp) (kept (by simp))
  | latch e => exact same (fun _ => by simp) (kept (by simp))
  | endJog => exact same (fun _ => rfl) (kept rfl)

/-- In SERVICE no order becomes ACTIVE or AT_HOLD. -/
theorem Change.working (h : Change L s t) {i : SlotNo} {o' : Order} (ho : t.slot i = some o') (hw : o'.state.working = true) :
    ∃ o, s.slot i = some o ∧ (o.state.working = true ∨ s.admissionState = .active) := by
  obtain ⟨o, hs, -⟩ := h.slot_from ho
  refine ⟨o, hs, ?_⟩
  have same : t.slot i = s.slot i → o.state.working = true := fun e => by
    obtain rfl : o' = o := Option.some.inj ((ho.symm.trans e).trans hs)
    exact hw
  cases h with
  | quiet p f => exact .inl (same rfl)
  | drive p f => exact .inl (same rfl)
  | hold p d => exact .inl (same rfl)
  | fault p k => exact .inl (same rfl)
  | touch j q f hj hm hst =>
    rw [modOrder_slot] at ho
    split at ho
    · rename_i e
      subst e
      obtain rfl : o = q := Option.some.inj (hs.symm.trans hj)
      simp only [hs, Option.map_some, Option.some.injEq] at ho
      subst ho
      exact .inl (hst ▸ hw)
    · rename_i e
      exact .inl (same (by rw [modOrder_slot, if_neg e]))
  | update j q f hj hm hl hwf =>
    rw [updateOrder_slot] at ho
    split at ho
    · rename_i e
      subst e
      obtain rfl : o = q := Option.some.inj (hs.symm.trans hj)
      simp only [hs, Option.map_some, Option.some.injEq] at ho
      subst ho
      exact hwf hw
    · rename_i e
      exact .inl (same (by rw [updateOrder_slot, if_neg e]))
  | finish j q f hj hm hl =>
    rw [updateOrder_slot] at ho
    split at ho
    · rename_i e
      subst e
      simp only [modPanel_slot, hj, Option.map_some, Option.some.injEq] at ho
      subst ho
      exact absurd (OrderState.live_of_working hw) (by simp [hl])
    · rename_i e
      exact .inl (same (by rw [updateOrder_slot, if_neg e]; rfl))
  | pack k f => exact .inl (same (by simp))
  | latch e => exact .inl (same (by simp))
  | endJog => exact .inl (same rfl)

theorem admissionState_service (h : s.unit = .service) : s.admissionState = .paused .service := by
  simp [State.admissionState, h]

theorem Change.linked (h : Change L s t) (hs : s.Linked) : t.Linked where
  ids := fun i j a b ha hb e => by
    obtain ⟨a', ha', hma⟩ := h.slot_from ha
    obtain ⟨b', hb', hmb⟩ := h.slot_from hb
    rw [(Order.lasting_fields (Order.Moves.lasting' hma)).1, (Order.lasting_fields (Order.Moves.lasting' hmb)).1] at e
    exact hs.ids i j a' b' ha' hb' e
  consistent := fun i o ho => by
    obtain ⟨q, hq, rfl | hm⟩ := h.slot_from ho
    · exact hs.consistent i _ hq
    · exact hm.consistent (hs.consistent i q hq)
  order := (h.field hs).1
  field := (h.field hs).2
  idle := fun h1 h2 i o ho => by
    rw [lasting_unit h.lasting] at h1 h2
    obtain ⟨q, hq, hm⟩ := h.slot_from ho
    by_contra hl
    have := hs.idle h1 h2 i q hq
    rw [Order.Moves.live' hm (by simpa using hl)] at this
    cases this
  serviced := fun h1 i o ho => by
    rw [lasting_unit h.lasting] at h1
    by_contra hw
    obtain ⟨q, hq, hw' | ha⟩ := h.working ho (by simpa using hw)
    · have := hs.serviced h1 i q hq
      rw [hw'] at this
      cases this
    · rw [admissionState_service h1] at ha
      cases ha
  configured := fun i o ho hl => by
    obtain ⟨q, hq, hm⟩ := h.slot_from ho
    rw [lasting_configured h.lasting, (Order.lasting_fields (Order.Moves.lasting' hm)).2.2.1]
    exact hs.configured i q hq (Order.Moves.live' hm hl)
  jog := fun j hj => by
    obtain e | e := h.jog
    · rw [lasting_unit h.lasting, lasting_configured h.lasting]
      exact hs.jog j (e ▸ hj)
    · rw [e] at hj; cases hj
  writing := fun hw => by
    rw [lasting_writing h.lasting] at hw
    rw [lasting_unit h.lasting]
    exact hs.writing hw
  counter := by
    rw [lasting_idCounter h.lasting]
    exact hs.counter
end

/-! ### Runs of changes -/

section
variable {L : Leave} {s t : State}

theorem Changes.lasting (h : Changes L s t) : t.lasting = s.lasting := by
  induction h with
  | refl => rfl
  | tail _ h ih => exact h.lasting.trans ih

theorem Changes.latches (h : Changes L s t) {e : EventLatch} (he : e ∈ s.latches) : e ∈ t.latches := by
  induction h with
  | refl => exact he
  | tail _ h ih => exact h.latches ih

theorem Changes.latches_start (h : Changes L s t) (hs : s.inStart = true) : t.latches = s.latches := by
  induction h with
  | refl => rfl
  | tail g h ih => exact (h.latches_start ((lasting_inStart (Changes.lasting g)).trans hs)).trans ih

theorem Changes.linked (h : Changes L s t) (hs : s.Linked) : t.Linked := by
  induction h with
  | refl => exact hs
  | tail _ h ih => exact h.linked ih

/-- A finished order stays as it finished. -/
theorem Changes.finished (h : Changes L s t) {i : SlotNo} {o : Order} (ho : s.slot i = some o) (hl : o.state.live = false) :
    t.slot i = some o := by
  induction h with
  | refl => exact ho
  | tail _ h ih =>
    obtain h | ⟨q, -, hm⟩ := h.slot ih
    · exact h
    · rw [hm.live] at hl; cases hl

theorem Changes.slot_from (h : Changes L s t) {i : SlotNo} {o' : Order} (ho : t.slot i = some o') :
    ∃ o, s.slot i = some o ∧ o'.lasting = o.lasting := by
  have hl := lasting_slot h.lasting i
  cases hs : s.slot i with
  | none => simp [ho, hs] at hl
  | some o => exact ⟨o, rfl, by simpa [ho, hs] using hl⟩

theorem Panel.Moved.trans {top : Int} {x y z : Panel} (a : Panel.Moved top x y) (b : Panel.Moved top y z) :
    Panel.Moved top x z where
  live := by
    obtain h | h := b.live
    · exact h ▸ a.live
    · exact .inr h
  faults := fun k h => b.faults k (a.faults k h)
  warnings := fun k h => b.warnings k (a.warnings k h)
  range := fun h0 h1 h => b.range h0 h1 (a.range h0 h1 h)

theorem Changes.panel (h : Changes L s t) (q : PanelNo) : Panel.Moved (s.openCount q) (s.panel q) (t.panel q) := by
  induction h with
  | refl => exact .refl _ _
  | tail g h ih => exact ih.trans (lasting_openCount (Changes.lasting g) q ▸ h.panel q)

theorem Changes.faults_eq (h : Changes L s t) (hL : ¬ L.faults) (q : PanelNo) : (t.panel q).faults = (s.panel q).faults := by
  induction h with
  | refl => rfl
  | tail _ h ih => exact (h.faults_eq hL q).trans ih

theorem Changes.jog (h : Changes L s t) : t.jog = s.jog ∨ t.jog = none := by
  induction h with
  | refl => exact .inl rfl
  | tail _ h ih =>
    obtain e | e := h.jog
    · exact e ▸ ih
    · exact .inr e
end

end Sys2Proof.Machine
end

section
/-! The slot and the id of a new order (R39, R40): a sound table always has a slot that is FREE or finished, and an id that no
order has. -/

namespace Sys2Proof.Machine

variable {s : State}

/-! ### The slot -/

/-- The order in the slot has a finished time. -/
def State.finishedAtSlot (s : State) (i : SlotNo) : Bool := ((s.slot i).bind (·.finishedAt)).isSome

theorem finishedBefore_of_unfinished {i j : SlotNo} (hi : s.finishedAtSlot i = true) (hj : s.finishedAtSlot j = false) :
    s.finishedBefore i j = true := by
  unfold State.finishedAtSlot at hi hj
  unfold State.finishedBefore
  cases h1 : (s.slot i).bind (·.finishedAt) with
  | none => simp [h1] at hi
  | some a =>
    cases h2 : (s.slot j).bind (·.finishedAt) with
    | none => rfl
    | some b => simp [h2] at hj

theorem finished_of_finishedBefore {i j : SlotNo} (h : s.finishedBefore i j = true) : s.finishedAtSlot i = true := by
  unfold State.finishedAtSlot
  unfold State.finishedBefore at h
  cases h1 : (s.slot i).bind (·.finishedAt) with
  | none => simp [h1] at h
  | some a => rfl

/-- The search for the earliest-finished order ends at a finished one if there is any. -/
theorem finished_of_search : ∀ (js : List SlotNo) (i : SlotNo), (s.finishedAtSlot i = true ∨ ∃ j ∈ js, s.finishedAtSlot j = true) →
    s.finishedAtSlot (js.foldl (fun i j => if s.finishedBefore j i then j else i) i) = true
  | [], i, h => by simpa using h
  | j :: js, i, h => by
    rw [List.foldl_cons]
    refine finished_of_search js _ ?_
    split
    · rename_i hb
      exact .inl (finished_of_finishedBefore hb)
    · rename_i hb
      obtain h | ⟨k, hk, h⟩ := h
      · exact .inl h
      · obtain rfl | hk := List.mem_cons.1 hk
        · cases hi : s.finishedAtSlot i with
          | true => exact .inl rfl
          | false => exact absurd (finishedBefore_of_unfinished h hi) hb
        · exact .inr ⟨k, hk, h⟩

/-- There are more slots than panels, and each live order is that of a panel of its own. -/
theorem exists_not_live (hs : s.Linked) : ∃ i, ∀ o, s.slot i = some o → o.state.live = false := by
  by_contra hno
  simp only [not_exists, not_forall, Bool.not_eq_false] at hno
  choose o ho hl using hno
  have inj : Function.Injective fun i => (o i).panel := by
    intro i j hij
    have hi := hs.field i (o i) (ho i) (hl i)
    have hj := hs.field j (o j) (ho j) (hl j)
    rw [show (o i).panel = (o j).panel from hij, hj] at hi
    exact (hs.ids j i (o j) (o i) (ho j) (ho i) (Option.some.inj hi)).symm
  have := Fintype.card_le_of_injective _ inj
  simp at this

/-- The slot of a new order is FREE, or holds a finished order (R39). -/
theorem slotForNew_not_live (hs : s.Linked) {o : Order} (ho : s.slot s.slotForNew = some o) : o.state.live = false := by
  unfold State.slotForNew at ho
  cases hf : allSlots.find? fun i => (s.slot i).isNone with
  | some i =>
    have := List.find?_some hf
    simp only [hf] at ho
    simp [ho] at this
  | none =>
    simp only [hf] at ho
    obtain ⟨i, hi⟩ := exists_not_live hs
    have full := List.find?_eq_none.1 hf i (mem_allSlots i)
    obtain ⟨q, hq⟩ : ∃ q, s.slot i = some q := by
      cases h : s.slot i with
      | none => simp [h] at full
      | some q => exact ⟨q, rfl⟩
    have unfinished : ∀ {j q}, s.slot j = some q → (q.state.live = true ↔ s.finishedAtSlot j = false) := by
      intro j q hq
      obtain ⟨-, -, h, -⟩ := hs.consistent j q hq
      simp [h, State.finishedAtSlot, hq]
    have hfin : s.finishedAtSlot i = true := by
      cases h : s.finishedAtSlot i with
      | true => rfl
      | false => exact absurd ((unfinished hq).2 h) (by simp [hi q hq])
    have := finished_of_search (s := s) allSlots 0 (.inr ⟨i, mem_allSlots i, hfin⟩)
    cases hl : o.state.live with
    | false => rfl
    | true => rw [(unfinished ho).1 hl] at this; cases this

/-! ### The id -/

theorem nextId_range {c : Nat} (h : c ≤ 255) : 1 ≤ nextId c ∧ nextId c ≤ 255 := by
  unfold nextId; split <;> omega

/-- The `k`th id from `c` on. -/
def idAfter (c k : Nat) : Nat := (c - 1 + k) % 255 + 1

theorem idAfter_zero {c : Nat} (h1 : 1 ≤ c) (h2 : c ≤ 255) : idAfter c 0 = c := by unfold idAfter; omega
theorem idAfter_succ {c : Nat} (h1 : 1 ≤ c) (h2 : c ≤ 255) (k : Nat) : idAfter (nextId c) k = idAfter c (k + 1) := by
  unfold idAfter nextId; split <;> omega

/-- The search gives the first value that no order has, or passes over as many as it may. -/
theorem freshId_cases (s : State) : ∀ (n c : Nat), 1 ≤ c → c ≤ 255 →
    (1 ≤ s.freshId n c ∧ s.freshId n c ≤ 255) ∧
    (s.slotOfId (s.freshId n c) = none ∨ ∀ k < n, (s.slotOfId (idAfter c k)).isSome = true)
  | 0, c, h1, h2 => ⟨⟨h1, h2⟩, .inr fun k hk => absurd hk (Nat.not_lt_zero k)⟩
  | n + 1, c, h1, h2 => by
    unfold State.freshId
    split
    · rename_i hc
      obtain ⟨n1, n2⟩ := nextId_range h2
      obtain ⟨hr, h | h⟩ := freshId_cases s n (nextId c) n1 n2
      · exact ⟨hr, .inl h⟩
      · refine ⟨hr, .inr fun k hk => ?_⟩
        cases k with
        | zero => rw [idAfter_zero h1 h2]; exact hc
        | succ k => rw [← idAfter_succ h1 h2]; exact h k (by omega)
    · rename_i hc
      exact ⟨⟨h1, h2⟩, .inl (by simpa using hc)⟩

/-- With a FREE slot in the table, some value is no order's id (R40). -/
theorem freshId_unused {c : Nat} (h1 : 1 ≤ c) (h2 : c ≤ 255) {i : SlotNo} (hi : s.slot i = none) :
    s.slotOfId (s.freshId 24 c) = none := by
  obtain ⟨-, h | h⟩ := freshId_cases s 24 c h1 h2
  · exact h
  · exfalso
    choose j hj using fun k : Fin 24 => Option.isSome_iff_exists.1 (h k.val k.isLt)
    have named : ∀ k, ∃ o, s.slot (j k) = some o ∧ o.id = idAfter c k.val := fun k => slotOfId_some (hj k)
    have inj : Function.Injective j := by
      intro a b hab
      obtain ⟨o, ho, hoid⟩ := named a
      obtain ⟨q, hq, hqid⟩ := named b
      rw [hab, hq] at ho
      obtain rfl := Option.some.inj ho
      have : idAfter c a.val = idAfter c b.val := hoid.symm.trans hqid
      unfold idAfter at this
      have ha := a.isLt
      have hb := b.isLt
      exact Fin.ext (by omega)
    obtain ⟨k, hk⟩ := Finite.surjective_of_injective inj i
    obtain ⟨o, ho, -⟩ := named k
    rw [hk, hi] at ho
    cases ho

theorem slotOfId_none {id : Nat} (h : s.slotOfId id = none) {i : SlotNo} {o : Order} (ho : s.slot i = some o) : o.id ≠ id := by
  have := List.find?_eq_none.1 h i (mem_allSlots i)
  simpa [ho] using this

/-- Ids are unique, so an order's id names its slot. -/
theorem slotOfId_of (hs : s.Linked) {i : SlotNo} {o : Order} (ho : s.slot i = some o) : s.slotOfId o.id = some i := by
  cases h : s.slotOfId o.id with
  | none => exact absurd rfl (slotOfId_none h ho)
  | some j =>
    obtain ⟨q, hq, e⟩ := slotOfId_some h
    rw [hs.ids j i q o hq ho e]

/-- In a sound table a live order is the live order of its panel. -/
theorem liveOrder_of_live (hs : s.Linked) {i : SlotNo} {o : Order} (ho : s.slot i = some o) (hl : o.state.live = true) :
    s.liveOrder o.panel = some (i, o) :=
  liveOrder_of (hs.field i o ho hl) (slotOfId_of hs ho) ho

/-- In a sound table the live order of a panel is live, and the panel's own. -/
theorem live_of_liveOrder (hs : s.Linked) {p : PanelNo} {i : SlotNo} {o : Order} (h : s.liveOrder p = some (i, o)) :
    s.slot i = some o ∧ o.panel = p ∧ o.state.live = true := by
  obtain ⟨ho, hid, -⟩ := liveOrder_some h
  obtain ⟨j, q, hq, e, hp, hl⟩ := hs.order p o.id hid
  obtain rfl := hs.ids j i q o hq ho e
  obtain rfl : q = o := Option.some.inj (hq.symm.trans ho)
  exact ⟨ho, hp, hl⟩

theorem liveOrder_eq_none (hs : s.Linked) {p : PanelNo} : s.liveOrder p = none ↔ (s.panel p).live = none := by
  constructor
  · intro h
    cases hl : (s.panel p).live with
    | none => rfl
    | some id =>
      obtain ⟨i, o, ho, rfl, rfl, hlo⟩ := hs.order p id hl
      rw [liveOrder_of_live hs ho hlo] at h
      cases h
  · intro h; simp [State.liveOrder, h]

/-! ### The record of a new order -/

/-- The order a creation makes (R38, R41). -/
def State.newOrder (s : State) (n : StationNo) (p : PanelNo) (kind : OrderKind) (target : Option Int) (cls : OrderClass)
    (hold : Option StepKind) (link : Option Nat) : Order where
  id := (s.setSlot s.slotForNew none).freshId 24 s.idCounter
  issuer := n
  panel := p
  kind := kind
  target := target
  cls := cls
  hold := hold
  pred := link
  state := .pending
  step := 1
  phase := none
  reasons := {}
  pausedFrom := none
  finishedAt := none
  retention := none
  created := s.created

theorem createOrder_eq (s : State) (n : StationNo) (p : PanelNo) (kind : OrderKind) (target : Option Int) (cls : OrderClass)
    (hold : Option StepKind) (link : Option Nat) : s.createOrder n p kind target cls hold link =
    let o := s.newOrder n p kind target cls hold link
    ({ s.setSlot s.slotForNew (some o) with idCounter := nextId o.id, created := s.created + 1 }).modPanel p
      fun x => { x with live := some o.id } := by
  simp [State.createOrder, State.newOrder, State.setSlot, State.modPanel, State.setPanel, State.panel]

theorem newOrder_id (hs : s.Linked) (n : StationNo) (p : PanelNo) (kind : OrderKind) (target : Option Int) (cls : OrderClass)
    (hold : Option StepKind) (link : Option Nat) : (1 ≤ (s.newOrder n p kind target cls hold link).id ∧
      (s.newOrder n p kind target cls hold link).id ≤ 255) ∧
    ∀ i o, s.slot i = some o → o.id = (s.newOrder n p kind target cls hold link).id → i = s.slotForNew := by
  obtain ⟨h1, h2⟩ := hs.counter
  refine ⟨(freshId_cases _ 24 _ h1 h2).1, fun i o ho e => ?_⟩
  by_contra hne
  have free := freshId_unused (s := s.setSlot s.slotForNew none) h1 h2 (setSlot_slot_self s _ none)
  exact slotOfId_none free ((setSlot_slot_ne s none (Ne.symm hne)).trans ho) e

end Sys2Proof.Machine
end

section
/-! What the pause operation does to the order table (R59): the order stands PAUSED where it was, and every other order is as it
was. -/

namespace Sys2Proof.Machine

variable {s t : State} {p : PanelNo} {i j : SlotNo} {o : Order}

theorem dropFlow_slots (s : State) (p : PanelNo) : (s.dropFlow p).st.slots = s.slots := by
  unfold State.dropFlow; split
  · rfl
  · exact modPack_slots _ _ _
  · exact modPack_slots _ _ _

theorem dropFlow_panel (s : State) (p q : PanelNo) : (s.dropFlow p).st.panel q = s.panel q := by
  unfold State.dropFlow; split
  · rfl
  · exact modPack_panel _ _ _ _
  · exact modPack_panel _ _ _ _

theorem slot_of_slots (h : t.slots = s.slots) (i : SlotNo) : t.slot i = s.slot i := by simp only [State.slot, h]

/-- The interruption of a step takes the phase and the reasons of its order, and changes no other order (R86). -/
theorem interrupt_slots (s : State) (p : PanelNo) (j : SlotNo) :
    (s.interrupt p).st.slot j = if (s.served p).map Prod.fst = some j
      then (s.slot j).map fun o => { o with phase := none, reasons := {} } else s.slot j := by
  unfold State.interrupt
  cases hs : s.served p with
  | none => rfl
  | some iok =>
    obtain ⟨i, o, k⟩ := iok
    dsimp only [Res.add_st]
    rw [slot_of_slots (dropFlow_slots _ _)]
    have calm : s.Calms p (if o.phase = some .running then s.stopStep p k else s) := by
      split
      · exact calms_stopStep k
      · exact .refl s p
    generalize (if o.phase = some .running then s.stopStep p k else s) = u at calm ⊢
    change (u.modOrder i fun o => { o with phase := none, reasons := {} }).slot j = _
    rw [modOrder_slot, calm.slot, calm.slot]
    simp only [Option.map_some, Option.some.injEq]
    split
    · rename_i e; rw [e]
    · rfl

/-- The record of an order that is paused (R59). -/
def Order.pausedFor (o : Order) (r : PauseReason) (f : PausedFrom) : Order :=
  { o with state := .paused r, pausedFrom := some f, phase := none, reasons := {} }

/-- The pause operation on an order (R59). -/
theorem pauseOrder_slots {r : PauseReason} {f : PausedFrom} (hi : s.slot i = some o) (hf : o.state.pausedFrom = some f)
    (hlive : s.liveOrder o.panel = some (i, o)) (j : SlotNo) :
    (s.pauseOrder i r).st.slot j = if i = j then some (o.pausedFor r f) else s.slot j := by
  unfold State.pauseOrder
  simp only [hi, hf, Res.map_st]
  rw [updateOrder_slot]
  have other : ∀ j, i ≠ j → (s.interrupt o.panel).st.slot j = s.slot j := fun j hij => by
    rw [interrupt_slots, if_neg]
    intro h
    obtain ⟨⟨a, b, c⟩, h1, h2⟩ := Option.map_eq_some_iff.1 h
    have := (served_some h1).1
    rw [hlive] at this
    exact hij ((Prod.mk.inj (Option.some.inj this)).1.trans h2)
  split
  · rename_i e
    subst e
    split
    · obtain h | ⟨h, -⟩ := interrupt_slot (q := o.panel) hi <;> rw [h] <;> rfl
    · rw [Res.ok_st, hi]; rfl
  · rename_i e
    split
    · exact other j e
    · rfl

theorem working_pausedFrom {st : OrderState} (h : st.working = true) : ∃ f, st.pausedFrom = some f := by
  cases st <;> simp_all [OrderState.working, OrderState.pausedFrom]

theorem live_of_pausedFrom {st : OrderState} (h : ∃ f, st.pausedFrom = some f) : st.live = true := by
  obtain ⟨f, h⟩ := h
  cases st <;> simp_all [OrderState.live, OrderState.pausedFrom]

/-- What the pausing of a panel's order, if `f` holds of it, does to the order table. -/
theorem pauseIf_slots (hs : s.Linked) (f : Order → Bool)
    (hf : ∀ o, f o = true → o.state.live = true → ∃ x, o.state.pausedFrom = some x)
    (r : PauseReason) (p : PanelNo) (j : SlotNo) :
    (s.pauseIf f r p).st.slot j = (s.slot j).map fun o =>
      if o.panel = p ∧ o.state.live = true ∧ f o = true then o.pausedFor r (o.state.pausedFrom.getD .active) else o := by
  have out : ∀ o, s.slot j = some o → ¬ (o.panel = p ∧ o.state.live = true ∧ f o = true) → s.slot j = (s.slot j).map fun o =>
      if o.panel = p ∧ o.state.live = true ∧ f o = true then o.pausedFor r (o.state.pausedFrom.getD .active) else o := by
    intro o ho hn; rw [ho, Option.map_some, if_neg hn]
  unfold State.pauseIf
  cases hl : s.liveOrder p with
  | none =>
    rw [Res.ok_st]
    cases hj : s.slot j with
    | none => rfl
    | some q =>
      refine hj ▸ out q hj fun ⟨hp, hq, _⟩ => ?_
      rw [← hp, liveOrder_of_live hs hj hq] at hl
      cases hl
  | some io =>
    obtain ⟨i, o⟩ := io
    obtain ⟨ho, rfl, hlo⟩ := live_of_liveOrder hs hl
    dsimp only
    split
    · rename_i hfo
      obtain ⟨x, hx⟩ := hf o hfo hlo
      rw [pauseOrder_slots ho hx hl]
      split
      · rename_i e
        subst e
        simp [ho, hlo, hfo, hx]
      · rename_i e
        cases hj : s.slot j with
        | none => rfl
        | some q =>
          refine hj ▸ out q hj fun ⟨hp, hq, _⟩ => ?_
          have := liveOrder_of_live hs hj hq
          rw [hp, hl] at this
          exact e (Prod.mk.inj (Option.some.inj this)).1
    · rename_i hfo
      rw [Res.ok_st]
      cases hj : s.slot j with
      | none => rfl
      | some q =>
        refine hj ▸ out q hj fun ⟨hp, hq, hfq⟩ => ?_
        have := liveOrder_of_live hs hj hq
        rw [hp, hl] at this
        obtain ⟨rfl, rfl⟩ := Prod.mk.inj (Option.some.inj this)
        exact hfo hfq

/-- The record of an order once the orders of the panels that satisfy `f` have been paused. -/
def Order.stoppedBy (o : Order) (f : Order → Bool) (ps : List PanelNo) (r : PauseReason) : Order :=
  if o.panel ∈ ps ∧ f o = true then o.pausedFor r (o.state.pausedFrom.getD .active) else o

theorem each_st_congr {α : Type} {f : α → State → Res} : ∀ (xs : List α) (r₁ r₂ : Res), r₁.st = r₂.st →
    (Res.each xs f r₁).st = (Res.each xs f r₂).st
  | [], _, _, h => h
  | x :: xs, r₁, r₂, h => each_st_congr xs (r₁.bind (f x)) (r₂.bind (f x)) (by simp only [Res.bind_st, h])

/-- `each` takes the first element and then the others. -/
theorem each_cons_st {α : Type} (f : α → State → Res) (x : α) (xs : List α) (s : State) :
    (Res.each (x :: xs) f (.ok s)).st = (Res.each xs f (.ok (f x s).st)).st := each_st_congr xs _ _ rfl

/-- The pausing of the orders of some panels that satisfy `f`, panel by panel (R59). -/
theorem each_pauseIf_slots {f : Order → Bool} (hf : ∀ o, f o = true → ∃ x, o.state.pausedFrom = some x) (r : PauseReason)
    (j : SlotNo) :
    ∀ (ps : List PanelNo) (s : State), s.Linked →
    (Res.each ps (fun p s => s.pauseIf f r p) (.ok s)).st.slot j = (s.slot j).map fun o => o.stoppedBy f ps r
  | [], s, _ => by simp [Res.each, Order.stoppedBy]
  | p :: ps, s, hs => by
    have hs' : (s.pauseIf f r p).st.Linked := (changes_pauseIf (L := Leave.all) fun _ _ _ _ => trivial).linked hs
    rw [each_cons_st, each_pauseIf_slots hf r j ps _ hs', pauseIf_slots hs f fun o h _ => hf o h]
    cases s.slot j with
    | none => rfl
    | some o =>
      simp only [Option.map_some, Option.some.injEq]
      have done : ∀ x, f (o.pausedFor r x) = false := fun x => by
        cases h : f (o.pausedFor r x) with
        | false => rfl
        | true => exact absurd (hf _ h) (by simp [Order.pausedFor, OrderState.pausedFrom])
      by_cases hp : o.panel = p ∧ o.state.live = true ∧ f o = true
      · obtain ⟨h1, h2, h3⟩ := hp
        simp [Order.stoppedBy, done, h1, h2, h3]
      · rw [if_neg hp]
        unfold Order.stoppedBy
        by_cases hw : f o = true
        · have hne : o.panel ≠ p := fun e => hp ⟨e, live_of_pausedFrom (hf o hw), hw⟩
          simp [hw, hne]
        · simp [hw]

theorem changes_eachPause {L : Leave} (hL : ∀ p, L.orders p) (f : Order → Bool) (ps : List PanelNo) (r : PauseReason) :
    Changes L s (Res.each ps (fun p s => s.pauseIf f r p) (.ok s)).st :=
  Res.each_ind (P := fun t => Changes L s t) (fun _ _ h => h.trans (changes_pauseIf fun _ _ _ _ => hL _)) ps _ .refl

/-- The pausing of every ACTIVE and AT_HOLD order among the panels' orders. -/
theorem pauseWorking_slots (hs : s.Linked) (ps : List PanelNo) (r : PauseReason) (j : SlotNo) :
    (s.pauseWorking ps r).st.slot j = (s.slot j).map fun o => o.stoppedBy (fun o => o.state.working) ps r :=
  each_pauseIf_slots (f := fun o => o.state.working) (fun _ h => working_pausedFrom h) r j ps s hs

theorem changes_pauseWorking {L : Leave} (hL : ∀ p, L.orders p) (ps : List PanelNo) (r : PauseReason) :
    Changes L s (s.pauseWorking ps r).st := changes_eachPause hL _ ps r

/-! ### A panel's order ends with a fault -/

theorem Changes.live_none {L : Leave} (h : Changes L s t) (hp : (s.panel p).live = none) : (t.panel p).live = none := by
  obtain e | e := (h.panel p).live
  · exact e.trans hp
  · exact e

theorem finishOrder_live {st : OrderState} {n : Nat} (hi : s.slot i = some o) (hp : o.panel = p) :
    ((s.finishOrder i st n).panel p).live = none := by
  subst hp
  unfold State.finishOrder
  simp [hi]

/-- The end of an order leaves its panel without a live order (R8). -/
theorem endOrder_live {st : OrderState} (ho : s.slot i = some o) (hl : o.state.live = true) :
    ((s.endOrder i st).st.panel o.panel).live = none := by
  simp only [State.endOrder, ho, hl, if_true, Res.map_st]
  refine (changes_cascade (L := Leave.all) _ _ _ _).live_none ?_
  split
  · obtain h | ⟨h, -⟩ := interrupt_slot (q := o.panel) ho
    · exact finishOrder_live h rfl
    · exact finishOrder_live h rfl
  · exact finishOrder_live ho rfl

/-- The fail operation leaves the panel without a live order (R60, R8). -/
theorem failLive_live (hs : s.Linked) (p : PanelNo) (r : FailReason) : ((s.failLive p r).st.panel p).live = none := by
  unfold State.failLive
  cases hl : s.liveOrder p with
  | none => exact (liveOrder_eq_none hs).1 hl
  | some io =>
    obtain ⟨i, o⟩ := io
    obtain ⟨ho, rfl, hlo⟩ := live_of_liveOrder hs hl
    exact endOrder_live ho hlo

/-- A fault that is raised joins the fault set of its panel, and no other. -/
theorem raise_faults (s : State) (p q : PanelNo) (k : PanelFault) : ((s.raise p k).st.panel q).faults =
    if p = q ∧ s.configured p = true ∧ k ∉ (s.panel p).faults then joinSet allPanelFaults k (s.panel p).faults
    else (s.panel q).faults := by
  by_cases h : s.configured p = true ∧ k ∉ (s.panel p).faults
  · obtain ⟨hc, hk⟩ := h
    let L : Leave := { Leave.all with faults := False }
    have off := (calms_panelOff (s := s.modPanel p fun x => { x with faults := joinSet allPanelFaults k x.faults })
      (p := p)).changes (L := L)
    have run := ((off.trans (changes_failLive (r := .fault k) (p := p) fun _ _ _ => .inl trivial)).trans
      (changes_endJogOn (p := p))).trans (changes_latch (L := L) (e := .panelFault) (by decide))
    have faults := Changes.faults_eq run (fun h => h) q
    rw [modPanel_panel] at faults
    have e : (s.raise p k).st = ((((s.modPanel p fun x => { x with faults := joinSet allPanelFaults k x.faults }).panelOff p
      ).failLive p (.fault k)).st.endJogOn p).st.setLatch .panelFault := by
      simp [State.raise, hc, hk]
    rw [e, faults]
    by_cases hq : p = q
    · simp [hq, hq ▸ hc, hq ▸ hk]
    · simp [hq]
  · have e : (s.raise p k).st = s := by
      unfold State.raise
      rw [if_pos]
      · rfl
      · by_cases hc : s.configured p = true
        · simpa [hc] using h
        · simp [hc]
    rw [e, if_neg fun h' => h h'.2]

/-- A raised fault leaves its panel without a live order (R166). -/
theorem raise_live (hs : s.Linked) {k : PanelFault} (hc : s.configured p = true) (hk : k ∉ (s.panel p).faults) :
    ((s.raise p k).st.panel p).live = none := by
  have added : (s.modPanel p fun x => { x with faults := joinSet allPanelFaults k x.faults }).Linked :=
    (Change.fault (L := Leave.all) p k trivial).linked hs
  have off := (calms_panelOff (s := s.modPanel p fun x => { x with faults := joinSet allPanelFaults k x.faults })
    (p := p)).changes (L := Leave.all)
  have failed := failLive_live (off.linked added) p (.fault k)
  have left := (changes_endJogOn (L := Leave.all) (s := ((((s.modPanel p fun x =>
    { x with faults := joinSet allPanelFaults k x.faults }).panelOff p)).failLive p (.fault k)).st) (p := p)).live_none failed
  simpa [State.raise, hc, hk] using left

end Sys2Proof.Machine
end

section
/-! The fail operation and the raise of a fault touch other panels than their own only to take their cancelled orders away. -/

namespace Sys2Proof.Machine

variable {s t : State} {p q : PanelNo} {i : SlotNo} {o : Order}

/-- A panel's record is as it was, unless its live order has been taken away (R8). -/
def Panel.Spared (x y : Panel) : Prop := y = x ∨ y = x.unassigned

theorem Panel.Spared.trans {x y z : Panel} (a : x.Spared y) (b : y.Spared z) : x.Spared z := by
  obtain rfl | rfl := a
  · exact b
  · obtain rfl | rfl := b
    · exact .inr rfl
    · exact .inr rfl

/-- Every other panel's record is spared. -/
def State.Spares (p : PanelNo) (s t : State) : Prop := ∀ q, p ≠ q → (s.panel q).Spared (t.panel q)

theorem State.Spares.trans {u : State} (a : s.Spares p t) (b : t.Spares p u) : s.Spares p u := fun q h => (a q h).trans (b q h)

theorem spares_of_panel (h : ∀ q, p ≠ q → t.panel q = s.panel q) : s.Spares p t := fun q e => .inl (h q e)

theorem spares_modPanel (f : Panel → Panel) : s.Spares p (s.modPanel p f) := spares_of_panel fun _ e => modPanel_panel_ne _ _ e

theorem State.Calms.spares (h : s.Calms p t) : s.Spares p t := by
  obtain ⟨x, rfl, -⟩ := h
  exact spares_of_panel fun _ e => setPanel_panel_ne _ _ e

theorem spares_interrupt (s : State) (p : PanelNo) : s.Spares p (s.interrupt p).st := by
  unfold State.interrupt
  split
  · exact spares_of_panel fun _ _ => rfl
  · rename_i i o k _
    dsimp only [Res.add_st]
    have stopped : s.Spares p (if o.phase = some .running then s.stopStep p k else s) := by
      split
      · exact (calms_stopStep k).spares
      · exact spares_of_panel fun _ _ => rfl
    refine (stopped.trans ?_).trans (spares_of_panel fun q _ => dropFlow_panel _ _ _)
    refine .trans (spares_of_panel fun q e => ?_) (spares_modPanel _)
    exact modPanel_panel_ne _ _ e

/-- An order that finishes is taken away from its panel; nothing else happens to a panel. -/
theorem spared_finishOrder (s : State) (i : SlotNo) (st : OrderState) (n : Nat) (q : PanelNo) :
    (s.panel q).Spared ((s.finishOrder i st n).panel q) := by
  unfold State.finishOrder
  split
  · exact .inl rfl
  · dsimp only
    rw [setLatch_panel, updateOrder_panel, modPanel_panel]
    split
    · rename_i e
      subst e
      exact .inr rfl
    · exact .inl rfl

theorem spared_cascade (n : Nat) (q : PanelNo) : ∀ (fuel : Nat) (ids : List Nat) (s : State),
    (s.panel q).Spared ((State.cascade n fuel ids s).panel q)
  | 0, _, _ => .inl rfl
  | fuel + 1, ids, s => by
    have cancelled : ∀ (js : List SlotNo) (s : State),
        (s.panel q).Spared ((js.foldl (fun s i => s.finishOrder i (.cancelled .predecessor) n) s).panel q) := by
      intro js
      induction js with
      | nil => exact fun _ => .inl rfl
      | cons j js ih => exact fun s => (spared_finishOrder s j _ _ q).trans (ih _)
    unfold State.cascade
    dsimp only
    split
    · exact .inl rfl
    · exact (cancelled _ s).trans (spared_cascade n q fuel _ _)

theorem spares_endOrder (hi : s.slot i = some o) (st : OrderState) : s.Spares o.panel (s.endOrder i st).st := by
  unfold State.endOrder
  rw [hi]
  dsimp only
  split
  · rw [Res.map_st]
    refine .trans ?_ fun q _ => (spared_finishOrder _ i st _ q).trans (spared_cascade _ q _ _ _)
    split
    · exact spares_interrupt s o.panel
    · exact spares_of_panel fun _ _ => rfl
  · exact spares_of_panel fun _ _ => rfl

theorem spares_failLive (hs : s.Linked) (p : PanelNo) (r : FailReason) : s.Spares p (s.failLive p r).st := by
  unfold State.failLive
  split
  · exact spares_of_panel fun _ _ => rfl
  · rename_i j q h
    obtain ⟨hj, rfl, -⟩ := live_of_liveOrder hs h
    exact spares_endOrder hj _

theorem spares_endJogOn (s : State) (p : PanelNo) : s.Spares p (s.endJogOn p).st := by
  unfold State.endJogOn
  split
  · exact spares_of_panel fun _ _ => rfl
  · rename_i j hj
    split
    · rename_i e
      subst e
      unfold State.endJog
      rw [hj]
      dsimp only [Res.add_st]
      refine .trans ?_ (spares_of_panel fun q _ => dropFlow_panel _ _ _)
      exact (State.Calms.spares (s := { s with jog := none }) (calms_jogCoilsOff j)).trans (spares_modPanel _)
    · exact spares_of_panel fun _ _ => rfl

theorem spares_raise (hs : s.Linked) (p : PanelNo) (k : PanelFault) : s.Spares p (s.raise p k).st := by
  unfold State.raise
  split
  · exact spares_of_panel fun _ _ => rfl
  · extract_lets u v r
    have off : s.Spares p v := (spares_modPanel _).trans calms_panelOff.spares
    have linked : v.Linked := by
      have h : Changes Leave.all s v := .trans (.single (.fault p k trivial)) calms_panelOff.changes
      exact h.linked hs
    refine (off.trans (spares_failLive linked p (.fault k))).trans ?_
    exact (spares_endJogOn (v.failLive p (.fault k)).st p).trans (spares_of_panel fun q _ => setLatch_panel _ _ q)

theorem spares_warn (k : PanelWarning) : s.Spares p (s.warn p k) :=
  (spares_modPanel _).trans (spares_of_panel fun q _ => setLatch_panel _ _ q)

theorem spares_afterChop (hs : s.Linked) (p : PanelNo) : s.Spares p (s.afterChop p).st := by
  unfold State.afterChop
  extract_lets u
  have warned : Changes Leave.all s u := changes_warn (p := p) .travelTrip
  split
  · refine ((spares_warn _).trans (spares_modPanel _)).trans (spares_raise ?_ p _)
    exact Changes.linked (warned.trans (changes_quiet (f := fun x => { x with overloadPack := some (s.travelPack p) }) fun _ =>
      .of_same rfl rfl rfl rfl id rfl rfl rfl rfl)) hs
  · exact spares_warn _

theorem spares_chopPanel (hs : s.Linked) (p : PanelNo) : s.Spares p (s.chopPanel p).st := by
  rw [chopPanel_eq]
  have chopped := changes_chopped (L := Leave.all) (s := s) (p := p) fun _ _ => trivial
  exact (spares_modPanel _).trans (spares_afterChop (Changes.linked chopped hs) p)

end Sys2Proof.Machine
end

section
/-! What a command may do, one act at a time (`Act`): the changes of the work it starts, and the changes of the records that the
command itself makes. Every command is a run of acts; what each act keeps, every command keeps. -/

namespace Sys2Proof.Machine

/-! ### Acts -/

/-- What a command may do: besides the panels whose sequencers serve an order, it may drive a panel in SERVICE, and one at the
end of its hold-off. -/
def Leave.command : Leave where
  orders := fun _ => True
  drives := fun s p => (s.served p).isSome = true ∨ s.unit = .service ∧ (s.panel p).faults = [] ∨
    (s.panel p).holdoff.isSome = true
  holds := fun s p => (s.panel p).mode = .driven ∨ (s.panel p).holdoff.isSome = true
  faults := False

theorem Leave.works_command : Leave.command.Works := ⟨fun _ _ h => .inl h, fun _ _ h => .inl h⟩
theorem Leave.ends_command (s : State) (p : PanelNo) : Leave.command.Ends s p := fun _ _ _ => .inl trivial

/-- Readings, lines, claims, the link's records and the like change; nothing that an invariant speaks of. -/
structure State.Framed (s t : State) : Prop where
  panels : t.panels = s.panels := by rfl
  slots : t.slots = s.slots := by rfl
  unit : t.unit = s.unit := by rfl
  params : t.params = s.params := by rfl
  layout : t.layout = s.layout := by rfl
  store : t.store = s.store := by rfl
  jog : t.jog = s.jog := by rfl
  idCounter : t.idCounter = s.idCounter := by rfl
  created : t.created = s.created := by rfl
  latches : t.latches = s.latches := by rfl
  writing : t.writing.isSome = s.writing.isSome := by rfl
  list : -250 ≤ s.list → s.list ≤ 250 → -250 ≤ t.list ∧ t.list ≤ 250 := by exact fun h1 h2 => ⟨h1, h2⟩
  trim : -250 ≤ s.trim → s.trim ≤ 250 → -250 ≤ t.trim ∧ t.trim ≤ 250 := by exact fun h1 h2 => ⟨h1, h2⟩
  watch : ∀ n, (t.station n).watching = (s.station n).watching ∧ (t.station n).deadline = (s.station n).deadline := by
    exact fun _ => ⟨rfl, rfl⟩
  errors : ∀ n, (s.station n).frameErrors ≤ 255 → (t.station n).frameErrors ≤ 255 := by exact fun _ h => h
  flow : ∀ k, (t.pack k).grants = (s.pack k).grants ∧ (t.pack k).waiting = (s.pack k).waiting := by
    intro k; cases k <;> exact ⟨rfl, rfl⟩

/-- The output enable is not removed, unless every coil is off as it is (R155). -/
def State.holdsEnable (s t : State) : Prop := t.enabled = false → s.enabled = false ∨ s.inStart = true

/-- A change of a panel's record by what its lines and timers show, or by a request for it: nothing is driven. -/
structure Panel.Fed (top : Int) (x y : Panel) : Prop where
  live : y.live = x.live := by rfl
  faults : ∀ k ∈ y.faults, k ∈ x.faults := by exact fun _ h => h
  range : 0 ≤ top → top ≤ 4095 → x.inRange → y.inRange := by exact fun _ _ h => h
  coils : ∀ c, y.coils.get c = true → x.coils.get c = true := by exact fun _ h => h
  mode : y.mode = .driven → x.mode = .driven := by exact id
  timers : x.timersAgree → y.timersAgree := by exact id
  move : x.move = none → y.move = none := by exact id
  holdoff : y.holdoff.isSome = true → x.holdoff.isSome = true := by exact id

/-- The command may take event latches away. -/
def forgetsLatches (c : Instr) : Prop :=
  (∃ n tag codes, c = .clearEvents n tag codes) ∨
    ∃ f n m tag codes, c = .unknownRequest f ∧ requestOf n f = some (.clearEvents m tag codes)

/-- A command, with what is known of the state in which it is taken. -/
structure Known where
  command : Instr
  /-- The order table and the panels agree. -/
  sound : Prop
  /-- The attendance watches run as they should. -/
  watched : Prop
  /-- Without the output enable, and in START, every coil is off. -/
  enabled : Prop
  /-- The order table before the command. -/
  table : SlotNo → Option Order
  /-- The orders created by the command count from this number. -/
  mark : Nat

/-- The order in the slot is finished before the command. -/
def Known.finished (K : Known) (i : SlotNo) : Prop := ∃ o, K.table i = some o ∧ o.state.live = false

/-- A request may amend the order in the slot: it is none of those that were finished before the command. -/
def Known.may (K : Known) (s : State) (i : SlotNo) : Prop := K.sound → K.finished i → ∀ o, s.slot i = some o → K.mark ≤ o.created

/-- One act of a command. -/
inductive Act (K : Known) : State → State → Prop where
  | change {s t : State} (h : Change Leave.command s t) : Act K s t
  | raise {s : State} (p : PanelNo) (k : PanelFault) : Act K s (s.raise p k).st
  | frame {s t : State} (h : s.Framed t) (he : s.holdsEnable t) : Act K s t
  | cut {s t : State} (h : s.Framed t) : Act K s (t.forPanels fun p s => s.panelOff p)
  | feed {s : State} (p : PanelNo) (f : Panel → Panel) (h : Panel.Fed (s.openCount p) (s.panel p) (f (s.panel p))) :
      Act K s (s.modPanel p f)
  | forget {s : State} (xs : List EventLatch) (hc : forgetsLatches K.command) : Act K s { s with latches := xs }
  | amend {s : State} (i : SlotNo) (f : Order → Order) (hz : K.may s i) (hf : ∀ o, f o =
      { o with target := (f o).target, hold := (f o).hold, cls := (f o).cls, pred := (f o).pred }) :
      Act K s (s.modOrder i f)
  | adopt {s : State} (i : SlotNo) (o : Order) (n : StationNo) (hi : s.slot i = some o) (hl : o.state.live = true)
      (hw : s.stationKind n = some .pendant → s.pendantHatch n = some (hatchOf o.panel)) :
      Act K s (s.updateOrder i fun o => { o with issuer := n })
  | create {s : State} (n : StationNo) (p : PanelNo) (kind : OrderKind) (target : Option Int) (cls : OrderClass)
      (hold : Option StepKind) (link : Option Nat) (hu : s.unit = .run) (hc : s.configured p = true)
      (hf : (s.panel p).faults = []) (hl : K.sound → (s.panel p).live = none)
      (hw : s.stationKind n = some .pendant → s.pendantHatch n = some (hatchOf p)) :
      Act K s (s.createOrder n p kind target cls hold link)
  | retire {s : State} (i : SlotNo) (h : ∀ o, s.slot i = some o → K.sound → o.state.live = false) :
      Act K s (s.setSlot i none)
  | unwatch {s : State} (n : StationNo) (h : K.watched → ¬ s.attends n) :
      Act K s (s.modStation n fun x => { x with watching := false, deadline := none })
  | rewatch {s : State} (n : StationNo) (r d : Nat) (h : (s.station n).watching = true) :
      Act K s (s.modStation n fun x => { x with reference := r, deadline := some d })
  | tune {s : State} (i : ParamId) (v : Nat) (hu : s.unit = .setup) :
      Act K s { s with params := s.params.put (i.clamp v) i }
  | write {s : State} (w : Writing) (hu : s.unit = .setup) : Act K s { s with writing := some w }
  | enter {s : State} (u : UnitState) (x : Option StationNo) (hu : u = .setup ∨ u = .run ∨ u = .service)
      (hl : u = .setup → ∀ i o, s.slot i = some o → K.sound → o.state.live = false)
      (hw : u = .service → ∀ i o, s.slot i = some o → K.sound → o.state.working = false)
      (hj : u ≠ .service → K.sound → s.jog = none) (hs : u ≠ .setup → K.sound → s.writing = none) :
      Act K s { s with unit := u, serviceStation := x }
  | commit {s : State} (hc : K.command = .storeWriteEnd true) (hw : s.writing.isSome = true) :
      Act K s { ({ s with writing := none }).takeLayout with
        store := some s.params, configAbsent := false, locked := true, unit := .run }
  | noCopy {s : State} (hw : s.writing.isSome = true) : Act K s { s with writing := none, store := none }
  | powerOn {s : State} (hc : K.command = .powerOn) : Act K s s.powerOn
  | restart {s : State} : Act K s s.restart
  | hold {s : State} (p : PanelNo) (d : Nat) (h : ¬ K.sound) (he : K.enabled → s.inStart = false) :
      Act K s (s.modPanel p fun x => { x with holdoff := some d })
  | latch {s : State} (e : EventLatch) : Act K s (s.setLatch e)
  | jogOn {s : State} (j : Jog) (hu : s.unit = .service) (hc : s.configured j.panel = true)
      (hf : (s.panel j.panel).faults = []) : Act K s { s with jog := some j }

/-- What a run of acts leads to. -/
abbrev Acts (K : Known) : State → State → Prop := Relation.ReflTransGen (Act K)

section
variable {K : Known} {s t : State} {p : PanelNo}

theorem Changes.acts (h : Changes Leave.command s t) : Acts K s t := by
  induction h with
  | refl => exact .refl
  | tail _ h ih => exact ih.tail (.change h)

theorem Deeds.acts (h : Deeds Leave.command s t) : Acts K s t := by
  induction h with
  | refl => exact .refl
  | tail _ h ih =>
    cases h with
    | change h => exact ih.tail (.change h)
    | raise p k => exact ih.tail (.raise p k)

theorem State.Framed.acts (h : s.Framed t) (he : t.loopOpen = s.loopOpen := by rfl)
    (hs : t.supplyLow = s.supplyLow := by rfl) : Acts K s t :=
  .single (.frame h fun e => .inl (by simpa [State.enabled, he, hs] using e))

theorem acts_feed {f : Panel → Panel} (h : ∀ x, Panel.Fed (s.openCount p) x (f x)) : Acts K s (s.modPanel p f) :=
  .single (.feed p f (h _))

/-! ### The agenda -/

theorem acts_runJob (j : Job) : Acts K s (runJob j s).st := (deeds_runJob Leave.works_command j).acts

theorem acts_settle {r : Res} (h : Acts K s r.st) : Acts K s r.settle :=
  drain_ind (P := fun t => Acts K s t) (fun j _ h => h.trans (acts_runJob j)) _ _ _ h

theorem acts_settle_mk {js : List Job} (h : Acts K s t) : Acts K s (Res.mk t js).settle := acts_settle h

theorem acts_now {r : Res} {js : List Job} (h : Acts K s r.st) : Acts K s (r.now js).st :=
  now_ind (P := fun t => Acts K s t) (fun j _ h => h.trans (acts_runJob j)) _ _ h

theorem acts_each {α : Type} {xs : List α} {f : α → State → Res} {r : Res} (h : Acts K s r.st)
    (hf : ∀ a t, Acts K t (f a t).st) : Acts K s (Res.each xs f r).st :=
  Res.each_ind (P := fun t => Acts K s t) (fun a _ h => h.trans (hf a _)) _ _ h

theorem acts_fold {α : Type} {f : State → α → State} (hf : ∀ a t, Acts K t (f t a)) :
    ∀ (xs : List α) (s : State), Acts K s (xs.foldl f s)
  | [], _ => .refl
  | a :: xs, s => (hf a s).trans (acts_fold hf xs (f s a))

theorem acts_raise (k : PanelFault) : Acts K s (s.raise p k).st :=
  .single (.raise p k)

theorem acts_raiseAll (ps : List PanelNo) (k : PanelFault) : Acts K s (s.raiseAll ps k).st :=
  acts_each .refl fun _ _ => acts_raise k

theorem acts_endJog : Acts K s s.endJog.st := Changes.acts changes_endJog
theorem acts_endJogOn : Acts K s (s.endJogOn p).st := Changes.acts changes_endJogOn
theorem acts_warn (k : PanelWarning) : Acts K s (s.warn p k) := Changes.acts (changes_warn k)
theorem acts_latch (e : EventLatch) : Acts K s (s.setLatch e) := .single (.latch e)
theorem acts_latchIf {b : Bool} {e : EventLatch} : Acts K s (s.latchIf b e) := by
  unfold State.latchIf
  split
  · exact acts_latch e
  · exact .refl
end

end Sys2Proof.Machine
end

section
/-! Every request is a run of acts. -/

namespace Sys2Proof.Machine

variable {K : Known} {s t : State} {p : PanelNo} {n : StationNo}

/-! ### The link -/

theorem framed_modStation {f : Station → Station} (h : ∀ x, (f x).watching = x.watching ∧ (f x).deadline = x.deadline)
    (he : ∀ x, x.frameErrors ≤ 255 → (f x).frameErrors ≤ 255) : s.Framed (s.modStation n f) :=
  { watch := fun m => by
      rw [modStation_station]; split
      · rename_i e; subst e; exact h _
      · exact ⟨rfl, rfl⟩
    errors := fun m hm => by
      rw [modStation_station]; split
      · rename_i e; subst e; exact he _ hm
      · exact hm }

theorem acts_taken (s : State) (n : StationNo) : Acts K s (s.taken n) :=
  State.Framed.acts (t := s.taken n) (framed_modStation (fun _ => ⟨rfl, rfl⟩) fun _ h => h)

theorem acts_queueReply (s : State) (r : Reply) : Acts K s (s.queueReply r) :=
  (State.Framed.acts (s := s) (t := s.modStation r.station fun x => { x with lastReply := r.code.code })
    (framed_modStation (fun _ => ⟨rfl, rfl⟩) fun _ h => h)).trans (State.Framed.acts {})

theorem acts_linkRefuse (s : State) (n : StationNo) (tag : Byte) (e : ReplyCode) :
    Acts K s (s.linkRefuse n tag e) := acts_queueReply _ _

theorem acts_unknownStation (s : State) (n : StationNo) (tag : Byte) : Acts K s (s.unknownStation n tag) :=
  State.Framed.acts {}

/-- A request does what its owner does with the unit, once it has been taken. -/
theorem acts_request {owner : State → Answer} {tag : Byte}
    (ho : Acts K (s.taken n) (owner (s.taken n)).st) : Acts K s (s.takeRequest n tag owner) := by
  unfold State.takeRequest
  split
  · exact .refl
  · split
    · exact acts_unknownStation _ _ _
    · split
      · exact acts_linkRefuse _ _ _ _
      · split
        · exact acts_linkRefuse _ _ _ _
        · unfold State.handOver
          dsimp only
          split
          · exact (acts_taken s n).trans ho
          · exact ((acts_taken s n).trans ho).trans (acts_queueReply _ _)

/-! ### Lookups -/

theorem ownerReadUnit_st (page : Byte) (s : State) : (ownerReadUnit page s).st = s := by
  unfold ownerReadUnit; split <;> rfl
theorem ownerReadPanel_st (panel page : Byte) (s : State) : (ownerReadPanel panel page s).st = s := by
  unfold ownerReadPanel; split
  · rfl
  · split
    · rfl
    · split <;> rfl
theorem ownerReadCleat_st (panel cleat : Byte) (s : State) : (ownerReadCleat panel cleat s).st = s := by
  unfold ownerReadCleat; split
  · rfl
  · split
    · rfl
    · split
      · rfl
      · split <;> rfl
theorem ownerReadStation_st (station : Byte) (s : State) : (ownerReadStation station s).st = s := by
  unfold ownerReadStation; split <;> rfl
theorem ownerReadOrder_st (id page : Byte) (s : State) : (ownerReadOrder id page s).st = s := by
  unfold ownerReadOrder; split
  · rfl
  · split <;> rfl
theorem ownerFindOrder_st (panel : Byte) (s : State) : (ownerFindOrder panel s).st = s := by
  unfold ownerFindOrder; split
  · rfl
  · split
    · rfl
    · split <;> rfl
theorem ownerReadZone_st (id page : Byte) (s : State) : (ownerReadZone id page s).st = s := by
  unfold ownerReadZone; split
  · rfl
  · split
    · rfl
    · split
      · split <;> rfl
      · rfl
theorem ownerReadEvents_st (s : State) : (ownerReadEvents s).st = s := rfl
theorem ownerReadParam_st (number : Half) (s : State) : (ownerReadParam number s).st = s := by
  unfold ownerReadParam; split <;> rfl

theorem acts_of_eq (h : t = s) : Acts K s t := h ▸ .refl

/-! ### Requests on orders -/

theorem orderNamed_some {b : Byte} {i : SlotNo} {o : Order} (h : s.orderNamed b = some (i, o)) :
    s.slot i = some o ∧ o.id = b.toNat ∧ b.toNat ≠ 0 := by
  unfold State.orderNamed at h
  split at h
  · cases h
  · rename_i hb
    cases hi : s.slotOfId b.toNat with
    | none => simp [hi] at h
    | some j =>
      obtain ⟨q, hq, e⟩ := slotOfId_some hi
      simp only [hi, hq, Option.map_some, Option.some.injEq, Prod.mk.injEq] at h
      obtain ⟨rfl, rfl⟩ := h
      exact ⟨hq, e, hb⟩

/-- What holds of the unit when the checks of R47 refuse, and when the request is carried out, holds after it. -/
theorem onOrder_st {P : State → Prop} {ok : Bool} {id : Byte} {may : Order → Bool} {stateOk : OrderState → Bool}
    {otherwise : ReplyCode} {act : SlotNo → Order → Answer} (hr : P s)
    (ha : ∀ i o, s.slot i = some o → ok = true → may o = true → stateOk o.state = true → P (act i o).st) :
    P (s.onOrder ok id may stateOk otherwise act).st := by
  unfold State.onOrder
  split
  · exact hr
  · rename_i hok
    split
    · exact hr
    · rename_i i o hio
      split
      · exact hr
      · rename_i hm
        split
        · exact hr
        · rename_i hs
          exact ha i o (orderNamed_some hio).1 (by simpa using hok) (by simpa using hm) (by simpa using hs)

/-- An order made by a request waits for its predecessor, or is admitted at once. -/
theorem acts_enter {i : SlotNo} {link : Option Nat} (h : ∀ o, s.slot i = some o → o.state.live = true) :
    Acts K s (s.enter i link).st := by
  unfold State.enter; split
  · exact .refl
  · exact Changes.acts (changes_admitted fun o ho => .inr ⟨h o ho, trivial⟩)

theorem createOrder_slot (s : State) (n : StationNo) (p : PanelNo) (kind : OrderKind) (target : Option Int) (cls : OrderClass)
    (hold : Option StepKind) (link : Option Nat) (j : SlotNo) : (s.createOrder n p kind target cls hold link).slot j =
      if s.slotForNew = j then some (s.newOrder n p kind target cls hold link) else s.slot j := by
  rw [createOrder_eq]
  exact setSlot_slot s s.slotForNew j _

theorem createOrder_panel (s : State) (n : StationNo) (p : PanelNo) (kind : OrderKind) (target : Option Int) (cls : OrderClass)
    (hold : Option StepKind) (link : Option Nat) (q : PanelNo) : (s.createOrder n p kind target cls hold link).panel q =
      if p = q then { s.panel p with live := some (s.newOrder n p kind target cls hold link).id } else s.panel q := by
  rw [createOrder_eq, modPanel_panel]; rfl

/-- The checks of R43 on the panel, once none has refused. -/
theorem createRefusal_none {kind : OrderKind} {pred : Byte} (h : s.createRefusal n p kind pred = none) :
    s.configured p = true ∧ s.authority n (hatchOf p) = true ∧ (s.panel p).faults = [] ∧ (s.panel p).live = none := by
  unfold State.createRefusal at h
  simp only [ite_eq_iff, reduceCtorEq, and_false, false_or, not_not, Bool.not_eq_true', Bool.not_eq_true] at h
  obtain ⟨h1, h2, h3, h4, -⟩ := h
  refine ⟨by simpa using h1, by simpa using h2, by simpa using h3, by simpa using h4⟩

/-- A PENDANT has authority over its own hatch only (R141). -/
theorem pendantHatch_of_authority {h : HatchNo} (ha : s.authority n h = true) (hk : s.stationKind n = some .pendant) :
    s.pendantHatch n = some h := by
  simp only [State.authority, hk, Bool.and_eq_true, beq_iff_eq] at ha
  exact ha.2.2

theorem acts_created {kind : OrderKind} {pred : Byte} (target : Option Int) (cls : OrderClass) (hold : Option StepKind)
    (link : Option Nat) (hu : s.unit = .run) (h : s.createRefusal n p kind pred = none) :
    Acts K s (s.createOrder n p kind target cls hold link) := by
  obtain ⟨hc, ha, hf, hl⟩ := createRefusal_none h
  exact .single (.create n p kind target cls hold link hu hc hf (fun _ => hl) (pendantHatch_of_authority ha))

theorem acts_ownerCreateOrder (panel : Byte) (kind : BitVec 3) (cls : BitVec 1) (hold pred : Byte) (target : Half) :
    Acts K s (ownerCreateOrder n panel kind cls hold pred target s).st := by
  unfold ownerCreateOrder
  split
  · exact .refl
  · rename_i hu
    split
    · rename_i p k cl h _ _
      split
      · exact .refl
      · rename_i hr
        dsimp only [accept]
        refine (acts_created _ cl h (s.linkOf pred) (by simpa using hu) hr).trans (acts_settle (acts_enter fun o ho => ?_))
        rw [createOrder_slot, if_pos rfl] at ho
        obtain rfl := Option.some.inj ho
        rfl
    · exact .refl

theorem portOf_ne_starboardOf (h : HatchNo) : portOf h ≠ starboardOf h := by
  intro e
  have := congrArg Fin.val e
  simp [portOf, starboardOf] at this

theorem hatchOf_portOf (h : HatchNo) : hatchOf (portOf h) = h := by
  ext; simp [hatchOf, portOf]
theorem hatchOf_starboardOf (h : HatchNo) : hatchOf (starboardOf h) = h := by
  ext; simp [hatchOf, starboardOf]; omega

/-- An order that enters the table is live. -/
theorem enter_live {i j : SlotNo} {link : Option Nat} (h : ∀ o, s.slot j = some o → o.state.live = true) :
    ∀ o, (s.enter i link).st.slot j = some o → o.state.live = true := by
  intro o ho
  unfold State.enter at ho
  split at ho
  · exact h o ho
  · unfold State.admitted at ho
    split at ho
    · exact h o ho
    · rename_i q hq
      dsimp only at ho
      rw [updateOrder_slot] at ho
      split at ho
      · rename_i e
        subst e
        simp only [hq, Option.map_some, Option.some.injEq] at ho
        subst ho
        obtain ha | ⟨r, ha⟩ := s.admissionState_cases <;> simp [ha, OrderState.live]
      · exact h o ho

theorem acts_ownerHatchOrder (hatch : Byte) (kind : BitVec 3) (cls : BitVec 1) (hold pred : Byte) (target : Half) :
    Acts K s (ownerHatchOrder n hatch kind cls hold pred target s).st := by
  unfold ownerHatchOrder
  split
  · exact .refl
  · rename_i hu
    have hu : s.unit = .run := by simpa using hu
    split
    · rename_i h k cl hs _ _
      split
      · exact .refl
      · exact .refl
      · rename_i h1 h2
        dsimp only [accept]
        obtain ⟨hc, ha, hf, hl⟩ := createRefusal_none h2
        refine (acts_created (s.targetOf (portOf h) k (signed target)) cl hs (s.linkOf pred) hu h1).trans ?_
        have away := createOrder_panel s n (portOf h) k (s.targetOf (portOf h) k (signed target)) cl hs (s.linkOf pred)
          (starboardOf h)
        rw [if_neg (portOf_ne_starboardOf h)] at away
        have new := createOrder_slot s n (portOf h) k (s.targetOf (portOf h) k (signed target)) cl hs (s.linkOf pred)
        have kept := createOrder_eq s n (portOf h) k (s.targetOf (portOf h) k (signed target)) cl hs (s.linkOf pred)
        generalize s.createOrder n (portOf h) k (s.targetOf (portOf h) k (signed target)) cl hs (s.linkOf pred) = u at *
        have hu' : u.unit = s.unit := by rw [kept]; rfl
        have hlay : u.layout = s.layout := by rw [kept]; rfl
        refine .trans (.single (.create n (starboardOf h) k (s.targetOf (starboardOf h) k (signed target)) cl hs (s.linkOf pred)
          (hu'.trans hu) ?_ (by rw [away]; exact hf) (fun _ => by rw [away]; exact hl) ?_)) ?_
        · rwa [configured_congr hlay]
        · rw [stationKind_congr hlay, pendantHatch_congr hlay]
          exact pendantHatch_of_authority ha
        have new' := createOrder_slot u n (starboardOf h) k (s.targetOf (starboardOf h) k (signed target)) cl hs (s.linkOf pred)
        generalize u.createOrder n (starboardOf h) k (s.targetOf (starboardOf h) k (signed target)) cl hs (s.linkOf pred) = v at *
        have live : ∀ j, j = s.slotForNew ∨ j = u.slotForNew → ∀ o, v.slot j = some o → o.state.live = true := by
          intro j hj o ho
          rw [new'] at ho
          split at ho
          · obtain rfl := Option.some.inj ho; rfl
          · rename_i hne
            obtain rfl := hj.resolve_right (Ne.symm hne)
            rw [new, if_pos rfl] at ho
            obtain rfl := Option.some.inj ho; rfl
        refine acts_settle ?_
        exact (acts_enter (live _ (.inl rfl))).trans (acts_enter (enter_live (live _ (.inr rfl))))
    · exact .refl

/-! ### Requests on an order -/

theorem acts_amendOrder {i : SlotNo} {f : Order → Order} (hz : K.may s i) (hf : ∀ o, f o =
    { o with target := (f o).target, hold := (f o).hold, cls := (f o).cls, pred := (f o).pred } := by exact fun _ => rfl) :
    Acts K s (s.modOrder i f) := .single (.amend i f hz hf)

theorem acts_amendClass {i : SlotNo} (hz : K.may s i) (cl : OrderClass) : Acts K s (s.amendClass i cl).st := by
  unfold State.amendClass
  cases hi : s.slot i with
  | none => exact .refl
  | some o =>
    have stored : Acts K s (s.modOrder i fun o => { o with cls := cl }) := acts_amendOrder hz
    dsimp only
    split
    · exact stored.trans (changes_rekey cl).acts
    · exact stored

theorem acts_unlink {i : SlotNo} (hz : K.may s i) : Acts K s (s.unlink i).st := by
  cases hi : s.slot i with
  | none => simp only [State.unlink, hi]; exact .refl
  | some o =>
    by_cases hl : o.state.live = true
    · refine Changes.acts (changes_unlink fun q hq => .inr ?_)
      obtain rfl : o = q := Option.some.inj (hi.symm.trans hq)
      exact ⟨hl, trivial⟩
    · have hp : o.state ≠ .pending := fun e => hl (by simp [e, OrderState.live])
      simp only [State.unlink, hi, hp, hl, if_false]
      exact acts_amendOrder hz

theorem acts_clearPredecessor {i : SlotNo} (hz : K.may s i) : Acts K s (s.clearPredecessor i).st := by
  unfold State.clearPredecessor
  split
  · exact .refl
  · split
    · exact .refl
    · exact acts_unlink hz

theorem changes_replan {L : Leave} (hd : L.drives s p) (q : Int) : Changes L s (s.replan p q).st := by
  unfold State.replan
  dsimp only
  refine .single (.drive p _ hd ⟨rfl, rfl, rfl, fun _ h => h, fun _ _ h => h⟩ (fun he e h => ?_) fun h => h)
  have he : (s.modPanel p fun x => { x with plan := some (s.planFor p q) }).enabled = false := he
  revert h
  cases e <;> simp [Coils.get, show s.enabled = false from he]

theorem changes_retarget {L : Leave} (hw : L.Works) : Changes L s (s.retarget p).st := by
  unfold State.retarget
  split
  · rename_i i o h
    have hs : s.serves p i := ⟨o, .travel, h⟩
    dsimp only
    split
    · split
      · exact changes_replan (hw.drives s p hs.isSome) _
      · exact changes_stopPhased hs _ _
    · split
      · exact hs.phased _ _ _
      · exact .refl
    · exact (hs.phased _ _ _).trans changes_dropFlow
    · exact (hs.phased _ _ _).trans changes_dropFlow
    · exact .refl
  · exact .refl

theorem acts_amend {i : SlotNo} (hz : ¬ K.finished i) (o : Order) (target : Option Int) (hold : Option (Option StepKind))
    (cls : Option OrderClass) (clear : Bool) : Acts K s (s.amend i o target hold cls clear) := by
  unfold State.amend
  extract_lets s1 s2 s3
  have may {u : State} : K.may u i := fun _ h => absurd h hz
  have targeted : Acts K s s1 := by
    cases target with
    | none => exact .refl
    | some q => exact acts_settle ((acts_amendOrder may).trans (changes_retarget Leave.works_command).acts)
  have held : Acts K s1 s2 := by
    cases hold with
    | none => exact .refl
    | some h => exact acts_amendOrder may
  have classed : Acts K s2 s3 := by
    cases cls with
    | none => exact .refl
    | some cl => exact acts_settle (acts_amendClass may cl)
  refine (targeted.trans held).trans (classed.trans ?_)
  split
  · exact acts_settle (acts_clearPredecessor may)
  · exact .refl

section
variable (hz : ∀ i o, s.slot i = some o → K.finished i → o.state.live = false)
include hz

theorem unfinished_of_live {i : SlotNo} {o : Order} (hi : s.slot i = some o) (hl : o.state.live = true) :
    ¬ K.finished i := fun h => by
  rw [hz i o hi h] at hl; cases hl

theorem acts_ownerAmend (id : Byte) (mask : BitVec 4) (hold cls : Byte) (target : Half) :
    Acts K s (ownerAmend n id mask hold cls target s).st := by
  unfold ownerAmend
  refine onOrder_st (P := fun t => Acts K s t) .refl fun i o hi _ _ hl => ?_
  split
  · exact .refl
  · split
    · exact acts_amend (unfinished_of_live hz hi hl) _ _ _ _ _
    · exact .refl
end

theorem acts_ownerPause (id : Byte) : Acts K s (ownerPause n id s).st := by
  unfold ownerPause
  refine onOrder_st (P := fun t => Acts K s t) .refl fun i o hi _ _ hl => ?_
  split
  · exact .refl
  · exact acts_settle (changes_pauseOrder fun _ _ => trivial).acts

/-- A PAUSED order returns to the state it was paused from (R54). -/
theorem changes_resumeOrder {L : Leave} {i : SlotNo} {o : Order} (hi : s.slot i = some o) (hp : o.state.isPaused = true)
    (hL : L.orders o.panel) (ha : s.admissionState = .active) : Changes L s (s.resumeOrder i o).st := by
  have live : ∀ o : Order, o.state.isPaused = true → o.state.live = true := fun o h => by
    cases hs : o.state <;> simp_all [OrderState.isPaused, OrderState.live]
  have resumed : o.resumed.live = true ∧ o.resumed.isPaused = false := by
    unfold Order.resumed
    cases o.pausedFrom with
    | none => exact ⟨rfl, rfl⟩
    | some f => cases f <;> exact ⟨rfl, rfl⟩
  refine .trans (.single (.update i o _ hi ⟨rfl, live o hp, .inl rfl, fun ⟨h1, h2, h3, h4, _⟩ => ?_, .inl hL⟩ resumed.1
    fun _ => .inr ha)) (changes_latchIf (by decide))
  exact ⟨h1, h2, ⟨fun _ => h3.1 (live o hp), fun _ => resumed.1⟩, ⟨fun _ => h4.1 (live o hp), fun _ => resumed.1⟩,
    by simp [resumed.2]⟩

theorem acts_ownerResume (id : Byte) : Acts K s (ownerResume n id s).st := by
  unfold ownerResume
  refine onOrder_st (P := fun t => Acts K s t) .refl fun i o hi hu _ hl => ?_
  split
  · exact .refl
  · rename_i h
    simp only [Bool.or_eq_true, Bool.not_eq_true', not_or, Bool.not_eq_true, Bool.not_eq_false] at h
    obtain ⟨⟨⟨hp, ho⟩, hsu⟩, -⟩ := h
    have ha : s.admissionState = .active := by
      have hr : s.unit = .run := by cases h : s.unit <;> simp_all [UnitState.isRun]
      simp [State.admissionState, hr, ho, hsu]
    exact acts_settle (changes_resumeOrder hi hp trivial ha).acts

theorem changes_continueHeld {L : Leave} {i : SlotNo} {o : Order} (hi : s.slot i = some o) (hh : o.state = .atHold)
    (hL : L.orders o.panel) : Changes L s (s.continueHeld i o).st := by
  have hl : o.state.live = true := by simp [hh, OrderState.live]
  unfold State.continueHeld
  split
  · refine .single (.update i o _ hi ⟨rfl, hl, .inl rfl, fun ⟨h1, h2, h3, h4, h5⟩ => ?_, .inl hL⟩ rfl
      fun _ => .inl (by simp [hh, OrderState.working]))
    exact ⟨h1, h2, ⟨fun _ => h3.1 hl, fun _ => rfl⟩, ⟨fun _ => h4.1 hl, fun _ => rfl⟩,
      by simpa [hh, OrderState.isPaused] using h5⟩
  · exact changes_completeOrder hi hl (.inl hL)

theorem acts_ownerContinue (id : Byte) : Acts K s (ownerContinue n id s).st := by
  unfold ownerContinue
  refine onOrder_st (P := fun t => Acts K s t) .refl fun i o hi _ _ hl => ?_
  split
  · exact .refl
  · rename_i hh
    exact acts_settle (changes_continueHeld hi (by simpa using hh) trivial).acts

theorem acts_endOrder {i : SlotNo} {st : OrderState} (hst : st.live = false) : Acts K s (s.endOrder i st).st :=
  (changes_endOrder hst fun _ _ _ => .inl trivial).acts

theorem acts_ownerCancel (id : Byte) : Acts K s (ownerCancel n id s).st := by
  unfold ownerCancel
  exact onOrder_st (P := fun t => Acts K s t) .refl fun i o _ _ _ _ => acts_settle (acts_endOrder rfl)

theorem acts_ownerAdopt (id : Byte) : Acts K s (ownerAdopt n id s).st := by
  unfold ownerAdopt
  exact onOrder_st (P := fun t => Acts K s t) .refl fun i o hi _ hm hl =>
    .single (.adopt i o n hi hl (pendantHatch_of_authority hm))

theorem acts_ownerRetire (id : Byte) : Acts K s (ownerRetire n id s).st := by
  unfold ownerRetire
  refine onOrder_st (P := fun t => Acts K s t) .refl fun i o hi _ _ hl => .single (.retire i fun q hq _ => ?_)
  obtain rfl : o = q := Option.some.inj (hi.symm.trans hq)
  simpa using hl

end Sys2Proof.Machine
end

section
/-! Every request is a run of acts: zones, authority, protection, configuration and service. -/

namespace Sys2Proof.Machine

variable {K : Known} {s t : State} {p : PanelNo} {n : StationNo}

/-! ### Zones -/

theorem acts_reportZone (h : HatchNo) : Acts K s (s.reportZone h) := acts_settle .refl

theorem acts_setClaim (z : ClaimNo) (x : Option Claim) : Acts K s (s.setClaim z x) := State.Framed.acts {}

theorem acts_ownerClaimZone (hatch : Byte) (side kind : BitVec 2) (lo hi : Half) :
    Acts K s (ownerClaimZone n hatch side kind lo hi s).st := by
  unfold ownerClaimZone
  split
  · split
    · exact .refl
    · split
      · exact .refl
      · split
        · exact .refl
        · exact (acts_setClaim _ _).trans (acts_reportZone _)
  · exact .refl

theorem onZone_st {P : State → Prop} {id : Byte} {may : Claim → Bool} {act : ClaimNo → Claim → Answer} (hr : P s)
    (ha : ∀ z x, s.claim z = some x → may x = true → P (act z x).st) : P (s.onZone id may act).st := by
  unfold State.onZone
  split
  · exact hr
  · exact hr
  · split
    · exact hr
    · rename_i x hx
      split
      · rename_i hm
        exact ha _ x hx hm
      · exact hr

theorem acts_renew (z : ClaimNo) (x : Claim) : Acts K s (s.renew z x) := by
  unfold State.renew
  dsimp only
  split
  · split
    · exact (acts_setClaim _ _).trans (acts_reportZone _)
    · exact acts_setClaim _ _
  · exact .refl

theorem acts_ownerRenewZone (id : Byte) : Acts K s (ownerRenewZone n id s).st :=
  onZone_st (P := fun t => Acts K s t) .refl fun z x _ _ => acts_renew z x

theorem acts_ownerReleaseZone (id : Byte) : Acts K s (ownerReleaseZone n id s).st :=
  onZone_st (P := fun t => Acts K s t) .refl fun _ x _ _ => (acts_setClaim _ none).trans (acts_reportZone x.hatch)

/-! ### Attendance -/

theorem changes_raiseAll {L : Leave} (hf : L.faults) (hL : ∀ p, L.orders p) (ps : List PanelNo) (k : PanelFault) :
    Changes L s (s.raiseAll ps k).st :=
  Res.each_ind (P := fun t => Changes L s t) (fun _ _ h => h.trans (changes_raise hf fun _ _ _ => .inl (hL _))) ps _ .refl

/-- A fault raised on some panels leaves each of them without a live order. -/
theorem raiseAll_live (k : PanelFault) : ∀ (ps : List PanelNo) (s : State), s.Linked →
    (∀ q ∈ ps, s.configured q = true) → (∀ q, k ∈ (s.panel q).faults → (s.panel q).live = none) →
    ∀ q ∈ ps, ((s.raiseAll ps k).st.panel q).live = none
  | [], _, _, _, _ => fun _ h => by cases h
  | p :: ps, s, hs, hc, hk => by
    have one : Changes Leave.all s (s.raise p k).st := changes_raise trivial fun _ _ _ => .inl trivial
    have first : ((s.raise p k).st.panel p).live = none := by
      by_cases hm : k ∈ (s.panel p).faults
      · exact one.live_none (hk p hm)
      · exact raise_live hs (hc p List.mem_cons_self) hm
    have held : ∀ q, k ∈ ((s.raise p k).st.panel q).faults → ((s.raise p k).st.panel q).live = none := by
      intro q hq
      by_cases e : p = q
      · exact e ▸ first
      · rw [raise_faults, if_neg fun h => e h.1] at hq
        exact one.live_none (hk q hq)
    have e : (s.raiseAll (p :: ps) k).st = ((s.raise p k).st.raiseAll ps k).st := each_cons_st _ _ _ _
    intro q hq
    rw [e]
    obtain rfl | hq := List.mem_cons.1 hq
    · exact (changes_raiseAll (L := Leave.all) trivial (fun _ => trivial) ps k).live_none first
    · refine raiseAll_live k ps _ (one.linked hs) (fun q hq => ?_) held q hq
      rw [lasting_configured one.lasting]
      exact hc q (List.mem_cons_of_mem _ hq)

/-- A panel is the port or the starboard panel of its hatch. -/
theorem mem_hatch (p : PanelNo) : p ∈ [portOf (hatchOf p), starboardOf (hatchOf p)] := by
  simp only [List.mem_cons, List.not_mem_nil, or_false, portOf, starboardOf, hatchOf, Fin.ext_iff]
  omega

/-- Who is attended depends on the order table and the layout only (R144). -/
theorem attends_congr (hl : t.layout = s.layout) (hs : t.slots = s.slots) (n : StationNo) : t.attends n ↔ s.attends n := by
  simp only [State.attends, stationKind_congr hl, State.slot, hs]

/-- A violation ends the orders of the pendant, and its watch (R147 to R149). -/
theorem acts_violation (h : K.watched → s.Linked ∧ s.faultedStand ∧ s.watchLaws) : Acts K s (s.violation n).st := by
  unfold State.violation
  dsimp only
  rw [Res.map_st]
  split
  · rw [Res.map_st]
    have paused := changes_eachPause (L := Leave.command) (s := s) (fun _ => trivial)
      (fun o => o.issuer == n && o.state.working) allPanels .attendance
    have slots := fun j (hs : s.Linked) => each_pauseIf_slots (f := fun o => o.issuer == n && o.state.working)
      (fun o h => by simp only [Bool.and_eq_true] at h; exact working_pausedFrom h.2) .attendance j allPanels s hs
    generalize (Res.each allPanels (fun p s => s.pauseIf (fun o => o.issuer == n && o.state.working) .attendance p)
      (.ok s)).st = u at *
    have warned : ∀ (ps : List PanelNo) (u : State), Changes Leave.command u (ps.foldl (fun s p => s.warn p .attendanceLost) u) ∧
        (ps.foldl (fun s p => s.warn p .attendanceLost) u).slots = u.slots := by
      intro ps
      induction ps with
      | nil => exact fun u => ⟨.refl, rfl⟩
      | cons p ps ih =>
        intro u
        obtain ⟨h1, h2⟩ := ih (u.warn p .attendanceLost)
        exact ⟨(changes_warn (p := p) .attendanceLost).trans h1, h2.trans (by simp [State.warn])⟩
    obtain ⟨w1, w2⟩ := warned (s.pendantPanels n) u
    have latched := (paused.trans w1).trans (changes_latch (e := .attendance) (by decide))
    refine (Changes.acts latched).tail (.unwatch n fun hK ha => ?_)
    obtain ⟨hs, -, -⟩ := h hK
    obtain ⟨-, i, o, ho, hn, hw⟩ := (attends_congr (s := u) ((lasting_layout (Changes.lasting latched)).trans
      (lasting_layout (Changes.lasting paused)).symm) (by simp [w2]) n).1 ha
    rw [slots i hs] at ho
    obtain ⟨q, -, e⟩ := Option.map_eq_some_iff.1 ho
    unfold Order.stoppedBy at e
    split at e
    · rw [← e] at hw; cases hw
    · rename_i hq
      subst e
      exact hq ⟨mem_allPanels _, by simp [hn, hw]⟩
  · have raised := changes_raiseAll (L := Leave.all) (s := s) trivial (fun _ => trivial) (s.pendantPanels n) .attendance
    have latched : Changes Leave.all s _ := raised.trans (changes_latch (e := .attendance) (by decide))
    have acts : Acts K s ((s.raiseAll (s.pendantPanels n) .attendance).st.setLatch .attendance) :=
      (acts_raiseAll _ _).trans (acts_latch _)
    refine acts.tail (.unwatch n fun hK ha => ?_)
    obtain ⟨hs, hf, -, hw⟩ := h hK
    obtain ⟨hk, i, o, ho, rfl, hwk⟩ := ha
    have ht := latched.linked hs
    have hl := OrderState.live_of_working hwk
    obtain ⟨q, hq, hlast⟩ := latched.slot_from ho
    obtain ⟨-, hi, hp, -⟩ := Order.lasting_fields hlast
    have hql : q.state.live = true := by
      by_contra hn
      have := latched.finished hq (by simpa using hn)
      obtain rfl : q = o := Option.some.inj (this.symm.trans ho)
      exact hn hl
    rw [lasting_stationKind (Changes.lasting latched), hi] at hk
    have hatch := hw i q hq hql hk
    have mem : o.panel ∈ s.pendantPanels o.issuer := by
      rw [hi, hp]
      simp only [State.pendantPanels, hatch, List.mem_filter]
      exact ⟨mem_hatch q.panel, hs.configured i q hq hql⟩
    have none := raiseAll_live .attendance (s.pendantPanels o.issuer) s hs (fun q hq => ?_) (fun q hq => ?_) o.panel mem
    · have := ht.field i o ho hl
      rw [(changes_latch (L := Leave.all) (e := .attendance) (by decide)).live_none none] at this
      cases this
    · unfold State.pendantPanels at hq
      split at hq
      · exact (List.mem_filter.1 hq).2
      · cases hq
    · exact (hf.2.2 q (List.ne_nil_of_mem hq)).2.1

theorem acts_keep (h : K.watched → s.Linked ∧ s.faultedStand ∧ s.watchLaws) : Acts K s (s.keep n) := by
  unfold State.keep
  split
  · exact .refl
  · rename_i ho
    refine .single (.rewatch n _ _ ?_)
    unfold State.keepOutcome at ho
    dsimp only at ho
    split at ho
    · cases ho
    · rename_i hw
      simpa using hw
  · exact acts_settle (acts_violation h)

theorem acts_ownerKeepalive (h : K.watched → s.Linked ∧ s.faultedStand ∧ s.watchLaws) : Acts K s (ownerKeepalive n s).st := by
  unfold ownerKeepalive
  split
  · exact .refl
  · exact acts_keep h

/-! ### Stops -/

theorem acts_pauseWorking (ps : List PanelNo) (r : PauseReason) : Acts K s (s.pauseWorking ps r).st :=
  (changes_pauseWorking (fun _ => trivial) ps r).acts

theorem acts_stopPanels (ps : List PanelNo) : Acts K s (s.stopPanels ps).st := by
  unfold State.stopPanels
  rw [Res.bind_st]
  refine (acts_pauseWorking ps .request).trans ?_
  split
  · split
    · exact acts_endJog
    · exact .refl
  · exact .refl

theorem acts_ownerStopHatch (hatch : Byte) : Acts K s (ownerStopHatch n hatch s).st := by
  unfold ownerStopHatch
  split
  · exact .refl
  · split
    · exact .refl
    · split
      · exact .refl
      · exact acts_settle (acts_stopPanels _)

theorem acts_ownerStopAll : Acts K s (ownerStopAll n s).st := by
  unfold ownerStopAll
  split
  · exact .refl
  · dsimp only [accept]
    exact acts_settle (acts_stopPanels _)

/-! ### LIST_REPORT -/

theorem limitAttitude_range (i : Int) : -250 ≤ limitAttitude i ∧ limitAttitude i ≤ 250 := by unfold limitAttitude; omega

theorem changes_checkFast {L : Leave} : Changes L s (s.checkFast p) := by
  unfold State.checkFast
  split
  · split
    · exact calms_fastOff.changes
    · exact .refl
  · exact .refl

theorem acts_deriveListHigh : Acts K s s.deriveListHigh := by
  unfold State.deriveListHigh
  exact .trans (b := { s with listHigh := s.highList }) (State.Framed.acts {}) acts_latchIf

theorem acts_forPanels {f : PanelNo → State → State} (hf : ∀ p t, Acts K t (f p t)) : Acts K s (s.forPanels f) :=
  acts_fold (f := fun s p => f p s) hf allPanels s

theorem acts_retested {js : List Job} :
    Acts K s (Res.mk (s.deriveListHigh.forPanels fun p s => s.checkFast p) js).settle :=
  acts_settle_mk (acts_deriveListHigh.trans (acts_forPanels fun _ _ => changes_checkFast.acts))

/-- The unit with a report stored (R88). -/
def State.reported (s : State) (l m : Int) : State :=
  { s with
    list := limitAttitude l, trim := limitAttitude m, fresh := true
    staleTimer := if s.noListSource then none else some (s.now + stalenessPeriod) }

theorem takeAttitude_eq (s : State) (l m : Int) : s.takeAttitude l m =
    (Res.mk ((s.reported l m).deriveListHigh.forPanels fun p s => s.checkFast p) (retestAll ++ [.jogTest])).settle := rfl

theorem acts_takeAttitude (l m : Int) : Acts K s (s.takeAttitude l m) := by
  rw [takeAttitude_eq]
  have stored : Acts K s (s.reported l m) := State.Framed.acts
    { list := fun _ _ => limitAttitude_range l
      trim := fun _ _ => limitAttitude_range m }
  exact stored.trans acts_retested

theorem acts_ownerListReport (list trim : Half) : Acts K s (ownerListReport n list trim s).st := by
  unfold ownerListReport
  split
  · exact .refl
  · dsimp only [accept]
    exact acts_takeAttitude _ _

/-! ### CLEAR_FAULTS and CLEAR_EVENTS -/

theorem Panel.fed_cleared {top : Int} (x : Panel) (left : List PanelFault) (kept : List PanelWarning)
    (h : ∀ k ∈ left, k ∈ x.faults) : Panel.Fed top x (x.cleared left kept) where
  faults := h
  range := fun _ _ ⟨h1, h2, _, _, h5, h6⟩ => by
    refine ⟨h1, h2, Nat.zero_le _, Nat.zero_le _, h5, fun k => ?_⟩
    simpa [Panel.cleared] using (h6 k).1

theorem acts_clearPanel : Acts K s (s.clearPanel p) :=
  .single (.feed p _ (Panel.fed_cleared _ _ _ fun _ h => (List.mem_filter.1 h).1))

theorem changes_moveWaiter {L : Leave} (hL : ∀ p, L.orders p) (k : PackId) : Changes L s (s.moveWaiter k p).st := by
  unfold State.moveWaiter
  split
  · exact .refl
  · rename_i w _
    dsimp only
    split
    · exact .refl
    · split
      · exact changes_failLive fun _ _ _ => .inl (hL _)
      · exact (changes_modPack (f := fun x => x.dropPanel p) fun _ => rfl).trans
          (changes_modPack (f := fun x => x.insert w) fun _ => rfl)

theorem changes_moveWaiters {L : Leave} (hL : ∀ p, L.orders p) (k : PackId) : Changes L s (s.moveWaiters k).st :=
  Res.each_ind (P := fun t => Changes L s t) (fun _ _ h => h.trans (changes_moveWaiter hL k)) _ _ .refl

theorem changes_packDown {L : Leave} (hL : ∀ p, L.orders p) (k : PackId) : Changes L s (s.packDown k).st := by
  unfold State.packDown
  dsimp only [Res.add_st, Res.bind_st]
  refine .trans ?_ (changes_moveWaiters hL k)
  refine .trans (b := (Res.each (s.pack k).stepGrants (fun p s => s.pauseIf (fun _ => true) .packLoss p)
    (.ok (s.modPack k fun x => { x with grants := [] }))).st) ?_ ?_
  · exact (changes_modPack (f := fun x => { x with grants := [] }) fun _ => rfl).trans
      (changes_eachPause hL (fun _ => true) _ _)
  unfold State.endVoidedJog
  split
  · split
    · exact changes_endJog
    · exact .refl
  · exact .refl

theorem acts_changePack (k : PackId) (f : Pack → Pack)
    (hf : ∀ x, (f x).grants = x.grants ∧ (f x).waiting = x.waiting) : Acts K s (s.changePack k f) := by
  unfold State.changePack
  have read : Acts K s (s.setPack (f (s.pack k)) k) := by
    have flow : ∀ j, ((s.setPack (f (s.pack k)) k).pack j).grants = (s.pack j).grants ∧
        ((s.setPack (f (s.pack k)) k).pack j).waiting = (s.pack j).waiting := fun j => by
      by_cases e : k = j
      · subst e; rw [setPack_pack_self]; exact hf _
      · rw [setPack_pack_ne _ _ e]; exact ⟨rfl, rfl⟩
    cases k
    · exact State.Framed.acts { flow := flow }
    · exact State.Framed.acts { flow := flow }
  extract_lets x y s1 s2 s3 r
  have latched : Acts K s s3 := ((read.trans (acts_latchIf (b := y.anyCause && !x.anyCause) (e := .unitFault))).trans
    (acts_latchIf (b := y.hot && !x.hot) (e := .warning))).trans (acts_latchIf (b := x.up != y.up || x.hot != y.hot)
        (e := .packChange))
  refine acts_settle (latched.trans ?_)
  change Acts K s3 (if x.up && !y.up then s3.packDown k else if !x.up && y.up then s3.packUp k
    else if x.hot && !y.hot then ⟨s3, [.pass k]⟩ else .ok s3).st
  split
  · exact (changes_packDown (fun _ => trivial) k).acts
  · split
    · exact (changes_moveWaiters (fun _ => trivial) (otherPack k)).acts
    · split <;> exact .refl

theorem acts_clearPack (k : PackId) : Acts K s (s.clearPack k) := by
  unfold State.clearPack
  exact acts_changePack k _ fun _ => ⟨rfl, rfl⟩

theorem acts_clearSupply : Acts K s s.clearSupply := by
  unfold State.clearSupply
  split
  · refine .single (.frame {} fun e => ?_)
    simp only [State.enabled, Bool.not_false, Bool.and_true, Bool.not_eq_false'] at e
    exact .inl (by simp [State.enabled, e])
  · exact .refl

theorem acts_clearUnit : Acts K s s.clearUnit := by
  unfold State.clearUnit
  have cleared : Acts K s { s.clearSupply with frameErrorsWarned := false } :=
    acts_clearSupply.trans (State.Framed.acts {})
  exact (cleared.trans (acts_clearPack .a)).trans (acts_clearPack .b)

theorem acts_clearScope (sc : Scope) : Acts K s (s.clearScope sc) := by
  unfold State.clearScope
  dsimp only
  have cleared := acts_fold (K := K) (fun p (s : State) => acts_clearPanel (s := s) (p := p)) (s.scopePanels sc) s
  split
  · exact cleared.trans acts_clearUnit
  · exact cleared

theorem acts_ownerClearFaults (scope target : Byte) : Acts K s (ownerClearFaults n scope target s).st := by
  unfold ownerClearFaults
  split
  · exact .refl
  · split
    · exact .refl
    · split
      · exact .refl
      · split
        · exact .refl
        · exact acts_clearScope _

theorem acts_ownerClearEvents (hc : forgetsLatches K.command) (codes : Half) : Acts K s (ownerClearEvents n codes s).st := by
  unfold ownerClearEvents
  split
  · exact .refl
  · split
    · exact .refl
    · exact .single (.forget _ hc)

/-! ### Configuration -/

theorem acts_ownerSetParam (number value : Half) : Acts K s (ownerSetParam n number value s).st := by
  unfold ownerSetParam
  split
  · exact .refl
  · rename_i hu
    split
    · exact .refl
    · split
      · exact .refl
      · dsimp only
        split
        · exact .refl
        · split
          · exact .refl
          · split
            · exact .refl
            · exact .single (.tune _ _ (by simpa using hu))

theorem acts_ownerCommit (tag : Byte) : Acts K s (ownerCommit n tag s).st := by
  unfold ownerCommit
  split
  · exact .refl
  · rename_i hu
    split
    · exact .refl
    · split
      · exact .refl
      · split
        · exact .refl
        · exact .single (.write _ (by simpa using hu))

theorem anyLive_false (h : s.anyLive = false) {i : SlotNo} {o : Order} (ho : s.slot i = some o) : o.state.live = false := by
  have := List.any_eq_false.1 h i (mem_allSlots i)
  simpa [ho] using this

theorem acts_ownerReconfigure (h : K.sound → s.Linked) : Acts K s (ownerReconfigure n s).st := by
  unfold ownerReconfigure
  split
  · exact .refl
  · rename_i hu
    have hu : s.unit = .run := by simpa using hu
    split
    · exact .refl
    · split
      · exact .refl
      · rename_i hb
        simp only [Bool.or_eq_true, not_or, Bool.not_eq_true] at hb
        refine .single (.enter (s := s) .setup s.serviceStation (.inl rfl) (fun _ i o ho _ => anyLive_false hb.1 ho)
          (fun e => by cases e) (fun _ hK => ?_) (fun e => absurd rfl e))
        cases hj : s.jog with
        | none => rfl
        | some j => rw [((h hK).jog j hj).1] at hu; cases hu

theorem ownerRestart_st (n : StationNo) (s : State) : (ownerRestart n s).st = s := by
  unfold ownerRestart
  split
  · rfl
  · split <;> rfl

/-! ### Service -/

theorem acts_ownerServiceEnter (h : K.sound → s.Linked) : Acts K s (ownerServiceEnter n s).st := by
  unfold ownerServiceEnter
  split
  · exact .refl
  · rename_i hu
    have hu : s.unit = .run := by simpa using hu
    split
    · exact .refl
    · split
      · exact .refl
      · dsimp only [accept]
        refine acts_settle ?_
        rw [Res.map_st]
        have paused := changes_pauseWorking (L := Leave.command) (s := s) (fun _ => trivial) allPanels .service
        have hunit := lasting_unit paused.lasting
        refine (Changes.acts paused).tail (.enter .service (some n) (.inr (.inr rfl)) (fun e => by cases e)
          (fun _ i o ho hK => ?_) (fun e => absurd rfl e) fun _ hK => ?_)
        · rw [pauseWorking_slots (h hK)] at ho
          obtain ⟨q, -, rfl⟩ := Option.map_eq_some_iff.1 ho
          unfold Order.stoppedBy
          split
          · rfl
          · rename_i hn
            simpa [mem_allPanels] using hn
        · have hs := paused.linked (h hK)
          cases hw : (s.pauseWorking allPanels .service).st.writing with
          | none => rfl
          | some w =>
            have := hs.writing (by simp [hw])
            rw [hunit, hu] at this; cases this

theorem endJog_jog (s : State) : s.endJog.st.jog = none := by
  unfold State.endJog
  split
  · rename_i h; simpa using h
  · rename_i j h
    dsimp only [Res.add_st]
    have quiet : ∀ (s : State) (q : PanelNo), s.jog = none → (s.dropFlow q).st.jog = none := fun s q h => by
      unfold State.dropFlow; split
      · exact h
      · exact (modPack_jog _ _ _).trans h
      · exact (modPack_jog _ _ _).trans h
    refine quiet _ _ ?_
    obtain ⟨y, hy, -⟩ := calms_jogCoilsOff (s := { s with jog := none }) j
    rw [modPanel_jog, hy]
    rfl

theorem acts_ownerServiceExit (h : K.sound → s.Linked) : Acts K s (ownerServiceExit n s).st := by
  unfold ownerServiceExit
  split
  · exact .refl
  · rename_i hu
    have hu : s.unit = .service := by simpa using hu
    split
    · exact .refl
    · dsimp only [accept]
      refine acts_settle ?_
      rw [Res.map_st]
      have ended := changes_endJog (L := Leave.command) (s := s)
      refine (Changes.acts ended).tail (.enter .run none (.inr (.inl rfl)) (fun e => by cases e)
        (fun e => by cases e) (fun _ _ => endJog_jog s) fun _ hK => ?_)
      have hs := ended.linked (h hK)
      cases hw : s.endJog.st.writing with
      | none => rfl
      | some w =>
        have := hs.writing (by simp [hw])
        rw [lasting_unit ended.lasting, hu] at this; cases this

/-! ### Jogs -/

theorem changes_grantJog {L : Leave} (d : Nat) : Changes L s (s.grantJog p d) := by
  unfold State.grantJog
  split
  · split
    · exact .refl
    · exact changes_modPack (f := fun x => { x with grants := x.grants ++ [⟨p, d, true⟩] }) fun _ => rfl
  · exact .refl

theorem changes_presetHoming {L : Leave} (d : Dir) : Changes L s (s.presetHoming p d) := by
  unfold State.presetHoming
  split
  · exact changes_quiet fun x => .of_count rfl rfl rfl rfl
      (fun _ _ ⟨h1, h2, h⟩ => ⟨by dsimp only; split <;> omega, by dsimp only; split <;> omega, h⟩) rfl rfl rfl rfl
  · exact .refl

section
variable {j : Jog} (hu : s.unit = .service) (hc : s.configured j.panel = true) (hf : (s.panel j.panel).faults = [])
include hu hc hf

theorem acts_jogTravel (d : Dir) : Acts K s (s.jogTravel j d).st := by
  unfold State.jogTravel
  have homed : Changes Leave.command { s with jog := some j } (({ s with jog := some j }).presetHoming j.panel d) :=
    changes_presetHoming d
  refine (Relation.ReflTransGen.single (.jogOn j hu hc hf)).trans (.trans homed.acts ?_)
  refine .trans (changes_driveTravel (L := Leave.command) (.inr (.inl ⟨?_, ?_⟩))).acts
    (deeds_chopIfTripped Leave.works_command (Leave.ends_command _ _)).acts
  · rw [lasting_unit homed.lasting]
    exact hu
  · exact (homed.faults_eq id j.panel).trans hf

theorem acts_jogCoil : Acts K s (s.jogCoil j).st := by
  unfold State.jogCoil
  refine (Relation.ReflTransGen.single (.jogOn j hu hc hf)).trans (Changes.acts ?_)
  have on : Changes Leave.command { s with jog := some j } (({ s with jog := some j }).energise j.panel j.coil) :=
    changes_energise j.coil (.inr (.inl ⟨hu, hf⟩))
  exact .trans on (changes_quiet (f := fun x => { x with activity := .jog }) fun _ =>
    .of_same rfl rfl rfl rfl id rfl rfl rfl rfl)

theorem acts_jogCleat (g : GroupNo) (d : CleatDir) (time : Nat) : Acts K s (s.jogCleat j g d time).st := by
  have moved : Changes Leave.command s (s.startMove j.panel g d time (max s.params.tuning.confirmationWindow time) true) :=
    changes_startMove g d _ _ _ fun t _ _ h1 h2 => .inr (.inl ⟨h1.trans hu, h2.trans hf⟩)
  unfold State.jogCleat
  dsimp only
  split
  · exact (moved.acts).trans changes_dropFlow.acts
  · refine moved.acts.tail (.jogOn j ?_ ?_ ((moved.faults_eq id j.panel).trans hf))
    · exact (lasting_unit moved.lasting).trans hu
    · exact (lasting_configured moved.lasting _).trans hc
end

theorem acts_startJog (hu : s.unit = .service) (hc : s.configured p = true) (hf : (s.panel p).faults = []) (e : Coil) (time : Nat) :
    Acts K s (s.startJog p e time).st := by
  unfold State.startJog
  extract_lets j u
  have granted : Changes Leave.command s u := changes_grantJog _
  have hu' : u.unit = .service := (lasting_unit granted.lasting).trans hu
  have hc' : u.configured j.panel = true := (lasting_configured granted.lasting p).trans hc
  have hf' : (u.panel j.panel).faults = [] := (granted.faults_eq id p).trans hf
  refine granted.acts.trans ?_
  split
  · exact acts_jogTravel hu' hc' hf' _
  · exact acts_jogTravel hu' hc' hf' _
  · exact acts_jogCleat hu' hc' hf' _ _ _
  · exact acts_jogCleat hu' hc' hf' _ _ _
  · exact acts_jogCoil hu' hc' hf'

theorem acts_ownerJog (panel coil : Byte) (time : Half) : Acts K s (ownerJog n panel coil time s).st := by
  unfold ownerJog
  split
  · exact .refl
  · rename_i hu
    split
    · rename_i p e _ _
      split
      · exact .refl
      · split
        · exact .refl
        · rename_i hc
          split
          · exact .refl
          · split
            · exact .refl
            · rename_i hf
              repeat (split; exact .refl)
              exact acts_settle (acts_startJog (by simpa using hu) (by simpa using hc) (by simpa using hf) e _)
    · exact .refl

/-! ### PRESET_POSITION, BYPASS_CLEAT and RESTORE_CLEAT -/

theorem onService_st {P : State → Prop} {panel : Byte} {argOk : PanelNo → Bool} {act : PanelNo → Answer} (hr : P s)
    (ha : ∀ p, argOk p = true → P (act p).st) : P (s.onService n panel argOk act).st := by
  unfold State.onService
  split
  · exact hr
  · split
    · exact hr
    · split
      · exact hr
      · rename_i hok
        split
        · exact hr
        · split
          · exact hr
          · exact ha _ (by simpa using hok)

theorem acts_ownerPresetPosition (panel : Byte) (count : Half) : Acts K s (ownerPresetPosition n panel count s).st := by
  unfold ownerPresetPosition
  refine onService_st (P := fun t => Acts K s t) .refl fun p hc => ?_
  split
  · exact .refl
  · simp only [countOk, Bool.and_eq_true, decide_eq_true_eq] at hc
    exact acts_feed (f := fun x => { x with count := signed count, certain := true }) fun x =>
      { range := fun _ _ ⟨_, _, h⟩ => ⟨hc.1, hc.2, h⟩ }

theorem changes_finishMove {L : Leave} : Changes L s (s.finishMove p).st := by
  unfold State.finishMove
  split
  · exact .refl
  · dsimp only [Res.add_st]
    refine .trans (b := s.clearMove p) calms_clearMove.changes ?_
    split
    · exact changes_endJogOn
    · exact .refl

theorem changes_modState {L : Leave} (k : CleatNo) (st : Cleat → CleatState) :
    Changes L s (s.modCleat p k fun x => { x with state := st x }) :=
  changes_modCleat (fun _ => rfl) fun _ h1 h2 => ⟨h1, h2⟩

/-- A move in progress goes on with other participants. -/
theorem Panel.Quieter.of_move {top : Int} {x : Panel} (h : x.move ≠ none) (m : Option Move) :
    Panel.Quieter top x { x with move := m } :=
  .of_same rfl rfl rfl rfl id rfl rfl rfl rfl fun e => absurd e h

theorem acts_bypass (k : CleatNo) : Acts K s (s.bypass p k).st := by
  unfold State.bypass
  have bypassed : Changes Leave.command s (s.modCleat p k fun x => { x with state := .bypassed }) :=
    changes_modState k fun _ => .bypassed
  extract_lets u
  refine bypassed.acts.trans ?_
  split
  · exact .refl
  · rename_i m hm
    have without : Changes Leave.command u (u.modPanel p fun x => { x with move := some (m.without k) }) :=
      .single (.quiet p _ (.of_move (by simp [hm]) _))
    dsimp only [Res.add_st]
    split
    · exact without.acts.trans changes_finishMove.acts
    · exact without.acts

theorem acts_ownerBypassCleat (panel cleat : Byte) : Acts K s (ownerBypassCleat n panel cleat s).st := by
  unfold ownerBypassCleat
  exact onService_st (P := fun t => Acts K s t) .refl fun p _ => acts_settle (acts_bypass _)

theorem acts_ownerRestoreCleat (panel cleat : Byte) : Acts K s (ownerRestoreCleat n panel cleat s).st := by
  unfold ownerRestoreCleat
  refine onService_st (P := fun t => Acts K s t) .refl fun p _ => acts_settle (acts_now (Changes.acts ?_))
  refine changes_modCleat (fun x => ?_) fun x h1 h2 => ?_
  · unfold Cleat.restored; split <;> rfl
  · unfold Cleat.restored; split <;> exact ⟨h1, h2⟩

end Sys2Proof.Machine
end

section
/-! Every act keeps the agreement of the order table with the panels (`State.Linked`). -/

namespace Sys2Proof.Machine

variable {K : Known} {s t : State}

/-- The parts of a state that the agreement of the order table with the panels rests on, the orders apart. -/
structure State.SameTable (s t : State) : Prop where
  live : ∀ p, (t.panel p).live = (s.panel p).live := by exact fun _ => rfl
  unit : t.unit = s.unit := by rfl
  layout : t.layout = s.layout := by rfl
  jog : t.jog = s.jog := by rfl
  writing : t.writing.isSome = s.writing.isSome := by rfl
  idCounter : t.idCounter = s.idCounter := by rfl

/-- The same order, but for fields that the agreement does not rest on. -/
structure Order.Same (o o' : Order) : Prop where
  id : o'.id = o.id := by rfl
  panel : o'.panel = o.panel := by rfl
  state : o'.state = o.state := by rfl
  consistent : o.consistent → o'.consistent := by exact id

theorem State.Linked.of_same (hs : s.Linked) (h : s.SameTable t)
    (ho : ∀ i, t.slot i = s.slot i ∨ ∃ o o', s.slot i = some o ∧ t.slot i = some o' ∧ o.Same o') : t.Linked := by
  have back : ∀ i o', t.slot i = some o' → ∃ o, s.slot i = some o ∧ o.Same o' := by
    intro i o' h'
    obtain e | ⟨o, q, h1, h2, hm⟩ := ho i
    · exact ⟨o', e ▸ h', {}⟩
    · obtain rfl : o' = q := Option.some.inj (h'.symm.trans h2)
      exact ⟨o, h1, hm⟩
  have forth : ∀ i o, s.slot i = some o → ∃ o', t.slot i = some o' ∧ o.Same o' := by
    intro i o h'
    obtain e | ⟨q, o', h1, h2, hm⟩ := ho i
    · exact ⟨o, e ▸ h', {}⟩
    · obtain rfl : o = q := Option.some.inj (h'.symm.trans h1)
      exact ⟨o', h2, hm⟩
  constructor
  case ids =>
    intro i j a b ha hb e
    obtain ⟨a', ha', ma⟩ := back i a ha
    obtain ⟨b', hb', mb⟩ := back j b hb
    exact hs.ids i j a' b' ha' hb' (ma.id ▸ mb.id ▸ e)
  case consistent =>
    intro i o h'
    obtain ⟨q, hq, m⟩ := back i o h'
    exact m.consistent (hs.consistent i q hq)
  case order =>
    intro p id hl
    rw [h.live] at hl
    obtain ⟨i, o, hi, e1, e2, hlo⟩ := hs.order p id hl
    obtain ⟨o', ho', m⟩ := forth i o hi
    exact ⟨i, o', ho', m.id.trans e1, m.panel.trans e2, m.state ▸ hlo⟩
  case field =>
    intro i o h' hl
    obtain ⟨q, hq, m⟩ := back i o h'
    rw [h.live, m.panel, m.id]
    exact hs.field i q hq (m.state ▸ hl)
  case idle =>
    intro h1 h2 i o h'
    obtain ⟨q, hq, m⟩ := back i o h'
    rw [m.state]
    exact hs.idle (h.unit ▸ h1) (h.unit ▸ h2) i q hq
  case serviced =>
    intro h1 i o h'
    obtain ⟨q, hq, m⟩ := back i o h'
    rw [m.state]
    exact hs.serviced (h.unit ▸ h1) i q hq
  case configured =>
    intro i o h' hl
    obtain ⟨q, hq, m⟩ := back i o h'
    rw [configured_congr h.layout, m.panel]
    exact hs.configured i q hq (m.state ▸ hl)
  case jog =>
    intro j hj
    rw [h.unit, configured_congr h.layout]
    exact hs.jog j (h.jog ▸ hj)
  case writing => exact fun hw => h.unit ▸ hs.writing (h.writing ▸ hw)
  case counter => exact h.idCounter ▸ hs.counter

theorem State.Framed.linked (h : s.Framed t) (hs : s.Linked) : t.Linked :=
  hs.of_same
    { live := fun p => by simp only [State.panel, h.panels]
      unit := h.unit, layout := h.layout, jog := h.jog, writing := h.writing, idCounter := h.idCounter }
    fun i => .inl (by simp only [State.slot, h.slots])

/-- Where no order is live, no panel has one. -/
theorem live_none_of_idle (hs : s.Linked) (h : ∀ i o, s.slot i = some o → o.state.live = false) (p : PanelNo) :
    (s.panel p).live = none := by
  cases hl : (s.panel p).live with
  | none => rfl
  | some id =>
    obtain ⟨i, o, ho, -, -, hlo⟩ := hs.order p id hl
    rw [h i o ho] at hlo; cases hlo

/-- A table without live orders agrees with panels that have none. -/
theorem linked_of_idle (hp : ∀ p, (t.panel p).live = none)
    (ho : ∀ i o, t.slot i = some o → o.consistent ∧ o.state.live = false)
    (hi : ∀ i j a b, t.slot i = some a → t.slot j = some b → a.id = b.id → i = j)
    (hj : t.jog = none) (hw : t.writing.isSome = true → t.unit = .setup) (hc : 1 ≤ t.idCounter ∧ t.idCounter ≤ 255) :
    t.Linked where
  ids := hi
  consistent := fun i o h => (ho i o h).1
  order := fun p id h => by rw [hp p] at h; cases h
  field := fun i o h hl => by rw [(ho i o h).2] at hl; cases hl
  idle := fun _ _ i o h => (ho i o h).2
  serviced := fun _ i o h => by
    by_contra hw
    have := OrderState.live_of_working (by simpa using hw)
    rw [(ho i o h).2] at this; cases this
  configured := fun i o h hl => by rw [(ho i o h).2] at hl; cases hl
  jog := fun j h => by rw [hj] at h; cases h
  writing := hw
  counter := hc

theorem linked_createOrder (hs : s.Linked) {n : StationNo} {p : PanelNo} {kind : OrderKind} {target : Option Int}
    {cls : OrderClass} {hold : Option StepKind} {link : Option Nat} (hu : s.unit = .run) (hc : s.configured p = true)
    (hl : (s.panel p).live = none) : (s.createOrder n p kind target cls hold link).Linked := by
  obtain ⟨hid, hfresh⟩ := newOrder_id hs n p kind target cls hold link
  have slot := createOrder_slot s n p kind target cls hold link
  have panel := createOrder_panel s n p kind target cls hold link
  have kept := createOrder_eq s n p kind target cls hold link
  have hnew : (s.newOrder n p kind target cls hold link).state = .pending ∧
      (s.newOrder n p kind target cls hold link).panel = p ∧ (s.newOrder n p kind target cls hold link).consistent :=
    ⟨rfl, rfl, hid.1, hid.2, by simp [State.newOrder, OrderState.live], by simp [State.newOrder, OrderState.live],
      by simp [State.newOrder, OrderState.isPaused]⟩
  generalize s.newOrder n p kind target cls hold link = o at *
  generalize s.createOrder n p kind target cls hold link = t at *
  obtain ⟨hst, hpan, hcon⟩ := hnew
  have hlive : o.state.live = true := by simp [hst, OrderState.live]
  have back : ∀ i q, t.slot i = some q → (i = s.slotForNew ∧ q = o) ∨ (i ≠ s.slotForNew ∧ s.slot i = some q) := by
    intro i q hq
    rw [slot] at hq
    split at hq
    · rename_i e
      exact .inl ⟨e.symm, (Option.some.inj hq).symm⟩
    · rename_i e
      exact .inr ⟨Ne.symm e, hq⟩
  have others : ∀ i q, s.slot i = some q → q.state.live = true → i ≠ s.slotForNew ∧ q.panel ≠ p := by
    intro i q hq hlq
    constructor
    · rintro rfl
      rw [slotForNew_not_live hs hq] at hlq; cases hlq
    · intro e
      have := hs.field i q hq hlq
      rw [e, hl] at this; cases this
  have unit : t.unit = s.unit := by rw [kept]; rfl
  have layout : t.layout = s.layout := by rw [kept]; rfl
  constructor
  case ids =>
    intro i j a b ha hb e
    obtain ⟨rfl, rfl⟩ | ⟨hi, ha⟩ := back i a ha <;> obtain ⟨rfl, rfl⟩ | ⟨hj, hb⟩ := back j b hb
    · rfl
    · exact absurd (hfresh j b hb e.symm) hj
    · exact absurd (hfresh i a ha e) hi
    · exact hs.ids i j a b ha hb e
  case consistent =>
    intro i q hq
    obtain ⟨-, rfl⟩ | ⟨-, hq⟩ := back i q hq
    · exact hcon
    · exact hs.consistent i q hq
  case order =>
    intro q id hq
    rw [panel] at hq
    split at hq
    · rename_i e
      exact ⟨s.slotForNew, o, by rw [slot, if_pos rfl], Option.some.inj hq, hpan.trans e, hlive⟩
    · obtain ⟨i, a, ha, e1, e2, hla⟩ := hs.order q id hq
      exact ⟨i, a, by rw [slot, if_neg (Ne.symm (others i a ha hla).1)]; exact ha, e1, e2, hla⟩
  case field =>
    intro i q hq hlq
    obtain ⟨-, rfl⟩ | ⟨-, hq⟩ := back i q hq
    · rw [panel, if_pos hpan.symm]
    · rw [panel, if_neg (Ne.symm (others i q hq hlq).2)]
      exact hs.field i q hq hlq
  case idle => exact fun h1 _ => absurd (unit.trans hu) h1
  case serviced => intro h1; rw [unit, hu] at h1; cases h1
  case configured =>
    intro i q hq hlq
    rw [configured_congr layout]
    obtain ⟨-, rfl⟩ | ⟨-, hq⟩ := back i q hq
    · rw [hpan]; exact hc
    · exact hs.configured i q hq hlq
  case jog =>
    intro j hj
    have hj : s.jog = some j := by rw [kept] at hj; exact hj
    rw [unit, configured_congr layout]
    exact hs.jog j hj
  case writing =>
    intro hw
    rw [unit]
    exact hs.writing (by rw [kept] at hw; exact hw)
  case counter =>
    rw [kept]
    exact nextId_range hid.2

theorem fold_panelOff {L : Leave} (s : State) : Changes L s (s.forPanels fun p s => s.panelOff p) := by
  have : ∀ (ps : List PanelNo) (s : State), Changes L s (ps.foldl (fun s p => s.panelOff p) s) := by
    intro ps
    induction ps with
    | nil => exact fun _ => .refl
    | cons p ps ih => exact fun s => calms_panelOff.changes.trans (ih _)
  exact this allPanels s

/-! ### The restart -/

/-- What cutting every move short leaves. -/
theorem changes_cutMoves {L : Leave} (s : State) : Changes L s (s.forPanels fun p s => s.cutMove p) := by
  have : ∀ (ps : List PanelNo) (s : State), Changes L s (ps.foldl (fun s p => s.cutMove p) s) := by
    intro ps
    induction ps with
    | nil => exact fun _ => .refl
    | cons p ps ih => exact fun s => calms_cutMove.changes.trans (ih _)
  exact this allPanels s

theorem restart_panel (p : PanelNo) : s.restart.panel p =
    ((s.forPanels fun p s => s.cutMove p).panel p).restarted (s.now + s.params.tuning.brakingWindow) := by
  unfold State.restart
  extract_lets t s1 s2
  have e : s.forPanels (fun p s => s.cutMove p) = s1 := rfl
  clear_value s1
  rw [setLatch_panel, e]
  simp [State.panel, s2, t]

theorem restart_slot (i : SlotNo) : s.restart.slot i = none := by
  unfold State.restart
  extract_lets t s1 s2
  clear_value s1
  rw [setLatch_slot]
  simp [State.slot, s2]

theorem restart_fields : s.restart.jog = none ∧ s.restart.writing = none ∧
    s.restart.unit = .start (.restart (s.unit == .setup)) ∧ s.restart.store = s.storeFound ∧ s.restart.txQueue = [] := by
  unfold State.restart
  extract_lets t s1 s2
  clear_value s1
  simp [s2]

theorem restart_idCounter : s.restart.idCounter = s.idCounter := by
  have h := lasting_idCounter (changes_cutMoves (L := Leave.all) s).lasting
  unfold State.restart
  extract_lets t s1 s2
  have : s1.idCounter = s.idCounter := h
  clear_value s1
  simp [s2, this]

theorem Act.linked (hK : K.sound) (h : Act K s t) (hs : s.Linked) : t.Linked := by
  cases h with
  | change h => exact h.linked hs
  | raise p k => exact (raise_changes s p k).linked hs
  | frame h _ => exact h.linked hs
  | cut h => exact (fold_panelOff (L := Leave.all) _).linked (h.linked hs)
  | feed p f h =>
    refine hs.of_same { live := fun q => ?_ } fun i => .inl rfl
    rw [modPanel_panel]; split
    · rename_i e; subst e; exact h.live
    · rfl
  | forget xs hc => exact hs.of_same {} fun i => .inl rfl
  | amend i f hz hf =>
    refine hs.of_same {} fun j => ?_
    rw [modOrder_slot]; split
    · rename_i e
      subst e
      cases hi : s.slot i with
      | none => exact .inl rfl
      | some o => exact .inr ⟨o, f o, rfl, rfl, by rw [hf o]; exact {}⟩
    · exact .inl rfl
  | adopt i o n hi hl hw =>
    refine hs.of_same (t := s.updateOrder i fun o => { o with issuer := n }) ?_ fun j => ?_
    · rw [updateOrder_eq hi]; exact {}
    · rw [updateOrder_slot]; split
      · rename_i e
        subst e
        exact .inr ⟨o, { o with issuer := n }, hi, by rw [hi]; rfl, {}⟩
      · exact .inl rfl
  | create n p kind target cls hold link hu hc hf hl hw => exact linked_createOrder hs hu hc (hl hK)
  | retire i h =>
    have back : ∀ j q, (s.setSlot i none).slot j = some q → j ≠ i ∧ s.slot j = some q := by
      intro j q hq
      rw [setSlot_slot] at hq
      split at hq
      · cases hq
      · rename_i e; exact ⟨Ne.symm e, hq⟩
    exact
      { ids := fun a b x y hx hy e => hs.ids a b x y (back a x hx).2 (back b y hy).2 e
        consistent := fun a x hx => hs.consistent a x (back a x hx).2
        order := fun p id hp => by
          obtain ⟨j, q, hq, e1, e2, hl⟩ := hs.order p id hp
          refine ⟨j, q, ?_, e1, e2, hl⟩
          rw [setSlot_slot_ne]
          · exact hq
          · rintro rfl
            rw [h q hq hK] at hl; cases hl
        field := fun a x hx => hs.field a x (back a x hx).2
        idle := fun h1 h2 a x hx => hs.idle h1 h2 a x (back a x hx).2
        serviced := fun h1 a x hx => hs.serviced h1 a x (back a x hx).2
        configured := fun a x hx => hs.configured a x (back a x hx).2
        jog := hs.jog
        writing := hs.writing
        counter := hs.counter }
  | unwatch n h => exact hs.of_same {} fun i => .inl rfl
  | rewatch n r d h => exact hs.of_same {} fun i => .inl rfl
  | tune i v hu => exact hs.of_same {} fun i => .inl rfl
  | write w hu => exact { hs with writing := fun _ => hu }
  | enter u x hu hl hw hj hn =>
    exact
      { hs with
        idle := fun h1 h2 i o ho => by
          obtain rfl | rfl | rfl := hu
          · exact hl rfl i o ho hK
          · exact absurd rfl h1
          · exact absurd rfl h2
        serviced := fun h1 i o ho => hw h1 i o ho hK
        jog := fun j hsj => by
          by_cases e : u = .service
          · exact ⟨e, (hs.jog j hsj).2⟩
          · rw [hj e hK] at hsj; cases hsj
        writing := fun hwr => by
          by_contra e
          have hwr : s.writing.isSome = true := hwr
          rw [hn e hK] at hwr; cases hwr }
  | commit hc hw =>
    have hu := hs.writing hw
    have quiet := hs.idle (by simp [hu]) (by simp [hu])
    have slots : ∀ u : State, u.takeLayout.slots = u.slots ∧ u.takeLayout.jog = u.jog ∧ u.takeLayout.writing = u.writing ∧
        u.takeLayout.idCounter = u.idCounter := fun u => by
      unfold State.takeLayout; dsimp only; split <;> exact ⟨rfl, rfl, rfl, rfl⟩
    have panels : ∀ (u : State) p, (u.panel p).live = none → (u.takeLayout.panel p).live = none := by
      intro u p hp
      have relaid : ∀ (x : Panel) a b c, x.live = none → (x.relaid a b c).live = none := by
        intro x a b c hx
        unfold Panel.relaid
        split
        · rfl
        · split <;> exact hx
      unfold State.takeLayout
      dsimp only
      split <;> simpa [State.panel] using relaid _ _ _ _ hp
    obtain ⟨e1, e2, e3, e4⟩ := slots { s with writing := none }
    refine linked_of_idle (fun p => panels _ p (live_none_of_idle hs quiet p)) (fun i o ho => ?_) (fun i j a b ha hb => ?_) ?_ ?_ ?_
    · have ho : s.slot i = some o := (slot_of_slots e1 i).symm.trans ho
      exact ⟨hs.consistent i o ho, quiet i o ho⟩
    · exact hs.ids i j a b ((slot_of_slots e1 i).symm.trans ha) ((slot_of_slots e1 j).symm.trans hb)
    · have idle : s.jog = none := Option.eq_none_iff_forall_not_mem.mpr fun j hj => by
        rw [(hs.jog j hj).1] at hu; cases hu
      exact e2.trans idle
    · intro h
      exact absurd (e3 ▸ h) (by simp)
    · change 1 ≤ (State.takeLayout _).idCounter ∧ (State.takeLayout _).idCounter ≤ 255
      rw [e4]
      exact hs.counter
  | noCopy hw => exact { hs with writing := fun h => by cases h }
  | powerOn hc =>
    refine linked_of_idle (fun p => ?_) (fun i o h => ?_) (fun i j a b h => ?_) rfl (fun h => by cases h)
        ⟨le_rfl, show (1 : Nat) ≤ 255 by decide⟩
    · simp [State.powerOn, State.panel, Panel.poweredOn, Panel.atPowerOn]
    · simp [State.powerOn, State.slot, State.reset] at h
    · simp [State.powerOn, State.slot, State.reset] at h
  | restart =>
    obtain ⟨hj, hw, -⟩ := restart_fields (s := s)
    refine linked_of_idle (fun p => by rw [restart_panel]; rfl) (fun i o h => ?_) (fun i j a b h => ?_) hj (fun h => ?_) ?_
    · rw [restart_slot] at h; cases h
    · rw [restart_slot] at h; cases h
    · rw [hw] at h; cases h
    · rw [restart_idCounter]; exact hs.counter
  | hold p d h => exact absurd hK h
  | latch e =>
    rw [setLatch_eq]
    exact hs.of_same {} fun i => .inl rfl
  | jogOn j hu hc hf =>
    exact { hs with jog := fun k hk => by obtain rfl := Option.some.inj hk; exact ⟨hu, hc⟩ }

theorem Acts.linked (h : Acts K s t) (hK : K.sound) (hs : s.Linked) : t.Linked := by
  induction h with
  | refl => exact hs
  | tail _ h ih => exact h.linked hK ih

end Sys2Proof.Machine
end

section
namespace Sys2Proof.Machine
variable {K : Known} {s t : State}

theorem takeLayout_fields (u : State) : u.takeLayout.slots = u.slots ∧ u.takeLayout.jog = u.jog ∧ u.takeLayout.writing = u.writing ∧
    u.takeLayout.idCounter = u.idCounter ∧ u.takeLayout.created = u.created ∧ u.takeLayout.latches = u.latches := by
  unfold State.takeLayout; dsimp only; split <;> exact ⟨rfl, rfl, rfl, rfl, rfl, rfl⟩

theorem restart_created : s.restart.created = s.created := by
  have h := lasting_created (changes_cutMoves (L := Leave.all) s).lasting
  unfold State.restart
  extract_lets t s1 s2
  have : s1.created = s.created := h
  clear_value s1
  simp [s2, this]

/-! ### Finished orders -/

/-- Every order that was finished before the command is held as it finished, until its slot is FREE or holds an order created
by the command. -/
def State.Holds (K : Known) (s : State) : Prop :=
  K.mark ≤ s.created ∧ ∀ i o, K.table i = some o → o.state.live = false →
    s.slot i = some o ∨ s.slot i = none ∨ ∃ q, s.slot i = some q ∧ K.mark ≤ q.created

theorem State.Holds.of_same (hs : s.Holds K) (hK : K.sound) (hc : t.created = s.created)
    (h : ∀ i, t.slot i = s.slot i ∨ t.slot i = none ∨
    ∃ o q, s.slot i = some o ∧ t.slot i = some q ∧ q.created = o.created ∧ (o.state.live = true ∨ K.may s i)) : t.Holds K := by
  refine ⟨hc ▸ hs.1, fun i o ho hl => ?_⟩
  obtain e | e | ⟨p, q, hp, hq, e, hm⟩ := h i
  · rw [e]; exact hs.2 i o ho hl
  · exact .inr (.inl e)
  · obtain h | h | ⟨x, hx, hy⟩ := hs.2 i o ho hl
    · obtain rfl := Option.some.inj (hp.symm.trans h)
      obtain hm | hm := hm
      · rw [hl] at hm; cases hm
      · exact .inr (.inr ⟨q, hq, e ▸ hm hK ⟨p, ho, hl⟩ p h⟩)
    · rw [hp] at h; cases h
    · obtain rfl := Option.some.inj (hp.symm.trans hx)
      exact .inr (.inr ⟨q, hq, e ▸ hy⟩)

theorem Changes.holds {L : Leave} (h : Changes L s t) (hK : K.sound) (hs : s.Holds K) : t.Holds K := by
  refine hs.of_same hK (lasting_created h.lasting) fun i => ?_
  have hl := lasting_slot h.lasting i
  cases hi : s.slot i with
  | none => exact .inl (by simpa [hi] using hl)
  | some o =>
    obtain ⟨q, hq, e⟩ : ∃ q, t.slot i = some q ∧ q.lasting = o.lasting := by simpa [hi] using hl
    cases hlo : o.state.live with
    | false => exact .inl (h.finished hi hlo)
    | true => exact .inr (.inr ⟨o, q, rfl, hq, (congrArg Order.created e : q.lasting.created = o.lasting.created), .inl hlo⟩)

theorem Act.holds (h : Act K s t) (hK : K.sound) (hs : s.Holds K) : t.Holds K := by
  cases h with
  | change h => exact Changes.holds (.single h) hK hs
  | raise p k => exact (raise_changes s p k).holds hK hs
  | frame h _ => exact hs.of_same hK h.created fun i => .inl (slot_of_slots h.slots i)
  | cut h =>
    exact (fold_panelOff (L := Leave.all) _).holds hK (hs.of_same hK h.created fun i => .inl (slot_of_slots h.slots i))
  | feed p f h => exact hs.of_same hK rfl fun i => .inl rfl
  | forget xs hc => exact hs.of_same hK rfl fun i => .inl rfl
  | amend i f hz hf =>
    refine hs.of_same hK rfl fun j => ?_
    rw [modOrder_slot]; split
    · rename_i e
      subst e
      cases hi : s.slot i with
      | none => exact .inl rfl
      | some o => exact .inr (.inr ⟨o, f o, rfl, rfl, by rw [hf o], .inr hz⟩)
    · exact .inl rfl
  | adopt i o n hi hl hw =>
    refine hs.of_same hK ?_ fun j => ?_
    · rw [updateOrder_eq hi]; rfl
    · rw [updateOrder_slot]; split
      · rename_i e
        subst e
        exact .inr (.inr ⟨o, { o with issuer := n }, hi, by rw [hi]; rfl, rfl, .inl hl⟩)
      · exact .inl rfl
  | create n p kind target cls hold link hu hc hf hl hw =>
    have slot := createOrder_slot s n p kind target cls hold link
    have created : (s.createOrder n p kind target cls hold link).created = s.created + 1 := by
      rw [createOrder_eq]; rfl
    refine ⟨by rw [created]; exact Nat.le_succ_of_le hs.1, fun j o hK hlo => ?_⟩
    rw [slot]; split
    · exact .inr (.inr ⟨_, rfl, hs.1⟩)
    · exact hs.2 j o hK hlo
  | retire i h =>
    refine hs.of_same hK rfl fun j => ?_
    rw [setSlot_slot]; split
    · exact .inr (.inl rfl)
    · exact .inl rfl
  | unwatch n h => exact hs.of_same hK rfl fun i => .inl rfl
  | rewatch n r d h => exact hs.of_same hK rfl fun i => .inl rfl
  | tune i v hu => exact hs.of_same hK rfl fun i => .inl rfl
  | write w hu => exact hs.of_same hK rfl fun i => .inl rfl
  | enter u x hu hl hw hj hn => exact hs.of_same hK rfl fun i => .inl rfl
  | commit hc hw =>
    obtain ⟨e1, -, -, -, e5, -⟩ := takeLayout_fields { s with writing := none }
    exact hs.of_same hK e5 fun i => .inl (slot_of_slots (s := s) e1 i)
  | noCopy hw => exact hs.of_same hK rfl fun i => .inl rfl
  | powerOn hc => exact hs.of_same hK rfl fun i => .inr (.inl (by simp [State.powerOn, State.slot, State.reset]))
  | restart => exact hs.of_same hK restart_created fun i => .inr (.inl (restart_slot i))
  | hold p d h => exact absurd hK h
  | latch e => exact hs.of_same hK (by simp) fun i => .inl (by simp)
  | jogOn j hu hc => exact hs.of_same hK rfl fun i => .inl rfl

theorem Acts.holds (h : Acts K s t) (hK : K.sound) (hs : s.Holds K) : t.Holds K := by
  induction h with
  | refl => exact hs
  | tail _ h ih => exact h.holds hK ih

theorem State.Holds.may (hs : s.Holds K) {i : SlotNo} {o : Order} (hi : s.slot i = some o) (hl : o.state.live = true) :
    K.may s i := by
  rintro - ⟨q, hq, hlq⟩ x hx
  obtain rfl := Option.some.inj (hi.symm.trans hx)
  obtain h | h | ⟨y, hy, hm⟩ := hs.2 i q hq hlq
  · obtain rfl := Option.some.inj (hi.symm.trans h)
    rw [hl] at hlq; cases hlq
  · rw [hi] at h; cases h
  · obtain rfl := Option.some.inj (hi.symm.trans hy)
    exact hm

/-! ### RAIN_CLOSE -/


/-- RAIN_CLOSE goes from panel to panel: what is known of the state it started from stays known. -/
structure State.Rains (K : Known) (s t : State) : Prop where
  acts : Acts K s t
  unit : t.unit = s.unit
  layout : t.layout = s.layout

theorem State.Rains.refl : s.Rains K s := ⟨.refl, rfl, rfl⟩

theorem State.Rains.trans {u : State} (a : s.Rains K t) (b : t.Rains K u) : s.Rains K u :=
  ⟨a.acts.trans b.acts, b.unit.trans a.unit, b.layout.trans a.layout⟩

theorem rains_settle {r : Res} : r.st.Rains K r.settle :=
  ⟨acts_settle .refl, lasting_unit (lasting_settle r), lasting_layout (lasting_settle r)⟩

theorem Changes.rains (h : Changes Leave.command s t) : s.Rains K t := ⟨h.acts, lasting_unit h.lasting, lasting_layout h.lasting⟩

theorem amendClass_lasting {i : SlotNo} {o : Order} (hi : s.slot i = some o) (cl : OrderClass) :
    (s.amendClass i cl).st.lasting = (s.modOrder i fun o => { o with cls := cl }).lasting := by
  simp only [State.amendClass, hi]
  split
  · exact lasting_rekey _ _ _
  · rfl

theorem rains_raiseOrder {i : SlotNo} {o : Order} (hi : s.slot i = some o) (hz : K.may s i) : s.Rains K (s.raiseOrder i).st := by
  have classed := amendClass_lasting hi .rain
  have linked : (s.raiseOrder i).st.lasting = (s.amendClass i .rain).st.lasting := by
    rw [State.raiseOrder, Res.bind_st, State.clearPredecessor]
    split
    · rfl
    · split
      · rfl
      · exact lasting_unlink _ _
  have kept := linked.trans classed
  have may : K.may (s.amendClass i .rain).st i := by
    rintro hK hf q hq
    have e := lasting_slot classed i
    rw [hq, modOrder_slot, if_pos rfl, hi, Option.map_some, Option.map_some, Option.map_some, Option.some.injEq] at e
    have e : q.created = o.created := (congrArg Order.created e :)
    exact e ▸ hz hK hf o hi
  exact ⟨(acts_amendClass hz .rain).trans (acts_clearPredecessor may), (lasting_unit (t := (s.raiseOrder i).st) kept :),
    (lasting_layout (t := (s.raiseOrder i).st) kept :)⟩

theorem rains_rainOrder {n : StationNo} {p : PanelNo} (hu : s.unit = .run) (hc : s.configured p = true)
    (hf : (s.panel p).faults = []) (hl : K.sound → (s.panel p).live = none) (hk : s.stationKind n ≠ some .pendant) :
    s.Rains K (s.rainOrder n p).st := by
  have created : s.Rains K (s.createOrder n p .close (some 0) .rain none none) :=
    ⟨.single (.create n p .close (some 0) .rain none none hu hc hf hl fun h => absurd h hk), by rw [createOrder_eq]; rfl,
      by rw [createOrder_eq]; rfl⟩
  unfold State.rainOrder
  refine created.trans (Changes.rains (changes_admitted fun o ho => .inl ?_))
  rw [createOrder_slot, if_pos rfl] at ho
  obtain rfl := Option.some.inj ho
  rfl

theorem rainAction_order {p : PanelNo} {i : SlotNo} (h : s.rainAction p = .lift i ∨ s.rainAction p = .supersede i) :
    ∃ o, s.liveOrder p = some (i, o) := by
  unfold State.rainAction at h
  split at h
  · simp at h
  · split at h
    · rename_i j o hl
      refine ⟨o, ?_⟩
      split at h <;> simp at h <;> rw [← h] <;> exact hl
    · split at h <;> simp at h

theorem rainAction_create {p : PanelNo} (h : s.rainAction p = .create) : s.liveOrder p = none := by
  unfold State.rainAction at h
  split at h
  · cases h
  · split at h
    · split at h <;> cases h
    · assumption

/-- RAIN_CLOSE takes one panel. -/
theorem rains_take {n : StationNo} {p : PanelNo} {r : Rain} (hs : s.Rains K r.st) (hK : K.sound → s.Linked)
    (hh : K.sound → s.Holds K)
    (hu : s.unit = .run) (hc : s.configured p = true) (hk : s.stationKind n ≠ some .pendant) : s.Rains K (r.take n p).st := by
  have linked : K.sound → r.st.Linked := fun h => hs.acts.linked h (hK h)
  have hu : r.st.unit = .run := hs.unit.trans hu
  have hc : r.st.configured p = true := by rwa [configured_congr hs.layout]
  have hk : r.st.stationKind n ≠ some .pendant := by rwa [stationKind_congr hs.layout]
  refine hs.trans ?_
  unfold Rain.take
  have able : r.st.rainAction p ≠ .skip → (r.st.panel p).faults = [] := by
    intro h
    by_contra hf
    exact h (by simp [State.rainAction, hf])
  split
  · exact .refl
  · exact .refl
  · rename_i i hi
    obtain ⟨o, ho⟩ := rainAction_order (.inl hi)
    refine (rains_raiseOrder (liveOrder_some ho).1 fun h => ?_).trans rains_settle
    obtain ⟨hi, -, hl⟩ := live_of_liveOrder (linked h) ho
    exact (hs.acts.holds h (hh h)).may hi hl h
  · rename_i i hi
    obtain ⟨o, ho⟩ := rainAction_order (.inr hi)
    have calm : Changes (Leave.agenda fun _ => True) r.st (r.st.endOrder i (.cancelled .superseded)).st :=
      changes_endOrder rfl fun _ _ _ => .inl trivial
    have ended : Changes Leave.command r.st (r.st.endOrder i (.cancelled .superseded)).st :=
      changes_endOrder rfl fun _ _ _ => .inl trivial
    have faults : ((r.st.endOrder i (.cancelled .superseded)).st.panel p).faults = [] := by
      rw [calm.faults_eq id]
      exact able (by simp [hi])
    have created := rains_rainOrder (K := K) (n := n) (s := (r.st.endOrder i (.cancelled .superseded)).st)
      ((lasting_unit ended.lasting).trans hu) (by rwa [lasting_configured ended.lasting]) faults ?_
      (by rwa [lasting_stationKind ended.lasting])
    · exact (ended.rains.trans created).trans
        (rains_settle (r := (r.st.endOrder i (.cancelled .superseded)).bind fun s => s.rainOrder n p))
    · intro h
      obtain ⟨hs, rfl, hl⟩ := live_of_liveOrder (linked h) ho
      exact endOrder_live hs hl
  · rename_i hi
    exact (rains_rainOrder hu hc (able (by simp [hi])) (fun h => (liveOrder_eq_none (linked h)).1 (rainAction_create hi)) hk).trans
      rains_settle

theorem rains_fold {n : StationNo} (hK : K.sound → s.Linked) (hh : K.sound → s.Holds K) (hu : s.unit = .run)
    (hk : s.stationKind n ≠ some .pendant) : ∀ (ps : List PanelNo) (r : Rain), (∀ p ∈ ps, s.configured p = true) →
      s.Rains K r.st → s.Rains K (ps.foldl (Rain.take n) r).st
  | [], _, _, hs => hs
  | p :: ps, r, hc, hs => rains_fold hK hh hu hk ps (r.take n p) (fun q hq => hc q (.tail _ hq))
      (rains_take hs hK hh hu (hc p (.head _)) hk)

theorem acts_ownerRainClose {n : StationNo} (hK : K.sound → s.Linked) (hh : K.sound → s.Holds K) :
    Acts K s (ownerRainClose n s).st := by
  unfold ownerRainClose
  split
  · exact .refl
  · rename_i hu
    split
    · exact .refl
    · rename_i hk
      have kind : s.stationKind n ≠ some .pendant := by
        intro e
        simp [State.isKind, e] at hk
      exact (rains_fold hK hh (by simpa using hu) kind _ _ (fun p hp => (List.mem_filter.1 hp).2) .refl).acts

end Sys2Proof.Machine
end

section
/-! Every command is a run of acts: the events of the unit, of its lines and of its timers, and the frames of the link. -/

namespace Sys2Proof.Machine

variable {K : Known} {s t : State} {p : PanelNo} {n : StationNo}

/-! ### START_END, restart and the port -/

theorem acts_takeCard (k : CardNo) (x : Option Int) : Acts K s (s.takeCard k x).st := by
  unfold State.takeCard
  extract_lets c d s1 s2 s3
  have stored : Acts K s s1 := State.Framed.acts {}
  have warned : Acts K s1 s2 := by
    change Acts K s1 (if c = .normal ∧ d ≠ .normal then (s.cardPanels k).foldl (fun s p => s.warn p .cardHot) s1 else s1)
    split
    · exact acts_fold (fun p _ => acts_warn .cardHot) _ _
    · exact .refl
  have checked : Acts K s2 s3 := acts_fold (f := fun s p => s.checkFast p) (fun _ _ => changes_checkFast.acts) _ _
  refine (stored.trans warned).trans (checked.trans ?_)
  split
  · exact acts_raiseAll _ _
  · exact .refl

theorem Panel.inRange_cleats {x y : Panel} (h : x.inRange) (hc : y.count = x.count) (hcr : y.creep = x.creep)
    (hch : y.chop = x.chop) (hs : y.slip = x.slip)
    (hk : ∀ k : CleatNo, y.cleats[k].last ≤ 65535 ∧ y.cleats[k].greatest ≤ 65535) : y.inRange := by
  obtain ⟨h1, h2, h3, h4, h5, -⟩ := h
  exact ⟨hc ▸ h1, hc ▸ h2, hcr ▸ h3, hch ▸ h4, hs ▸ h5, hk⟩

theorem acts_derivePanel : Acts K s (State.derivePanel p s).st := by
  unfold State.derivePanel
  dsimp only
  refine .trans (b := s.modPanel p fun x =>
    { x with certain := x.seat == .seated && x.sw.home && x.creep == 0, cleats := x.cleats.map Cleat.fromSwitch })
    (acts_feed fun x => { range := fun _ _ h => ?_ }) ?_
  · exact Panel.inRange_cleats h rfl rfl rfl rfl fun k => by simp [Cleat.fromSwitch, Cleat.atPowerOn]
  · split
    · exact acts_raise _
    · exact .refl

theorem framed_deriveLines (s : State) (key : Bool) : s.Framed (s.deriveLines key) := by
  have oil : ∀ (x : Pack) (a b : Nat), (x.evaluate a b).grants = x.grants ∧ (x.evaluate a b).waiting = x.waiting := by
    intro x a b
    unfold Pack.evaluate Pack.takeOil
    dsimp only
    split <;> exact ⟨rfl, rfl⟩
  exact { flow := fun k => by cases k <;> exact oil _ _ _ }

theorem raise_unit (s : State) (p : PanelNo) (k : PanelFault) : (s.raise p k).st.unit = s.unit := lasting_unit (lasting_raise s p k)

theorem derivePanel_unit (s : State) (p : PanelNo) : (State.derivePanel p s).st.unit = s.unit := by
  unfold State.derivePanel
  dsimp only
  split
  · exact raise_unit _ _ _
  · rfl

theorem checkFast_lasting (s : State) (p : PanelNo) : (s.checkFast p).lasting = s.lasting :=
  (changes_checkFast (L := Leave.all)).lasting

theorem takeCard_unit (s : State) (k : CardNo) (x : Option Int) : (s.takeCard k x).st.unit = s.unit := by
  unfold State.takeCard
  extract_lets c d s1 s2 s3
  have warned : s2.lasting = s1.lasting := by
    change (if c = .normal ∧ d ≠ .normal then (s.cardPanels k).foldl (fun s p => s.warn p .cardHot) s1 else s1).lasting = _
    split
    · exact lasting_foldl (fun s p => lasting_warn s p .cardHot) _ _
    · rfl
  have checked : s3.lasting = s2.lasting := lasting_foldl (f := fun s p => s.checkFast p) (fun s p => checkFast_lasting s p) _ _
  have kept : s3.unit = s1.unit := (lasting_unit checked).trans (lasting_unit warned)
  split
  · exact (lasting_unit (lasting_raiseAll _ _ _)).trans kept
  · exact kept

theorem deriveFirst_unit (s : State) : s.deriveFirst.st.unit = s.unit := by
  unfold State.deriveFirst
  extract_lets r r'
  have derived : r.st.unit = s.unit :=
    Res.each_ind (P := fun t => t.unit = s.unit) (fun p t h => (derivePanel_unit t p).trans h) _ _ rfl
  exact Res.each_ind (P := fun t => t.unit = s.unit) (fun k t h => (takeCard_unit t k _).trans h) _ _ derived

theorem acts_deriveFirst (hs : s.inStart = true) : Acts K s s.deriveFirst.st := by
  unfold State.deriveFirst
  extract_lets r r'
  have derived : Acts K s r.st := acts_each .refl fun p t => acts_derivePanel
  have kept : r.st.unit = s.unit :=
    Res.each_ind (P := fun t => t.unit = s.unit) (fun p t h => (derivePanel_unit t p).trans h) _ _ rfl
  have kept : r.st.inStart = true := by rw [State.inStart, kept]; exact hs
  exact acts_each (derived.trans (.single (.frame {} fun _ => .inr kept))) fun k t => acts_takeCard k _

/-- START is left: in START no order is live, no jog runs and no store is written. -/
theorem acts_leaveStart {c : StartCause} (hs : s.unit = .start c) (hK : K.sound → s.Linked) (u : UnitState)
    (hu : u = .setup ∨ u = .run) : Acts K s { s with unit := u } := by
  refine .single (.enter u s.serviceStation (hu.imp_right .inl) (fun _ i o ho h => ?_) (fun e => ?_) (fun _ h => ?_) fun _ h => ?_)
  · exact (hK h).idle (by simp [hs]) (by simp [hs]) i o ho
  · obtain h | h := hu <;> rw [h] at e <;> cases e
  · refine Option.eq_none_iff_forall_not_mem.2 fun j hj => ?_
    have := ((hK h).jog j hj).1
    rw [hs] at this; cases this
  · refine Option.eq_none_iff_forall_not_mem.2 fun w hw => ?_
    have := (hK h).writing (by rw [hw]; rfl)
    rw [hs] at this; cases this

theorem acts_recheckCleats : Acts K s (s.recheckCleats p) := by
  refine acts_fold (fun k t => ?_) _ _
  split
  · exact (changes_modState k fun _ => .unknown).acts.trans (acts_warn _)
  · exact .refl

theorem acts_endStart {c : StartCause} (hs : s.unit = .start c) (hK : K.sound → s.Linked) (key : Bool) :
    Acts K s (s.endStart c key) := by
  have start : s.inStart = true := by simp [State.inStart, hs]
  have lines : Acts K s (s.deriveLines key) := .single (.frame (framed_deriveLines s key) fun _ => .inr start)
  have linked : ∀ t, Acts K s t → K.sound → t.Linked := fun t h hk => h.linked hk (hK hk)
  unfold State.endStart
  cases c with
  | powerOn =>
    have first : Acts K s (s.deriveLines key).deriveFirst.settle := lines.trans (acts_settle (acts_deriveFirst start))
    have unit : (s.deriveLines key).deriveFirst.settle.unit = .start .powerOn :=
      ((lasting_unit (lasting_settle _)).trans (deriveFirst_unit _)).trans hs
    refine first.trans (acts_leaveStart unit (linked _ first) _ ?_)
    split
    · exact .inr rfl
    · exact .inl rfl
  | restart b =>
    have dated : Acts K s (s.deriveLines key).restartDeadlines := lines.trans (State.Framed.acts {})
    have left := acts_leaveStart (K := K) (s := (s.deriveLines key).restartDeadlines) hs (linked _ dated)
      (if b then .setup else .run) (by cases b <;> simp)
    exact (dated.trans left).trans (acts_fold (fun p t => acts_recheckCleats) _ _)

/-! ### What a command leads to -/

/-- The next state, if there is one, is reached by acts. -/
def Acted (K : Known) (s : State) (o : Outcome) : Prop := ∀ t, o = .next t → Acts K s t

theorem acted_next (h : Acts K s t) : Acted K s (.next t) := fun _ e => by
  cases e; exact h

theorem acted_powerOn (hc : K.command = .powerOn) : Acted K s (execPowerOn s) := acted_next (.single (.powerOn hc))

theorem acted_startEnd (hK : K.sound → s.Linked) (key : Bool) : Acted K s (execStartEnd key s) := by
  refine acted_next ?_
  split
  · rename_i c hc
    exact acts_endStart hc hK key
  · exact .refl

theorem acted_replyTransmitted : Acted K s (execReplyTransmitted s) := by
  refine acted_next ?_
  split
  · exact .refl
  · rename_i r rs hq
    dsimp only
    have sent : Acts K s { s with txQueue := rs, txErrors := s.txErrors - 1 } := State.Framed.acts {}
    have freed : ∀ u : State, Acts K u
        (if r.holdsSlot then u.modStation r.station fun x => { x with occupied := false } else u) := by
      intro u
      split
      · exact State.Framed.acts (framed_modStation (fun x => ⟨rfl, rfl⟩) fun x h => h)
      · exact .refl
    split
    · exact (sent.trans (freed _)).tail .restart
    · exact sent.trans (freed _)

theorem acts_busOffNow : Acts K s s.busOffNow := by
  have off : Acts K s s.goBusOff := by
    refine State.Framed.acts { writing := ?_, watch := fun n => ?_, errors := fun n h => ?_ }
    · simp [State.goBusOff]
    · simp [State.goBusOff, State.station]
    · simpa [State.goBusOff, State.station] using h
  unfold State.busOffNow
  split
  · exact off.tail .restart
  · exact off

theorem acted_busOff : Acted K s (execBusOff s) := by
  refine acted_next ?_
  split
  · exact .refl
  · exact acts_busOffNow

theorem acted_busRejoin (r : Nat) : Acted K s (execBusRejoin r s) := by
  refine acted_next ?_
  split
  · exact State.Framed.acts {}
  · exact .refl

theorem acted_transmitErrorDetected : Acted K s (execTransmitErrorDetected s) := by
  refine acted_next ?_
  split
  · exact .refl
  · have counted : Acts K s { s with txErrors := s.txErrors + 8 } := State.Framed.acts {}
    dsimp only
    split
    · exact counted.trans acts_busOffNow
    · exact counted

theorem acts_answerCommit (w : Writing) (c : ReplyCode) (bs : List Byte) : Acts K s (s.answerCommit w c bs) := by
  unfold State.answerCommit
  split
  · exact acts_queueReply _ _
  · exact .refl

theorem acted_storeWriteEnd {agrees : Bool} (hc : agrees = true → K.command = .storeWriteEnd true) :
    Acted K s (execStoreWriteEnd agrees s) := by
  refine acted_next ?_
  split
  · exact .refl
  · rename_i w hw
    have hw : s.writing.isSome = true := by simp [hw]
    dsimp only
    split
    · rename_i ha
      exact (Relation.ReflTransGen.single (.commit (hc ha) hw)).trans (acts_answerCommit _ _ _)
    · exact (Relation.ReflTransGen.single (.noCopy hw)).trans (acts_answerCommit _ _ _)

end Sys2Proof.Machine
end

section
-- One body at a time: elaborated in parallel, the threads' stacks add up to more than the memory limit.
set_option Elab.async false
/-! Every command is a run of acts: the events of the lines, the timers and the protection monitor. -/

namespace Sys2Proof.Machine

variable {K : Known} {s t : State} {p : PanelNo} {n : StationNo}

/-! ### Switches -/

theorem acts_engageCut : Acts K s (s.engageCut p).st := by
  unfold State.engageCut
  split
  · exact .refl
  · dsimp only
    split
    · have cut : Acts K s (s.cutMove p) := calms_cutMove.changes.acts
      split
      · exact cut.trans acts_endJogOn
      · exact cut
    · exact .refl

theorem acted_seatSwitchChange (w : SeatSwitch) (made : Bool) (held : Nat) : Acted K s (execSeatSwitchChange p w made held s) := by
  refine acted_next ?_
  split
  · exact .refl
  · dsimp only
    have taken : Acts K s (s.modPanel p fun x => { x with sw := x.sw.put made w }) := acts_feed fun x => {}
    split
    · refine taken.trans (acts_settle (acts_now ?_))
      rw [Res.bind_st]
      split
      · exact (acts_raise _).trans acts_engageCut
      · exact acts_engageCut
    · exact taken

theorem acted_stowSwitchChange (made : Bool) (held : Nat) : Acted K s (execStowSwitchChange p made held s) := by
  refine acted_next ?_
  split
  · exact .refl
  · dsimp only
    have taken : Acts K s (s.modPanel p fun x => { x with sw := { x.sw with stowLocked := made } }) := acts_feed fun x => {}
    split
    · exact taken.trans (acts_settle (acts_now .refl))
    · exact taken

theorem acts_endChanged (made : Bool) {c : Int} (hc : c = 0 ∨ c = s.openCount p) (d : Dir) :
    Acts K s (s.endChanged p made c d).st := by
  unfold State.endChanged
  rw [Res.add_st]
  split
  · exact (deeds_endMake hc d).acts
  · exact .refl

theorem acted_homeMake (made : Bool) (held : Nat) : Acted K s (execHomeMake p made held s) := by
  refine acted_next ?_
  split
  · exact .refl
  · dsimp only
    have taken : Acts K s (s.modPanel p fun x => { x with sw := { x.sw with home := made } }) := acts_feed fun x => {}
    split
    · exact taken.trans (acts_settle (acts_endChanged made (.inl rfl) _))
    · exact taken

theorem acted_openEndMake (made : Bool) (held : Nat) : Acted K s (execOpenEndMake p made held s) := by
  refine acted_next ?_
  split
  · exact .refl
  · dsimp only
    have taken : Acts K s (s.modPanel p fun x => { x with sw := { x.sw with openEnd := made } }) := acts_feed fun x => {}
    split
    · exact taken.trans (acts_settle (acts_endChanged made (.inr rfl) _))
    · exact taken

/-! ### The wheel -/

theorem acts_creepEdge : Acts K s (s.creepEdge p).st := by
  unfold State.creepEdge
  extract_lets u v
  have counted : Acts K s u := acts_feed fun x =>
    { range := fun _ _ ⟨h1, h2, _, h⟩ => ⟨h1, h2, Nat.min_le_left _ _, h⟩ }
  have warned : Acts K s v := counted.trans (acts_warn _)
  split
  · exact warned.trans (acts_raise _)
  · exact warned

theorem acts_edge : Acts K s (s.edge p).st := by
  unfold State.edge
  dsimp only
  split
  · have timed : Acts K s (s.modPanel p fun x => { x with stall := x.stall.restart s.now s.params.tuning.stallPeriod }) :=
      Changes.acts (changes_quiet fun x => .of_same rfl rfl rfl rfl id rfl rfl rfl rfl)
    rw [Res.bind_st]
    exact timed.trans ((deeds_moveEdge (Leave.ends_command _ p)).acts.trans deeds_checkPoints.acts)
  · exact (deeds_moveEdge (Leave.ends_command _ p)).acts
  · exact acts_creepEdge

theorem acted_wheelEdge (low high : Nat) : Acted K s (execWheelEdge p low high s) := by
  refine acted_next ?_
  split
  · exact .refl
  · dsimp only
    split
    · exact (acts_feed fun x => {}).trans (acts_settle acts_edge)
    · exact acts_feed fun x => {}

/-! ### Cleat switches -/

theorem Panel.fed_modCleat {top : Int} (x : Panel) (k : CleatNo) {f : Cleat → Cleat}
    (hf : ∀ c : Cleat, c.last ≤ 65535 → c.greatest ≤ 65535 → (f c).last ≤ 65535 ∧ (f c).greatest ≤ 65535) :
    Panel.Fed top x (x.modCleat k f) where
  range := fun _ _ => Panel.inRange_modCleat hf

theorem acts_cleatOutside (k : CleatNo) (made : Bool) : Acts K s (s.cleatOutside p k made) := by
  unfold State.cleatOutside
  split
  · exact (changes_modState k fun _ => .unknown).acts.trans (acts_warn _)
  · exact (changes_modState k fun _ => .unknown).acts.trans (acts_warn _)
  · exact .refl

theorem acts_moveOn {k : CleatNo} {f : Cleat → Cleat} {m m' : Move} (hm : (s.panel p).move = some m)
    (h : Changes Leave.command s (s.modCleat p k f)) :
    Acts K s ((s.modCleat p k f).modPanel p fun x => { x with move := some m' }) := by
  refine h.acts.trans (Changes.acts (.single (.quiet p _ (.of_move ?_ _))))
  rw [State.modCleat, modPanel_panel, if_pos rfl]
  simp [Panel.modCleat, Panel.setCleat, hm]

theorem acts_cleatChanged (k : CleatNo) (made : Bool) : Acts K s (s.cleatChanged p k made).st := by
  unfold State.cleatChanged
  split
  · exact acts_cleatOutside k made
  · rename_i m hm
    split
    · exact acts_cleatOutside k made
    · split
      · dsimp only [Res.ok_st]
        split
        · exact .refl
        · exact acts_moveOn hm (changes_modState k fun _ => .unknown)
      · split
        · unfold State.confirmCleat
          extract_lets ms m2 u v
          have confirmed : Acts K s u :=
            acts_moveOn hm (changes_modCleat (fun _ => rfl) fun c _ h => c.confirm_range _ ms h)
          have sluggish : Acts K s v := confirmed.trans (changes_sluggishIf ms).acts
          split
          · exact sluggish.trans changes_finishMove.acts
          · exact sluggish
        · exact .refl

theorem acted_cleatSwitchChange (k : CleatNo) (made : Bool) (held : Nat) :
    Acted K s (execCleatSwitchChange p k made held s) := by
  refine acted_next ?_
  split
  · exact .refl
  · dsimp only
    have taken : Acts K s (s.modCleat p k fun c => { c with made := made }) :=
      acts_feed fun x => x.fed_modCleat k fun _ h1 h2 => ⟨h1, h2⟩
    split
    · exact taken
    · split
      · exact taken.trans (acts_feed fun x => x.fed_modCleat k fun _ h1 h2 => ⟨h1, h2⟩)
      · exact taken
      · exact taken.trans (acts_settle (acts_now (acts_cleatChanged k made)))

/-! ### Wind, presence, selectors -/

theorem acted_windChange (asserted : Bool) (held : Nat) : Acted K s (execWindChange asserted held s) := by
  refine acted_next ?_
  split
  · exact .refl
  · have taken : Acts K s { s with windLine := asserted, windSet := asserted } := State.Framed.acts {}
    exact acts_settle_mk (taken.trans (acts_latchIf (e := .warning)))

theorem acted_presenceChange (h : HatchNo) (asserted : Bool) (held : Nat) : Acted K s (execPresenceChange h asserted held s) := by
  refine acted_next ?_
  split
  · exact .refl
  · have taken : Acts K s { s with presence := s.presence.set h asserted } := State.Framed.acts {}
    dsimp only
    split
    · exact (taken.trans (State.Framed.acts {})).trans (acts_reportZone h)
    · exact taken

theorem acts_selectorPause (h : HatchNo) : Acts K s (s.selectorPause h).st :=
  acts_each .refl fun _ _ => (changes_pauseIf (L := Leave.command) fun _ _ _ _ => trivial).acts

theorem acted_selectorChange (h : HatchNo) (toLocal : Bool) (held : Nat) : Acted K s (execSelectorChange h toLocal held s) := by
  refine acted_next ?_
  split
  · exact .refl
  · split
    · exact State.Framed.acts {}
    · split
      · exact .refl
      · have taken : Acts K s { s with selector := s.selector.set h toLocal } := State.Framed.acts {}
        dsimp only
        split
        · exact (taken.trans (acts_latch .selectorChange)).trans (acts_settle (acts_selectorPause h))
        · exact taken

/-! ### Timers -/

theorem acts_reach (s : State) (d : Nat) : Acts K s (s.reach d) := State.Framed.acts {}

theorem acted_cleatDwellExpiry : Acted K s (execCleatDwellExpiry p s) := by
  refine acted_next ?_
  split
  · split
    · rename_i m _ d _
      have off : Acts K s ((s.reach d).valveOff p) := (acts_reach s d).trans calms_valveOff.changes.acts
      dsimp only
      refine off.trans (acts_settle ?_)
      split
      · exact acts_endJogOn
      · exact .refl
    · exact .refl
  · exact .refl

theorem acted_confirmationWindowExpiry : Acted K s (execConfirmationWindowExpiry p s) := by
  refine acted_next ?_
  split
  · rename_i m _
    have jammed : Acts K s (((s.reach m.window).clearMove p).modPanel p fun x => x.setStates m.unconfirmed .jammed) :=
      ((acts_reach s _).trans calms_clearMove.changes.acts).trans (Changes.acts (changes_quiet fun x => .of_setStates x _ _))
    dsimp only
    refine jammed.trans (acts_settle ?_)
    rw [Res.bind_st]
    split
    · exact acts_endJogOn.trans (acts_raise _)
    · exact acts_raise _
  · exact .refl

theorem acts_arrivalCheck : Acts K s (s.arrivalCheck p) := by
  unfold State.arrivalCheck
  dsimp only
  split
  · split
    · exact acts_warn _
    · exact .refl
  · exact .refl

theorem arrivalCheck_serves {i : SlotNo} (h : s.serves p i) : (s.arrivalCheck p).serves p i := by
  unfold State.arrivalCheck
  dsimp only
  split
  · split
    · exact h.warn p _
    · exact h
  · exact h

theorem acts_windowEnded : Acts K s (s.windowEnded p).st := by
  unfold State.windowEnded
  split
  · exact .refl
  · rename_i i o k hs
    have serves : s.serves p i := ⟨o, k, hs⟩
    split
    · split
      · split
        · exact acts_arrivalCheck.trans (changes_completeStep (arrivalCheck_serves serves) k).acts
        · exact (changes_sequenceFail serves.ends).acts
      · exact (serves.phased _ _ _).acts.trans (deeds_stages Leave.works_command (serves.setPhase p _ _ _) o k).acts
    · exact .refl

theorem acted_brakingWindowEnd : Acted K s (execBrakingWindowEnd p s) := by
  refine acted_next ?_
  split
  · rename_i d hd
    have quiet : Acts K (s.reach d) ((s.reach d).modPanel p fun x =>
        { x with mode := .quiet, activity := x.activity.afterWindow, brakeTimer := none }) :=
      .single (.feed p _
        { mode := fun h => by cases h
          timers := fun ⟨h1, h2⟩ => ⟨fun h => by
            have : ((s.reach d).panel p).brakeTimer = none := h2 (h1 h)
            exact absurd (hd.symm.trans this) (by simp), fun h => by cases h⟩ })
    exact ((acts_reach s d).trans quiet).trans (acts_settle acts_windowEnded)
  · exact .refl

theorem acted_stallTimerExpiry : Acted K s (execStallTimerExpiry p s) := by
  refine acted_next ?_
  split
  · rename_i d _
    exact ((acts_reach s d).trans (acts_feed fun x => {})).trans (acts_settle (acts_raise _))
  · exact .refl

theorem acted_creepQuietExpiry : Acted K s (execCreepQuietExpiry p s) := by
  refine acted_next ?_
  split
  · exact (acts_reach s _).trans (acts_feed fun x => {})
  · exact .refl

theorem acted_stepTimeout : Acted K s (execStepTimeout p s) := by
  refine acted_next ?_
  split
  · rename_i d _
    exact ((acts_reach s d).trans (acts_feed fun x => {})).trans (acts_settle (acts_raise _))
  · exact .refl

theorem acted_retentionExpiry (hK : K.sound → s.Linked) (i : SlotNo) : Acted K s (execRetentionExpiry i s) := by
  refine acted_next ?_
  split
  · rename_i d hd
    refine (acts_reach s d).tail (.retire i fun o ho h => ?_)
    have ho : s.slot i = some o := ho
    obtain ⟨-, -, -, hr, -⟩ := (hK h).consistent i o ho
    by_contra hl
    rw [ho, Option.bind_some, hr.1 (by simpa using hl)] at hd
    cases hd
  · exact .refl

theorem acted_listStalenessExpiry : Acted K s (execListStalenessExpiry s) := by
  refine acted_next ?_
  split
  · rename_i d _
    have stale : Acts K s { s.reach d with fresh := false, staleTimer := none } := State.Framed.acts {}
    exact acts_settle_mk ((stale.trans acts_deriveListHigh).trans (acts_latchIf (e := .warning)))
  · exact .refl

theorem acted_zoneDeadlineExpiry (z : ClaimNo) : Acted K s (execZoneDeadlineExpiry z s) := by
  refine acted_next ?_
  split
  · rename_i c _
    split
    · dsimp only
      refine .trans ?_ (acts_reportZone _)
      refine .trans ?_ (acts_latchIf (e := .warning))
      exact ((acts_reach s _).trans (acts_setClaim z _)).trans (acts_latch _)
    · exact .refl
  · exact .refl

/-- The end of a hold-off: the direction coil goes on again with the end of the hold-off itself. -/
theorem acts_holdoffEnd (hh : (s.panel p).holdoff.isSome = true) : Acts K s (s.holdoffEnd p).st := by
  unfold State.holdoffEnd
  dsimp only
  split
  · split
    · rename_i d _
      rw [energise_eq, modPanel_modPanel]
      have driven : Change Leave.command s (s.modPanel p fun x => Panel.energised
          { x with holdoff := none, stall := .running (s.now + s.params.tuning.stallPeriod) } s.enabled d.coil) :=
        .drive p _ (.inr (.inr hh)) ⟨rfl, rfl, rfl, fun _ h => h, fun _ _ h => h⟩
          (fun he c h => by simpa [Panel.energised, he] using h) fun ⟨_, h⟩ => ⟨fun e => (by cases e), h⟩
      exact (Changes.acts (.single driven)).trans (deeds_chopIfTripped Leave.works_command (Leave.ends_command _ p)).acts
    · refine Changes.acts (changes_quiet
        (f := fun x => { x with holdoff := none, stall := .running (s.now + s.params.tuning.stallPeriod) }) fun x =>
          { lasting := rfl, live := rfl, faults := rfl, warnings := fun _ h => h, range := fun _ _ h => h, coils := fun _ h => h
            mode := id, timers := fun ⟨_, h⟩ => ⟨fun e => (by cases e), h⟩, move := id })
  · exact Changes.acts (.single (.hold p _ (.inr hh)))

theorem acted_chopHoldoffEnd : Acted K s (execChopHoldoffEnd p s) := by
  refine acted_next ?_
  split
  · rename_i d hd
    exact (acts_reach s d).trans (acts_settle (acts_holdoffEnd (by
      have : ((s.reach d).panel p).holdoff = some d := hd
      simp [this])))
  · exact .refl

theorem acted_jogTimeExpiry : Acted K s (execJogTimeExpiry s) := by
  refine acted_next ?_
  split
  · exact (acts_reach s _).trans (acts_settle acts_endJog)
  · exact .refl

end Sys2Proof.Machine
end

section
-- One body at a time: elaborated in parallel, the threads' stacks add up to more than the memory limit.
set_option Elab.async false
/-! Every command is a run of acts: the protection monitor's events, the requests, the frames, and all commands together. -/

namespace Sys2Proof.Machine

variable {K : Known} {s t : State} {p : PanelNo} {n : StationNo}

/-! ### The loop and the supply -/

theorem acts_dropEnable {u : State} (h : s.Framed u) (r : PauseReason) : Acts K s (u.dropEnable r).st := by
  unfold State.dropEnable
  rw [Res.bind_st]
  exact (Relation.ReflTransGen.single (.cut h)).trans ((acts_pauseWorking _ r).trans acts_endJog)

theorem acted_estopOpen (held : Nat) : Acted K s (execEstopOpen held s) := by
  refine acted_next ?_
  split
  · exact .refl
  · dsimp only
    split
    · exact State.Framed.acts {}
    · refine acts_settle ?_
      rw [Res.map_st]
      exact (acts_dropEnable {} _).trans (acts_latch _)

theorem acted_estopClose (held : Nat) : Acted K s (execEstopClose held s) := by
  refine acted_next ?_
  split
  · exact .refl
  · dsimp only
    split
    · exact State.Framed.acts {}
    · have closed : Acts K s { s with loopClosedLine := true, loopTaken := true, loopOpen := false } :=
        .single (.frame {} fun e => .inl (by
          simp only [State.enabled, Bool.not_false, Bool.true_and] at e ⊢
          simp [e]))
      exact closed.trans (acts_latchIf (e := .estopChange))

theorem acted_supplyUndervoltage (mV held : Nat) : Acted K s (execSupplyUndervoltage mV held s) := by
  refine acted_next ?_
  split
  · exact .refl
  · split
    · exact State.Framed.acts {}
    · dsimp only
      split
      · exact State.Framed.acts {}
      · refine acts_settle ?_
        rw [Res.map_st]
        exact (acts_dropEnable {} _).trans (acts_latch _)

theorem acted_supplyRecovery (mV held : Nat) : Acted K s (execSupplyRecovery mV held s) := by
  refine acted_next ?_
  split
  · exact .refl
  · split
    · exact State.Framed.acts {}
    · refine .single (.frame {} fun e => .inl ?_)
      simp only [State.enabled, Bool.and_eq_false_iff, Bool.not_eq_false'] at e ⊢
      exact e.imp_right fun h => by simpa using (Bool.and_eq_true .. ▸ h).1

/-! ### The packs, the cards and the coils -/

theorem acted_coilOvercurrent (c : Coil) (mA held : Nat) : Acted K s (execCoilOvercurrent p c mA held s) := by
  refine acted_next ?_
  split
  · dsimp only
    refine acts_settle ?_
    have off : Acts K s (s.deEnergise p c) := (calms_deEnergise c).changes.acts
    refine (off.trans ?_).trans (acts_raise _)
    split
    · exact .refl
    · exact acts_feed fun x => {}
  · exact .refl

theorem acts_openLoad (c : Coil) : Acts K s (s.openLoad p c) := by
  unfold State.openLoad
  dsimp only
  refine acts_settle ?_
  have found : Acts K s (s.modPanel p fun x => { x with openFound := joinSet allCoils c x.openFound }) := acts_feed fun x => {}
  refine (found.trans ?_).trans (acts_raise _)
  split
  · exact .refl
  · exact acts_feed fun x => {}

theorem acted_coilOpenLoad (c : Coil) (mA held : Nat) : Acted K s (execCoilOpenLoad p c mA held s) := by
  refine acted_next ?_
  split
  · exact acts_openLoad c
  · exact .refl

theorem acted_offStateOpenLoad (c : Coil) (ohms held : Nat) : Acted K s (execOffStateOpenLoad p c ohms held s) := by
  refine acted_next ?_
  split
  · split
    · exact acts_feed fun x => {}
    · split
      · exact acts_openLoad c
      · exact .refl
  · exact .refl

/-! ### The travel pressure -/

theorem acts_useFree (bar : Option Nat) : Acts K s (s.useFree bar) := by
  unfold State.useFree
  split
  · exact State.Framed.acts {}
  · exact .refl

theorem framed_modPack (k : PackId) {f : Pack → Pack} (h : ∀ x, (f x).grants = x.grants ∧ (f x).waiting = x.waiting) :
    s.Framed (s.modPack k f) := by
  cases k
  · exact { flow := fun k => by cases k <;> simp [State.modPack, State.setPack, State.pack, h] }
  · exact { flow := fun k => by cases k <;> simp [State.modPack, State.setPack, State.pack, h] }

theorem acts_modPack (k : PackId) {f : Pack → Pack} (h : ∀ x, (f x).grants = x.grants ∧ (f x).waiting = x.waiting) :
    Acts K s (s.modPack k f) :=
  State.Framed.acts (framed_modPack k h) (by cases k <;> rfl) (by cases k <;> rfl)

theorem acts_chopPanel (hm : (s.panel p).mode = .driven ∨ ¬ K.sound ∧ (K.enabled → s.inStart = false)) :
    Acts K s (s.chopPanel p).st := by
  obtain hm | ⟨h, he⟩ := hm
  · exact (deeds_chopPanel Leave.works_command (Leave.ends_command s p) hm).acts
  · rw [chopPanel_eq, chopped_eq]
    exact (changes_unheld.acts.tail (.hold p _ h he)).trans (deeds_afterChop (Leave.ends_command _ p)).acts

/-- The panels that travel on the pack are chopped, one after another: each of them travels still when its turn comes. -/
theorem acts_chops : ∀ (ps : List PanelNo) (s : State), ps.Nodup → (K.sound → s.Linked ∧ ∀ p ∈ ps, (s.panel p).mode = .driven) →
    (ps ≠ [] → K.enabled → s.inStart = false) → Acts K s (Res.each ps (fun p s => s.chopPanel p) (.ok s)).st
  | [], _, _, _, _ => .refl
  | p :: ps, s, hn, hs, he => by
    rw [each_cons_st]
    obtain ⟨hp, hn⟩ := List.nodup_cons.1 hn
    have he := he (by simp)
    have chop : Acts K s (s.chopPanel p).st := acts_chopPanel <| by
      by_cases hK : K.sound
      · exact .inl ((hs hK).2 p (.head _))
      · exact .inr ⟨hK, he⟩
    refine chop.trans (acts_chops ps _ hn (fun hK => ⟨chop.linked hK (hs hK).1, fun q hq => ?_⟩) fun _ h =>
      (lasting_inStart (lasting_chopPanel s p)).trans (he h))
    obtain e | e := spares_chopPanel (hs hK).1 p q (fun e => hp (e ▸ hq))
    · rw [e]; exact (hs hK).2 q (.tail _ hq)
    · rw [e]; exact (hs hK).2 q (.tail _ hq)

theorem mem_travellers {k : PackId} : p ∈ s.travellers k ↔
    ((s.panel p).mode = .driven ∧ (s.panel p).holdoff = none) ∧ s.travelPack p = k := by
  simp [State.travellers, Panel.travelling, mem_allPanels]

theorem allPanels_nodup : allPanels.Nodup := by decide

theorem travellers_nodup (s : State) (k : PackId) : (s.travellers k).Nodup := allPanels_nodup.filter _

theorem acted_travelTripRaised (hK : K.sound → s.Linked) (he : K.enabled → s.coilsFollowEnable) (k : PackId)
    (bar : Option Nat) (held : Nat) : Acted K s (execTravelTripRaised k bar held s) := by
  refine acted_next ?_
  extract_lets b t s1 s2
  have read : Acts K s s1 := (acts_useFree bar).trans (acts_modPack k fun x => ⟨rfl, rfl⟩)
  split
  · have raised : Acts K s s2 := read.trans (acts_modPack k fun x => ⟨rfl, rfl⟩)
    have start : s2.inStart = s.inStart ∧ ∀ p, s2.panel p = s.panel p := by
      have free : (s.useFree bar).unit = s.unit ∧ (s.useFree bar).panels = s.panels := by
        unfold State.useFree
        split <;> exact ⟨rfl, rfl⟩
      exact ⟨by simp [s2, s1, State.inStart, free.1], fun p => by simp [s2, s1, State.panel, free.2]⟩
    refine acts_settle (raised.trans (acts_chops _ _ (travellers_nodup _ _) (fun h => ⟨raised.linked h (hK h), fun p hp => ?_⟩)
      fun hne h => ?_))
    · exact (mem_travellers.1 hp).1.1
    · obtain ⟨p, hp⟩ := List.exists_mem_of_ne_nil _ hne
      have hm := (mem_travellers.1 hp).1.1
      rw [start.2] at hm
      rw [start.1]
      by_contra hs
      exact ((he h).2 (by simpa using hs) p).2.2.1 hm
  · exact read

theorem acted_travelTripClear (k : PackId) (bar : Option Nat) : Acted K s (execTravelTripClear k bar s) :=
  acted_next ((acts_useFree bar).trans (acts_modPack k fun _ => ⟨rfl, rfl⟩))

end Sys2Proof.Machine
end

section
/-! Every command is a run of acts (`exec_acts`). -/

namespace Sys2Proof.Machine

variable {K : Known} {s t : State} {p : PanelNo} {n : StationNo}

/-- The state has what the acts of a command take as known of it. -/
structure State.Fits (K : Known) (s : State) : Prop where
  linked : K.sound → s.Linked
  watched : K.watched → s.Linked ∧ s.faultedStand ∧ s.watchLaws
  enabled : K.enabled → s.coilsFollowEnable
  holds : K.sound → s.Holds K
  table : ∀ i o, s.slot i = some o → K.finished i → o.state.live = false

theorem State.Framed.slot (h : s.Framed t) (i : SlotNo) : t.slot i = s.slot i := slot_of_slots h.slots i
theorem State.Framed.panel (h : s.Framed t) (p : PanelNo) : t.panel p = s.panel p := by simp only [State.panel, h.panels]

theorem State.Framed.faultedStand (h : s.Framed t) (hs : s.faultedStand) : t.faultedStand := by
  simpa only [State.faultedStand, h.panel, h.jog] using hs

theorem State.Framed.watchLaws (h : s.Framed t) (hs : s.watchLaws) : t.watchLaws := by
  simpa only [State.watchLaws, State.attends, stationKind_congr h.layout, pendantHatch_congr h.layout, h.slot,
    (h.watch _).1, (h.watch _).2] using hs

theorem State.Framed.holds (h : s.Framed t) (hs : s.Holds K) : t.Holds K := by
  simpa only [State.Holds, h.slot, h.created] using hs

theorem State.Framed.fits (h : s.Framed t) (he : t.enabled = s.enabled) (hs : s.Fits K) : t.Fits K where
  linked := fun k => h.linked (hs.linked k)
  watched := fun k => by
    obtain ⟨h1, h2, h3⟩ := hs.watched k
    exact ⟨h.linked h1, h.faultedStand h2, h.watchLaws h3⟩
  enabled := fun k => by
    simpa only [State.coilsFollowEnable, he, State.inStart, h.unit, h.panel] using hs.enabled k
  holds := fun k => h.holds (hs.holds k)
  table := by simpa only [h.slot] using hs.table

theorem State.Fits.taken (hs : s.Fits K) (n : StationNo) : (s.taken n).Fits K :=
  State.Framed.fits (t := s.taken n) (framed_modStation (fun _ => ⟨rfl, rfl⟩) fun _ h => h) rfl hs

theorem acted_attendanceDeadlineExpiry (hs : s.Fits K) : Acted K s (execAttendanceDeadlineExpiry n s) := by
  refine acted_next ?_
  split
  · rename_i d _
    have frame : s.Framed (s.reach d) := {}
    exact (acts_reach s d).trans (acts_settle (acts_violation (frame.fits rfl hs).watched))
  · exact .refl

/-- A request is a run of acts if its owner's work is one. -/
theorem acted_request {tag : Byte} {owner : State → Answer} (hs : s.Fits K)
    (ho : ∀ u : State, u.Fits K → Acts K u (owner u).st) : Acted K s (request n tag owner s) :=
  acted_next (acts_request (ho _ (hs.taken n)))

/-- The row of a request, with the check that only a CLEAR_EVENTS may take latches away. -/
theorem acted_takeSpelled (hs : s.Fits K) (i : Instr)
    (hc : (∃ n tag codes, i = .clearEvents n tag codes) → forgetsLatches K.command) :
    Acted K s (takeSpelled i s) := by
  have look {n : StationNo} {tag : Byte} {owner : State → Answer} (h : ∀ u, (owner u).st = u) :
      Acted K s (request n tag owner s) := acted_request hs fun u _ => acts_of_eq (h u)
  cases i with
  | readUnit n tag page => exact look (ownerReadUnit_st page)
  | readPanel n tag panel page => exact look (ownerReadPanel_st panel page)
  | readCleat n tag panel cleat => exact look (ownerReadCleat_st panel cleat)
  | readOrder n tag id page => exact look (ownerReadOrder_st id page)
  | findOrder n tag panel => exact look (ownerFindOrder_st panel)
  | readZone n tag id page => exact look (ownerReadZone_st id page)
  | readEvents n tag => exact look ownerReadEvents_st
  | readParam n tag number => exact look (ownerReadParam_st number)
  | readStation n tag station => exact look (ownerReadStation_st station)
  | createOrder n tag panel kind cls hold pred target => exact acted_request hs fun _ _ => acts_ownerCreateOrder ..
  | hatchOrder n tag hatch kind cls hold pred target => exact acted_request hs fun _ _ => acts_ownerHatchOrder ..
  | amend n tag id mask hold cls target => exact acted_request hs fun _ h => acts_ownerAmend h.table ..
  | pause n tag id => exact acted_request hs fun _ _ => acts_ownerPause id
  | resume n tag id => exact acted_request hs fun _ _ => acts_ownerResume id
  | continueOrder n tag id => exact acted_request hs fun _ _ => acts_ownerContinue id
  | cancel n tag id => exact acted_request hs fun _ _ => acts_ownerCancel id
  | adopt n tag id => exact acted_request hs fun _ _ => acts_ownerAdopt id
  | retire n tag id => exact acted_request hs fun _ _ => acts_ownerRetire id
  | claimZone n tag hatch side kind lo hi => exact acted_request hs fun _ _ => acts_ownerClaimZone ..
  | renewZone n tag id => exact acted_request hs fun _ _ => acts_ownerRenewZone id
  | releaseZone n tag id => exact acted_request hs fun _ _ => acts_ownerReleaseZone id
  | keepalive n tag => exact acted_request hs fun _ h => acts_ownerKeepalive h.watched
  | stopHatch n tag hatch => exact acted_request hs fun _ _ => acts_ownerStopHatch hatch
  | stopAll n tag => exact acted_request hs fun _ _ => acts_ownerStopAll
  | rainClose n tag => exact acted_request hs fun _ h => acts_ownerRainClose h.linked h.holds
  | listReport n tag list trim => exact acted_request hs fun _ _ => acts_ownerListReport list trim
  | clearFaults n tag scope target => exact acted_request hs fun _ _ => acts_ownerClearFaults scope target
  | clearEvents n tag codes => exact acted_request hs fun _ _ => acts_ownerClearEvents (hc ⟨n, tag, codes, rfl⟩) codes
  | setParam n tag number value => exact acted_request hs fun _ _ => acts_ownerSetParam number value
  | commit n tag => exact acted_request hs fun _ _ => acts_ownerCommit tag
  | reconfigure n tag => exact acted_request hs fun _ h => acts_ownerReconfigure h.linked
  | restart n tag => exact look (ownerRestart_st n)
  | serviceEnter n tag => exact acted_request hs fun _ h => acts_ownerServiceEnter h.linked
  | serviceExit n tag => exact acted_request hs fun _ h => acts_ownerServiceExit h.linked
  | jog n tag panel coil time => exact acted_request hs fun _ _ => acts_ownerJog panel coil time
  | presetPosition n tag panel count => exact acted_request hs fun _ _ => acts_ownerPresetPosition panel count
  | bypassCleat n tag panel cleat => exact acted_request hs fun _ _ => acts_ownerBypassCleat panel cleat
  | restoreCleat n tag panel cleat => exact acted_request hs fun _ _ => acts_ownerRestoreCleat panel cleat
  | _ => exact acted_next .refl

theorem acted_unknownRequest (hs : s.Fits K) {f : Frame} (hc : K.command = .unknownRequest f) :
    Acted K s (execUnknownRequest f s) := by
  unfold execUnknownRequest
  split
  · exact acted_next .refl
  · rename_i n hn
    split
    · exact acted_next .refl
    · split
      · exact acted_next (acts_unknownStation _ _ _)
      · split
        · refine acted_next ?_
          unfold State.frameError
          dsimp only
          refine .trans ?_ (acts_linkRefuse _ _ _ _)
          refine .trans (.trans (b := s.modStation n fun x => { x with frameErrors := min 255 (x.frameErrors + 1) }) ?_
            (State.Framed.acts {})) (acts_latch _)
          exact State.Framed.acts (framed_modStation (fun _ => ⟨rfl, rfl⟩) fun _ _ => Nat.min_le_left _ _)
        · split
          · exact acted_next (acts_linkRefuse _ _ _ _)
          · split
            · exact acted_next (acts_linkRefuse _ _ _ _)
            · rename_i i hi
              refine acted_takeSpelled hs i fun ⟨m, tag, codes, e⟩ => .inr ⟨f, n, m, tag, codes, hc, by rw [hi, e]⟩

/-- Every command is a run of acts. -/
theorem exec_acts (hs : s.Fits K) (h : exec K.command s = .next t) : Acts K s t := by
  suffices Acted K s (exec K.command s) from this t h
  have spelled : (∃ n tag codes, K.command = .clearEvents n tag codes) → forgetsLatches K.command := .inl
  have request := acted_takeSpelled hs K.command spelled
  cases hc : K.command with
  | powerOn => exact acted_powerOn hc
  | startEnd key => exact acted_startEnd hs.linked key
  | unknownRequest f => exact acted_unknownRequest hs hc
  | replyTransmitted => exact acted_replyTransmitted
  | busOff => exact acted_busOff
  | busRejoin r => exact acted_busRejoin r
  | storeWriteEnd agrees => exact acted_storeWriteEnd fun e => by rw [hc, e]
  | seatSwitchChange p w made held => exact acted_seatSwitchChange w made held
  | stowSwitchChange p made held => exact acted_stowSwitchChange made held
  | homeMake p made held => exact acted_homeMake made held
  | openEndMake p made held => exact acted_openEndMake made held
  | wheelEdge p low high => exact acted_wheelEdge low high
  | cleatSwitchChange p k made held => exact acted_cleatSwitchChange k made held
  | cleatDwellExpiry p => exact acted_cleatDwellExpiry
  | confirmationWindowExpiry p => exact acted_confirmationWindowExpiry
  | brakingWindowEnd p => exact acted_brakingWindowEnd
  | stallTimerExpiry p => exact acted_stallTimerExpiry
  | creepQuietExpiry p => exact acted_creepQuietExpiry
  | stepTimeout p => exact acted_stepTimeout
  | retentionExpiry i => exact acted_retentionExpiry hs.linked i
  | listStalenessExpiry => exact acted_listStalenessExpiry
  | windChange asserted held => exact acted_windChange asserted held
  | presenceChange h asserted held => exact acted_presenceChange h asserted held
  | zoneDeadlineExpiry z => exact acted_zoneDeadlineExpiry z
  | selectorChange h toLocal held => exact acted_selectorChange h toLocal held
  | attendanceDeadlineExpiry n => exact acted_attendanceDeadlineExpiry hs
  | estopOpen held => exact acted_estopOpen held
  | estopClose held => exact acted_estopClose held
  | supplyUndervoltage mV held => exact acted_supplyUndervoltage mV held
  | supplyRecovery mV held => exact acted_supplyRecovery mV held
  | pumpStop k => exact acted_next (acts_changePack k _ fun _ => ⟨rfl, rfl⟩)
  | pumpRun k => exact acted_next (acts_changePack k _ fun _ => ⟨rfl, rfl⟩)
  | pressureLow k bar held running => exact acted_next (acts_changePack k _ fun _ => ⟨rfl, rfl⟩)
  | pressureRecovery k bar held running => exact acted_next (acts_changePack k _ fun _ => ⟨rfl, rfl⟩)
  | oilTemperatureChange k temp =>
    refine acted_next (acts_changePack k _ fun x => ?_)
    unfold Pack.takeOil
    split <;> exact ⟨rfl, rfl⟩
  | cardTemperatureChange card temp => exact acted_next (acts_settle (acts_takeCard card temp))
  | coilOvercurrent p c mA held => exact acted_coilOvercurrent c mA held
  | coilOpenLoad p c mA held => exact acted_coilOpenLoad c mA held
  | offStateOpenLoad p c ohms held => exact acted_offStateOpenLoad c ohms held
  | travelTripRaised k bar held => exact acted_travelTripRaised hs.linked hs.enabled k bar held
  | travelTripClear k bar => exact acted_travelTripClear k bar
  | chopHoldoffEnd p => exact acted_chopHoldoffEnd
  | jogTimeExpiry => exact acted_jogTimeExpiry
  | transmitErrorDetected => exact acted_transmitErrorDetected
  | _ => rw [hc] at request; exact request

end Sys2Proof.Machine
end

section
/-! The parameter set: a stored value is read back, and no other changes; the ranges. -/

namespace Sys2Proof.Machine

theorem ParamSet.get_put_self (ps : ParamSet) (v : Nat) (i : ParamId) : (ps.put v i).get i = v := by
  cases i <;> simp [ParamSet.put, ParamSet.get]

theorem getElem_set_of_ne {α : Type} {n : Nat} (x : Vector α n) (v : α) {a b : Fin n} (e : a ≠ b) : (x.set a v)[b] = x[b] := by
  simp [Fin.val_ne_of_ne e]

theorem ParamSet.get_put_ne (ps : ParamSet) (v : Nat) {i j : ParamId} (h : i ≠ j) : (ps.put v i).get j = ps.get j := by
  cases i with
  | lapSide a =>
    cases j with
    | lapSide b => exact getElem_set_of_ne _ _ fun e => h (e ▸ rfl)
    | _ => rfl
  | homePack a =>
    cases j with
    | homePack b => exact getElem_set_of_ne _ _ fun e => h (e ▸ rfl)
    | _ => rfl
  | panelLength a =>
    cases j with
    | panelLength b => exact getElem_set_of_ne _ _ fun e => h (e ▸ rfl)
    | _ => rfl
  | openCount a =>
    cases j with
    | openCount b => exact getElem_set_of_ne _ _ fun e => h (e ▸ rfl)
    | _ => rfl
  | cleatCount a =>
    cases j with
    | cleatCount b => exact getElem_set_of_ne _ _ fun e => h (e ▸ rfl)
    | _ => rfl
  | arbitration a =>
    cases j with
    | arbitration b => exact getElem_set_of_ne _ _ fun e => h (e ▸ rfl)
    | _ => rfl
  | stationKind a =>
    cases j with
    | stationKind b => exact getElem_set_of_ne _ _ fun e => h (e ▸ rfl)
    | _ => rfl
  | stationHatch a =>
    cases j with
    | stationHatch b => exact getElem_set_of_ne _ _ fun e => h (e ▸ rfl)
    | _ => rfl
  | cleatGroup a k =>
    cases j with
    | cleatGroup b l =>
      by_cases e : a = b
      · subst e
        have e : k ≠ l := fun e => h (e ▸ rfl)
        simp [ParamSet.put, ParamSet.get, Fin.val_ne_of_ne e]
      · exact congrArg (·[l]) (getElem_set_of_ne ps.layout.cleatGroup _ e)
    | _ => rfl
  | _ => cases j <;> simp [ParamSet.put, ParamSet.get] at h ⊢

theorem ParamId.range_le (i : ParamId) : i.range.1 ≤ i.range.2 := by
  cases i <;> simp [ParamId.range]

theorem ParamId.clamp_range (i : ParamId) (v : Nat) : i.range.1 ≤ i.clamp v ∧ i.clamp v ≤ i.range.2 := by
  have := i.range_le
  unfold ParamId.clamp
  omega

theorem ParamSet.inRange_put {ps : ParamSet} (h : ps.inRange) (i : ParamId) (v : Nat) : (ps.put (i.clamp v) i).inRange := by
  intro j
  by_cases e : i = j
  · subst e
    rw [ParamSet.get_put_self]
    exact i.clamp_range v
  · rw [ParamSet.get_put_ne _ _ e]
    exact h j

/-- Each parameter is of the layout part of a set or of its tuning part. -/
theorem ParamSet.get_mk (l : Layout) (t : Tuning) (ps qs : ParamSet) (hl : ps.layout = l) (ht : qs.tuning = t) (i : ParamId) :
    (ParamSet.mk l t).get i = ps.get i ∨ (ParamSet.mk l t).get i = qs.get i := by
  subst hl ht
  cases i with
  | hatchCount | crossover | listSource | lapSide | homePack | panelLength | openCount | cleatCount | arbitration | cleatGroup
  | stationKind | stationHatch => exact .inl rfl
  | _ => exact .inr rfl

theorem ParamSet.inRange_mk {ps qs : ParamSet} (hp : ps.inRange) (hq : qs.inRange) :
    (ParamSet.mk ps.layout qs.tuning).inRange := by
  intro i
  obtain e | e := ParamSet.get_mk _ _ ps qs rfl rfl i
  · rw [e]; exact hp i
  · rw [e]; exact hq i

theorem openCount_range {s : State} (h : (ParamSet.mk s.layout s.params.tuning).inRange) (p : PanelNo) :
    0 ≤ s.openCount p ∧ s.openCount p ≤ 4095 := by
  have : 100 ≤ s.layout.openCount[p] ∧ s.layout.openCount[p] ≤ 4095 := h (.openCount p)
  unfold State.openCount
  omega

theorem defaultGroups_range (k : CleatNo) : 1 ≤ defaultGroups[k] ∧ defaultGroups[k] ≤ 3 := by
  revert k; decide

/-- The default of every parameter lies within its range (R187). -/
theorem ParamSet.inRange_default : ParamSet.default.inRange := by
  intro i
  cases i with
  | cleatGroup p k => simpa [ParamSet.get, ParamSet.default, Layout.default, ParamId.range] using defaultGroups_range k
  | arbitration p => revert p; decide
  | stationKind n => revert n; decide
  | _ => simp [ParamSet.get, ParamSet.default, Layout.default, Tuning.default, ParamId.range]

end Sys2Proof.Machine
end

section
/-! What every act keeps: the latches, the layout, the ranges. -/

namespace Sys2Proof.Machine

variable {K : Known} {s t : State}

/-! ### Latches -/

theorem restart_latches {e : EventLatch} (he : e ∈ s.latches) : e ∈ s.restart.latches := by
  have h := Changes.latches (changes_cutMoves (L := Leave.all) s) he
  unfold State.restart
  extract_lets t s1 s2
  have h : e ∈ s1.latches := h
  clear_value s1
  rw [setLatch_mem]
  exact .inl h

theorem Act.latches (h : Act K s t) (hp : K.command ≠ .powerOn) (hf : ¬ forgetsLatches K.command) {e : EventLatch}
    (he : e ∈ s.latches) : e ∈ t.latches := by
  cases h with
  | change h => exact h.latches he
  | raise p k => exact (raise_changes s p k).latches he
  | frame h _ => rw [h.latches]; exact he
  | cut h => exact (fold_panelOff (L := Leave.all) _).latches (h.latches ▸ he)
  | forget xs hc => exact absurd hc hf
  | adopt i o n hi => rw [updateOrder_eq hi]; exact he
  | create n p kind target cls hold link => rw [createOrder_eq]; exact he
  | commit =>
    obtain ⟨-, -, -, -, -, e⟩ := takeLayout_fields { s with writing := none }
    exact (congrArg (_ ∈ ·) e).mpr he
  | powerOn hc => exact absurd hc hp
  | restart => exact restart_latches he
  | latch e' => rw [setLatch_mem]; exact .inl he
  | feed | amend | retire | unwatch | rewatch | tune | write | enter | noCopy | hold | jogOn => exact he

theorem Acts.latches (h : Acts K s t) (hp : K.command ≠ .powerOn) (hf : ¬ forgetsLatches K.command) {e : EventLatch}
    (he : e ∈ s.latches) : e ∈ t.latches := by
  induction h with
  | refl => exact he
  | tail _ h ih => exact h.latches hp hf ih

theorem requestOf_clearEvents {n m : StationNo} {f : Frame} {tag : Byte} {codes : Half}
    (h : requestOf n f = some (.clearEvents m tag codes)) : m = n ∧ tag = f.byte 1 ∧ codes = f.half 2 := by
  have lookup : lookupOf n f ≠ some (.clearEvents m tag codes) := by
    unfold lookupOf; split <;> simp
  have order : orderRequestOf n f ≠ some (.clearEvents m tag codes) := by
    unfold orderRequestOf; split <;> simp
  unfold requestOf at h
  simp only [Option.orElse_eq_orElse, Option.orElse_eq_or, Option.or_eq_some_iff, lookup, order, false_or] at h
  obtain ⟨-, -, h⟩ := h
  unfold unitRequestOf at h
  split at h <;> simp at h
  exact ⟨h.1.symm, h.2.1.symm, h.2.2.symm⟩

/-- A state of which nothing is known but that it takes the command. -/
def Known.bare (c : Instr) : Known := ⟨c, False, False, False, fun _ => none, 0⟩

theorem State.fits_bare (c : Instr) (s : State) : s.Fits (Known.bare c) where
  linked := False.elim
  watched := False.elim
  enabled := False.elim
  holds := False.elim
  table := fun i o _ ⟨q, hq, _⟩ => by cases hq

/-- Settles O16: no act of a command but CLEAR_EVENTS and POWER_ON takes a latch away. -/
theorem latchesStaySet : Obligations.LatchesStaySet := by
  intro c s t e h he hp hc hf
  refine (exec_acts (s.fits_bare c) h).latches hp (fun hg => ?_) he
  obtain ⟨n, tag, codes, hg⟩ | ⟨f, n, m, tag, codes, hg, hr⟩ := hg
  · exact hc n tag codes hg
  · obtain ⟨rfl, rfl, rfl⟩ := requestOf_clearEvents hr
    exact hf f m hg hr

/-! ### The layout -/

theorem restart_layout : s.restart.layout = s.layout := by
  have h := lasting_layout (changes_cutMoves (L := Leave.all) s).lasting
  unfold State.restart
  extract_lets t s1 s2
  have h : s1.layout = s.layout := h
  clear_value s1
  rw [setLatch_layout]
  exact h

theorem Act.layout (h : Act K s t) (hp : K.command ≠ .powerOn) (hw : K.command ≠ .storeWriteEnd true) : t.layout = s.layout := by
  cases h with
  | change h => exact lasting_layout h.lasting
  | raise p k => exact lasting_layout (lasting_raise s p k)
  | frame h _ => exact h.layout
  | cut h => exact (lasting_layout (fold_panelOff (L := Leave.all) _).lasting).trans h.layout
  | adopt i o n hi => rw [updateOrder_eq hi]; rfl
  | create n p kind target cls hold link => rw [createOrder_eq]; rfl
  | commit hc => exact absurd hc hw
  | powerOn hc => exact absurd hc hp
  | restart => exact restart_layout
  | latch e => simp
  | forget | feed | amend | retire | unwatch | rewatch | tune | write | enter | noCopy | hold | jogOn => rfl

theorem Acts.layout (h : Acts K s t) (hp : K.command ≠ .powerOn) (hw : K.command ≠ .storeWriteEnd true) :
    t.layout = s.layout := by
  induction h with
  | refl => rfl
  | tail _ h ih => exact (h.layout hp hw).trans ih

/-- Settles O44: the acts that change the layout are a power-on and the end of a store write. -/
theorem theLayoutIsHeld : Obligations.TheLayoutIsHeld := by
  intro c s t h hp hw
  exact (exec_acts (s.fits_bare c) h).layout hp hw

/-! ### Finished orders -/

/-- Settles O25: what a command does to the order table leaves a finished order as it is until its slot is FREE or holds an
order created by the command. -/
theorem finishedOrdersStayAsTheyFinished : Obligations.FinishedOrdersStayAsTheyFinished := by
  intro c s t i o hs h ho hl
  let K : Known := ⟨c, True, False, False, s.slot, s.created⟩
  have holds : s.Holds K := ⟨le_rfl, fun _ _ h _ => .inl h⟩
  have fits : s.Fits K :=
    { linked := fun _ => linked_iff.1 hs, watched := False.elim, enabled := False.elim, holds := fun _ => holds
      table := fun j q hq ⟨q', hq', hl⟩ => Option.some.inj (hq.symm.trans hq') ▸ hl }
  exact ((exec_acts fits h).holds trivial holds).2 i o ho hl

end Sys2Proof.Machine
end

section
/-! Every act keeps the ranges of the parameters, counts and counters (O58). -/

namespace Sys2Proof.Machine

variable {K : Known} {s t : State}

/-! ### The parameters -/

theorem takeLayout_layout (u : State) : u.takeLayout.layout = u.params.layout ∧ u.takeLayout.params = u.params := by
  unfold State.takeLayout; dsimp only; split <;> exact ⟨rfl, rfl⟩

theorem restart_params : s.restart.params = s.params := by
  have h := lasting_params (changes_cutMoves (L := Leave.all) s).lasting
  unfold State.restart
  extract_lets t s1 s2
  have h : s1.params = s.params := h
  clear_value s1
  rw [setLatch_params]
  exact h

theorem State.paramsInRange.congr (hs : s.paramsInRange) (hp : t.params = s.params) (hl : t.layout = s.layout)
    (ht : t.store = s.store ∨ t.store = none) : t.paramsInRange := by
  refine ⟨hp ▸ hs.1, hl ▸ hp ▸ hs.2.1, fun ps h => ?_⟩
  obtain e | e := ht
  · exact hs.2.2 ps (e ▸ h)
  · rw [e] at h; cases h

theorem storeFound_cases (s : State) : s.storeFound = s.store ∨ s.storeFound = none := by
  unfold State.storeFound
  split
  · exact .inr rfl
  · exact .inl rfl

theorem Act.paramsInRange (h : Act K s t) (hs : s.paramsInRange) : t.paramsInRange := by
  cases h with
  | change h => exact hs.congr (lasting_params h.lasting) (lasting_layout h.lasting) (.inl (lasting_store h.lasting))
  | raise p k =>
    have kept := lasting_raise s p k
    exact hs.congr (lasting_params kept) (lasting_layout kept) (.inl (lasting_store kept))
  | frame h _ => exact hs.congr h.params h.layout (.inl h.store)
  | cut h =>
    rename_i u
    have off := Changes.lasting (fold_panelOff (L := Leave.all) u)
    exact (hs.congr h.params h.layout (.inl h.store)).congr (lasting_params off) (lasting_layout off) (.inl (lasting_store off))
  | adopt i o n hi => rw [updateOrder_eq hi]; exact hs
  | create n p kind target cls hold link => rw [createOrder_eq]; exact hs
  | tune i v hu =>
    have put := ParamSet.inRange_put hs.1 i v
    exact ⟨put, ParamSet.inRange_mk hs.2.1 put, hs.2.2⟩
  | commit hc hw =>
    obtain ⟨hl, hp⟩ := takeLayout_layout { s with writing := none }
    refine ⟨(congrArg ParamSet.inRange hp).mpr hs.1, ?_, fun ps h => ?_⟩
    · change (ParamSet.mk (State.takeLayout _).layout (State.takeLayout _).params.tuning).inRange
      rw [hl, hp]
      exact hs.1
    · obtain rfl := Option.some.inj h
      exact hs.1
  | noCopy hw => exact hs.congr rfl rfl (.inr rfl)
  | powerOn hc =>
    have found : (s.storeFound.getD .default).inRange := by
      cases hf : s.storeFound with
      | none => exact ParamSet.inRange_default
      | some ps =>
        obtain e | e := storeFound_cases s
        · exact hs.2.2 ps (e ▸ hf)
        · rw [e] at hf; cases hf
    refine ⟨found, found, fun ps h => ?_⟩
    have h : s.storeFound = some ps := h
    rw [h] at found
    exact found
  | restart =>
    refine hs.congr restart_params restart_layout ?_
    rw [restart_fields.2.2.2.1]
    exact storeFound_cases s
  | latch e => exact hs.congr (by simp) (by simp) (.inl (by simp))
  | feed | forget | amend | retire | unwatch | rewatch | write | enter | hold | jogOn => exact hs

/-! ### The counts -/

/-- The counts of the panels, the stations and the attitude are each in range if they were. -/
structure State.CountsStay (s t : State) : Prop where
  panel : ∀ p, (s.panel p).inRange → (t.panel p).inRange := by exact fun _ h => h
  errors : ∀ n, (s.station n).frameErrors ≤ 255 → (t.station n).frameErrors ≤ 255 := by exact fun _ h => h
  list : -250 ≤ s.list → s.list ≤ 250 → -250 ≤ t.list ∧ t.list ≤ 250 := by exact fun h1 h2 => ⟨h1, h2⟩
  trim : -250 ≤ s.trim → s.trim ≤ 250 → -250 ≤ t.trim ∧ t.trim ≤ 250 := by exact fun h1 h2 => ⟨h1, h2⟩

theorem State.CountsStay.inRange (h : s.CountsStay t) (hs : s.countsInRange) : t.countsInRange := by
  obtain ⟨h1, h2, h3, h4, h5, h6⟩ := hs
  exact ⟨fun p => h.panel p (h1 p), fun n => h.errors n (h2 n), (h.list h3 h4).1, (h.list h3 h4).2, (h.trim h5 h6).1,
    (h.trim h5 h6).2⟩

theorem State.CountsStay.trans {u : State} (a : s.CountsStay t) (b : t.CountsStay u) : s.CountsStay u where
  panel := fun p h => b.panel p (a.panel p h)
  errors := fun n h => b.errors n (a.errors n h)
  list := fun h1 h2 => b.list (a.list h1 h2).1 (a.list h1 h2).2
  trim := fun h1 h2 => b.trim (a.trim h1 h2).1 (a.trim h1 h2).2

theorem Changes.countsStay {L : Leave} (h : Changes L s t) (hr : (ParamSet.mk s.layout s.params.tuning).inRange) :
    s.CountsStay t where
  panel := fun p hp => (h.panel p).range (openCount_range hr p).1 (openCount_range hr p).2 hp
  errors := fun n hn => by
    have e : (t.station n).frameErrors = (s.station n).frameErrors := (congrArg Station.frameErrors (lasting_station h.lasting n) :)
    exact e ▸ hn
  list := fun h1 h2 => by
    have e : t.list = s.list := lasting_list h.lasting
    exact e ▸ ⟨h1, h2⟩
  trim := fun h1 h2 => by
    have e : t.trim = s.trim := lasting_trim h.lasting
    exact e ▸ ⟨h1, h2⟩

theorem State.Framed.countsStay (h : s.Framed t) : s.CountsStay t where
  panel := fun p hp => h.panel p ▸ hp
  errors := h.errors
  list := h.list
  trim := h.trim

theorem countsStay_modPanel {p : PanelNo} {f : Panel → Panel} (h : (s.panel p).inRange → (f (s.panel p)).inRange) :
    s.CountsStay (s.modPanel p f) where
  panel := fun q hq => by
    rw [modPanel_panel]; split
    · rename_i e; subst e; exact h hq
    · exact hq

theorem countsStay_modStation {n : StationNo} {f : Station → Station} (h : ∀ x, (f x).frameErrors = x.frameErrors) :
    s.CountsStay (s.modStation n f) where
  errors := fun m hm => by
    rw [modStation_station]; split
    · rename_i e; subst e; rw [h]; exact hm
    · exact hm

theorem Panel.inRange_poweredOn (x : Panel) (b : Bool) : (x.poweredOn b).inRange := by
  simp [Panel.inRange, Panel.poweredOn, Panel.atPowerOn, Cleat.fromSwitch, Cleat.atPowerOn]

theorem Panel.inRange_relaid {x : Panel} (h : x.inRange) (a b c : Bool) : (x.relaid a b c).inRange := by
  unfold Panel.relaid
  split
  · exact x.inRange_poweredOn b
  · split
    · exact h
    · exact Panel.inRange_cleats h rfl rfl rfl rfl fun k => by simp [Cleat.fromSwitch, Cleat.atPowerOn]

theorem takeLayout_countsStay (u : State) : u.CountsStay u.takeLayout := by
  have panel (p : PanelNo) : ∃ a b c, u.takeLayout.panel p = (u.panel p).relaid a b c := by
    unfold State.takeLayout; dsimp only
    split <;> exact ⟨_, _, _, by simp [State.panel]; rfl⟩
  have station (n : StationNo) : (u.takeLayout.station n).frameErrors = (u.station n).frameErrors ∨
      (u.takeLayout.station n).frameErrors = 0 := by
    unfold State.takeLayout; dsimp only
    split <;> simp only [State.station, Fin.getElem_fin, Vector.getElem_mapFinIdx] <;> split <;> simp
  constructor
  case panel =>
    intro p hp
    obtain ⟨a, b, c, e⟩ := panel p
    exact e ▸ Panel.inRange_relaid hp a b c
  case errors =>
    intro n hn
    obtain e | e := station n <;> omega
  case list => unfold State.takeLayout; dsimp only; split <;> simp_all
  case trim => unfold State.takeLayout; dsimp only; split <;> simp_all

theorem countsStay_powerOn (s : State) : s.CountsStay s.powerOn where
  panel := fun p _ => by
    have e : s.powerOn.panel p = (s.panel p).poweredOn ((s.storeFound.getD .default).layout.configures (hatchOf p)) := by
      simp [State.powerOn, State.panel]
    rw [e]
    exact Panel.inRange_poweredOn _ _
  errors := fun n _ => by
    simp [State.powerOn, State.reset, State.station, Station.atPowerOn]
  list := fun _ _ => show (-250 : Int) ≤ 0 ∧ (0 : Int) ≤ 250 by decide
  trim := fun _ _ => show (-250 : Int) ≤ 0 ∧ (0 : Int) ≤ 250 by decide

theorem restart_station (n : StationNo) : s.restart.station n = (s.station n).restarted := by
  unfold State.restart
  extract_lets t s1 s2
  clear_value s1
  rw [setLatch_eq]
  simp [State.station, s2]

theorem restart_attitude : s.restart.list = s.list ∧ s.restart.trim = s.trim := by
  have h := Changes.lasting (changes_cutMoves (L := Leave.all) s)
  have hl := lasting_list h
  have ht := lasting_trim h
  unfold State.restart
  extract_lets t s1 s2
  have h1 : s1.list = s.list := hl
  have h2 : s1.trim = s.trim := ht
  clear_value s1
  rw [setLatch_eq]
  exact ⟨h1, h2⟩

theorem Panel.inRange_restarted {x : Panel} (h : x.inRange) (w : Nat) : (x.restarted w).inRange := h

theorem countsStay_restart (hr : (ParamSet.mk s.layout s.params.tuning).inRange) : s.CountsStay s.restart where
  panel := fun p hp => by
    rw [restart_panel]
    have cut := (Changes.countsStay (changes_cutMoves (L := Leave.all) s) hr).panel p hp
    exact Panel.inRange_restarted cut _
  errors := fun n hn => by rw [restart_station]; exact hn
  list := fun h1 h2 => by rw [restart_attitude.1]; exact ⟨h1, h2⟩
  trim := fun h1 h2 => by rw [restart_attitude.2]; exact ⟨h1, h2⟩

/-- Counting the watch of an issuer changes no count. -/
theorem recount_frameErrors (s : State) (n m : StationNo) : ((s.recount n).station m).frameErrors = (s.station m).frameErrors :=
  (congrArg Station.frameErrors (lasting_station (lasting_recount s n) m) :)

theorem Act.countsInRange (h : Act K s t) (hp : s.paramsInRange) (hs : s.countsInRange) : t.countsInRange := by
  suffices s.CountsStay t from this.inRange hs
  cases h with
  | change h => exact Changes.countsStay (.single h) hp.2.1
  | raise p k => exact (raise_changes s p k).countsStay hp.2.1
  | frame h _ => exact h.countsStay
  | cut h =>
    refine h.countsStay.trans (Changes.countsStay (fold_panelOff (L := Leave.all) _) ?_)
    rw [h.layout, h.params]
    exact hp.2.1
  | feed p f h =>
    exact countsStay_modPanel fun hx => h.range (openCount_range hp.2.1 p).1 (openCount_range hp.2.1 p).2 hx
  | adopt i o n hi =>
    have stations (m : StationNo) :
        ((s.updateOrder i fun o => { o with issuer := n }).station m).frameErrors = (s.station m).frameErrors := by
      simp only [State.updateOrder, hi]
      rw [recount_frameErrors, recount_frameErrors]
      rfl
    have errors (m : StationNo) (hm : (s.station m).frameErrors ≤ 255) := (stations m).symm ▸ hm
    rw [updateOrder_eq hi] at errors ⊢
    exact { errors := errors }
  | create n p kind target cls hold link =>
    rw [createOrder_eq]
    exact (show s.CountsStay _ from {}).trans (countsStay_modPanel fun h => h)
  | unwatch n h => exact countsStay_modStation fun _ => rfl
  | rewatch n r d h => exact countsStay_modStation fun _ => rfl
  | commit hc hw => 
    have := takeLayout_countsStay { s with writing := none }
    exact ⟨this.panel, this.errors, this.list, this.trim⟩
  | powerOn hc => exact countsStay_powerOn s
  | restart => exact countsStay_restart hp.2.1
  | hold p d => exact countsStay_modPanel fun hx => hx
  | latch e => rw [setLatch_eq]; exact {}
  | forget | amend | retire | tune | write | enter | noCopy | jogOn => exact {}

theorem step_cases (h : step s = .next t) :
    (∃ c cs, s.pending = c :: cs ∧ exec c { s with pending := cs } = .next t) ∨ t = s.tick := by
  unfold step at h
  split at h
  · exact .inr (by cases h; rfl)
  · rename_i c cs hc
    exact .inl ⟨c, cs, hc, h⟩

theorem Acts.ranges (h : Acts K s t) (hs : s.paramsInRange ∧ s.countsInRange) : t.paramsInRange ∧ t.countsInRange := by
  induction h with
  | refl => exact hs
  | tail _ h ih => exact ⟨h.paramsInRange ih.1, h.countsInRange ih.1 ih.2⟩

/-- Settles O58: every act of a command keeps the ranges, and so does the tick of an empty queue. -/
theorem rangesAreKept : Obligations.RangesAreKept := by
  intro s t hs h
  obtain ⟨c, cs, -, h⟩ | rfl := step_cases h
  · have hs : State.paramsInRange { s with pending := cs } ∧ State.countsInRange { s with pending := cs } := hs
    exact (exec_acts (State.fits_bare c _) h).ranges hs
  · exact hs

end Sys2Proof.Machine
end

section
/-! Every act keeps the coils off without the output enable and in START. -/

namespace Sys2Proof.Machine

variable {K : Known} {L : Leave} {s t : State}

theorem Coils.eq_off {x : Coils} : x = {} ↔ ∀ c, x.get c ≠ true := by
  constructor
  · rintro rfl c
    simp
  · intro h
    have off : ∀ c ∈ allCoils, x.get c = false := fun c _ => by simpa using h c
    cases x
    simpa [allCoils, Coils.get, and_assoc] using off

theorem coils_off_of_get {x y : Coils} (h : ∀ c, y.get c = true → x.get c = true) (hx : x = {}) : y = {} :=
  Coils.eq_off.2 fun c hc => Coils.eq_off.1 hx c (h c hc)

/-- What a change leaves of a panel that is neither driven nor held off by it. -/
structure Panel.Calmer (x y : Panel) : Prop where
  live : y.live = x.live ∨ y.live = none
  coils : ∀ c, y.coils.get c = true → x.coils.get c = true
  mode : y.mode = .driven → x.mode = .driven
  timers : x.timersAgree → y.timersAgree
  move : x.move = none → y.move = none

theorem Panel.Calmer.refl (x : Panel) : x.Calmer x := ⟨.inl rfl, fun _ h => h, id, id, id⟩

theorem Panel.Calmer.trans {x y z : Panel} (a : x.Calmer y) (b : y.Calmer z) : x.Calmer z where
  live := b.live.elim (fun e => a.live.imp e.trans e.trans) .inr
  coils := fun c h => a.coils c (b.coils c h)
  mode := fun h => a.mode (b.mode h)
  timers := fun h => b.timers (a.timers h)
  move := fun h => b.move (a.move h)

theorem Panel.Quieter.calmer {top : Int} {x y : Panel} (h : Panel.Quieter top x y) : x.Calmer y :=
  ⟨.inl h.live, h.coils, h.mode, h.timers, h.move⟩

theorem Panel.Fed.calmer {top : Int} {x y : Panel} (h : Panel.Fed top x y) : x.Calmer y :=
  ⟨.inl h.live, h.coils, h.mode, h.timers, h.move⟩

theorem calmer_modPanel {p : PanelNo} {f : Panel → Panel} (h : (s.panel p).Calmer (f (s.panel p))) (q : PanelNo) :
    (s.panel q).Calmer ((s.modPanel p f).panel q) := by
  rw [modPanel_panel]; split
  · rename_i e; subst e; exact h
  · exact .refl _

theorem Change.calmer (h : Change L s t) {q : PanelNo} (hd : ¬ L.drives s q) (hh : ¬ L.holds s q) :
    (s.panel q).Calmer (t.panel q) := by
  cases h with
  | quiet p f h => exact calmer_modPanel h.calmer q
  | drive p f h =>
    rw [modPanel_panel_ne]
    · exact .refl _
    · rintro rfl
      exact hd h
  | hold p d h =>
    rw [modPanel_panel_ne]
    · exact .refl _
    · rintro rfl
      exact hh h
  | fault p k => exact calmer_modPanel ⟨.inl rfl, fun _ h => h, id, id, id⟩ q
  | touch i o f => exact .refl _
  | update i o f => simpa using .refl _
  | finish i o f =>
    rw [updateOrder_panel]
    exact calmer_modPanel ⟨.inr rfl, fun _ h => h, id, id, id⟩ q
  | pack k f => simpa using .refl _
  | latch e => simpa using .refl _
  | endJog => exact .refl _

/-- Without the output enable no change energises a coil. -/
theorem Change.coils_disabled (h : Change L s t) (he : s.enabled = false) (q : PanelNo) (c : Coil)
    (hc : (t.panel q).coils.get c = true) : (s.panel q).coils.get c = true := by
  have moved {p : PanelNo} {f : Panel → Panel} (hf : (f (s.panel p)).coils.get c = true → (s.panel p).coils.get c = true)
      (hc : ((s.modPanel p f).panel q).coils.get c = true) : (s.panel q).coils.get c = true := by
    rw [modPanel_panel] at hc
    split at hc
    · rename_i e; rw [← e]; exact hf hc
    · exact hc
  cases h with
  | quiet p f h => exact moved (h.coils c) hc
  | drive p f _ _ h => exact moved (h he c) hc
  | hold p d => exact moved id hc
  | fault p k => exact moved id hc
  | touch i o f => exact hc
  | update i o f => simpa using hc
  | finish i o f =>
    rw [updateOrder_panel] at hc
    exact moved id hc
  | pack k f => simpa using hc
  | latch e => simpa using hc
  | endJog => exact hc

/-- Changes that drive nothing. -/
def Leave.halting : Leave := ⟨fun _ => True, fun _ _ => False, fun _ _ => False, True⟩

theorem Changes.calmer (h : Changes Leave.halting s t) (q : PanelNo) : (s.panel q).Calmer (t.panel q) := by
  induction h with
  | refl => exact .refl _
  | tail _ h ih => exact ih.trans (h.calmer id id)

/-- The raise of a fault drives nothing. -/
theorem raise_calmer (s : State) (p : PanelNo) (k : PanelFault) (q : PanelNo) :
    (s.panel q).Calmer ((s.raise p k).st.panel q) :=
  Changes.calmer (changes_raise trivial fun _ _ _ => .inl trivial) q

/-- Nothing moves in START (R21, R37, R68, R193). -/
def State.rests (s : State) : Prop :=
  ∀ p, (s.panel p).live = none ∧ (s.panel p).holdoff = none ∧ (s.panel p).mode ≠ .driven ∧ (s.panel p).move = none

theorem Panel.Calmer.rests {x y : Panel} (h : x.Calmer y)
    (hx : x.live = none ∧ x.holdoff = none ∧ x.mode ≠ .driven ∧ x.move = none) :
    y.live = none ∧ y.holdoff = none ∧ y.mode ≠ .driven ∧ y.move = none := by
  obtain ⟨hl, hh, hm, hv⟩ := hx
  have agree : x.timersAgree := ⟨fun e => by simp [hh] at e, fun e => absurd e hm⟩
  have mode : y.mode ≠ .driven := fun e => hm (h.mode e)
  refine ⟨h.live.elim (·.trans hl) id, ?_, mode, h.move hv⟩
  by_contra hn
  exact mode ((h.timers agree).1 (Option.isSome_iff_ne_none.2 hn))

theorem live_of_served {p : PanelNo} (h : (s.served p).isSome = true) : (s.panel p).live ≠ none := by
  intro hl
  simp [State.served, State.liveOrder, hl] at h

theorem Change.rests (h : Change Leave.command s t) (hu : s.inStart = true) (hs : s.rests) : t.rests := by
  have idle (p : PanelNo) : ¬ (s.panel p).holdoff.isSome = true := by simp [(hs p).2.1]
  refine fun p => (h.calmer (fun hq => ?_) (fun hq => ?_)).rests (hs p)
  · obtain hq | ⟨hq, -⟩ | hq := hq
    · exact live_of_served hq (hs p).1
    · simp [State.inStart, hq] at hu
    · exact idle p hq
  · obtain hq | hq := hq
    · exact (hs p).2.2.1 hq
    · exact idle p hq

/-- A panel of which the coils go off. -/
theorem panelOff_coils (s : State) (p : PanelNo) : ((s.panelOff p).panel p).coils = {} := by
  unfold State.panelOff
  rw [modPanel_panel, if_pos rfl]

theorem calmer_of_calms {p : PanelNo} (h : s.Calms p t) (q : PanelNo) : (s.panel q).Calmer (t.panel q) := by
  obtain ⟨x, rfl, hx⟩ := h
  by_cases e : p = q
  · subst e
    rw [setPanel_panel, if_pos rfl]
    exact hx.calmer
  · rw [setPanel_panel_ne _ _ e]
    exact .refl _

theorem fold_calms {f : State → PanelNo → State} (hf : ∀ s p, State.Calms s p (f s p)) (q : PanelNo) :
    ∀ (ps : List PanelNo) (s : State), (s.panel q).Calmer ((ps.foldl f s).panel q)
  | [], _ => .refl _
  | p :: ps, s => (calmer_of_calms (hf s p) q).trans (fold_calms hf q ps _)

/-- Where each step on a panel brings about what later steps keep, a pass over the panels brings it about for each. -/
theorem fold_reaches {f : State → PanelNo → State} {P : Panel → Prop} (hf : ∀ s p, State.Calms s p (f s p))
    (hp : ∀ s p, P ((f s p).panel p)) (hk : ∀ x y, Panel.Calmer x y → P x → P y) {q : PanelNo} :
    ∀ (ps : List PanelNo) (s : State), q ∈ ps → P ((ps.foldl f s).panel q) := by
  intro ps
  induction ps with
  | nil => exact fun _ h => by simp at h
  | cons p ps ih =>
    intro s h
    rw [List.foldl_cons]
    obtain rfl | h := List.mem_cons.1 h
    · exact hk _ _ (fold_calms hf q ps _) (hp s q)
    · exact ih _ h

theorem forPanels_off (s : State) (q : PanelNo) : ((s.forPanels fun p s => s.panelOff p).panel q).coils = {} :=
  fold_reaches (f := fun s p => s.panelOff p) (P := fun x => x.coils = {}) (fun _ _ => calms_panelOff) panelOff_coils
    (fun _ _ h e => coils_off_of_get h.coils e) allPanels s (mem_allPanels q)

theorem cutMove_move (s : State) (p : PanelNo) : ((s.cutMove p).panel p).move = none := by
  unfold State.cutMove
  split
  · assumption
  · rename_i m _
    rw [modPanel_panel, if_pos rfl]
    have kept := Panel.Quieter.of_setStates (top := 0) ((s.clearMove p).panel p) m.unconfirmed .unknown
    refine kept.move ?_
    unfold State.clearMove
    rw [modPanel_panel, if_pos rfl]

theorem forPanels_cut (s : State) (q : PanelNo) : ((s.forPanels fun p s => s.cutMove p).panel q).move = none :=
  fold_reaches (f := fun s p => s.cutMove p) (P := fun x => x.move = none) (fun _ _ => calms_cutMove)
    cutMove_move (fun _ _ h e => h.move e) allPanels s (mem_allPanels q)

end Sys2Proof.Machine
end

section
/-! Without the output enable, and in START, every coil stays off (the first half of O57). -/

namespace Sys2Proof.Machine

variable {K : Known} {s t : State}

theorem coilsFollowEnable_iff : s.coilsFollowEnable ↔
    (∀ p, s.enabled = false ∨ s.inStart = true → (s.panel p).coils = {}) ∧ (s.inStart = true → s.rests) := Iff.rfl

theorem State.rests.off (hs : s.rests) {p : PanelNo} : ¬ Leave.command.holds s p ∧
    (Leave.command.drives s p → s.unit = .service) := by
  obtain ⟨hl, hh, hm, -⟩ := hs p
  refine ⟨fun h => ?_, fun h => ?_⟩
  · exact h.elim hm fun h => by simp [hh] at h
  · obtain h | h | h := h
    · exact absurd hl (live_of_served h)
    · exact h.1
    · simp [hh] at h

theorem Change.coilsFollowEnable (h : Change Leave.command s t) (hs : s.coilsFollowEnable) : t.coilsFollowEnable := by
  obtain ⟨off, rest⟩ := coilsFollowEnable_iff.1 hs
  have start := lasting_inStart h.lasting
  have enable := lasting_enabled h.lasting
  refine coilsFollowEnable_iff.2 ⟨fun p hp => ?_, fun hp => h.rests (start ▸ hp) (rest (start ▸ hp))⟩
  rw [start, enable] at hp
  refine coils_off_of_get (fun c hc => ?_) (off p hp)
  obtain he | hu := hp
  · exact h.coils_disabled he p c hc
  · refine (h.calmer (fun hq => ?_) (rest hu).off.1).coils c hc
    have := (rest hu).off.2 hq
    simp [State.inStart, this] at hu

theorem Changes.coilsFollowEnable (h : Changes Leave.command s t) (hs : s.coilsFollowEnable) : t.coilsFollowEnable := by
  induction h with
  | refl => exact hs
  | tail _ h ih => exact h.coilsFollowEnable ih

/-- Panels that are at most calmer, the output enable and the state of the unit as they were. -/
theorem State.coilsFollowEnable.of_calmer (hs : s.coilsFollowEnable) (hp : ∀ p, (s.panel p).Calmer (t.panel p))
    (hu : t.inStart = true → s.inStart = true) (he : t.enabled = false → s.enabled = false ∨ s.inStart = true) :
    t.coilsFollowEnable := by
  obtain ⟨off, rest⟩ := coilsFollowEnable_iff.1 hs
  refine coilsFollowEnable_iff.2 ⟨fun p h => coils_off_of_get (hp p).coils (off p ?_), fun h p => (hp p).rests (rest (hu h) p)⟩
  exact h.elim he fun h => .inr (hu h)

theorem raise_coilsFollowEnable (p : PanelNo) (k : PanelFault) (hs : s.coilsFollowEnable) :
    (s.raise p k).st.coilsFollowEnable := by
  have kept := lasting_raise s p k
  exact hs.of_calmer (raise_calmer s p k) (fun h => lasting_inStart kept ▸ h) fun h => .inl (lasting_enabled kept ▸ h)

theorem relaid_calmer (x : Panel) (a b c : Bool) : x.Calmer (x.relaid a b c) := by
  unfold Panel.relaid
  split
  · refine ⟨.inr rfl, fun e h => ?_, fun h => (by cases h), fun _ => ⟨fun h => (by cases h), fun h => (by cases h)⟩, fun _ => rfl⟩
    exact absurd h (by simp [Panel.fresh, Panel.poweredOn, Panel.atPowerOn])
  · split
    · exact .refl x
    · exact ⟨.inl rfl, fun _ h => h, id, id, fun _ => rfl⟩

theorem takeLayout_panel (u : State) (p : PanelNo) : ∃ a b c, u.takeLayout.panel p = (u.panel p).relaid a b c := by
  unfold State.takeLayout; dsimp only
  split <;> exact ⟨_, _, _, by simp [State.panel]; rfl⟩

theorem takeLayout_enabled (u : State) : u.takeLayout.enabled = u.enabled := by
  unfold State.takeLayout; dsimp only; split <;> rfl

theorem Panel.restarted_rests {x : Panel} (h : x.move = none) (w : Nat) : (x.restarted w).live = none ∧
    (x.restarted w).holdoff = none ∧ (x.restarted w).mode ≠ .driven ∧ (x.restarted w).move = none := by
  refine ⟨rfl, rfl, ?_, h⟩
  unfold Panel.restarted
  dsimp only
  split <;> simp

theorem Act.coilsFollowEnable (h : Act K s t) (hK : K.enabled) (hs : s.coilsFollowEnable) : t.coilsFollowEnable := by
  cases h with
  | change h => exact h.coilsFollowEnable hs
  | raise p k => exact raise_coilsFollowEnable p k hs
  | frame h he => exact hs.of_calmer (fun p => h.panel p ▸ .refl _) (fun hu => by simpa [State.inStart, h.unit] using hu) he
  | @cut u h =>
    have rest : u.inStart = true → u.rests := fun hu p => by
      rw [h.panel]
      exact (coilsFollowEnable_iff.1 hs).2 (by simpa [State.inStart, h.unit] using hu) p
    have start : (u.forPanels fun p s => s.panelOff p).inStart = u.inStart :=
      lasting_inStart (Changes.lasting (fold_panelOff (L := Leave.all) u))
    refine coilsFollowEnable_iff.2 ⟨fun p _ => forPanels_off u p, fun hu p => ?_⟩
    exact (fold_calms (f := fun s p => s.panelOff p) (fun _ _ => calms_panelOff) p allPanels u).rests (rest (start ▸ hu) p)
  | feed p f h => exact hs.of_calmer (fun q => calmer_modPanel h.calmer q) id .inl
  | adopt i o n hi =>
    rw [updateOrder_eq hi]
    exact hs
  | create n p kind target cls hold link hu =>
    have unit : (s.createOrder n p kind target cls hold link).inStart = false := by
      rw [createOrder_eq]
      simp [State.inStart, hu, State.setSlot]
    have same : ∀ q, ((s.createOrder n p kind target cls hold link).panel q).coils = (s.panel q).coils := fun q => by
      rw [createOrder_panel]; split
      · rename_i e; rw [← e]
      · rfl
    have enable : (s.createOrder n p kind target cls hold link).enabled = s.enabled := by rw [createOrder_eq]; rfl
    refine coilsFollowEnable_iff.2 ⟨fun q h => ?_, fun h => by rw [unit] at h; cases h⟩
    rw [same]
    refine hs.1 q ?_
    rw [unit, enable] at h
    exact .inl (by simpa using h)
  | enter u x hu =>
    have run : State.inStart { s with unit := u, serviceStation := x } = false := by
      obtain rfl | rfl | rfl := hu <;> rfl
    exact coilsFollowEnable_iff.2 ⟨fun p h => hs.1 p (.inl (h.elim id fun h => by rw [run] at h; cases h)),
      fun h => by rw [run] at h; cases h⟩
  | commit hc hw =>
    refine hs.of_calmer (fun p => ?_) (fun h => by cases h) fun h => .inl ?_
    · obtain ⟨a, b, c, e⟩ := takeLayout_panel { s with writing := none } p
      change (s.panel p).Calmer ((State.takeLayout _).panel p)
      rw [e]
      exact relaid_calmer _ a b c
    · exact (takeLayout_enabled { s with writing := none }).symm.trans h
  | powerOn hc =>
    have panel (p : PanelNo) : ∃ b, s.powerOn.panel p = (s.panel p).poweredOn b := ⟨_, by simp [State.powerOn, State.panel]; rfl⟩
    refine coilsFollowEnable_iff.2 ⟨fun p _ => ?_, fun _ p => ?_⟩
    · obtain ⟨b, e⟩ := panel p
      rw [e]; rfl
    · obtain ⟨b, e⟩ := panel p
      rw [e]; exact ⟨rfl, rfl, fun h => (by cases h), rfl⟩
  | restart =>
    refine coilsFollowEnable_iff.2 ⟨fun p _ => by rw [restart_panel]; rfl, fun _ p => ?_⟩
    rw [restart_panel]
    exact Panel.restarted_rests (forPanels_cut s p) _
  | hold p d h he =>
    have run := he hK
    refine coilsFollowEnable_iff.2 ⟨fun q hq => ?_, fun h => absurd (run.symm.trans h) (by simp)⟩
    rw [modPanel_panel]
    split
    · rename_i e
      subst e
      exact hs.1 p hq
    · exact hs.1 q hq
  | latch e =>
    rw [setLatch_eq]
    exact hs
  | forget | amend | retire | unwatch | rewatch | tune | write | noCopy | jogOn => exact hs

end Sys2Proof.Machine
end

section
/-! A panel that holds a fault stays out of service, and the timers of a travel agree (`State.faultedStand`). -/

namespace Sys2Proof.Machine

variable {K : Known} {s t : State} {p q : PanelNo}

/-- The panel is out of service (R166): nothing of it is on or runs, and no order and no jog is on it. -/
def State.standsStill (s : State) (p : PanelNo) : Prop :=
  (s.panel p).coils = {} ∧ (s.panel p).live = none ∧ (s.panel p).mode ≠ .driven ∧ ∀ j, s.jog = some j → j.panel ≠ p

theorem faultedStand_iff : s.faultedStand ↔
    (∀ p, (s.panel p).timersAgree) ∧ ∀ p, (s.panel p).faults ≠ [] → s.standsStill p :=
  ⟨fun ⟨h1, h2, h3⟩ => ⟨fun p => ⟨h1 p, h2 p⟩, h3⟩, fun ⟨h1, h3⟩ => ⟨fun p => (h1 p).1, fun p => (h1 p).2, h3⟩⟩

theorem State.standsStill.of_calmer (hs : s.standsStill p) (hp : (s.panel p).Calmer (t.panel p))
    (hj : t.jog = s.jog ∨ t.jog = none) : t.standsStill p := by
  obtain ⟨hc, hl, hm, hg⟩ := hs
  refine ⟨coils_off_of_get hp.coils hc, hp.live.elim (·.trans hl) id, fun e => hm (hp.mode e), fun j h => ?_⟩
  obtain e | e := hj
  · exact hg j (e ▸ h)
  · rw [e] at h; cases h

/-- Calmer panels with no more faults than before. -/
theorem State.faultedStand.of_calmer (hs : s.faultedStand) (hp : ∀ p, (s.panel p).Calmer (t.panel p))
    (hf : ∀ p, (t.panel p).faults ≠ [] → (s.panel p).faults ≠ []) (hj : t.jog = s.jog ∨ t.jog = none) : t.faultedStand := by
  obtain ⟨agree, stand⟩ := faultedStand_iff.1 hs
  exact faultedStand_iff.2 ⟨fun p => (hp p).timers (agree p), fun p h => (stand p (hf p h)).of_calmer (hp p) hj⟩

theorem State.standsStill.off (hs : s.standsStill p) (ha : (s.panel p).timersAgree) (hf : (s.panel p).faults ≠ []) :
    ¬ Leave.command.drives s p ∧ ¬ Leave.command.holds s p := by
  obtain ⟨-, hl, hm, -⟩ := hs
  refine ⟨fun h => ?_, fun h => ?_⟩
  · obtain h | h | h := h
    · exact live_of_served h hl
    · exact hf h.2
    · exact hm (ha.1 h)
  · exact h.elim hm fun h => hm (ha.1 h)

theorem Change.timersAgree (h : Change Leave.command s t) (hs : ∀ p, (s.panel p).timersAgree) (q : PanelNo) :
    (t.panel q).timersAgree := by
  have moved {p : PanelNo} {f : Panel → Panel} (hf : (f (s.panel p)).timersAgree) : ((s.modPanel p f).panel q).timersAgree := by
    rw [modPanel_panel]; split
    · exact hf
    · exact hs q
  cases h with
  | quiet p f h => exact moved (h.timers (hs p))
  | drive p f _ _ _ h => exact moved (h (hs p))
  | hold p d h =>
    have driven : (s.panel p).mode = .driven := h.elim id (hs p).1
    exact moved ⟨fun _ => driven, (hs p).2⟩
  | fault p k => exact moved (hs p)
  | touch i o f => exact hs q
  | update i o f => simpa using hs q
  | finish i o f =>
    rw [updateOrder_panel]
    exact moved (hs _)
  | pack k f => simpa using hs q
  | latch e => simpa using hs q
  | endJog => exact hs q

theorem Change.faultedStand (h : Change Leave.command s t) (hs : s.faultedStand) : t.faultedStand := by
  obtain ⟨agree, stand⟩ := faultedStand_iff.1 hs
  refine faultedStand_iff.2 ⟨h.timersAgree agree, fun p hf => ?_⟩
  rw [h.faults_eq id] at hf
  obtain ⟨hd, hh⟩ := (stand p hf).off (agree p) hf
  exact (stand p hf).of_calmer (h.calmer hd hh) h.jog

/-! ### The raise of a fault -/

theorem endJogOn_jog (s : State) (p : PanelNo) : ∀ j, (s.endJogOn p).st.jog = some j → j.panel ≠ p := by
  intro j h
  unfold State.endJogOn at h
  split at h
  · rename_i hn
    rw [Res.ok_st, hn] at h; cases h
  · rename_i i hi
    split at h
    · rw [endJog_jog] at h; cases h
    · rename_i hne
      rw [Res.ok_st, hi] at h
      exact Option.some.inj h ▸ hne

theorem panelOff_mode (s : State) (p : PanelNo) : ((s.panelOff p).panel p).mode ≠ .driven := by
  unfold State.panelOff State.stopTravel
  rw [modPanel_panel, if_pos rfl]
  split
  · rw [modPanel_panel, if_pos rfl]
    exact fun h => by cases h
  · assumption

theorem Changes.jogOf {L : Leave} (h : Changes L s t) {j : Jog} (hj : t.jog = some j) : s.jog = some j := by
  obtain e | e := h.jog
  · exact e ▸ hj
  · rw [e] at hj; cases hj

theorem raise_eq {k : PanelFault} (hc : s.configured p = true) (hk : k ∉ (s.panel p).faults) :
    (s.raise p k).st = ((((s.modPanel p fun x => { x with faults := joinSet allPanelFaults k x.faults }).panelOff p).failLive p
      (.fault k)).st.endJogOn p).st.setLatch .panelFault := by
  simp [State.raise, hc, hk]

theorem raise_standsStill (hs : s.Linked) {k : PanelFault} (hc : s.configured p = true) (hk : k ∉ (s.panel p).faults) :
    (s.raise p k).st.standsStill p := by
  have live := raise_live hs hc hk
  have coils := panelOff_coils (s.modPanel p fun x => { x with faults := joinSet allPanelFaults k x.faults }) p
  have mode := panelOff_mode (s.modPanel p fun x => { x with faults := joinSet allPanelFaults k x.faults }) p
  have e := raise_eq hc hk
  generalize (s.modPanel p fun x => { x with faults := joinSet allPanelFaults k x.faults }).panelOff p = u at *
  have failed : Changes Leave.halting u (u.failLive p (.fault k)).st := changes_failLive fun _ _ _ => .inl trivial
  have calm := Changes.calmer (failed.trans (changes_endJogOn (p := p))) p
  refine ⟨?_, live, ?_, ?_⟩
  · rw [e, setLatch_panel]
    exact coils_off_of_get calm.coils coils
  · rw [e, setLatch_panel]
    exact fun h => mode (calm.mode h)
  · rw [e]
    simpa using endJogOn_jog _ p

theorem raise_faultedStand (p : PanelNo) (k : PanelFault) (hl : s.Linked) (hs : s.faultedStand) :
    (s.raise p k).st.faultedStand := by
  by_cases h : s.configured p = true ∧ k ∉ (s.panel p).faults
  · obtain ⟨agree, stand⟩ := faultedStand_iff.1 hs
    refine faultedStand_iff.2 ⟨fun q => (raise_calmer s p k q).timers (agree q), fun q hf => ?_⟩
    by_cases e : p = q
    · exact e ▸ raise_standsStill hl h.1 h.2
    · rw [raise_faults, if_neg fun h => e h.1] at hf
      exact (stand q hf).of_calmer (raise_calmer s p k q) (raise_changes s p k).jog
  · have e : s.raise p k = .ok s := by
      unfold State.raise
      rw [if_pos]
      rw [not_and_or, not_not] at h
      simpa using h
    rw [e]
    exact hs

/-! ### Every act -/

theorem relaid_faults (x : Panel) (a b c : Bool) :
    (x.relaid a b c).faults = x.faults ∨ (x.relaid a b c).coils = {} ∧ (x.relaid a b c).live = none ∧
      (x.relaid a b c).mode ≠ .driven := by
  unfold Panel.relaid
  split
  · exact .inr ⟨rfl, rfl, fun h => by cases h⟩
  · split <;> exact .inl rfl

theorem Act.faultedStand (h : Act K s t) (hK : K.sound) (hl : s.Linked) (hs : s.faultedStand) : t.faultedStand := by
  cases h with
  | change h => exact h.faultedStand hs
  | raise p k => exact raise_faultedStand p k hl hs
  | frame h _ => exact h.faultedStand hs
  | @cut u h =>
    have off : Changes (Leave.calm fun _ => True) u (u.forPanels fun p s => s.panelOff p) := fold_panelOff u
    refine (h.faultedStand hs).of_calmer (fun p => fold_calms (f := fun s p => s.panelOff p) (fun _ _ => calms_panelOff) p _ u)
      (fun p => ?_) off.jog
    rw [off.faults_eq id]
    exact id
  | feed p f h =>
    refine hs.of_calmer (fun q => calmer_modPanel h.calmer q) (fun q hq => ?_) (.inl rfl)
    rw [modPanel_panel] at hq
    split at hq
    · rename_i e
      obtain ⟨k, hk⟩ := List.exists_mem_of_ne_nil _ hq
      exact e ▸ List.ne_nil_of_mem (h.faults k hk)
    · exact hq
  | adopt i o n hi =>
    rw [updateOrder_eq hi]
    exact hs
  | create n p kind target cls hold link hu hc hf =>
    have panel := createOrder_panel s n p kind target cls hold link
    obtain ⟨agree, stand⟩ := faultedStand_iff.1 hs
    have jog : (s.createOrder n p kind target cls hold link).jog = s.jog := by rw [createOrder_eq]; rfl
    refine faultedStand_iff.2 ⟨fun q => ?_, fun q hq => ?_⟩
    · rw [panel]; split
      · exact agree p
      · exact agree q
    · rw [panel] at hq
      split at hq
      · exact absurd hf hq
      · rename_i e
        obtain ⟨h1, h2, h3, h4⟩ := stand q hq
        unfold State.standsStill
        rw [panel, if_neg e, jog]
        exact ⟨h1, h2, h3, h4⟩
  | commit hc hw =>
    obtain ⟨agree, stand⟩ := faultedStand_iff.1 hs
    obtain ⟨-, ejog, -⟩ := takeLayout_fields { s with writing := none }
    have idle : s.jog = none := Option.eq_none_iff_forall_not_mem.2 fun j hj => by
      have := (hl.jog j hj).1
      rw [hl.writing hw] at this; cases this
    refine faultedStand_iff.2 ⟨fun p => ?_, fun p hf => ?_⟩
    all_goals obtain ⟨a, b, c, e⟩ := takeLayout_panel { s with writing := none } p
    · change ((State.takeLayout _).panel p).timersAgree
      rw [e]
      exact (relaid_calmer _ a b c).timers (agree p)
    · have jog : ∀ j, (State.takeLayout { s with writing := none }).jog = some j → j.panel ≠ p := fun j h => by
        rw [ejog] at h
        exact absurd (idle.symm.trans h) (by simp)
      have hf : ((s.panel p).relaid a b c).faults ≠ [] := e ▸ hf
      have still : ((s.panel p).relaid a b c).coils = {} ∧ ((s.panel p).relaid a b c).live = none ∧
          ((s.panel p).relaid a b c).mode ≠ .driven := by
        obtain h | h := relaid_faults (s.panel p) a b c
        · obtain ⟨h1, h2, h3, -⟩ := (stand p (h ▸ hf)).of_calmer (t := s) (.refl _) (.inl rfl)
          have calm := relaid_calmer (s.panel p) a b c
          exact ⟨coils_off_of_get calm.coils h1, calm.live.elim (·.trans h2) id, fun e => h3 (calm.mode e)⟩
        · exact h
      have e : (State.takeLayout { s with writing := none }).panel p = (s.panel p).relaid a b c := e
      obtain ⟨h1, h2, h3⟩ := still
      exact ⟨(congrArg Panel.coils e).trans h1, (congrArg Panel.live e).trans h2, fun h => h3 ((congrArg Panel.mode e).symm.trans h), jog⟩
  | powerOn hc =>
    have panel (p : PanelNo) : ∃ b, s.powerOn.panel p = (s.panel p).poweredOn b := ⟨_, by simp [State.powerOn, State.panel]; rfl⟩
    refine faultedStand_iff.2 ⟨fun p => ?_, fun p _ => ?_⟩
    all_goals obtain ⟨b, e⟩ := panel p
    · rw [e]
      exact ⟨fun h => (by cases h), fun h => (by cases h)⟩
    · unfold State.standsStill
      rw [e]
      exact ⟨rfl, rfl, fun h => (by cases h), fun j h => by cases h⟩
  | restart =>
    have still (x : Panel) (w : Nat) : (x.restarted w).mode ≠ .driven := by
      unfold Panel.restarted
      dsimp only
      split <;> simp
    refine faultedStand_iff.2 ⟨fun p => ?_, fun p _ => ?_⟩
    · rw [restart_panel]
      exact ⟨fun h => (by cases h), fun h => absurd h (still _ _)⟩
    · unfold State.standsStill
      rw [restart_panel, restart_fields.1]
      exact ⟨rfl, rfl, still _ _, fun j h => by cases h⟩
  | hold p d h => exact absurd hK h
  | latch e =>
    rw [setLatch_eq]
    exact hs
  | jogOn j hu hc hf =>
    obtain ⟨agree, stand⟩ := faultedStand_iff.1 hs
    refine faultedStand_iff.2 ⟨agree, fun p h => ?_⟩
    obtain ⟨h1, h2, h3, -⟩ := stand p h
    refine ⟨h1, h2, h3, fun i hi => ?_⟩
    obtain rfl := Option.some.inj hi
    rintro rfl
    exact h hf
  | forget | amend | retire | unwatch | rewatch | tune | write | enter | noCopy => exact hs

end Sys2Proof.Machine
end

section
/-! The attendance watches run exactly for the attended pendants (`State.watchLaws`). -/

namespace Sys2Proof.Machine

variable {K : Known} {L : Leave} {s t : State} {n m : StationNo}

/-- The watch of the station runs, with its deadline timer, exactly if the station is attended (R144, R145). -/
def State.watchRight (s : State) (n : StationNo) : Prop :=
  ((s.station n).watching = true ↔ s.attends n) ∧ (s.station n).deadline.isSome = (s.station n).watching

/-- A PENDANT's live orders are on its own hatch (R141). -/
def State.ownHatches (s : State) : Prop :=
  ∀ i o, s.slot i = some o → o.state.live = true → s.stationKind o.issuer = some .pendant →
    s.pendantHatch o.issuer = some (hatchOf o.panel)

theorem watchLaws_iff : s.watchLaws ↔ (∀ n, s.watchRight n) ∧ s.ownHatches := Iff.rfl

/-- Who issued the order in a slot, and whether it works. -/
def State.works (s : State) (i : SlotNo) : Option (StationNo × Bool) := (s.slot i).map fun o => (o.issuer, o.state.working)

theorem attends_iff_works : s.attends n ↔ s.stationKind n = some .pendant ∧ ∃ i, s.works i = some (n, true) := by
  refine and_congr_right fun _ => ⟨fun ⟨i, o, h, hn, hw⟩ => ⟨i, ?_⟩, fun ⟨i, h⟩ => ?_⟩
  · simp [State.works, h, hn, hw]
  · obtain ⟨o, ho, e⟩ := Option.map_eq_some_iff.1 h
    exact ⟨i, o, ho, (Prod.mk.inj e).1, (Prod.mk.inj e).2⟩

theorem attends_of_works (hl : t.layout = s.layout) (h : ∀ i, t.works i = some (n, true) ↔ s.works i = some (n, true)) :
    t.attends n ↔ s.attends n := by
  rw [attends_iff_works, attends_iff_works, stationKind_congr hl]
  simp only [h]

theorem State.watchRight.congr (h : s.watchRight n) (ha : t.attends n ↔ s.attends n)
    (hw : (t.station n).watching = (s.station n).watching) (hd : (t.station n).deadline = (s.station n).deadline) :
    t.watchRight n := by
  unfold State.watchRight
  rw [ha, hw, hd]
  exact h

/-! ### Counting an issuer's orders -/

theorem recount_station_ne (s : State) (h : n ≠ m) : (s.recount n).station m = s.station m := by
  unfold State.recount
  dsimp only
  split
  · split
    · rfl
    · rw [modStation_station, if_neg h]
  · split
    · rw [modStation_station, if_neg h]
    · rfl

theorem recount_attends (s : State) (n m : StationNo) : (s.recount n).attends m ↔ s.attends m := by
  obtain ⟨x, e⟩ := recount_eq s n
  rw [e]
  exact attends_congr rfl rfl m

theorem recount_right (s : State) (n : StationNo) (hd : (s.station n).deadline.isSome = (s.station n).watching) :
    (s.recount n).watchRight n := by
  unfold State.watchRight
  rw [recount_attends, attends_iff]
  unfold State.recount
  dsimp only
  split
  · rename_i ha
    split
    · rename_i hw
      exact ⟨⟨fun _ => ha, fun _ => hw⟩, hd⟩
    · rw [modStation_station, if_pos rfl]
      exact ⟨⟨fun _ => ha, fun _ => rfl⟩, rfl⟩
  · rename_i ha
    split
    · rw [modStation_station, if_pos rfl]
      exact ⟨⟨fun h => (by cases h), fun h => absurd h ha⟩, rfl⟩
    · rename_i hw
      exact ⟨⟨fun h => absurd h hw, fun h => absurd h ha⟩, hd⟩

theorem recount_keeps (s : State) (n m : StationNo) (h : s.watchRight m) : (s.recount n).watchRight m := by
  by_cases e : n = m
  · subst e
    exact recount_right s n h.2
  · exact h.congr (recount_attends s n m) (by rw [recount_station_ne s e]) (by rw [recount_station_ne s e])

/-- Whatever becomes of an order, its issuers before and after are counted. -/
theorem updateOrder_watchRight {i : SlotNo} {o : Order} (hi : s.slot i = some o) (f : Order → Order)
    (h : ∀ n, s.watchRight n) (n : StationNo) : (s.updateOrder i f).watchRight n := by
  have away (hn : n ≠ o.issuer) (hf : n ≠ (f o).issuer) : (s.setSlot i (some (f o))).watchRight n := by
    refine (h n).congr (attends_of_works rfl fun j => ?_) rfl rfl
    simp only [State.works, setSlot_slot]
    split
    · rename_i e
      subst e
      simp [hi, Ne.symm hn, Ne.symm hf]
    · rfl
  simp only [State.updateOrder, hi]
  by_cases hf : (f o).issuer = n
  · subst hf
    refine recount_right _ _ ?_
    by_cases ho : o.issuer = (f o).issuer
    · rw [ho]
      exact (recount_right (s.setSlot i (some (f o))) _ (h _).2).2
    · rw [recount_station_ne _ ho]
      exact (h _).2
  · by_cases ho : o.issuer = n
    · subst ho
      exact recount_keeps _ _ _ (recount_right (s.setSlot i (some (f o))) _ (h _).2)
    · exact recount_keeps _ _ _ (recount_keeps _ _ _ (away (Ne.symm ho) (Ne.symm hf)))

/-! ### Changes -/

theorem watchRight_of_slots (h : s.watchRight n) (hl : t.layout = s.layout) (hs : t.slots = s.slots)
    (hw : t.stations = s.stations) : t.watchRight n :=
  h.congr (attends_congr hl hs n) (by simp [State.station, hw]) (by simp [State.station, hw])

theorem modPanel_watchRight {p : PanelNo} {f : Panel → Panel} (h : ∀ n, s.watchRight n) (n : StationNo) :
    (s.modPanel p f).watchRight n := watchRight_of_slots (h n) rfl rfl rfl

theorem modOrder_watchRight {i : SlotNo} {f : Order → Order} (h : ∀ n, s.watchRight n)
    (hf : ∀ o, s.slot i = some o → (f o).issuer = o.issuer ∧ (f o).state = o.state) (n : StationNo) :
    (s.modOrder i f).watchRight n := by
  refine (h n).congr (attends_of_works rfl fun j => ?_) rfl rfl
  simp only [State.works, modOrder_slot]
  split
  · rename_i e
    subst e
    cases hi : s.slot i with
    | none => rfl
    | some o => simp [hf o hi]
  · rfl

theorem Change.watchRight (h : Change L s t) (hs : ∀ n, s.watchRight n) (n : StationNo) : t.watchRight n := by
  cases h with
  | quiet p f | drive p f | hold p d | fault p k => exact modPanel_watchRight hs n
  | touch i o f hi h hst =>
    refine modOrder_watchRight hs (fun q hq => ?_) n
    obtain rfl := Option.some.inj (hi.symm.trans hq)
    exact ⟨(Order.lasting_fields h.lasting).2.1, hst⟩
  | update i o f hi => exact updateOrder_watchRight hi f hs n
  | finish i o f hi => exact updateOrder_watchRight (s := s.modPanel o.panel Panel.unassigned) hi f (modPanel_watchRight hs) n
  | pack k f => cases k <;> exact watchRight_of_slots (hs n) rfl rfl rfl
  | latch e =>
    rw [setLatch_eq]
    exact watchRight_of_slots (hs n) rfl rfl rfl
  | endJog => exact watchRight_of_slots (hs n) rfl rfl rfl

theorem Changes.watchRight (h : Changes L s t) (hs : ∀ n, s.watchRight n) : ∀ n, t.watchRight n := by
  induction h with
  | refl => exact hs
  | tail _ h ih => exact h.watchRight ih

theorem Changes.ownHatches (h : Changes L s t) (hs : s.ownHatches) : t.ownHatches := by
  intro i o ho hl hk
  obtain ⟨q, hq, e⟩ := h.slot_from ho
  have live : q.state.live = true := by
    by_contra hn
    have := h.finished hq (by simpa using hn)
    obtain rfl : q = o := Option.some.inj (this.symm.trans ho)
    exact hn hl
  obtain ⟨-, hi, hp, -⟩ := Order.lasting_fields e
  rw [lasting_stationKind h.lasting, hi] at hk
  rw [lasting_pendantHatch h.lasting, hi, hp]
  exact hs i q hq live hk

theorem Changes.watchLaws (h : Changes L s t) (hs : s.watchLaws) : t.watchLaws :=
  watchLaws_iff.2 ⟨h.watchRight hs.1, h.ownHatches hs.2⟩

/-! ### Every act -/

theorem State.watchLaws.of_same (hs : s.watchLaws) (hl : t.layout = s.layout) (ho : t.slots = s.slots)
    (hw : t.stations = s.stations) : t.watchLaws := by
  refine watchLaws_iff.2 ⟨fun n => watchRight_of_slots (hs.1 n) hl ho hw, fun i o h => ?_⟩
  rw [stationKind_congr hl, pendantHatch_congr hl]
  exact hs.2 i o ((slot_of_slots ho i).symm.trans h)

/-- With no live order no station is attended, and none is watched. -/
theorem watchLaws_of_idle (ho : ∀ i o, t.slot i = some o → o.state.live = false)
    (hw : ∀ n, (t.station n).watching = false ∧ (t.station n).deadline = none) : t.watchLaws := by
  refine watchLaws_iff.2 ⟨fun n => ⟨⟨fun h => ?_, fun ⟨_, i, o, h, _, hwk⟩ => ?_⟩, ?_⟩, fun i o h hl => ?_⟩
  · rw [(hw n).1] at h; cases h
  · have := OrderState.live_of_working hwk
    rw [ho i o h] at this; cases this
  · rw [(hw n).1, (hw n).2]; rfl
  · rw [ho i o h] at hl; cases hl

theorem takeLayout_station (u : State) (n : StationNo) : (u.takeLayout.station n).watching = (u.station n).watching ∧
    (u.takeLayout.station n).deadline = (u.station n).deadline := by
  unfold State.takeLayout; dsimp only
  split <;> simp only [State.station, Fin.getElem_fin, Vector.getElem_mapFinIdx] <;> split <;> exact ⟨rfl, rfl⟩

theorem Act.watchLaws (h : Act K s t) (hK : K.sound ∧ K.watched) (hl : s.Linked) (hs : s.watchLaws) : t.watchLaws := by
  cases h with
  | change h => exact Changes.watchLaws (.single h) hs
  | raise p k => exact Changes.watchLaws (raise_changes s p k) hs
  | frame h _ => exact h.watchLaws hs
  | cut h => exact Changes.watchLaws (fold_panelOff (L := Leave.all) _) (h.watchLaws hs)
  | amend i f hz hf =>
    refine watchLaws_iff.2 ⟨modOrder_watchRight hs.1 fun o _ => by rw [hf o]; exact ⟨rfl, rfl⟩, fun j o ho hlo hk => ?_⟩
    rw [modOrder_slot] at ho
    split at ho
    · rename_i e
      subst e
      obtain ⟨q, hq, e⟩ := Option.map_eq_some_iff.1 ho
      subst e
      rw [hf q] at hlo hk ⊢
      exact hs.2 i q hq hlo hk
    · exact hs.2 j o ho hlo hk
  | adopt i o n hi hlo hw =>
    refine watchLaws_iff.2 ⟨updateOrder_watchRight hi _ hs.1, fun j q hq hlq hk => ?_⟩
    have layout : (s.updateOrder i fun o => { o with issuer := n }).layout = s.layout := by rw [updateOrder_eq hi]; rfl
    rw [stationKind_congr layout] at hk
    rw [pendantHatch_congr layout]
    rw [updateOrder_slot] at hq
    split at hq
    · rename_i e
      subst e
      rw [hi] at hq
      obtain rfl := Option.some.inj hq
      exact hw hk
    · exact hs.2 j q hq hlq hk
  | create n p kind target cls hold link hu hc hf hn hw =>
    have slot := createOrder_slot s n p kind target cls hold link
    have kept := createOrder_eq s n p kind target cls hold link
    have layout : (s.createOrder n p kind target cls hold link).layout = s.layout := by rw [kept]; rfl
    have stations : (s.createOrder n p kind target cls hold link).stations = s.stations := by rw [kept]; rfl
    refine watchLaws_iff.2
        ⟨fun m => State.watchRight.congr (hs.1 m) (attends_of_works layout fun j => ?_) ?_ ?_, fun j q hq hlq hk => ?_⟩
    · simp only [State.works, slot]
      split
      · rename_i e
        subst e
        cases hi : s.slot s.slotForNew with
        | none => simp [State.newOrder, show OrderState.pending.working = false from rfl]
        | some q =>
          have := slotForNew_not_live hl hi
          have : q.state.working = false := by
            by_contra h
            rw [OrderState.live_of_working (by simpa using h)] at this; cases this
          simp [State.newOrder, this, show OrderState.pending.working = false from rfl]
      · rfl
    · simp only [State.station, stations]
    · simp only [State.station, stations]
    · rw [stationKind_congr layout] at hk
      rw [pendantHatch_congr layout]
      rw [slot] at hq
      split at hq
      · obtain rfl := Option.some.inj hq
        exact hw hk
      · exact hs.2 j q hq hlq hk
  | retire i h =>
    refine watchLaws_iff.2
        ⟨fun m => State.watchRight.congr (hs.1 m) (attends_of_works rfl fun j => ?_) rfl rfl, fun j q hq hlq hk => ?_⟩
    · simp only [State.works, setSlot_slot]
      split
      · rename_i e
        subst e
        cases hi : s.slot i with
        | none => rfl
        | some q =>
          have : q.state.working = false := by
            by_contra hw
            have := h q hi hK.1
            rw [OrderState.live_of_working (by simpa using hw)] at this; cases this
          simp [this]
      · rfl
    · rw [setSlot_slot] at hq
      split at hq
      · cases hq
      · exact hs.2 j q hq hlq hk
  | unwatch n h =>
    refine watchLaws_iff.2 ⟨fun m => ?_, hs.2⟩
    have same : ∀ m, (s.modStation n fun x => { x with watching := false, deadline := none }).attends m ↔ s.attends m :=
      fun m => attends_congr rfl rfl m
    unfold State.watchRight
    rw [same, modStation_station]
    split
    · rename_i e
      subst e
      exact ⟨⟨fun h => (by cases h), fun ha => absurd ha (h hK.2)⟩, rfl⟩
    · exact hs.1 m
  | rewatch n r d h =>
    refine watchLaws_iff.2 ⟨fun m => ?_, hs.2⟩
    have same : ∀ m, (s.modStation n fun x => { x with reference := r, deadline := some d }).attends m ↔ s.attends m :=
      fun m => attends_congr rfl rfl m
    unfold State.watchRight
    rw [same, modStation_station]
    split
    · rename_i e
      subst e
      exact ⟨(hs.1 n).1, h.symm⟩
    · exact hs.1 m
  | commit hc hw =>
    have idle := hl.idle (by simp [hl.writing hw]) (by simp [hl.writing hw])
    obtain ⟨slots, -⟩ := takeLayout_fields { s with writing := none }
    refine watchLaws_of_idle (fun i o h => idle i o ((slot_of_slots (s := s) slots i).symm.trans h)) fun n => ?_
    obtain ⟨h1, h2⟩ := takeLayout_station { s with writing := none } n
    have quiet : (s.station n).watching = false := by
      by_contra h
      obtain ⟨-, i, o, ho, -, hwk⟩ := (hs.1 n).1.1 (by simpa using h)
      have := OrderState.live_of_working hwk
      rw [idle i o ho] at this; cases this
    have still : (s.station n).deadline = none := by
      have := (hs.1 n).2
      rw [quiet] at this
      simpa using this
    exact ⟨h1.trans quiet, h2.trans still⟩
  | powerOn hc =>
    refine watchLaws_of_idle (fun i o h => ?_) fun n => ?_
    · simp [State.powerOn, State.slot, State.reset] at h
    · simp [State.powerOn, State.reset, State.station, Station.atPowerOn]
  | restart =>
    refine watchLaws_of_idle (fun i o h => by rw [restart_slot] at h; cases h) fun n => ?_
    rw [restart_station]
    exact ⟨rfl, rfl⟩
  | latch e =>
    rw [setLatch_eq]
    exact hs.of_same rfl rfl rfl
  | forget | feed | tune | write | enter | noCopy | hold | jogOn => exact hs.of_same rfl rfl rfl

end Sys2Proof.Machine
end

section
/-! The fixed statements: the records right after power-on, the invariants there, and four frames read byte by byte. -/

namespace Sys2Proof.Machine

variable {s : State} {p : PanelNo}

/-- Panels that are off keep every law of the coils. -/
theorem coilsObey_of_off (hc : ∀ p, (s.panel p).coils = {}) (hm : ∀ p, (s.panel p).mode ≠ .driven) : s.coilsObey := by
  have still : ∀ p, ¬ (s.panel p).driving := by
    intro p h
    rcases h with h | h | h
    · rw [hc p] at h; cases h
    · rw [hc p] at h; cases h
    · exact hm p h
  refine ⟨fun p => ⟨fun h => ?_, fun h => ?_, fun h => absurd h (still p), fun g h => ?_⟩,
    fun p => ⟨fun h => ?_, fun h => absurd h (still p), fun g h => ?_⟩, fun p => ⟨fun h => ?_, fun h => ?_⟩⟩
  case refine_3 | refine_5 => rw [hc p] at h; exact absurd h (Coils.eq_off.1 rfl _)
  case refine_4 =>
    rcases h with h | h
    · rw [hc p] at h; cases h
    · exact absurd h (still p)
  all_goals rw [hc p] at h; cases h

/-- Packs that neither grant anything nor have anything waiting keep the laws of R124. -/
theorem flowLaws_of_idle (hg : ∀ k, (s.pack k).grants = []) (hw : ∀ k, (s.pack k).waiting = []) : s.flowLaws := by
  refine ⟨fun k => ?_, ?_, fun k g h => ?_, fun k w h => ?_⟩
  · simp [Pack.granted, hg k]
  · have ha : s.packA.panels = [] := by simp
      [Pack.panels, show s.packA.grants = [] from hg .a, show s.packA.waiting = [] from hw .a]
    have hb : s.packB.panels = [] := by simp
        [Pack.panels, show s.packB.grants = [] from hg .b, show s.packB.waiting = [] from hw .b]
    simp [ha, hb]
  · rw [hg k] at h; cases h
  · rw [hw k] at h; cases h

/-! ### The state right after power-on -/

theorem reset_panel (p : PanelNo) :
    State.reset.panel p = .atPowerOn .allOpen (.replicate 12 (.atPowerOn false)) := by
  simp [State.reset, State.panel]

theorem reset_slot (i : SlotNo) : State.reset.slot i = none := by simp [State.reset, State.slot]

theorem reset_claim (z : ClaimNo) : State.reset.claim z = none := by simp [State.reset, State.claim]

theorem reset_station (n : StationNo) : State.reset.station n = .atPowerOn := by simp [State.reset, State.station]

/-- Settles O2: each record is the one that the reset state is built from. -/
theorem resetRecords : Obligations.ResetRecords := by
  refine ⟨rfl, rfl, rfl, rfl, rfl, rfl, rfl, rfl, reset_slot, rfl, rfl, rfl, rfl, rfl, rfl, reset_claim, rfl, rfl, rfl,
    reset_station, fun k => ?_, fun p => ?_⟩
  · cases k <;> exact ⟨rfl, rfl, rfl, rfl, rfl⟩
  · rw [reset_panel]
    exact ⟨rfl, rfl, rfl, rfl, rfl, rfl, rfl, rfl, rfl, rfl, rfl, rfl⟩

theorem reset_linked : State.reset.Linked :=
  linked_of_idle (fun p => by rw [reset_panel]; rfl) (fun i o h => by rw [reset_slot] at h; cases h)
    (fun i j a b h => by rw [reset_slot] at h; cases h) rfl (fun h => by cases h) (by decide)

theorem reset_faultedStand : State.reset.faultedStand := by
  refine ⟨fun p h => ?_, fun p h => ?_, fun p h => ?_⟩
  all_goals rw [reset_panel] at h
  · cases h
  · cases h
  · exact absurd rfl h

theorem reset_countsInRange : State.reset.countsInRange := by
  refine ⟨fun p => ?_, fun n => ?_, by decide, by decide, by decide, by decide⟩
  · rw [reset_panel]
    refine ⟨by decide, by decide, by decide, by decide, fun i h => (by cases h), fun k => ?_⟩
    simp [Panel.atPowerOn, Cleat.atPowerOn]
  · rw [reset_station]; decide

/-- Settles O60: nothing moves, no order is live, and the parameters are the defaults. -/
theorem resetIsSound : Obligations.ResetIsSound := by
  have off (p : PanelNo) : (State.reset.panel p).coils = {} := by rw [reset_panel]; rfl
  have quiet (p : PanelNo) : (State.reset.panel p).mode ≠ .driven := by rw [reset_panel]; exact fun h => by cases h
  refine ⟨⟨fun p _ => off p, fun _ p => ?_⟩, ⟨?_, ?_, fun ps h => (by cases h)⟩, reset_countsInRange,
    linked_iff.2 reset_linked, reset_faultedStand, coilsObey_of_off off quiet, flowLaws_of_idle ?_ ?_, ?_⟩
  · rw [reset_panel]; exact ⟨rfl, rfl, fun h => (by cases h), rfl⟩
  · exact ParamSet.inRange_default
  · exact ParamSet.inRange_default
  · intro k; cases k <;> rfl
  · intro k; cases k <;> rfl
  · exact watchLaws_of_idle (fun i o h => by rw [reset_slot] at h; cases h) fun n => by rw [reset_station]; exact ⟨rfl, rfl⟩

/-! ### Frames -/

/-- Settles O7: the decoder is evaluated on the five frames. -/
theorem frameBytesAreRead : Obligations.FrameBytesAreRead := by
  unfold Obligations.FrameBytesAreRead
  refine ⟨?_, ?_, ?_, ?_, ?_⟩ <;> decide

end Sys2Proof.Machine
end

section
/-! The station link: the checks that every request passes, a raw frame as the request that its bytes spell, and the refusals. -/

namespace Sys2Proof.Machine

variable {s t u : State} {n m : StationNo} {tag : Byte} {c : Instr} {f : Frame}

/-! ### What an owner answers -/

/-- The answer of an owner to whom the unit was handed as `u`: a refusal, which changes nothing and, but for
CONFIG_INCONSISTENT, has a payload of zeros; or ACCEPTED or DATA. An outcome that waits has queued no reply. -/
def Answer.Told (a : Answer) (u : State) : Prop :=
  (a.st = u ∧ a.deferred = false ∧ a.restarts = false ∧ (a.code ≠ .configInconsistent → a.bytes = [])) ∨
  ((a.code = .accepted ∨ a.code = .data) ∧ (a.deferred = true → a.st.txQueue = u.txQueue))

@[simp] theorem told_refuse (u : State) (c : ReplyCode) : (refuse u c).Told u := .inl ⟨rfl, rfl, rfl, fun _ => rfl⟩

@[simp] theorem told_accept (u t : State) (b : Bool) (bs : List Byte) : (accept t b bs).Told u :=
  .inr ⟨.inl rfl, fun h => by cases h⟩

@[simp] theorem told_answerData (u t : State) (bs : List Byte) : (answerData t bs).Told u :=
  .inr ⟨.inr rfl, fun h => by cases h⟩

@[simp] theorem told_acceptState (u t : State) (i : SlotNo) (b : Bool) : (acceptState t i b).Told u := told_accept u t b _

@[simp] theorem told_inconsistent (u : State) (bs : List Byte) :
    ({ st := u, code := .configInconsistent, bytes := bs } : Answer).Told u := .inl ⟨rfl, rfl, rfl, fun h => absurd rfl h⟩

@[simp] theorem told_commit (u : State) (w : Option Writing) :
    ({ st := { u with writing := w }, code := .accepted, deferred := true } : Answer).Told u := .inr ⟨.inl rfl, fun _ => rfl⟩

@[simp] theorem told_restart (u : State) (bs : List Byte) :
    ({ st := u, code := .accepted, bytes := bs, restarts := true } : Answer).Told u := .inr ⟨.inl rfl, fun h => by cases h⟩

theorem told_onOrder {unitOk : Bool} {id : Byte} {may : Order → Bool} {stateOk : OrderState → Bool} {w : ReplyCode}
    {act : SlotNo → Order → Answer} (h : ∀ i o, (act i o).Told u) : (u.onOrder unitOk id may stateOk w act).Told u := by
  unfold State.onOrder
  repeat' split
  all_goals simp [h]

theorem told_onZone {id : Byte} {may : Claim → Bool} {act : ClaimNo → Claim → Answer} (h : ∀ z c, (act z c).Told u) :
    (u.onZone id may act).Told u := by
  unfold State.onZone
  repeat' split
  all_goals simp [h]

theorem told_onService {panel : Byte} {argOk : PanelNo → Bool} {act : PanelNo → Answer} (h : ∀ p, (act p).Told u) :
    (u.onService n panel argOk act).Told u := by
  unfold State.onService
  repeat' split
  all_goals simp [h]

/-- Every request is handed to an owner, whose answer is a refusal, ACCEPTED or DATA. -/
theorem exec_request (h : requestFrom c = some (n, tag)) :
    ∃ owner, (∀ s, exec c s = request n tag owner s) ∧ ∀ u, (owner u).Told u := by
  cases c <;> cases h
  all_goals refine ⟨_, fun _ => rfl, fun u => ?_⟩
  case amend =>
    refine told_onOrder fun i o => ?_
    repeat' split
    all_goals simp
  case pause | resume | continueOrder | cancel | adopt | retire =>
    refine told_onOrder fun i o => ?_
    repeat' split
    all_goals simp
  case renewZone | releaseZone => exact told_onZone fun z c => told_accept ..
  case presetPosition =>
    refine told_onService fun p => ?_
    split <;> simp
  case bypassCleat | restoreCleat => exact told_onService fun p => told_accept ..
  case readEvents => exact told_answerData ..
  all_goals
    dsimp only [ownerReadUnit, ownerReadPanel, ownerReadCleat, ownerReadOrder, ownerFindOrder, ownerReadZone, ownerReadParam,
      ownerReadStation, ownerCreateOrder, ownerHatchOrder, ownerClaimZone, ownerKeepalive, ownerStopHatch, ownerStopAll,
      ownerRainClose, ownerListReport, ownerClearFaults, ownerClearEvents, ownerSetParam, ownerCommit, ownerReconfigure,
      ownerRestart, ownerServiceEnter, ownerServiceExit, ownerJog]
    repeat' split
    all_goals simp

/-! ### The checks of the link -/

theorem request_busOff (h : s.busOff = true) (tag : Byte) (owner : State → Answer) : request n tag owner s = .next s := by
  simp [request, State.takeRequest, h]

theorem request_unknownStation (hb : s.busOff = false) (hk : s.stationKind n = none) (tag : Byte) (owner : State → Answer) :
    request n tag owner s = .next (s.unknownStation n tag) := by
  simp [request, State.takeRequest, hb, hk]

theorem request_inStart (hb : s.busOff = false) (hk : (s.stationKind n).isSome = true) (hs : s.inStart = true) (tag : Byte)
    (owner : State → Answer) : request n tag owner s = .next (s.linkRefuse n tag .unitState) := by
  have hk : (s.stationKind n).isNone = false := by simpa using hk
  simp [request, State.takeRequest, hb, hk, hs]

theorem request_busy (hb : s.busOff = false) (hk : (s.stationKind n).isSome = true) (hs : s.inStart = false)
    (ho : (s.station n).occupied = true) (tag : Byte) (owner : State → Answer) :
    request n tag owner s = .next (s.linkRefuse n tag .busy) := by
  have hk : (s.stationKind n).isNone = false := by simpa using hk
  simp [request, State.takeRequest, hb, hk, hs, ho]

/-- Settles O8: every request is a `request` to its owner, and the checks of the link come before the owner. -/
theorem requestsPassTheLink : Obligations.RequestsPassTheLink := by
  intro c n tag s h
  obtain ⟨owner, hc, -⟩ := exec_request h
  simp only [hc]
  exact ⟨fun hb => request_busOff hb .., fun hb hk => request_unknownStation hb hk ..,
    fun hb hk hs => request_inStart hb hk hs .., fun hb hk hs ho => request_busy hb hk hs ho ..⟩

theorem handOver_of_deferred {owner : State → Answer} (h : (owner (s.taken n)).deferred = true) (tag : Byte) :
    s.handOver n tag owner = (owner (s.taken n)).st := if_pos h

theorem handOver_of_answered {owner : State → Answer} (h : (owner (s.taken n)).deferred = false) (tag : Byte) :
    s.handOver n tag owner = (owner (s.taken n)).st.queueReply
      ⟨n, (owner (s.taken n)).code, tag, payload (owner (s.taken n)).bytes, true, (owner (s.taken n)).restarts⟩ :=
  if_neg (by simpa [State.taken] using h)

/-- Settles O9: an answer that is neither ACCEPTED nor DATA leaves the unit as it was handed over, and one that waits has
queued no reply. -/
theorem refusedRequestsChangeNothing : Obligations.RefusedRequestsChangeNothing := by
  intro c n tag s t r h hr hx hq ha hd
  obtain ⟨owner, hc, told⟩ := exec_request h
  rw [hc, request_of_ready hr] at hx
  cases hx
  have taken_queue : (s.taken n).txQueue = s.txQueue := rfl
  rcases told (s.taken n) with ⟨hst, hdef, hres, hbytes⟩ | ⟨hcode, hqueue⟩
  · rw [handOver_of_answered hdef] at hq ⊢
    rw [hst, hres] at hq ⊢
    have hr : (⟨n, (owner (s.taken n)).code, tag, payload (owner (s.taken n)).bytes, true, false⟩ : Reply) = r :=
      List.singleton_inj.1 (List.append_inj' hq rfl).2
    subst hr
    exact ⟨rfl, rfl, rfl, fun hne => by rw [hbytes hne]; rfl⟩
  · cases hdef : (owner (s.taken n)).deferred with
    | true =>
      rw [handOver_of_deferred hdef, hqueue hdef, taken_queue] at hq
      simp at hq
    | false =>
      rw [handOver_of_answered hdef] at hq
      obtain rfl := List.singleton_inj.1 (List.append_inj' hq rfl).2
      rcases hcode with h | h
      · exact absurd h ha
      · exact absurd h hd

/-! ### Frames -/

theorem requestFrom_of_frame (h : requestOf n f = some c) : requestFrom c = some (n, f.byte 1) := by
  have tables : lookupOf n f = some c ∨ orderRequestOf n f = some c ∨ unitRequestOf n f = some c := by
    simp only [requestOf, Option.orElse_eq_orElse, Option.orElse_eq_or, Option.or_eq_some_iff] at h
    tauto
  rcases tables with h | h | h
  · unfold lookupOf at h
    split at h
    all_goals cases h
    all_goals rfl
  · unfold orderRequestOf at h
    split at h
    all_goals cases h
    all_goals rfl
  · unfold unitRequestOf at h
    split at h
    all_goals cases h
    all_goals rfl

/-- The codes of the request code table (R175). -/
def requestCodes : List Nat :=
  [1, 2, 3, 4, 5, 6, 7, 8, 9, 16, 17, 18, 19, 20, 21, 22, 23, 24, 32, 33, 34, 40, 41, 42, 43, 48, 56, 57, 64, 65, 66, 67, 68,
    69, 70, 71, 72, 73]

theorem requestOf_none (h : (f.byte 0).toNat ∉ requestCodes) : requestOf n f = none := by
  have hl : lookupOf n f = none := by
    unfold lookupOf
    split
    all_goals simp_all [requestCodes]
  have ho : orderRequestOf n f = none := by
    unfold orderRequestOf
    split
    all_goals simp_all [requestCodes]
  have hu : unitRequestOf n f = none := by
    unfold unitRequestOf
    split
    all_goals simp_all [requestCodes]
  simp [requestOf, hl, ho, hu]

theorem takeSpelled_eq (h : requestFrom c = some (n, tag)) (s : State) : takeSpelled c s = exec c s := by
  cases c <;> cases h
  all_goals rfl

theorem station_of_id (he : f.extended = false) (hr : f.remote = false) (hi : f.id = 0x1A1 + n.val) : f.station = some n := by
  have hn := n.isLt
  have inside : f.extended = false ∧ f.remote = false ∧ 417 ≤ f.id ∧ f.id ≤ 428 := ⟨he, hr, by omega, by omega⟩
  rw [Frame.station, dif_pos inside]
  exact congrArg some (Fin.ext (by simp; omega))

theorem station_of_other (h : f.extended = true ∨ f.remote = true ∨ f.id < 0x1A1 ∨ 0x1AC < f.id) : f.station = none := by
  rw [Frame.station, dif_neg]
  rintro ⟨he, hr, hl, hu⟩
  rcases h with h | h | h | h
  · rw [he] at h; cases h
  · rw [hr] at h; cases h
  · omega
  · omega

section
variable (hf : f.station = some n) (hb : s.busOff = false)
include hf hb

theorem exec_frame_of_unconfigured (hk : s.stationKind n = none) :
    exec (.unknownRequest f) s = .next (s.unknownStation n f.tag) := by
  change execUnknownRequest f s = _
  simp [execUnknownRequest, hf, hb, hk]

variable (hk : (s.stationKind n).isSome = true)
include hk

theorem exec_frame_of_short (hd : f.dlc ≠ 8) : exec (.unknownRequest f) s = .next (s.frameError n f.tag) := by
  have hk : (s.stationKind n).isNone = false := by simpa using hk
  change execUnknownRequest f s = _
  simp [execUnknownRequest, hf, hb, hk, hd]

variable (hd : f.dlc = 8)
include hd

theorem exec_frame_of_start (hs : s.inStart = true) :
    exec (.unknownRequest f) s = .next (s.linkRefuse n f.tag .unitState) := by
  have hk : (s.stationKind n).isNone = false := by simpa using hk
  change execUnknownRequest f s = _
  simp [execUnknownRequest, hf, hb, hk, hd, hs]

variable (hs : s.inStart = false)
include hs

theorem exec_frame_of_no_request (hc : requestOf n f = none) :
    exec (.unknownRequest f) s = .next (s.linkRefuse n f.tag .unknownRequest) := by
  have hk : (s.stationKind n).isNone = false := by simpa using hk
  change execUnknownRequest f s = _
  simp [execUnknownRequest, hf, hb, hk, hd, hs, hc]

/-- A frame that passes the first four checks is the request that its bytes spell. -/
theorem exec_unknownRequest (hc : requestOf n f = some c) : exec (.unknownRequest f) s = exec c s := by
  have hk : (s.stationKind n).isNone = false := by simpa using hk
  rw [← takeSpelled_eq (requestFrom_of_frame hc)]
  change execUnknownRequest f s = _
  simp [execUnknownRequest, hf, hb, hk, hd, hs, hc]

end

/-- Settles O6. -/
theorem framesAreTheirRequests : Obligations.FramesAreTheirRequests :=
  fun _ _ _ _ hf hb hk hd hs hc => ⟨exec_unknownRequest hf hb hk hd hs hc, requestFrom_of_frame hc⟩

theorem queueReply_station (s : State) (r : Reply) (m : StationNo) : (s.queueReply r).station m =
    if r.station = m then { s.station r.station with lastReply := r.code.code } else s.station m :=
  modStation_station s r.station m fun x => { x with lastReply := r.code.code }

theorem frameError_station (s : State) (n m : StationNo) (tag : Byte) : (s.frameError n tag).station m =
    if n = m then { s.station n with frameErrors := min 255 ((s.station n).frameErrors + 1), lastReply := 16 }
    else s.station m := by
  have counted (m : StationNo) : ({ s.modStation n fun x => { x with frameErrors := min 255 (x.frameErrors + 1) } with
      frameErrorsWarned := true }.setLatch .warning).station m =
      if n = m then { s.station n with frameErrors := min 255 ((s.station n).frameErrors + 1) } else s.station m := by
    rw [setLatch_eq]
    exact modStation_station s n m fun x => { x with frameErrors := min 255 (x.frameErrors + 1) }
  rw [State.frameError, State.linkRefuse, queueReply_station]
  dsimp only
  rw [counted, counted]
  by_cases h : n = m
  · rw [if_pos h, if_pos h, if_pos rfl]; rfl
  · rw [if_neg h, if_neg h, if_neg h]

theorem frameError_queue (s : State) (n : StationNo) (tag : Byte) :
    (s.frameError n tag).txQueue = s.txQueue ++ [⟨n, .frameError, tag, payload [], false, false⟩] := by
  unfold State.frameError State.linkRefuse State.queueReply
  dsimp only
  rw [setLatch_eq]
  rfl

theorem frameError_latches (s : State) (n : StationNo) (tag : Byte) (h : s.inStart = false) :
    .warning ∈ (s.frameError n tag).latches :=
  (setLatch_mem _ .warning .warning).2 (.inr ⟨rfl, fun hs => by
    have := hs.1
    change s.inStart = true at this
    rw [h] at this; cases this⟩)

theorem frameError_eq (s : State) (n : StationNo) (tag : Byte) : s.frameError n tag =
    { s with frameErrorsWarned := true, stations := (s.frameError n tag).stations
             latches := (s.frameError n tag).latches, txQueue := (s.frameError n tag).txQueue } := by
  unfold State.frameError State.linkRefuse State.queueReply
  dsimp only
  rw [setLatch_eq]
  rfl

/-- Settles O5: the checks are the branches of the frame's taking; the last one is that of the request it spells. -/
theorem linkChecksFrames : Obligations.LinkChecksFrames := by
  intro f s
  refine ⟨fun hb => ?_, fun hb => ⟨fun hf => ?_, fun n he hr hi => ?_⟩⟩
  · change execUnknownRequest f s = _
    unfold execUnknownRequest
    split
    · rfl
    · rw [if_pos hb]
  · change execUnknownRequest f s = _
    rw [execUnknownRequest, station_of_other hf]
  have hf := station_of_id he hr hi
  refine ⟨fun hk => ?_, fun hk hd => ?_, fun hk hd => ⟨fun hs => ?_, fun hs hc => ?_, fun hs hc ho => ?_⟩⟩
  · exact exec_frame_of_unconfigured hf hb hk
  · have fields := frameError_eq s n f.tag
    refine ⟨s.frameError n f.tag, exec_frame_of_short hf hb hk hd, frameError_queue .., congrArg State.frameErrorsWarned fields, ?_, fun m hm => ?_,
      frameError_latches s n f.tag, (congrArg State.panels fields :), (congrArg State.slots fields :),
      (congrArg State.claims fields :)⟩
    · rw [frameError_station, if_pos rfl]
    · rw [frameError_station, if_neg (Ne.symm hm)]
  · exact exec_frame_of_start hf hb hk hd hs
  · exact exec_frame_of_no_request hf hb hk hd hs (requestOf_none hc)
  · obtain ⟨c, hc⟩ := Option.isSome_iff_exists.1 hc
    obtain ⟨owner, hreq, -⟩ := exec_request (requestFrom_of_frame hc)
    rw [exec_unknownRequest hf hb hk hd hs hc, hreq, request_busy hb hk hs ho]
    rfl

end Sys2Proof.Machine
end

section
/-! What a power-on, a restart and a bus-off leave of every record. -/

namespace Sys2Proof.Machine

variable {s t : State} {p q : PanelNo} {n : StationNo}

/-! ### One panel after another -/

/-- Each panel of a list without duplicates is changed once. -/
theorem fold_modPanel (f : PanelNo → Panel → Panel) : ∀ (ps : List PanelNo) (s : State), ps.Nodup →
    ps.foldl (fun s p => s.modPanel p (f p)) s =
      { s with panels := (ps.foldl (fun s p => s.modPanel p (f p)) s).panels } ∧
    ∀ q, (ps.foldl (fun s p => s.modPanel p (f p)) s).panel q = if q ∈ ps then f q (s.panel q) else s.panel q
  | [], _, _ => ⟨rfl, fun q => by simp⟩
  | p :: ps, s, h => by
    obtain ⟨hp, hps⟩ := List.nodup_cons.1 h
    obtain ⟨e, hq⟩ := fold_modPanel f ps (s.modPanel p (f p)) hps
    refine ⟨e, fun q => ?_⟩
    rw [List.foldl_cons, hq q, modPanel_panel]
    by_cases hqp : p = q
    · subst hqp; simp [hp]
    · simp [hqp, Ne.symm hqp]

/-- Every panel is changed once. -/
theorem forPanels_modPanel (f : PanelNo → Panel → Panel) (s : State) :
    (s.forPanels fun p s => s.modPanel p (f p)) =
      { s with panels := (s.forPanels fun p s => s.modPanel p (f p)).panels } ∧
    ∀ q, (s.forPanels fun p s => s.modPanel p (f p)).panel q = f q (s.panel q) := by
  obtain ⟨e, hq⟩ := fold_modPanel f allPanels s allPanels_nodup
  exact ⟨e, fun q => (hq q).trans (if_pos (mem_allPanels q))⟩

/-! ### A move that is cut short -/

/-- The states of a panel's cleats after a set of them has taken a state. -/
theorem setStates_cleats (st : CleatState) (k : CleatNo) : ∀ (ks : List CleatNo) (x : Panel),
    (x.setStates ks st).cleats[k] = if k ∈ ks then { x.cleats[k] with state := st } else x.cleats[k]
  | [], x => by simp [Panel.setStates]
  | j :: ks, x => by
    have one : ((x.modCleat j fun c => { c with state := st }).cleats[k]) =
        if j = k then { x.cleats[k] with state := st } else x.cleats[k] := by
      by_cases h : j = k
      · subst h; simp [Panel.modCleat, Panel.setCleat]
      · have : j.val ≠ k.val := fun e => h (Fin.ext e)
        simp [Panel.modCleat, Panel.setCleat, this, h]
    have rest := setStates_cleats st k ks (x.modCleat j fun c => { c with state := st })
    rw [one] at rest
    change ((x.modCleat j fun c => { c with state := st }).setStates ks st).cleats[k] = _
    rw [rest]
    by_cases h : j = k
    · subst h; simp
    · simp [h, Ne.symm h]

/-- The panel without its move, the valve off. -/
def Panel.moveless (x : Panel) (m : Move) : Panel :=
  { x with coils := x.coils.put false (m.dir.coil m.group), activity := x.activity.afterValve, move := none }

/-- The panel whose move, if it has one, is cut short (R30). -/
def Panel.cut (x : Panel) : Panel :=
  match x.move with
  | none => x
  | some m => (x.moveless m).setStates m.unconfirmed .unknown

theorem modPanel_congr {f g : Panel → Panel} (h : f (s.panel p) = g (s.panel p)) : s.modPanel p f = s.modPanel p g := by
  simp [State.modPanel, h]

theorem modPanel_self {f : Panel → Panel} (h : f (s.panel p) = s.panel p) : s.modPanel p f = s := by
  rw [State.modPanel, h, State.setPanel, State.panel]
  have : s.panels.set p s.panels[p] = s.panels := Vector.set_getElem_self ..
  rw [this]

theorem clearMove_eq (s : State) (p : PanelNo) : s.clearMove p =
    s.modPanel p fun x => match (s.panel p).move with | none => x | some m => x.moveless m := by
  unfold State.clearMove State.valveOff
  cases h : (s.panel p).move with
  | none => exact (modPanel_self (by simp [← h])).trans (modPanel_self rfl).symm
  | some m => exact modPanel_modPanel ..

theorem cutMove_eq (s : State) (p : PanelNo) : s.cutMove p = s.modPanel p Panel.cut := by
  unfold State.cutMove
  cases h : (s.panel p).move with
  | none => exact (modPanel_self (by simp [Panel.cut, h])).symm
  | some m =>
    change (s.clearMove p).modPanel p _ = _
    rw [clearMove_eq, modPanel_modPanel]
    exact modPanel_congr (by simp [Panel.cut, h])

/-! ### The restart -/

theorem movesCut_panel (s : State) (q : PanelNo) :
    (s.forPanels fun p s => s.cutMove p).panel q = (s.panel q).cut := by
  simp only [cutMove_eq]
  exact (forPanels_modPanel (fun _ => Panel.cut) s).2 q

theorem movesCut_eq (s : State) : (s.forPanels fun p s => s.cutMove p) =
    { s with panels := (s.forPanels fun p s => s.cutMove p).panels } := by
  simp only [cutMove_eq]
  exact (forPanels_modPanel (fun _ => Panel.cut) s).1

/-- What the restart leaves of every record but the panels' and the latches (R194). -/
theorem restart_eq (s : State) : s.restart = { s with
    panels := s.restart.panels
    latches := s.restart.latches
    unit := .start (.restart (s.unit == .setup))
    slots := .replicate 24 none
    jog := none
    serviceStation := none
    staleTimer := if s.fresh && !s.noListSource then some (s.now + stalenessPeriod) else none
    claims := s.claims.map (Option.map Claim.stopped)
    packA := s.packA.restarted (s.params.tuning.pressureMode == 0) s.now
    packB := s.packB.restarted (s.params.tuning.pressureMode == 0) s.now
    listHigh := s.highList
    stations := s.stations.map Station.restarted
    supplyLow := s.supplyLow && s.params.tuning.supplyMode == 0
    txQueue := []
    store := s.storeFound
    writing := none } := by
  unfold State.restart
  rw [movesCut_eq]
  extract_lets t s1 s2
  rw [setLatch_eq]

theorem restart_panel_eq (s : State) (p : PanelNo) :
    s.restart.panel p = (s.panel p).cut.restarted (s.now + s.params.tuning.brakingWindow) := by
  rw [restart_panel, movesCut_panel]

theorem restart_pack (s : State) (k : PackId) :
    s.restart.pack k = (s.pack k).restarted (s.params.tuning.pressureMode == 0) s.now := by
  rw [restart_eq]
  cases k <;> rfl

theorem restart_claim (s : State) (z : ClaimNo) : s.restart.claim z = (s.claim z).map Claim.stopped := by
  rw [restart_eq]
  simp [State.claim]

theorem mem_restart_latches (s : State) (e : EventLatch) : e ∈ s.restart.latches ↔ e ∈ s.latches ∨ e = .restarted := by
  unfold State.restart
  rw [movesCut_eq]
  extract_lets t s1 s2
  rw [setLatch_mem]
  simp [s2, s1, EventLatch.code]

/-! ### A panel's record through the restart -/

theorem setStates_eq (x : Panel) (ks : List CleatNo) (st : CleatState) :
    x.setStates ks st = { x with cleats := (x.setStates ks st).cleats } := by
  induction ks generalizing x with
  | nil => rfl
  | cons k ks ih => exact ih (x.modCleat k fun c => { c with state := st })

theorem Panel.cut_eq (x : Panel) : x.cut =
    { x with coils := x.cut.coils, activity := x.cut.activity, move := none, cleats := x.cut.cleats } := by
  unfold Panel.cut
  split
  · rename_i h; rw [← h]
  · rename_i m h
    rw [setStates_eq]
    rfl

theorem Panel.cut_cleats_none {x : Panel} (h : x.move = none) : x.cut.cleats = x.cleats := by
  unfold Panel.cut; rw [h]

theorem Panel.cut_cleats {x : Panel} {m : Move} (h : x.move = some m) (k : CleatNo) : x.cut.cleats[k] =
    if k ∈ m.participants ∧ k ∉ m.confirmed then { x.cleats[k] with state := .unknown } else x.cleats[k] := by
  unfold Panel.cut
  rw [h]
  refine (setStates_cleats ..).trans ?_
  simp [Move.unconfirmed, Panel.moveless]

theorem Panel.restarted_rolls {x : Panel} (h : x.mode = .driven ∨ x.brakeTimer.isSome = true) (w : Nat) :
    (x.restarted w).mode = .coasting ∧ (x.restarted w).brakeTimer = some w := by
  have : (x.mode == .driven || x.brakeTimer.isSome) = true := by simpa using h
  simp [Panel.restarted, this]

/-! ### Through the port -/

/-- The unit once the reply at the head of the queue has been sent, before a restart that it calls for. -/
def State.sent (s : State) (r : Reply) (rs : List Reply) : State :=
  if r.holdsSlot then
    { s with txQueue := rs, txErrors := s.txErrors - 1 }.modStation r.station fun x => { x with occupied := false }
  else { s with txQueue := rs, txErrors := s.txErrors - 1 }

theorem sent_eq (s : State) (r : Reply) (rs : List Reply) : s.sent r rs =
    { s with txQueue := rs, txErrors := s.txErrors - 1, stations := (s.sent r rs).stations } := by
  unfold State.sent
  split <;> rfl

theorem sent_station (s : State) (r : Reply) (rs : List Reply) (m : StationNo) : (s.sent r rs).station m =
    if r.holdsSlot = true ∧ m = r.station then { s.station m with occupied := false } else s.station m := by
  unfold State.sent
  split
  · rename_i h
    rw [modStation_station]
    simp only [h, eq_comm (a := m), true_and]
    split <;> rename_i e
    · subst e; rfl
    · rfl
  · rename_i h
    simp [h, State.station]

theorem exec_replyTransmitted {r : Reply} {rs : List Reply} (h : s.txQueue = r :: rs) :
    exec .replyTransmitted s = .next (if r.restarts then (s.sent r rs).restart else s.sent r rs) := by
  change execReplyTransmitted s = _
  simp only [execReplyTransmitted, h, State.sent]

/-- Settles O10: the unit without its first reply, whose slot is freed. -/
theorem replyTransmittedFreesTheSlot : Obligations.ReplyTransmittedFreesTheSlot := by
  intro s r rs hq
  refine ⟨⟨rfl, rfl, rfl, rfl, rfl⟩, fun hr => ⟨s.sent r rs, ?_, sent_eq .., sent_station s r rs⟩⟩
  rw [exec_replyTransmitted hq, hr]
  rfl

/-- Settles O11: the records of the restart, field by field. -/
theorem restartKeepsAndDiscards : Obligations.RestartKeepsAndDiscards := by
  intro s r rs hq hr
  have hu := sent_eq s r rs
  have station := sent_station s r rs
  refine ⟨(s.sent r rs).restart, by rw [exec_replyTransmitted hq, hr]; rfl, ?_⟩
  generalize s.sent r rs = u at *
  have he := restart_eq u
  have panel (p : PanelNo) : u.panel p = s.panel p := by rw [hu]; rfl
  have pack (k : PackId) : u.pack k = s.pack k := by rw [hu]; cases k <;> rfl
  have params : u.params = s.params := by rw [hu]
  have now : u.now = s.now := by rw [hu]
  have latches : u.latches = s.latches := by rw [hu]
  have claim (z : ClaimNo) : u.claim z = s.claim z := by rw [hu]; rfl
  have supply : u.restart.supplyLow = (s.supplyLow && s.params.tuning.supplyMode == 0) := by rw [he, hu]
  refine ⟨?_, restart_slot, ?_, ?_, ?_, ?_, ?_, ?_, ?_, ?_, ?_, ?_, ?_, ?_, ?_, ?_, fun h => ?_, fun h => ?_, ?_, ?_, ?_,
    fun e => ?_, fun z => ?_, fun n => ?_, fun k => ?_, fun p => ?_⟩
  case refine_15 =>
    have stale : u.restart.staleTimer = if s.fresh && !s.noListSource then some (s.now + stalenessPeriod) else none := by
      rw [he, hu]; rfl
    rw [stale]
    simp [State.noListSource, stalenessPeriod]
  case refine_16 => simp [supply, h]
  case refine_17 => simp [supply, h]
  case refine_21 => rw [mem_restart_latches, latches]
  case refine_22 => rw [restart_claim, claim]; rfl
  case refine_23 =>
    rw [restart_station, station]
    split <;> rfl
  case refine_24 => rw [restart_pack, pack, now]; exact ⟨rfl, rfl, rfl, rfl, rfl⟩
  case refine_25 =>
    rw [restart_panel_eq, panel, params, now]
    have kept := (s.panel p).cut_eq
    refine ⟨?_, ?_, ?_, ?_, ?_, ?_, ?_, rfl, rfl, rfl, ?_, fun m hm k => Panel.cut_cleats hm k, Panel.cut_cleats_none,
      fun h => ?_⟩
    case refine_9 =>
      have rolls : (s.panel p).cut.mode = .driven ∨ (s.panel p).cut.brakeTimer.isSome = true := by rw [kept]; exact h
      exact ⟨(Panel.restarted_rolls rolls _).1, (congrArg Panel.lastDir kept :), (Panel.restarted_rolls rolls _).2⟩
    all_goals
      rw [kept]
      rfl
  all_goals rw [he, hu]

/-! ### The power-on -/

theorem powerOn_panel (s : State) (p : PanelNo) : s.powerOn.panel p =
    (s.panel p).poweredOn ((s.storeFound.getD .default).layout.configures (hatchOf p)) := by
  simp [State.powerOn, State.panel]

theorem powerOn_configured (s : State) (p : PanelNo) :
    s.powerOn.configured p = (s.storeFound.getD .default).layout.configures (hatchOf p) := rfl

theorem conflict_iff {x : Switches} : x.conflict = true ↔
    (x.seated1 = true ∨ x.seated2 = true) ∧ (x.lifted1 = true ∨ x.lifted2 = true) := by simp [Switches.conflict]

/-- Settles O3: the records of the power-on, field by field. -/
theorem powerOnStartsAfresh : Obligations.PowerOnStartsAfresh := by
  intro s
  refine ⟨s.powerOn, rfl, rfl, rfl, rfl, rfl, rfl, rfl, rfl, reset_slot, rfl, reset_claim, rfl, rfl, rfl, rfl, rfl, rfl, rfl,
    reset_station, fun k => ?_, fun p => ?_⟩
  · cases k <;> exact ⟨rfl, rfl, rfl, rfl⟩
  · rw [powerOn_panel, powerOn_configured]
    refine ⟨rfl, rfl, ?_, rfl, rfl, rfl, rfl, rfl, rfl, rfl, fun k => ?_⟩
    · simp [Panel.poweredOn, conflict_iff]
    · simp [Panel.poweredOn, Panel.atPowerOn, Cleat.fromSwitch, Cleat.atPowerOn]

/-! ### The port goes bus-off -/

theorem goBusOff_station (s : State) (n : StationNo) : s.goBusOff.station n = { s.station n with occupied := false } := by
  simp [State.goBusOff, State.station]

theorem goBusOff_records (s : State) : s.goBusOff.records = { s.records with
    busOff := true, txErrors := s.txErrors, writing := s.writing.map fun w => { w with answer := false } } := by
  simp [State.records, State.lasting, State.goBusOff, Station.lasting, Function.comp_def]

/-- A command that makes the port go bus-off, with the transmit error count it leaves. -/
theorem exec_goesOff {c : Instr} (hb : s.busOff = false) (h : c = .busOff ∨ c = .transmitErrorDetected ∧ 247 < s.txErrors) :
    ∃ n, exec c s = .next { s with txErrors := n }.busOffNow := by
  rcases h with rfl | ⟨rfl, h⟩
  · refine ⟨s.txErrors, ?_⟩
    change execBusOff s = _
    simp only [execBusOff, hb, Bool.false_eq_true, if_false]
    rfl
  · refine ⟨s.txErrors + 8, ?_⟩
    change execTransmitErrorDetected s = _
    have : s.txErrors + 8 > 255 := by omega
    simp only [execTransmitErrorDetected, hb, Bool.false_eq_true, if_false, this, if_true]

theorem busOffNow_of_quiet (h : ∀ r ∈ s.txQueue, r.restarts = false) : s.busOffNow = s.goBusOff := by
  have : s.restartQueued = false := by simpa [State.restartQueued] using h
  rw [State.busOffNow, this]
  rfl

theorem busOffNow_of_restart (h : ∃ r ∈ s.txQueue, r.restarts = true) : s.busOffNow = s.goBusOff.restart := by
  have : s.restartQueued = true := by simpa [State.restartQueued] using h
  rw [State.busOffNow, this]
  rfl

/-- Settles O12: the port's own records, and the restart of a RESTART whose reply is discarded. -/
theorem busOffEmptiesTheLink : Obligations.BusOffEmptiesTheLink := by
  intro s
  refine ⟨fun hb c hc hq => ?_, fun hb c hc hq => ?_, fun hb hn => ?_, fun k hb hk => ?_, fun k hb hk => ?_,
    fun hb => ⟨?_, ?_⟩⟩
  · obtain ⟨n, hx⟩ := exec_goesOff hb hc
    rw [busOffNow_of_quiet (s := { s with txErrors := n }) hq] at hx
    exact ⟨_, hx, rfl, rfl, goBusOff_station { s with txErrors := n }, goBusOff_records { s with txErrors := n }, rfl⟩
  · obtain ⟨n, hx⟩ := exec_goesOff hb hc
    rw [busOffNow_of_restart (s := { s with txErrors := n }) hq] at hx
    have he := restart_eq ({ s with txErrors := n } : State).goBusOff
    refine ⟨_, hx, (congrArg State.busOff he :), (congrArg State.txQueue he :), (congrArg State.unit he :), fun m => ?_,
      restart_slot, (congrArg State.jog he :), (congrArg State.params he :), (congrArg State.layout he :),
      mem_restart_latches _, fun p => ?_⟩
    · rw [restart_station, goBusOff_station]; rfl
    · rw [restart_panel_eq]
      have kept := (s.panel p).cut_eq
      exact ⟨rfl, rfl, (congrArg Panel.faults kept :), (congrArg Panel.count kept :)⟩
  · change execTransmitErrorDetected s = _
    have : ¬ s.txErrors + 8 > 255 := by omega
    simp only [execTransmitErrorDetected, hb, Bool.false_eq_true, if_false, this]
  · change execBusRejoin k s = _
    simp [execBusRejoin, hb, hk]
  · change execBusRejoin k s = _
    have : ¬ 128 ≤ k := by omega
    simp [execBusRejoin, this]
  · change execBusOff s = _
    simp [execBusOff, hb]
  · change execTransmitErrorDetected s = _
    simp [execTransmitErrorDetected, hb]

end Sys2Proof.Machine
end

section
/-! The parameters by their numbers, SET_PARAM, and the plan of a travel. -/

namespace Sys2Proof.Machine

variable {s t : State} {p q : PanelNo} {n : StationNo}

/-! ### The parameter that a number names -/

theorem number_of_blockIndex {m base k : Nat} {i : Fin m} (h : blockIndex m base k = some i) : base + i.val = k := by
  unfold blockIndex at h
  split at h
  · cases h
    rename_i h
    dsimp only
    omega
  · cases h

theorem number_of_paramOfNumber {k : Nat} {i : ParamId} (h : paramOfNumber k = some i) : i.number = k := by
  simp only [paramOfNumber, Option.orElse_eq_orElse, Option.orElse_eq_or, Option.or_eq_some_iff, Option.map_eq_some_iff] at h
  rcases h with h | ⟨-, ⟨j, h, rfl⟩ | ⟨-, ⟨j, h, rfl⟩ | ⟨-, ⟨j, h, rfl⟩ | ⟨-, ⟨j, h, rfl⟩ | ⟨-, ⟨j, h, rfl⟩ | ⟨-, ⟨j, h, rfl⟩ |
    ⟨-, ⟨j, h, rfl⟩ | ⟨-, ⟨j, h, rfl⟩ | ⟨-, j, h, rfl⟩⟩⟩⟩⟩⟩⟩⟩⟩
  · simpa using List.find?_some h
  all_goals
    have := number_of_blockIndex h
    simp only [ParamId.number]
    omega

theorem paramOfNumber_number (i : ParamId) : paramOfNumber i.number = some i := by
  cases i with
  | lapSide h => revert h; decide
  | homePack h => revert h; decide
  | panelLength p => revert p; decide
  | openCount p => revert p; decide
  | cleatCount p => revert p; decide
  | arbitration p => revert p; decide
  | cleatGroup p k => revert p k; decide
  | stationKind n => revert n; decide
  | stationHatch n => revert n; decide
  | _ => rfl

theorem paramOfNumber_iff {k : Nat} {i : ParamId} : paramOfNumber k = some i ↔ i.number = k :=
  ⟨number_of_paramOfNumber, fun h => h ▸ paramOfNumber_number i⟩

theorem valueOk_iff {i : ParamId} {v : Nat} : i.valueOk v = true ↔ (i.enumerated = true → i.range.1 ≤ v ∧ v ≤ i.range.2) := by
  cases h : i.enumerated <;> simp [ParamId.valueOk, h]

/-! ### SET_PARAM -/

theorem isKind_bridge : s.isKind n [.bridge] = true ↔ s.stationKind n = some .bridge := by
  unfold State.isKind
  cases s.stationKind n with
  | none => simp
  | some k => simp

theorem ownerSetParam_of_unit {number value : Half} (h : s.unit ≠ .setup) :
    ownerSetParam n number value s = refuse s .unitState := if_pos h

theorem ownerSetParam_of_kind {number value : Half} (hu : s.unit = .setup) (hk : s.stationKind n ≠ some .bridge) :
    ownerSetParam n number value s = refuse s .notAuthorised := by
  have : s.isKind n [.bridge] = false := by rw [← Bool.not_eq_true, isKind_bridge]; exact hk
  simp [ownerSetParam, hu, this]

section
variable {number value : Half} (hu : s.unit = .setup) (hk : s.stationKind n = some .bridge)
include hu hk

theorem ownerSetParam_of_unnamed (h : ¬ ∃ i : ParamId, i.number = number.toNat ∧ i.valueOk value.toNat = true) :
    ownerSetParam n number value s = refuse s .badArgument := by
  unfold ownerSetParam
  rw [if_neg (by simp [hu]), isKind_bridge.2 hk]
  split
  · rename_i hb; cases hb
  · split
    · rfl
    · rename_i i hi
      have : i.valueOk value.toNat = false := by
        rw [← Bool.not_eq_true]; exact fun hv => h ⟨i, number_of_paramOfNumber hi, hv⟩
      simp [this]

variable {i : ParamId} (hi : i.number = number.toNat) (hv : i.valueOk value.toNat = true)
include hi hv

theorem ownerSetParam_of_named : ownerSetParam n number value s =
    if s.writing.isSome then refuse s .busy
    else if i.isLayout && s.locked then refuse s .layoutLocked
    else accept { s with params := s.params.put (i.clamp value.toNat) i } (i.clamp value.toNat != value.toNat)
      (bytes2 number.toNat ++ bytes2 (i.clamp value.toNat)) := by
  unfold ownerSetParam
  rw [if_neg (by simp [hu]), isKind_bridge.2 hk, paramOfNumber_iff.2 hi]
  simp only [hv, Bool.not_true, Bool.false_eq_true, if_false]

end

theorem isLayout_iff {i : ParamId} : i.isLayout = true ↔ i.number ≤ 532 := by simp [ParamId.isLayout]

theorem clamp_of_lt {i : ParamId} {v : Nat} (h : v < i.range.1) : i.clamp v = i.range.1 := by
  have := i.range_le
  unfold ParamId.clamp
  omega

theorem clamp_of_gt {i : ParamId} {v : Nat} (h : i.range.2 < v) : i.clamp v = i.range.2 := by
  have := i.range_le
  unfold ParamId.clamp
  omega

theorem clamp_of_inside {i : ParamId} {v : Nat} (hl : i.range.1 ≤ v) (hu : v ≤ i.range.2) : i.clamp v = v := by
  unfold ParamId.clamp
  omega

theorem byteOf_clamped (v w : Nat) : byteOf (bit (v != w) 1) = if v = w then 0 else 1 := by
  by_cases h : v = w
  · simp [h, bit, byteOf]
  · simp [h, bit, byteOf]

/-- Settles O42: the checks are the branches of the owner's answer; what is stored is read back from the set. -/
theorem setParamStoresInRange : Obligations.SetParamStoresInRange := by
  intro s n tag number value hr
  have kind : (s.taken n).stationKind n = s.stationKind n := rfl
  refine ⟨fun hu => request_eq_replied hr (ownerSetParam_of_unit hu),
    fun hu hk => request_eq_replied hr (ownerSetParam_of_kind hu hk), fun hu hk => ?_⟩
  simp only [← valueOk_iff]
  refine ⟨fun h => request_eq_replied hr (ownerSetParam_of_unnamed hu hk h), fun ⟨i, hi, hv⟩ hw => ?_,
    fun ⟨i, hi, hv⟩ hw hl hk' => ?_, fun ⟨i, hi, hv⟩ hw hl => ?_⟩
  · exact request_eq_replied hr ((ownerSetParam_of_named (s := s.taken n) hu hk hi hv).trans (if_pos hw))
  · refine request_eq_replied hr ((ownerSetParam_of_named (s := s.taken n) hu hk hi hv).trans ?_)
    rw [if_neg (by simp [State.taken, hw]), if_pos]
    · rfl
    · simp [isLayout_iff.2 (hi.trans_le hl), State.taken, hk']
  · refine ⟨i, i.clamp value.toNat, s.params.put (i.clamp value.toNat) i, hi, clamp_of_lt, clamp_of_gt, clamp_of_inside,
      ParamSet.get_put_self .., fun j hj => ParamSet.get_put_ne _ _ (Ne.symm hj), ?_⟩
    refine request_eq_replied hr ((ownerSetParam_of_named (s := s.taken n) hu hk hi hv).trans ?_)
    rw [if_neg (by simp [State.taken, hw]), if_neg, hi]
    · rw [← byteOf_clamped]
      rfl
    · rcases hl with h | h
      · have : ¬ i.isLayout = true := by rw [isLayout_iff]; omega
        simp [this]
      · simp [State.taken, h]

end Sys2Proof.Machine
end

section
/-! The plan of a travel (R94 to R102). -/

namespace Sys2Proof.Machine

variable {s t : State} {p q : PanelNo} {n : StationNo}

theorem downhill_iff {d : Dir} : s.downhill p d = true ↔ match d with
    | .outward => (p.val + 1) % 2 = 1 ∧ s.list < 0 ∨ ¬ (p.val + 1) % 2 = 1 ∧ 0 < s.list
    | .inward => (p.val + 1) % 2 = 1 ∧ 0 < s.list ∨ ¬ (p.val + 1) % 2 = 1 ∧ s.list < 0 := by
  by_cases h : p.val % 2 = 0
  · have odd : (p.val + 1) % 2 = 1 := by omega
    cases d <;> simp [State.downhill, isPort, h, odd]
  · have even : ¬ (p.val + 1) % 2 = 1 := by omega
    cases d <;> simp [State.downhill, isPort, h, even]

theorem theta_of_noList (h : s.layout.listSource = 1) (d : Dir) : s.theta p d = 0 := by
  simp [State.theta, State.noListSource, h]

theorem theta_of_downhill {d : Dir} (h : s.layout.listSource ≠ 1) (hd : s.downhill p d = true) : s.theta p d = s.list.natAbs := by
  simp [State.theta, State.noListSource, h, hd]

theorem theta_of_uphill {d : Dir} (hd : ¬ s.downhill p d = true) : s.theta p d = 0 := by
  simp [State.theta, hd]

/-! ### The compensation -/

theorem planFor_theta (s : State) (p : PanelNo) (t : Int) : (s.planFor p t).theta = s.theta p (s.planFor p t).dir := by
  unfold State.planFor
  dsimp only
  split <;> rfl

theorem planFor_dEff (s : State) (p : PanelNo) (t : Int) :
    (s.planFor p t).dEff = effSlowDown s.params.tuning.slowDown (s.planFor p t).theta := by
  unfold State.planFor
  dsimp only
  split <;> rfl

theorem planFor_aEff (s : State) (p : PanelNo) (t : Int) : (s.planFor p t).aEff =
    min (min (s.params.tuning.stopAllowance + (s.params.tuning.stopAllowance * (s.planFor p t).theta + 19) / 20)
      (s.planFor p t).dEff) 1023 := by
  unfold State.planFor
  dsimp only
  split <;> rfl

/-- A quotient rounded up. -/
theorem roundedUp (x k : Nat) (hk : 0 < k) : x ≤ k * ((x + (k - 1)) / k) ∧ k * ((x + (k - 1)) / k) < x + k := by
  have := Nat.div_add_mod (x + (k - 1)) k
  have := Nat.mod_lt (x + (k - 1)) hk
  omega

/-! ### The plan of a panel whose position is uncertain, and of one whose position is certain -/

theorem planFor_of_uncertain (h : (s.panel p).certain = false) (t : Int) :
    (s.planFor p t).t = 0 ∧ (s.planFor p t).dir = .inward ∧ (s.planFor p t).stop = .switch ∧ (s.planFor p t).slow = none ∧
      (s.planFor p t).stopAt = none ∧ (s.planFor p t).overAt = none ∧ (s.planFor p t).fast = false := by
  unfold State.planFor
  dsimp only
  rw [if_pos h]
  exact ⟨rfl, rfl, rfl, rfl, rfl, rfl, rfl⟩

theorem slowThroughout_iff {dist dEff : Nat} : slowThroughout dist dEff = true ↔ dist ≤ dEff ∨ dEff = 0 := by
  simp [slowThroughout]

section
variable (h : (s.panel p).certain = true) (t : Int)
include h

theorem planFor_target : (s.planFor p t).t = t ∧
    (s.planFor p t).dir = (if (s.panel p).count < t then .outward else .inward) ∧
    (s.planFor p t).stop = s.stopKind p t (s.planFor p t).dir := by
  unfold State.planFor
  dsimp only
  rw [if_neg (by simp [h])]
  exact ⟨rfl, rfl, rfl⟩

theorem planFor_speed : (s.planFor p t).slow =
      (if slowThroughout (t - (s.panel p).count).natAbs (s.planFor p t).dEff then none
        else some (t - (s.planFor p t).dir.sign * (s.planFor p t).dEff)) ∧
    (s.planFor p t).fast =
      (!slowThroughout (t - (s.panel p).count).natAbs (s.planFor p t).dEff && s.fastPermitted p) := by
  unfold State.planFor
  dsimp only
  rw [if_neg (by simp [h])]
  exact ⟨rfl, rfl⟩

theorem planFor_of_switch (hk : (s.planFor p t).stop = .switch) : (s.planFor p t).stopAt = none ∧
    (s.planFor p t).overAt =
      some (t + (s.planFor p t).dir.sign * ((s.planFor p t).aEff + s.params.tuning.overtravelMargin)) := by
  unfold State.planFor at hk ⊢
  dsimp only at hk ⊢
  rw [if_neg (by simp [h])] at hk ⊢
  dsimp only at hk ⊢
  rw [hk]
  exact ⟨rfl, rfl⟩

theorem planFor_of_count (hk : (s.planFor p t).stop = .count) : (s.planFor p t).overAt = none ∧
    (s.planFor p t).stopAt =
      (if (t - (s.panel p).count).natAbs ≤ (s.planFor p t).aEff then some ((s.panel p).count + (s.planFor p t).dir.sign)
        else some (t - (s.planFor p t).dir.sign * (s.planFor p t).aEff)) := by
  unfold State.planFor at hk ⊢
  dsimp only at hk ⊢
  rw [if_neg (by simp [h])] at hk ⊢
  dsimp only at hk ⊢
  rw [hk]
  exact ⟨rfl, rfl⟩

end

theorem stopKind_switch {t : Int} {d : Dir} :
    s.stopKind p t d = .switch ↔ t = 0 ∧ d = .inward ∨ t = s.openCount p ∧ d = .outward := by
  cases d <;> simp [State.stopKind]

theorem fastPermitted_iff (h : (s.panel p).certain = true) : s.fastPermitted p = true ↔ s.layout.listSource ≠ 1 ∧
    |s.list| ≤ (s.params.tuning.listWarning : Int) ∧ s.cards[cardOf p] = .normal ∧ (s.panel p).chopMark = false := by
  have : |s.list| ≤ (s.params.tuning.listWarning : Int) ↔ s.list.natAbs ≤ s.params.tuning.listWarning := by
    rw [Int.abs_eq_natAbs]; omega
  rw [this]
  simp [State.fastPermitted, State.fastBar, State.noListSource, h]
  tauto

/-- Settles O56: the plan's fields, for a panel whose position is uncertain and for one whose position is certain. -/
theorem plansAreCompensated : Obligations.PlansAreCompensated := by
  intro s p t
  dsimp only
  have hth := planFor_theta s p t
  have hd := planFor_dEff s p t
  have ha := planFor_aEff s p t
  refine ⟨fun h => ?_, fun h => ⟨fun hdown => ?_, fun hup => ?_⟩, ⟨_, ?_, ?_, hd⟩, ⟨_, ?_, ?_, ha⟩, fun h0 => ?_,
    fun h => planFor_of_uncertain h t, fun h => ?_⟩
  · rw [hth, theta_of_noList h]
  · rw [hth, theta_of_downhill h (downhill_iff.2 hdown), Int.abs_eq_natAbs]
  · rw [hth, theta_of_uphill fun hd => hup (downhill_iff.1 hd)]
  · exact (roundedUp _ 40 (by decide)).1
  · exact (roundedUp _ 40 (by decide)).2
  · exact (roundedUp _ 20 (by decide)).1
  · exact (roundedUp _ 20 (by decide)).2
  · have hd0 : (s.planFor p t).dEff = 0 := by rw [hd, h0]; simp [effSlowDown]
    have ha0 : (s.planFor p t).aEff = 0 := by rw [ha, hd0]; simp
    refine ⟨hd0, ha0, ?_⟩
    cases h : (s.panel p).certain with
    | false =>
      obtain ⟨-, -, -, hs, -, -, hf⟩ := planFor_of_uncertain h t
      exact ⟨hs, hf⟩
    | true =>
      obtain ⟨hs, hf⟩ := planFor_speed h t
      have slow := (slowThroughout_iff (dist := (t - (s.panel p).count).natAbs)).2 (.inr hd0)
      rw [slow] at hs hf
      exact ⟨hs, hf⟩
  · obtain ⟨htgt, hdir, hstop⟩ := planFor_target h t
    obtain ⟨hslow, hfast⟩ := planFor_speed h t
    have dist (x : Nat) : |t - (s.panel p).count| ≤ x ↔ (t - (s.panel p).count).natAbs ≤ x := by
      rw [Int.abs_eq_natAbs]; omega
    have positive : 0 < s.params.tuning.slowDown → (s.planFor p t).dEff ≠ 0 := by
      intro h; rw [hd, effSlowDown]; omega
    have positive' : (s.planFor p t).dEff ≠ 0 → 0 < s.params.tuning.slowDown := by
      intro h
      rcases Nat.eq_zero_or_pos s.params.tuning.slowDown with h0 | h0
      · rw [hd, h0] at h; simp [effSlowDown] at h
      · exact h0
    refine ⟨htgt, fun hl => by rw [hdir, if_pos hl], fun hl => by rw [hdir, if_neg (by omega)], ?_, ?_, fun hl hp => ?_,
      fun hl => ?_, planFor_of_switch h t, fun hk => ?_⟩
    · rw [hstop, stopKind_switch]
    · have far : ((s.planFor p t).dEff : Int) < |t - (s.panel p).count| ↔
          ¬ (t - (s.panel p).count).natAbs ≤ (s.planFor p t).dEff := by rw [← dist]; omega
      rw [hfast, Bool.and_eq_true, Bool.not_eq_true', ← Bool.not_eq_true, slowThroughout_iff, fastPermitted_iff h, far]
      tauto
    · rw [hslow, if_neg]
      rw [slowThroughout_iff, ← dist]
      have := positive hp
      omega
    · have slow := (slowThroughout_iff (dEff := (s.planFor p t).dEff)).2 (.inl ((dist _).1 hl))
      rw [hslow, hfast, slow]
      exact ⟨rfl, rfl⟩
    · obtain ⟨ho, hs⟩ := planFor_of_count h t hk
      refine ⟨ho, fun hl => ?_, fun hl => ?_⟩
      · rw [hs, if_pos ((dist _).1 hl)]
      · rw [hs, if_neg (by rw [← dist]; omega)]

end Sys2Proof.Machine
end

section
/-! The lookups: the codes of the reply pages, and the eight owners that change no record (R182 to R186). -/

namespace Sys2Proof.Machine

variable {s t : State} {p q : PanelNo} {n m : StationNo}

/-! ### Codes as places in their lists -/

theorem idxOf_seat (x : Seat) : [Seat.seated, .lifted, .between].idxOf x = x.code := by cases x <;> rfl

theorem idxOf_card (x : CardState) : [CardState.normal, .hot, .overtemp].idxOf x = x.code := by cases x <;> rfl

theorem idxOf_cleatState (x : CleatState) : [CleatState.engaged, .released, .unknown, .jammed, .bypassed].idxOf x = x.code := by
  cases x <;> rfl

theorem idxOf_activity (x : Activity) : [Activity.idle, .cleatMove 0 .release, .cleatMove 1 .release, .cleatMove 2 .release,
    .cleatMove 0 .engage, .cleatMove 1 .engage, .cleatMove 2 .engage, .lift, .lower, .stowMove .lock, .stowMove .unlock,
    .travel .outward .fast, .travel .outward .slow, .travel .inward .fast, .travel .inward .slow, .braking, .jog].idxOf x =
      x.code := by
  cases x with
  | cleatMove g d => revert g; cases d <;> decide
  | stowMove d => cases d <;> rfl
  | travel d v => cases d <;> cases v <;> rfl
  | _ => rfl

theorem idxOf_coil (c : Coil) : allCoils.idxOf c + 1 = coilCode c := by
  cases c with
  | cleatRel g => revert g; decide
  | cleatEng g => revert g; decide
  | _ => rfl

theorem idxOf_fault (k : PanelFault) : allPanelFaults.idxOf k + 1 = k.code := by cases k <;> rfl

theorem idxOf_step (k : StepKind) : [StepKind.uncleat 0, .uncleat 1, .uncleat 2, .cleat 0, .cleat 1, .cleat 2, .lift, .lower,
    .lockStow, .unlockStow, .travel].idxOf k + 1 = k.code := by
  cases k with
  | uncleat g => revert g; decide
  | cleat g => revert g; decide
  | _ => rfl

theorem idxOf_kind (k : OrderKind) :
    [OrderKind.openHatch, .close, .moveTo, .home, .secure, .release].idxOf k + 1 = k.code := by cases k <;> rfl

theorem bit_class (c : OrderClass) : bit (c == .rain) 8 = 8 * c.code := by cases c <;> rfl

theorem idxOf_pause (r : PauseReason) :
    [PauseReason.request, .estop, .supply, .authority, .attendance, .service, .packLoss].idxOf r + 1 = r.code := by
  cases r <;> rfl

theorem idxOf_cancel (r : CancelReason) : [CancelReason.request, .superseded, .predecessor].idxOf r + 1 = r.code := by
  cases r <;> rfl

theorem idxOf_phase (x : Option Phase) :
    [none, some Phase.flowWait, some .interlockWait, some .running, some .braking].idxOf x = phaseCode x := by
  rcases x with _ | x
  · rfl
  · cases x <;> rfl

theorem idxOf_pausedFrom (x : Option PausedFrom) :
    [none, some PausedFrom.pending, some .active, some .atHold].idxOf x = pausedFromCode x := by
  rcases x with _ | x
  · rfl
  · cases x <;> rfl

theorem idxOf_zoneKind (k : ZoneKind) : [ZoneKind.spout, .grab, .personnel, .other].idxOf k = k.code := by cases k <;> rfl

theorem idxOf_side (x : Side) : [Side.port, .starboard, .both].idxOf x = x.code := by cases x <;> rfl

theorem idxOf_stationKind (k : StationKind) :
    [StationKind.bridge, .cargoControl, .pendant, .shore, .inclinometer].idxOf k = k.code := by cases k <;> rfl

/-! ### Sets of kinds as sums of bits -/

theorem two_mul_bit (b : Bool) (w : Nat) : 2 * bit b w = bit b (2 * w) := by cases b <;> simp [bit]

theorem sum_bits_eq_bitmap {α : Type} [BEq α] [LawfulBEq α] (xs : List α) : ∀ all : List α, all.Nodup →
    (all.map fun k => bit (xs.contains k) (2 ^ all.idxOf k)).sum = bitmap all xs
  | [], _ => rfl
  | k :: all, h => by
    obtain ⟨hk, hall⟩ := List.nodup_cons.1 h
    have rest : (all.map fun j => bit (xs.contains j) (2 ^ (k :: all).idxOf j)) =
        all.map fun j => 2 * bit (xs.contains j) (2 ^ all.idxOf j) := by
      refine List.map_congr_left fun j hj => ?_
      have hne : k ≠ j := fun e => hk (e ▸ hj)
      rw [List.idxOf_cons_ne _ hne, two_mul_bit, Nat.pow_succ, Nat.mul_comm]
    rw [List.map_cons, List.sum_cons, rest, List.sum_map_mul_left, sum_bits_eq_bitmap xs all hall, List.idxOf_cons_self]
    rfl

theorem signedBytes2_eq (i : Int) :
    signedBytes2 i = [(BitVec.ofInt 16 i).extractLsb' 0 8, (BitVec.ofInt 16 i).extractLsb' 8 8] := by
  rw [signedBytes2, bytes2_eq_extractLsb', BitVec.ofNat_toNat, BitVec.setWidth_eq]

theorem bitmap_unitFaults (s : State) : bitmap allUnitFaults s.unitFaults =
    bit s.supplyLow 1 + bit s.packA.anyCause 2 + bit s.packB.anyCause 4 := by
  have contains (k : UnitFault) : s.unitFaults.contains k = s.hasUnitFault k := by
    cases k <;> simp [State.unitFaults, allUnitFaults]
  simp only [allUnitFaults, bitmap, contains, Nat.mul_add, two_mul_bit, Nat.reduceMul, State.hasUnitFault]
  omega

theorem bitmap_unitWarnings (s : State) : bitmap allUnitWarnings s.unitWarnings =
    bit s.packA.hot 1 + bit s.packB.hot 2 + bit s.listHigh 4 + bit s.listStale 8 + bit s.windSet 16 + bit s.anyZoneStale 32 +
      bit s.frameErrorsWarned 64 + bit s.configAbsent 128 := by
  have contains (k : UnitWarning) : s.unitWarnings.contains k = s.hasUnitWarning k := by
    cases k <;> simp [State.unitWarnings, allUnitWarnings]
  simp only [allUnitWarnings, bitmap, contains, Nat.mul_add, two_mul_bit, Nat.reduceMul, State.hasUnitWarning]
  omega

/-! ### The latest finished order of a panel (R65) -/

theorem laterThan_irrefl (o : Order) : ¬ o.laterThan o = true := by
  unfold Order.laterThan
  split <;> simp_all

theorem laterThan_trans {a b c : Order} (hab : a.laterThan b = true) (hbc : b.laterThan c = true) : a.laterThan c = true := by
  unfold Order.laterThan at *
  split at hab
  · rename_i x y hx hy
    split at hbc
    · rename_i y' z hy' hz
      rw [hy] at hy'
      cases hy'
      rw [hx, hz]
      simp only [Bool.or_eq_true, Bool.and_eq_true, decide_eq_true_eq, beq_iff_eq] at *
      omega
    · cases hbc
  · cases hab

theorem not_laterThan_of_unfinished {a b : Order} (h : a.finishedAt = none) : ¬ a.laterThan b = true := by
  unfold Order.laterThan
  rw [h]
  simp

/-- One slot of the search for the latest finished order of a panel. -/
def State.laterOf (s : State) (p : PanelNo) (best : Option Order) (i : SlotNo) : Option Order :=
  match s.slot i with
  | some o =>
    if o.panel = p ∧ o.finishedAt.isSome then
      match best with
      | some b => if o.laterThan b then some o else some b
      | none => some o
    else best
  | none => best

/-- `best` is the latest of the finished orders of the panel in the slots of `is`, if there is one. -/
def State.Latest (s : State) (p : PanelNo) (is : List SlotNo) : Option Order → Prop
  | none => ∀ i ∈ is, ∀ o, s.slot i = some o → o.panel = p → o.finishedAt = none
  | some b => (∃ i ∈ is, s.slot i = some b ∧ b.panel = p ∧ b.finishedAt.isSome = true) ∧
      ∀ i ∈ is, ∀ o, s.slot i = some o → o.panel = p → ¬ o.laterThan b = true

theorem latest_laterOf {is : List SlotNo} {best : Option Order} {i : SlotNo} (h : s.Latest p is best) :
    s.Latest p (is ++ [i]) (s.laterOf p best i) := by
  have split {P : SlotNo → Prop} (hi : ∀ j ∈ is, P j) (hl : P i) : ∀ j ∈ is ++ [i], P j := by
    simpa [or_imp, forall_and] using ⟨hi, hl⟩
  have kept (hl : ∀ o, s.slot i = some o → o.panel = p → o.finishedAt = none) : s.Latest p (is ++ [i]) best := by
    cases best with
    | none => exact split h hl
    | some b =>
      obtain ⟨⟨j, hj, hb⟩, hmax⟩ := h
      exact ⟨⟨j, List.mem_append_left _ hj, hb⟩, split hmax fun o ho hp => not_laterThan_of_unfinished (hl o ho hp)⟩
  unfold State.laterOf
  cases ho : s.slot i with
  | none => exact kept fun o h => by rw [ho] at h; cases h
  | some o =>
    have same {P : Order → Prop} (hP : P o) : ∀ o', s.slot i = some o' → P o' := fun o' h => by
      rw [ho] at h; cases h; exact hP
    by_cases hf : o.panel = p ∧ o.finishedAt.isSome
    · have here : ∃ j ∈ is ++ [i], s.slot j = some o ∧ o.panel = p ∧ o.finishedAt.isSome = true :=
        ⟨i, by simp, ho, hf.1, hf.2⟩
      simp only [if_pos hf]
      cases best with
      | none =>
        exact ⟨here, split (fun j hj q hq hp => not_laterThan_of_unfinished (h j hj q hq hp))
          (same fun _ => laterThan_irrefl o)⟩
      | some b =>
        obtain ⟨⟨j, hj, hb⟩, hmax⟩ := h
        dsimp only
        split
        · rename_i hlater
          exact ⟨here, split (fun j hj q hq hp hqo => hmax j hj q hq hp (laterThan_trans hqo hlater))
            (same fun _ => laterThan_irrefl o)⟩
        · rename_i hnot
          exact ⟨⟨j, List.mem_append_left _ hj, hb⟩, split hmax (same fun _ => hnot)⟩
    · simp only [if_neg hf]
      exact kept (same fun hp => by simpa [hp] using hf)

theorem latest_latestFinished (s : State) (p : PanelNo) : s.Latest p allSlots (s.latestFinished p) := by
  have fold : ∀ (js is : List SlotNo) (best : Option Order), s.Latest p is best →
      s.Latest p (is ++ js) (js.foldl (s.laterOf p) best) := by
    intro js
    induction js with
    | nil => intro is best h; simpa using h
    | cons j js ih =>
      intro is best h
      have := ih (is ++ [j]) _ (latest_laterOf h)
      simpa using this
  exact fold allSlots [] none fun i hi => by cases hi

/-! ### The owners -/

theorem exec_lookup {owner : State → Answer} {bytes : List Byte} {tag : Byte} (h : s.ready n)
    (ha : owner (s.taken n) = answerData (s.taken n) bytes) : request n tag owner s = .next (s.answered n tag .data bytes) :=
  request_eq_replied h ha

theorem ownerReadPanel_of {a page : Byte} (ha : panelArg a = some p) (hc : s.configured p = true) (hp : page.toNat ≤ 2) :
    ownerReadPanel a page s = answerData s (s.panelPage p page.toNat) := by
  have : ¬ page.toNat > 2 := by omega
  simp [ownerReadPanel, ha, hc, this]

theorem ownerReadCleat_of {a c : Byte} {k : CleatNo} (ha : panelArg a = some p) (hk : cleatArg c = some k)
    (hc : s.cleatConfigured p k = true) : ownerReadCleat a c s = answerData s (s.cleatBytes p k) := by
  have : s.configured p = true := (Bool.and_eq_true _ _ ▸ hc : _ ∧ _).1
  simp [ownerReadCleat, ha, hk, hc, this]

theorem ownerReadOrder_of {id page : Byte} {i : SlotNo} {o : Order} (ho : s.orderNamed id = some (i, o))
    (hp : page.toNat ≤ 1) : ownerReadOrder id page s = answerData s (s.orderPage o page.toNat) := by
  have : ¬ page.toNat > 1 := by omega
  simp [ownerReadOrder, ho, this]

theorem ownerReadZone_of_claimed {a page : Byte} {z : ClaimNo} (ha : zoneArg a = some (.claimed z)) (hp : page.toNat ≤ 1) :
    ownerReadZone a page s =
      answerData s (match s.claim z with | some c => s.claimPage c page.toNat | none => []) := by
  have : ¬ page.toNat > 1 := by omega
  simp only [ownerReadZone, ha, this, if_false]
  cases s.claim z <;> rfl

theorem ownerReadZone_of_line {a page : Byte} {h : HatchNo} (ha : zoneArg a = some (.line h)) (hp : page.toNat ≤ 1) :
    ownerReadZone a page s = answerData s (s.linePage h page.toNat) := by
  have : ¬ page.toNat > 1 := by omega
  simp only [ownerReadZone, ha, this, if_false]

end Sys2Proof.Machine
end

section
/-! The pages of the lookups, byte by byte (O13). -/

namespace Sys2Proof.Machine

variable {s t : State} {p q : PanelNo} {n m : StationNo} {tag : Byte}

/-! ### The unit, the packs, the attitude and the cards -/

theorem exec_readUnit (h : s.ready n) {page : Byte} (hp : page.toNat ≤ 3) :
    exec (.readUnit n tag page) s = .next (s.answered n tag .data (s.unitPage page.toNat)) := by
  have : ¬ page.toNat > 3 := by omega
  exact exec_lookup h (if_neg this)

theorem unitPage_zero (s : State) : s.unitPage 0 =
    [byteOf s.unit.code,
     byteOf (bit s.loopOpen 1 + bit s.supplyLow 2 + bit s.windSet 4 + bit (!s.fresh) 8 + bit s.locked 16 +
       bit s.servicePermitted 32),
     byteOf (bit s.supplyLow 1 + bit s.packA.anyCause 2 + bit s.packB.anyCause 4),
     byteOf (bit s.packA.hot 1 + bit s.packB.hot 2 + bit s.listHigh 4 + bit s.listStale 8 + bit s.windSet 16 +
      bit s.anyZoneStale 32 + bit s.frameErrorsWarned 64 + bit s.configAbsent 128)] ++ bytes2 s.selectorBits := by
  rw [State.unitPage, bitmap_unitFaults, bitmap_unitWarnings]

theorem cardCodes_sum (s : State) :
    (allCards.map fun c => 4 ^ c.val * [CardState.normal, .hot, .overtemp].idxOf s.cards[c]).sum =
      s.cards[(0 : CardNo)].code + 4 * s.cards[(1 : CardNo)].code + 16 * s.cards[(2 : CardNo)].code := by
  simp only [idxOf_card]
  simp [allCards]
  omega

/-! ### A panel and a cleat -/

theorem exec_readPanel (h : s.ready n) {a page : Byte} (ha : panelArg a = some p) (hc : s.configured p = true)
    (hp : page.toNat ≤ 2) : exec (.readPanel n tag a page) s = .next (s.answered n tag .data (s.panelPage p page.toNat)) :=
  exec_lookup h (ownerReadPanel_of (s := s.taken n) ha hc hp)

theorem coilByte_eq (c : Option Coil) :
    coilByte c = BitVec.ofNat 8 (match c with | some c => allCoils.idxOf c + 1 | none => 0) := by
  cases c with
  | none => rfl
  | some c => dsimp only; rw [idxOf_coil]; rfl

theorem exec_readCleat (h : s.ready n) {a c : Byte} {k : CleatNo} (ha : panelArg a = some p) (hk : cleatArg c = some k)
    (hc : s.cleatConfigured p k = true) :
    exec (.readCleat n tag a c) s = .next (s.answered n tag .data (s.cleatBytes p k)) :=
  exec_lookup h (ownerReadCleat_of (s := s.taken n) ha hk hc)

/-! ### Orders -/

theorem exec_readOrder (h : s.ready n) {id page : Byte} {i : SlotNo} {o : Order} (ho : s.orderNamed id = some (i, o))
    (hp : page.toNat ≤ 1) : exec (.readOrder n tag id page) s = .next (s.answered n tag .data (s.orderPage o page.toNat)) :=
  exec_lookup h (ownerReadOrder_of (s := s.taken n) ho hp)

/-- The state reason as the places of the reasons in their lists (R185). -/
def OrderState.reasonPlace : OrderState → Nat
  | .active | .atHold | .done => 0
  | .pending => 1
  | .paused r => [PauseReason.request, .estop, .supply, .authority, .attendance, .service, .packLoss].idxOf r + 1
  | .cancelled r => [CancelReason.request, .superseded, .predecessor].idxOf r + 1
  | .failed (.fault k) => allPanelFaults.idxOf k + 1
  | .failed .sequence => 15
  | .failed .flowImpossible => 16
  | .failed .noArbitration => 17

theorem reasonPlace_eq (x : OrderState) : x.reasonPlace = x.reasonCode := by
  cases x with
  | paused r => exact idxOf_pause r
  | cancelled r => exact idxOf_cancel r
  | failed r =>
    cases r with
    | fault k => exact idxOf_fault k
    | _ => rfl
  | _ => rfl

/-- The bytes that FIND_ORDER gives for a panel (R65). -/
def State.foundBytes (s : State) (p : PanelNo) : List Byte :=
  match (s.panel p).live with
  | some id => [byteOf id, 1]
  | none => match s.latestFinished p with | some o => [byteOf o.id, 2] | none => [0, 0]

theorem exec_findOrder (h : s.ready n) {a : Byte} (ha : panelArg a = some p) :
    exec (.findOrder n tag a) s = .next (s.answered n tag .data (s.foundBytes p)) := by
  have answer : ownerFindOrder a (s.taken n) = answerData (s.taken n) ((s.taken n).foundBytes p) := by
    cases hl : ((s.taken n).panel p).live with
    | some id => simp [ownerFindOrder, State.foundBytes, ha, hl]
    | none => cases hf : (s.taken n).latestFinished p <;> simp [ownerFindOrder, State.foundBytes, ha, hl, hf]
  exact exec_lookup h answer

theorem foundBytes_of_live {id : Nat} (h : (s.panel p).live = some id) : s.foundBytes p = [byteOf id, 1] := by
  rw [State.foundBytes, h]

theorem foundBytes_of_idle (h : (s.panel p).live = none) :
    s.foundBytes p = match s.latestFinished p with | some o => [byteOf o.id, 2] | none => [0, 0] := by
  unfold State.foundBytes
  rw [h]

theorem foundBytes_of_unfinished (hl : (s.panel p).live = none)
    (hf : ∀ i o, s.slot i = some o → o.panel = p → o.finishedAt = none) : s.foundBytes p = [0, 0] := by
  have latest := latest_latestFinished s p
  rw [foundBytes_of_idle hl]
  cases h : s.latestFinished p with
  | none => rfl
  | some b =>
    rw [h] at latest
    obtain ⟨⟨i, -, hi, hp, hfin⟩, -⟩ := latest
    rw [hf i b hi hp] at hfin
    cases hfin

theorem foundBytes_of_finished (hl : (s.panel p).live = none)
    (hf : ∃ i o, s.slot i = some o ∧ o.panel = p ∧ o.finishedAt.isSome = true) :
    ∃ i o, s.slot i = some o ∧ o.panel = p ∧ o.finishedAt.isSome = true ∧ s.foundBytes p = [byteOf o.id, 2] ∧
      ∀ j q, s.slot j = some q → q.panel = p → ¬ q.laterThan o = true := by
  have latest := latest_latestFinished s p
  rw [foundBytes_of_idle hl]
  cases h : s.latestFinished p with
  | none =>
    rw [h] at latest
    obtain ⟨i, o, ho, hp, hfin⟩ := hf
    rw [latest i (mem_allSlots i) o ho hp] at hfin
    cases hfin
  | some b =>
    rw [h] at latest
    obtain ⟨⟨i, -, hi, hp, hfin⟩, hmax⟩ := latest
    exact ⟨i, b, hi, hp, hfin, rfl, fun j q hq => hmax j (mem_allSlots j) q hq⟩

/-! ### Zones, parameters and stations -/

theorem exec_readZone_claimed (h : s.ready n) {a page : Byte} {z : ClaimNo} (ha : zoneArg a = some (.claimed z))
    (hp : page.toNat ≤ 1) : exec (.readZone n tag a page) s =
      .next (s.answered n tag .data (match s.claim z with | some c => s.claimPage c page.toNat | none => [])) :=
  exec_lookup h (ownerReadZone_of_claimed (s := s.taken n) ha hp)

theorem exec_readZone_line (h : s.ready n) {a page : Byte} {y : HatchNo} (ha : zoneArg a = some (.line y))
    (hp : page.toNat ≤ 1) : exec (.readZone n tag a page) s = .next (s.answered n tag .data (s.linePage y page.toNat)) :=
  exec_lookup h (ownerReadZone_of_line (s := s.taken n) ha hp)

theorem linePage_eq (s : State) (y : HatchNo) {page : Byte} (hp : page.toNat ≤ 1) : s.linePage y page.toNat =
    if page = 0 ∧ s.lineLive[y] = true then [1, 0, 0, byteOf (y.val + 1), 2, 0] else [] := by
  obtain rfl | rfl : page = 0 ∨ page = 1 := by
    have : page = BitVec.ofNat 8 page.toNat := by simp
    rcases Nat.le_one_iff_eq_zero_or_eq_one.1 hp with h | h
    · exact .inl (by rw [this, h]; rfl)
    · exact .inr (by rw [this, h]; rfl)
  · simp [State.linePage]
  · simp [State.linePage]

theorem exec_readParam (h : s.ready n) {number : Half} {i : ParamId} (hi : i.number = number.toNat) :
    exec (.readParam n tag number) s = .next (s.answered n tag .data (bytes2 i.number ++ bytes2 (s.params.get i) ++
      [byteOf (bit i.isLayout 1 + bit (i.isLayout && s.locked) 2)])) := by
  refine exec_lookup h ?_
  unfold ownerReadParam
  rw [paramOfNumber_iff.2 hi, hi]
  rfl

theorem stationBytes_taken (s : State) (n m : StationNo) : (s.taken n).stationBytes m = s.stationBytes m := by
  have : (s.taken n).station m = s.station m ∨ (s.taken n).station m = { s.station m with occupied := true } := by
    unfold State.taken
    rw [modStation_station]
    split
    · rename_i e; subst e; exact .inr rfl
    · exact .inl rfl
  rcases this with h | h
  all_goals
    unfold State.stationBytes
    rw [h]
    rfl

theorem exec_readStation (h : s.ready n) {a : Byte} (ha : stationArg a = some m) :
    exec (.readStation n tag a) s = .next (s.answered n tag .data (s.stationBytes m)) := by
  rw [← stationBytes_taken s n m]
  refine exec_lookup h ?_
  unfold ownerReadStation
  rw [ha]

/-- Settles O13: each page is the owner's, its codes read as places in their lists. -/
theorem lookupsAnswerAndChangeNothing : Obligations.LookupsAnswerAndChangeNothing := by
  intro s n tag h _
  dsimp only
  refine ⟨fun page => ⟨?_, ?_, ?_, ?_⟩, fun a page p ha hc => ⟨?_, ?_, ?_⟩, fun a c p k ha hk hc => ?_,
    fun id page i o ho => ⟨?_, ?_⟩, fun a p ha => ⟨_, exec_findOrder h ha, fun id => foundBytes_of_live,
      foundBytes_of_unfinished, foundBytes_of_finished⟩, fun a page z ha hp => ⟨fun hz => ?_, fun c hz => ⟨?_, ?_⟩⟩,
    fun a page y ha hp => ?_, fun number i hi => ?_, fun a m ha => ?_⟩
  · rintro rfl
    rw [exec_readUnit h (by decide), show (0 : Byte).toNat = 0 from rfl, unitPage_zero]
    rfl
  · rintro rfl
    exact exec_readUnit h (by decide)
  · rintro rfl
    exact exec_readUnit h (by decide)
  · rintro rfl
    rw [exec_readUnit h (by decide), cardCodes_sum, ← signedBytes2_eq, ← signedBytes2_eq]
    rfl
  · rintro rfl
    rw [exec_readPanel h ha hc (by decide), idxOf_seat, idxOf_activity, statusCode_eq, ← signedBytes2_eq]
    rfl
  · rintro rfl
    have faults := sum_bits_eq_bitmap (s.panel p).faults allPanelFaults (by decide)
    have warnings := sum_bits_eq_bitmap (s.panel p).warnings allPanelWarnings (by decide)
    have short := coilByte_eq (s.panel p).shortCoil
    have opened := coilByte_eq (s.panel p).openCoil
    rw [exec_readPanel h ha hc (by decide)]
    change Host.Outcome.next (s.answered n tag .data (bytes2 (bitmap allPanelFaults (s.panel p).faults) ++
      bytes2 (bitmap allPanelWarnings (s.panel p).warnings) ++
        [coilByte (s.panel p).shortCoil, coilByte (s.panel p).openCoil])) = _
    rw [← faults, ← warnings, short, opened]
    rfl
  · rintro rfl
    rw [exec_readPanel h ha hc (by decide), ← signedBytes2_eq]
    change Host.Outcome.next (s.answered n tag .data ((s.flow p).bytes ++ _ ++ _)) = _
    cases s.flow p <;> rfl
  · rw [exec_readCleat h ha hk hc, idxOf_cleatState]
    rfl
  · rintro rfl
    rw [exec_readOrder h ho (by decide), idxOf_kind, idxOf_phase, idxOf_pausedFrom]
    change Host.Outcome.next (s.answered n tag .data [_, _, _, byteOf o.state.reasonCode, _, _]) = _
    rw [← reasonPlace_eq]
    rw [← bit_class]
    rfl
  · rintro rfl
    rw [exec_readOrder h ho (by decide)]
    change Host.Outcome.next (s.answered n tag .data (_ ++ [byteOf (match o.hold with | some k => k.code | none => 0), _] ++
      _)) = _
    cases o.hold with
    | none => rfl
    | some k => dsimp only; rw [← idxOf_step]; rfl
  · rw [exec_readZone_claimed h ha hp, hz]
  · rintro rfl
    rw [exec_readZone_claimed h ha hp, hz, idxOf_zoneKind, idxOf_side]
    change Host.Outcome.next (s.answered n tag .data [byteOf (if c.stale then 2 else 1), _, _, _, _, _]) = _
    cases c.stale <;> rfl
  · rintro rfl
    rw [exec_readZone_claimed h ha hp, hz]
    rfl
  · rw [exec_readZone_line h ha hp, linePage_eq s y hp]
    rfl
  · rw [exec_readParam h hi]
    rfl
  · rw [exec_readStation h ha]
    unfold State.stationBytes
    cases s.stationKind m with
    | none => rfl
    | some k => dsimp only; rw [idxOf_stationKind]; rfl

end Sys2Proof.Machine
end

section
/-! Requests on one order, ADOPT and RETIRE, the attendance watches, and the return of the output enable. -/

namespace Sys2Proof.Machine

variable {s t : State} {p q : PanelNo} {n m : StationNo} {tag : Byte}

/-! ### The checks of R47, passed -/

theorem onOrder_of {id : Byte} {may : Order → Bool} {stateOk : OrderState → Bool} {w : ReplyCode}
    {act : SlotNo → Order → Answer} {i : SlotNo} {o : Order} (ho : s.orderNamed id = some (i, o)) (hm : may o = true)
    (hs : stateOk o.state = true) : s.onOrder true id may stateOk w act = act i o := by
  simp [State.onOrder, ho, hm, hs]

theorem isKind_mem {ks : List StationKind} : s.isKind n ks = true ↔ ∃ k ∈ ks, s.stationKind n = some k := by
  unfold State.isKind
  cases s.stationKind n with
  | none => simp
  | some k => simp

theorem taken_station (s : State) (n m : StationNo) :
    (s.taken n).station m = if n = m then { s.station n with occupied := true } else s.station m :=
  modStation_station s n m fun x => { x with occupied := true }

theorem replied_station (s : State) (n m : StationNo) (tag : Byte) (c : ReplyCode) (bs : List Byte) :
    (s.replied n tag c bs).station m = if n = m then { s.station n with lastReply := c.code } else s.station m :=
  queueReply_station s (replyTo n tag c bs) m

/-! ### The watches are counted again -/

/-- A station's record after its watch has been counted again, `att` being whether it is attended (R145). -/
def Station.recounted (x : Station) (att : Bool) (now upper : Nat) : Station :=
  if att then if x.watching then x else { x with watching := true, reference := now, deadline := some (now + upper) }
  else if x.watching then { x with watching := false, deadline := none } else x

theorem Station.recounted_twice (x : Station) (att : Bool) (now upper : Nat) :
    (x.recounted att now upper).recounted att now upper = x.recounted att now upper := by
  cases att <;> cases h : x.watching <;> simp [Station.recounted, h]

theorem recount_station (s : State) (n m : StationNo) : (s.recount n).station m =
    if n = m then (s.station n).recounted (s.attended n) s.now s.params.tuning.attendanceUpper else s.station m := by
  by_cases e : n = m
  · subst e
    rw [if_pos rfl]
    unfold State.recount Station.recounted
    dsimp only
    repeat' split
    all_goals simp
  · rw [recount_station_ne s e, if_neg e]

theorem recount_attended (s : State) (n m : StationNo) : (s.recount n).attended m = s.attended m := by
  have := recount_attends s n m
  rw [attends_iff, attends_iff] at this
  exact Bool.eq_iff_iff.2 this

theorem recount_clock (s : State) (n : StationNo) : (s.recount n).now = s.now ∧ (s.recount n).params = s.params := by
  obtain ⟨x, e⟩ := recount_eq s n
  rw [e]
  exact ⟨rfl, rfl⟩

/-- The stations after an order has changed: its issuers, the former and the new, are counted again. -/
theorem updateOrder_station {i : SlotNo} {o : Order} (ho : s.slot i = some o) (f : Order → Order) (n : StationNo) :
    (s.updateOrder i f).station n = if n = o.issuer ∨ n = (f o).issuer then
      (s.station n).recounted ((s.updateOrder i f).attended n) s.now s.params.tuning.attendanceUpper else s.station n := by
  have attended : (s.updateOrder i f).attended n = (s.setSlot i (some (f o))).attended n := by
    simp only [State.updateOrder, ho, recount_attended]
  rw [attended]
  simp only [State.updateOrder, ho]
  rw [recount_station, recount_station, recount_station, recount_attended, (recount_clock ..).1, (recount_clock ..).2]
  by_cases ha : o.issuer = n <;> by_cases hb : (f o).issuer = n
  · subst ha
    simp only [hb, if_true, true_or]
    exact Station.recounted_twice ..
  · have hb' : ¬ n = (f o).issuer := Ne.symm hb
    subst ha
    simp only [if_neg hb, if_true, true_or]
    rfl
  · have ha' : ¬ n = o.issuer := Ne.symm ha
    subst hb
    simp only [if_neg ha, if_true, or_true]
    rfl
  · have ha' : ¬ n = o.issuer := Ne.symm ha
    have hb' : ¬ n = (f o).issuer := Ne.symm hb
    simp only [if_neg ha, if_neg hb, ha', hb', or_self, if_false]
    rfl

theorem updateOrder_panels {i : SlotNo} {o : Order} (ho : s.slot i = some o) (f : Order → Order) :
    (s.updateOrder i f).panels = s.panels ∧ (s.updateOrder i f).packA = s.packA ∧ (s.updateOrder i f).packB = s.packB := by
  rw [updateOrder_eq ho f]
  exact ⟨rfl, rfl, rfl⟩

theorem updateOrder_slot_self {i : SlotNo} {o : Order} (ho : s.slot i = some o) (f : Order → Order) :
    (s.updateOrder i f).slot i = some (f o) := by
  rw [updateOrder_slot, if_pos rfl, ho]
  rfl

theorem updateOrder_slot_ne {i j : SlotNo} (h : j ≠ i) (f : Order → Order) : (s.updateOrder i f).slot j = s.slot j := by
  rw [updateOrder_slot, if_neg (Ne.symm h)]

/-! ### KEEPALIVE -/

theorem ownerKeepalive_of (h : s.stationKind n = some .pendant) :
    ownerKeepalive n s = accept (s.keep n) false [byteOf (s.keepOutcome n).code] := by
  have : s.isKind n [.pendant] = true := isKind_mem.2 ⟨_, List.mem_singleton.2 rfl, h⟩
  simp [ownerKeepalive, this]

theorem keepOutcome_idle (h : (s.station n).watching = false) : s.keepOutcome n = .idle := by
  simp [State.keepOutcome, h]

theorem keepOutcome_taken (h : (s.station n).watching = true)
    (hl : s.params.tuning.attendanceLower ≤ s.now - (s.station n).reference) : s.keepOutcome n = .taken := by
  have : ¬ s.now - (s.station n).reference < s.params.tuning.attendanceLower := by omega
  simp [State.keepOutcome, h, this]

theorem keepOutcome_early (h : (s.station n).watching = true)
    (hl : s.now - (s.station n).reference < s.params.tuning.attendanceLower) : s.keepOutcome n = .early := by
  simp [State.keepOutcome, h, hl]

theorem keepOutcome_of_taken (s : State) (n : StationNo) : (s.taken n).keepOutcome n = s.keepOutcome n := by
  unfold State.keepOutcome
  dsimp only
  rw [taken_station, if_pos rfl]
  rfl

/-- Settles O28: the outcome of the KEEPALIVE, and the count of each issuer. -/
theorem keepaliveKeepsTheWatch : Obligations.KeepaliveKeepsTheWatch := by
  refine ⟨fun s n tag h hk => ⟨fun hw => ?_, fun hw hl => ?_⟩, fun s i o f ho => ?_⟩
  · refine request_eq_replied h ((ownerKeepalive_of (s := s.taken n) hk).trans ?_)
    rw [State.keep, keepOutcome_of_taken, keepOutcome_idle hw]
    rfl
  · refine request_eq_replied h ((ownerKeepalive_of (s := s.taken n) hk).trans ?_)
    rw [State.keep, keepOutcome_of_taken, keepOutcome_taken hw hl]
    rfl
  · have station := updateOrder_station ho f
    refine ⟨updateOrder_slot_self ho f, fun j hj => updateOrder_slot_ne hj f, (updateOrder_panels ho f).1, fun n => ⟨fun hn => ?_,
      fun ha hb => ?_⟩⟩
    · have at_n := station n
      rw [if_pos hn] at at_n
      simp only [attends_iff, Bool.not_eq_true]
      refine ⟨fun ha hw => ?_, fun ha hw => ?_, fun ha hw => ?_, fun ha hw => ?_⟩
      all_goals rw [at_n, ha]; simp [Station.recounted, hw]
    · rw [station n, if_neg (by simp [ha, hb])]

/-! ### ADOPT, RETIRE and the end of retention -/

theorem orderNamed_slot {id : Byte} {i : SlotNo} {o : Order} (h : s.orderNamed id = some (i, o)) : s.slot i = some o :=
  (orderNamed_some h).1

/-- An order that a pendant has, and that works, makes it attended. -/
theorem attended_of_slot {i : SlotNo} {o : Order} (hk : s.stationKind n = some .pendant) (ho : s.slot i = some o)
    (hn : o.issuer = n) (hw : o.state.working = true) : s.attended n = true := attends_iff.1 ⟨hk, i, o, ho, hn, hw⟩

theorem recounted_of_attended {x : Station} (now upper : Nat) : (x.recounted true now upper).watching = true ∧
    (x.watching = false → (x.recounted true now upper).reference = now ∧
      (x.recounted true now upper).deadline = some (now + upper)) ∧
    (x.watching = true → (x.recounted true now upper).reference = x.reference ∧
      (x.recounted true now upper).deadline = x.deadline) := by
  cases h : x.watching <;> simp [Station.recounted, h]

theorem recounted_of_unattended {x : Station} (h : x.watching = true) (now upper : Nat) :
    (x.recounted false now upper).watching = false ∧ (x.recounted false now upper).deadline = none := by
  simp [Station.recounted, h]

/-- Changing an order that then works, and whose issuer is then `n`, starts the watch of `n` or leaves it running. -/
theorem updateOrder_watched {i : SlotNo} {o : Order} (ho : s.slot i = some o) {f : Order → Order} (hn : (f o).issuer = n)
    (hw : (f o).state.working = true) : s.watched n (s.updateOrder i f) := by
  intro hk
  have kind : (s.updateOrder i f).stationKind n = some .pendant := by rw [updateOrder_eq ho f]; exact hk
  have att := attended_of_slot kind (updateOrder_slot_self ho f) hn hw
  rw [updateOrder_station ho f n, if_pos (.inr hn.symm), att]
  exact recounted_of_attended ..

/-- An issuer that leaves its only working order is watched no more. -/
theorem updateOrder_unwatched {i : SlotNo} {o : Order} (ho : s.slot i = some o) {f : Order → Order}
    (hf : (f o).issuer ≠ o.issuer ∨ (f o).state.working = false)
    (hj : ∀ j q, j ≠ i → s.slot j = some q → q.issuer = o.issuer → q.state.working = false)
    (hw : (s.station o.issuer).watching = true) : ((s.updateOrder i f).station o.issuer).watching = false ∧
      ((s.updateOrder i f).station o.issuer).deadline = none := by
  have unattended : (s.updateOrder i f).attended o.issuer = false := by
    rw [← Bool.not_eq_true, ← attends_iff]
    rintro ⟨-, j, q, hq, hi, hwk⟩
    by_cases e : j = i
    · subst e
      obtain rfl := Option.some.inj ((updateOrder_slot_self ho f).symm.trans hq)
      rcases hf with h | h
      · exact h hi
      · rw [h] at hwk; cases hwk
    · rw [updateOrder_slot_ne e] at hq
      rw [hj j q e hq hi] at hwk
      cases hwk
  rw [updateOrder_station ho f, if_pos (.inl rfl), unattended]
  exact recounted_of_unattended hw ..

/-- A request on an order that is carried out answers ACCEPTED with the order's state. -/
theorem request_acceptState {owner : State → Answer} {i : SlotNo} (h : s.ready n)
    (ha : owner (s.taken n) = acceptState t i) (tag : Byte) :
    request n tag owner s = .next (t.replied n tag .accepted [0, t.stateByte i]) := request_eq_replied h ha

theorem exec_adopt {id : Byte} {i : SlotNo} {o : Order} (h : s.ready n) (hu : s.unit.working = true)
    (ho : s.orderNamed id = some (i, o)) (ha : s.authority n (hatchOf o.panel) = true) (hl : o.state.live = true) :
    ∃ bs, exec (.adopt n tag id) s =
      .next (((s.taken n).updateOrder i fun o => { o with issuer := n }).replied n tag .accepted bs) := by
  have answer : ownerAdopt n id (s.taken n) =
      acceptState ((s.taken n).updateOrder i fun o => { o with issuer := n }) i := by
    unfold ownerAdopt
    rw [show (s.taken n).unit.working = true from hu]
    exact onOrder_of (s := s.taken n) ho ha hl
  exact ⟨_, request_acceptState h answer tag⟩

theorem watched_of_station {u t t' : State} (h : u.watched n t) (hk : u.stationKind n = s.stationKind n)
    (hc : u.now = s.now ∧ u.params = s.params)
    (hs : (u.station n).watching = (s.station n).watching ∧ (u.station n).reference = (s.station n).reference ∧
      (u.station n).deadline = (s.station n).deadline)
    (ht : (t'.station n).watching = (t.station n).watching ∧ (t'.station n).reference = (t.station n).reference ∧
      (t'.station n).deadline = (t.station n).deadline) : s.watched n t' := by
  unfold State.watched at h ⊢
  rw [hk, hc.1, hc.2, hs.1, hs.2.1, hs.2.2] at h
  rw [ht.1, ht.2.1, ht.2.2]
  exact h

theorem station_of_taken (s : State) (n m : StationNo) : ((s.taken n).station m).watching = (s.station m).watching ∧
    ((s.taken n).station m).reference = (s.station m).reference ∧
    ((s.taken n).station m).deadline = (s.station m).deadline := by
  rw [taken_station]
  split
  · rename_i e; subst e; exact ⟨rfl, rfl, rfl⟩
  · exact ⟨rfl, rfl, rfl⟩

theorem station_of_replied (s : State) (n m : StationNo) (tag : Byte) (c : ReplyCode) (bs : List Byte) :
    ((s.replied n tag c bs).station m).watching = (s.station m).watching ∧
    ((s.replied n tag c bs).station m).reference = (s.station m).reference ∧
    ((s.replied n tag c bs).station m).deadline = (s.station m).deadline := by
  rw [replied_station]
  split
  · rename_i e; subst e; exact ⟨rfl, rfl, rfl⟩
  · exact ⟨rfl, rfl, rfl⟩

/-- A watch as the request's reply leaves it, against the unit before the request. -/
theorem watched_of_replied {t : State} {c : ReplyCode} {bs : List Byte} (h : (s.taken n).watched m t) :
    s.watched m (t.replied n tag c bs) :=
  watched_of_station h rfl ⟨rfl, rfl⟩ (station_of_taken s n m) (station_of_replied t n m tag c bs)

theorem exec_retire {id : Byte} {i : SlotNo} {o : Order} (h : s.ready n) (ho : s.orderNamed id = some (i, o))
    (ha : o.issuer = n ∨ s.stationKind n = some .bridge) (hl : o.state.live = false) :
    exec (.retire n tag id) s = .next (((s.taken n).setSlot i none).replied n tag .accepted [0]) := by
  refine request_eq_replied h ?_
  have may : (o.issuer == n || (s.taken n).isKind n [.bridge]) = true := by
    rw [Bool.or_eq_true, isKind_bridge, beq_iff_eq]; exact ha
  exact onOrder_of (s := s.taken n) (stateOk := fun st => !st.live) ho may (by rw [hl]; rfl)

/-- Settles O24: ADOPT changes the issuer of the order, RETIRE and the end of its retention free its slot. -/
theorem adoptRetireAndRetention : Obligations.AdoptRetireAndRetention := by
  intro s n tag id i o h
  refine ⟨fun hu ho ha hl => ?_, exec_retire h, fun d ho hr => ?_, fun hr => ?_⟩
  · obtain ⟨bs, hx⟩ := exec_adopt (tag := tag) h hu ho ha hl
    have slot : (s.taken n).slot i = some o := orderNamed_slot ho
    obtain ⟨panels, packA, packB⟩ := updateOrder_panels slot fun o => { o with issuer := n }
    have kept (j : SlotNo) (hj : j ≠ i) := updateOrder_slot_ne (s := s.taken n) hj fun o => { o with issuer := n }
    have latches := updateOrder_latches (s.taken n) i fun o => { o with issuer := n }
    have taken := updateOrder_slot_self slot fun o => { o with issuer := n }
    have watched (hw : o.state.working = true) := updateOrder_watched slot (f := fun o => { o with issuer := n }) rfl hw
    have left (hne : o.issuer ≠ n) := updateOrder_unwatched slot (f := fun o => { o with issuer := n }) (.inl (Ne.symm hne))
    generalize (s.taken n).updateOrder i (fun o => { o with issuer := n }) = t at *
    refine ⟨_, hx, taken, kept, panels, packA, packB, latches, fun hw => watched_of_replied (watched hw), fun hne hj hw => ?_⟩
    obtain ⟨e1, -, e2⟩ := station_of_replied t n o.issuer tag .accepted bs
    rw [e1, e2]
    exact left hne hj ((station_of_taken s n o.issuer).1.trans hw)
  · change execRetentionExpiry i s = _
    simp only [execRetentionExpiry, ho, Option.bind_some, hr]
    rfl
  · change execRetentionExpiry i s = _
    have : (s.slot i).bind (·.retention) = none := by
      cases ho : s.slot i with
      | none => rfl
      | some q => exact hr q ho
    simp only [execRetentionExpiry, this]

/-! ### The return of the output enable -/

theorem latchIf_eq (s : State) (b : Bool) (e : EventLatch) : s.latchIf b e = { s with latches := (s.latchIf b e).latches } := by
  cases b
  · rfl
  · exact setLatch_eq s e

theorem mem_latchIf {b : Bool} {e : EventLatch} (hb : b = true) (h : ¬ (s.inStart = true ∧ 4 ≤ e.code)) :
    e ∈ (s.latchIf b e).latches := by
  subst hb
  exact (setLatch_mem s e e).2 (.inr ⟨rfl, h⟩)

/-- Settles O35: the loop's own records and the supply's, and no others. -/
theorem returnedEnableResumesNothing : Obligations.ReturnedEnableResumesNothing := by
  intro s
  refine ⟨fun held hh ho ht => ?_, fun held hh => ?_, fun mV held hh hv => ?_, fun mV held hh => ?_, fun mV held hh hv => ?_⟩
  · have closed : ¬ held < 500 := by omega
    refine ⟨({ s with loopClosedLine := true, loopTaken := true, loopOpen := false } : State).latchIf s.loopTaken .estopChange,
      ?_, ?_⟩
    · change execEstopClose held s = _
      simp only [execEstopClose, closed, if_false, ho, Bool.not_true, Bool.false_eq_true]
    · have e := latchIf_eq ({ s with loopClosedLine := true, loopTaken := true, loopOpen := false } : State) s.loopTaken
        .estopChange
      refine ⟨(congrArg State.loopOpen e :), ?_, mem_latchIf ht fun h => absurd h.2 (by decide), (congrArg State.panels e :),
        (congrArg State.slots e :), (congrArg State.jog e :)⟩
      rw [e]
      rfl
  · change execEstopClose held s = _
    simp only [execEstopClose, hh, if_true]
  · change execSupplyRecovery mV held s = _
    have long : ¬ held < supplyStable := by unfold supplyStable; omega
    have high : ¬ mV < 20000 := by omega
    simp only [execSupplyRecovery, long, high, if_false]
  · change execSupplyRecovery mV held s = _
    have short : held < supplyStable := hh
    simp only [execSupplyRecovery, short, if_true]
  · change execSupplyRecovery mV held s = _
    have long : ¬ held < supplyStable := by unfold supplyStable; omega
    simp only [execSupplyRecovery, long, hv, if_false, if_true]

end Sys2Proof.Machine
end

section
/-! What the work that follows a command leaves of the order table, and PAUSE, RESUME, CONTINUE and CANCEL. -/

namespace Sys2Proof.Machine

variable {L : Leave} {s t : State} {p : PanelNo} {n : StationNo} {tag : Byte} {i j : SlotNo} {o : Order}

/-! ### The work that follows a command -/

/-- What the agenda may do: it moves orders on and releases them, and ends those of panels that get a fault. -/
def Leave.work : Leave := { Leave.agenda (fun _ => False) with faults := True }

theorem changes_runJob (j : Job) (s : State) : Changes Leave.work s (runJob j s).st :=
  (deeds_runJob (Leave.works_agenda _) j).changes

theorem changes_drain (k : Nat) (js : List Job) (s : State) : Changes Leave.work s (drain k js s) :=
  drain_ind (P := fun t => Changes Leave.work s t) (fun j _ h => h.trans (changes_runJob j _)) k js s .refl

theorem changes_settle (r : Res) : Changes Leave.work r.st r.settle := changes_drain _ _ _

/-- An order that is neither ACTIVE nor waiting is changed by the command itself only. -/
theorem Changes.unmoved (h : Changes L s t) (hL : ∀ p, ¬ L.orders p) (ho : s.slot i = some o) (ha : o.state ≠ .active)
    (hw : o.waiting = false) : t.slot i = some o := by
  induction h with
  | refl => exact ho
  | tail _ h ih =>
    obtain h | ⟨q, -, hm⟩ := h.slot ih
    · exact h
    · rcases hm.how with hf | hadv | hrel
      · exact absurd hf (hL _)
      · exact absurd hadv.1 ha
      · rw [hrel.1] at hw; cases hw

theorem settle_unmoved (r : Res) (ho : r.st.slot i = some o) (ha : o.state ≠ .active) (hw : o.waiting = false) :
    r.settle.slot i = some o := (changes_settle r).unmoved (fun _ h => h) ho ha hw

/-- The order `o` has been moved on by its sequencer to `o'`: it stands at its step or a later one, is DONE, or has failed. -/
structure Order.MovedOn (o o' : Order) : Prop where
  lasting : o'.lasting = o.lasting
  step : o.step ≤ o'.step
  pausedFrom : o'.pausedFrom = none
  state : o'.state = .active ∨ o'.state = .atHold ∨ o'.state = .done ∨ ∃ r, o'.state = .failed r

/-- An ACTIVE order is moved on. -/
theorem Changes.movedOn (h : Changes L s t) (hL : ∀ p, ¬ L.orders p) (ho : s.slot i = some o) (ha : o.state = .active)
    (hp : o.pausedFrom = none) : ∃ o', t.slot i = some o' ∧ o.MovedOn o' := by
  induction h with
  | refl => exact ⟨o, ho, rfl, le_rfl, hp, .inl ha⟩
  | tail _ h ih =>
    obtain ⟨o', ho', hm'⟩ := ih
    obtain h | ⟨q, hq, hm⟩ := h.slot ho'
    · exact ⟨o', h, hm'⟩
    · refine ⟨q, hq, ?_⟩
      rcases hm.how with hf | ⟨-, hstep, hpaused, hstate⟩ | ⟨hw, -⟩
      · exact absurd hf (hL _)
      · exact ⟨hm.lasting.trans hm'.lasting, hm'.step.trans hstep, hpaused.elim (·.trans hm'.pausedFrom) id, hstate⟩
      · have pending : o'.state = .pending := by simpa [Order.waiting, hm'.pausedFrom] using hw
        have := hm'.state
        simp [pending] at this

theorem settle_movedOn (r : Res) (ho : r.st.slot i = some o) (ha : o.state = .active) (hp : o.pausedFrom = none) :
    ∃ o', r.settle.slot i = some o' ∧ o.MovedOn o' := (changes_settle r).movedOn (fun _ h => h) ho ha hp

/-! ### What lasts, the link's own records apart -/

theorem records_of_lasting (h : t.lasting = s.lasting) : t.records = s.records := by
  have stations : t.stations.map Station.lasting = s.stations.map Station.lasting := (congrArg State.stations h :)
  have linked := congrArg (Vector.map fun x : Station => { x with lastReply := 0, occupied := false }) stations
  rw [Vector.map_map, Vector.map_map] at linked
  unfold State.records
  rw [h]
  exact congrArg (fun v => { s.lasting with txQueue := [], stations := v }) linked

theorem records_modStation (s : State) (n : StationNo) (f : Station → Station)
    (hf : ∀ x, { (f x).lasting with lastReply := 0, occupied := false } = { x.lasting with lastReply := 0, occupied := false }) :
    (s.modStation n f).records = s.records := by
  have stations : (s.modStation n f).stations.map (fun x => { x.lasting with lastReply := 0, occupied := false }) =
      s.stations.map fun x => { x.lasting with lastReply := 0, occupied := false } := by
    refine Vector.ext fun k hk => ?_
    have := modStation_station s n ⟨k, hk⟩ f
    simp only [State.station, Fin.getElem_fin] at this
    simp only [Vector.getElem_map, this]
    split
    · rename_i e; subst e; exact hf _
    · rfl
  unfold State.records
  exact congrArg (fun v => { s.lasting with txQueue := [], stations := v }) stations

theorem records_taken (s : State) (n : StationNo) : (s.taken n).records = s.records :=
  records_modStation s n _ fun _ => rfl

theorem records_replied (s : State) (n : StationNo) (tag : Byte) (c : ReplyCode) (bs : List Byte) :
    (s.replied n tag c bs).records = s.records :=
  records_modStation s n (fun x => { x with lastReply := c.code }) fun _ => rfl

/-- A request whose work changes nothing that lasts changes no record. -/
theorem records_of_taken {c : ReplyCode} {bs : List Byte} (h : t.lasting = (s.taken n).lasting) :
    (t.replied n tag c bs).records = s.records :=
  (records_replied ..).trans ((records_of_lasting h).trans (records_taken ..))

theorem txQueue_of_taken {c : ReplyCode} {bs : List Byte} (h : t.lasting = (s.taken n).lasting) :
    (t.replied n tag c bs).txQueue = s.txQueue ++ [replyTo n tag c bs] :=
  congrArg (fun q => q ++ [replyTo n tag c bs]) (congrArg State.txQueue h : t.lasting.txQueue = (s.taken n).lasting.txQueue)

/-! ### PAUSE -/

theorem linked_taken (hs : s.linked) : (s.taken n).Linked := (linked_iff.1 hs).of_same {} fun _ => .inl rfl

theorem stateByte_of (h : s.slot i = some o) : s.stateByte i = byteOf o.state.code := by
  simp [State.stateByte, h]

theorem pausedFrom_state {st : OrderState} {f : PausedFrom} (h : st.pausedFrom = some f) :
    st.live = true ∧ st.isPaused = false ∧ (f = .active ↔ st = .active) := by
  cases st <;> simp_all [OrderState.pausedFrom, OrderState.live, OrderState.isPaused] <;> grind

theorem pauseOrder_idle {r : PauseReason} {f : PausedFrom} (ho : s.slot i = some o) (hf : o.state.pausedFrom = some f)
    (ha : o.state ≠ .active) : s.pauseOrder i r = .ok (s.updateOrder i fun o => o.pausedFor r f) := by
  simp only [State.pauseOrder, ho, hf, ha, if_false]
  rfl

/-- The pause operation and the work that follows it: the order stands PAUSED where it was. -/
theorem pauseOrder_settle {r : PauseReason} {f : PausedFrom} (hs : s.Linked) (ho : s.slot i = some o)
    (hf : o.state.pausedFrom = some f) : (s.pauseOrder i r).settle.slot i = some (o.pausedFor r f) := by
  have paused : (s.pauseOrder i r).st.slot i = some (o.pausedFor r f) := by
    rw [pauseOrder_slots ho hf (liveOrder_of_live hs ho (pausedFrom_state hf).1), if_pos rfl]
  by_cases ha : o.state = .active
  · have hfa : f = .active := (pausedFrom_state hf).2.2.2 ha
    exact settle_unmoved _ paused (by simp [Order.pausedFor]) (by simp [Order.pausedFor, Order.waiting, hfa])
  · rw [pauseOrder_idle ho hf ha] at paused ⊢
    rw [settle_ok]
    exact paused

theorem exec_pause {id : Byte} {f : PausedFrom} (h : s.ready n) (hu : s.unit.working = true)
    (ho : s.orderNamed id = some (i, o)) (ha : s.authority n (hatchOf o.panel) = true) (hf : o.state.pausedFrom = some f) :
    exec (.pause n tag id) s = .next ((((s.taken n).pauseOrder i .request).settle).replied n tag .accepted
      [0, ((s.taken n).pauseOrder i .request).settle.stateByte i]) := by
  refine request_acceptState (owner := ownerPause n id) h ?_ tag
  unfold ownerPause
  rw [show (s.taken n).unit.working = true from hu]
  refine (onOrder_of (s := s.taken n) ho ha (pausedFrom_state hf).1).trans ?_
  simp only [(pausedFrom_state hf).2.1, Bool.false_eq_true, if_false]

/-- Settles O20: the pause operation leaves the order PAUSED, and the work that follows it does not move it. -/
theorem pauseHoldsTheOrder : Obligations.PauseHoldsTheOrder := by
  intro s n tag id i o f h hu hs ho ha hf
  have slot : (s.taken n).slot i = some o := orderNamed_slot ho
  have paused := pauseOrder_settle (r := .request) (linked_taken (n := n) hs) slot hf
  have lasting : ((s.taken n).pauseOrder i .request).settle.lasting = (s.taken n).lasting :=
    (lasting_settle _).trans (lasting_pauseOrder ..)
  have hx := exec_pause (tag := tag) h hu ho ha hf
  generalize hw : ((s.taken n).pauseOrder i .request).settle = w at *
  refine ⟨_, hx, paused, records_of_taken lasting, ?_, fun hna => ?_⟩
  · rw [txQueue_of_taken lasting, stateByte_of paused]
    rfl
  · have idle := pauseOrder_idle (r := .request) slot hf hna
    have panels := (updateOrder_panels slot fun o => o.pausedFor .request f).1
    have others (j : SlotNo) (hj : j ≠ i) := updateOrder_slot_ne (s := s.taken n) hj fun o => o.pausedFor .request f
    rw [idle, settle_ok] at hw
    generalize (s.taken n).updateOrder i (fun o => o.pausedFor .request f) = u at *
    subst hw
    exact ⟨panels, others⟩

/-! ### RESUME -/

theorem exec_resume {id : Byte} {r : PauseReason} (h : s.ready n) (hu : s.unit = .run)
    (ho : s.orderNamed id = some (i, o)) (hn : o.issuer = n) (ha : s.authority n (hatchOf o.panel) = true)
    (hp : o.state = .paused r) (hl : s.loopOpen = false) (hv : s.supplyLow = false) :
    exec (.resume n tag id) s = .next ((((s.taken n).resumeOrder i o).settle).replied n tag .accepted
      [0, ((s.taken n).resumeOrder i o).settle.stateByte i]) := by
  refine request_acceptState (owner := ownerResume n id) h ?_ tag
  unfold ownerResume
  rw [show (s.taken n).unit.isRun = true by rw [show (s.taken n).unit = .run from hu]; rfl]
  refine (onOrder_of (s := s.taken n) (may := fun o => o.issuer == n) ho (by simpa using hn) (by rw [hp]; rfl)).trans ?_
  have may : (s.taken n).mayControl o.issuer o = true := by rw [hn]; exact ha
  have e1 : (s.taken n).loopOpen = false := hl
  have e2 : (s.taken n).supplyLow = false := hv
  simp [hp, OrderState.isPaused, e1, e2, may]

theorem updateOrder_congr (ho : s.slot i = some o) {f g : Order → Order} (h : f o = g o) :
    s.updateOrder i f = s.updateOrder i g := by
  simp only [State.updateOrder, ho, h]

theorem updateOrder_inStart (s : State) (i : SlotNo) (f : Order → Order) : (s.updateOrder i f).inStart = s.inStart := by
  cases ho : s.slot i with
  | none => simp only [State.updateOrder, ho]
  | some o => rw [updateOrder_eq ho]; rfl

/-- RESUME of an order that was paused from `f` (R54). -/
theorem resumeOrder_of {f : PausedFrom} (ho : s.slot i = some o) (hf : o.pausedFrom = some f) :
    s.resumeOrder i o = ⟨(s.updateOrder i fun o => { o with state := f.state, pausedFrom := none }).latchIf
      (f.state = .atHold) .holdReached, if f.state = .active then [.evaluate o.panel true] else []⟩ := by
  have resumed : o.resumed = f.state := by simp [Order.resumed, hf]
  unfold State.resumeOrder
  rw [resumed, updateOrder_congr ho (g := fun o => { o with state := f.state, pausedFrom := none }) (by rw [resumed])]

theorem resumeOrder_pending (ho : s.slot i = some o) (hf : o.pausedFrom = some .pending) :
    s.resumeOrder i o = ⟨s.updateOrder i fun o => { o with state := .pending, pausedFrom := none }, []⟩ := by
  rw [resumeOrder_of ho hf]
  simp [PausedFrom.state, State.latchIf]

theorem resumeOrder_atHold (ho : s.slot i = some o) (hf : o.pausedFrom = some .atHold) : s.resumeOrder i o =
    ⟨(s.updateOrder i fun o => { o with state := .atHold, pausedFrom := none }).latchIf true .holdReached, []⟩ := by
  rw [resumeOrder_of ho hf]
  simp [PausedFrom.state]

theorem resumeOrder_active (ho : s.slot i = some o) (hf : o.pausedFrom = some .active) : s.resumeOrder i o =
    ⟨s.updateOrder i fun o => { o with state := .active, pausedFrom := none }, [.evaluate o.panel true]⟩ := by
  rw [resumeOrder_of ho hf]
  simp [PausedFrom.state, State.latchIf]

theorem resume_updated {st : OrderState} (ho : s.slot i = some o) :
    (s.updateOrder i fun o => { o with state := st, pausedFrom := none }).slot i =
      some { o with state := st, pausedFrom := none } := updateOrder_slot_self ho _

/-- Settles O21, by the state that the order was paused from. -/
theorem resumeReturnsTheOrder : Obligations.ResumeReturnsTheOrder := by
  intro s n tag id i o r h hu hs ho hn ha hp hl hv
  have slot : (s.taken n).slot i = some o := orderNamed_slot ho
  have hx := exec_resume (tag := tag) h hu ho hn ha hp hl hv
  have lasting : ((s.taken n).resumeOrder i o).settle.lasting = (s.taken n).lasting := by
    rw [lasting_settle]
    exact (lasting_latchIf ..).trans (lasting_updateOrder fun _ => rfl)
  obtain ⟨-, -, -, -, hpaused⟩ := (linked_iff.1 hs).consistent i o (orderNamed_slot ho)
  rw [hp] at hpaused
  obtain ⟨f, hf⟩ := Option.isSome_iff_exists.1 (hpaused.1 rfl)
  have records := records_of_taken (tag := tag) (c := .accepted)
    (bs := [0, ((s.taken n).resumeOrder i o).settle.stateByte i]) lasting
  have watch (st : OrderState) (hw : st.working = true) := updateOrder_watched slot
    (f := fun o => { o with state := st, pausedFrom := none }) hn hw
  have own (st : OrderState) := resume_updated (st := st) slot
  have panels (st : OrderState) := (updateOrder_panels slot fun o => { o with state := st, pausedFrom := none }).1
  cases f with
  | pending =>
    have resumed := resumeOrder_pending slot hf
    have own := own .pending
    have panels := panels .pending
    rw [resumed, settle_none] at hx records
    generalize (s.taken n).updateOrder i (fun o => { o with state := .pending, pausedFrom := none }) = u at *
    refine ⟨_, _, hx, own, rfl, records, fun _ => ⟨rfl, panels⟩, ?_, ?_⟩
    · rw [hf]; exact fun e => by cases e
    · rw [hf]; exact fun e => by cases e
  | atHold =>
    have resumed := resumeOrder_atHold slot hf
    rw [resumed, settle_none] at hx records
    have e := latchIf_eq ((s.taken n).updateOrder i fun o => { o with state := .atHold, pausedFrom := none }) true .holdReached
    have started : ¬ (((s.taken n).updateOrder i fun o => { o with state := .atHold, pausedFrom := none }).inStart = true ∧
        4 ≤ EventLatch.holdReached.code) := by
      rw [updateOrder_inStart]
      exact fun e => absurd (h.2.2.1.symm.trans e.1) (by decide)
    have latched := mem_latchIf (b := true) rfl started
    have latched_slots := (congrArg State.slots e :)
    have latched_panels := (congrArg State.panels e :)
    have latched_stations := (congrArg State.stations e :)
    have watched := watch .atHold rfl
    have own := own .atHold
    have panels := panels .atHold
    generalize (s.taken n).updateOrder i (fun o => { o with state := .atHold, pausedFrom := none }) = u at *
    have held := (slot_of_slots latched_slots i).trans own
    have kept := latched_panels.trans panels
    generalize u.latchIf true .holdReached = v at *
    refine ⟨_, _, hx, held, rfl, records, ?_, fun _ => ⟨rfl, kept, latched, ?_⟩, ?_⟩
    · rw [hf]; exact fun e => by cases e
    · refine watched_of_replied (watched_of_station watched rfl ⟨rfl, rfl⟩ ⟨rfl, rfl, rfl⟩ ?_)
      simp only [State.station, latched_stations, and_self]
    · rw [hf]; exact fun e => by cases e
  | active =>
    have resumed := resumeOrder_active slot hf
    obtain ⟨o', ho', moved⟩ := settle_movedOn ((s.taken n).resumeOrder i o) (i := i)
      (o := { o with state := .active, pausedFrom := none }) (by rw [resumed]; exact own .active) rfl rfl
    have byte := stateByte_of ho'
    have watched := watch .active rfl
    have own := own .active
    rw [resumed] at hx records byte ho'
    generalize (s.taken n).updateOrder i (fun o => { o with state := .active, pausedFrom := none }) = u at *
    generalize hw : (Res.mk u [.evaluate o.panel true]).settle = w at *
    refine ⟨_, o', hx, ho', moved.pausedFrom, records, ?_, ?_, fun _ => ⟨moved.step, ?_, ?_, own, ?_, ?_⟩⟩
    · rw [hf]; exact fun e => by cases e
    · rw [hf]; exact fun e => by cases e
    · intro e; have := moved.state; simp [e] at this
    · intro q e; have := moved.state; simp [e] at this
    · exact watched_of_station watched rfl ⟨rfl, rfl⟩ (station_of_taken s n n) ⟨rfl, rfl, rfl⟩
    · rw [hw, byte]

end Sys2Proof.Machine
end

section
/-! How orders finish: what the ending of an order and the completion of one leave in the table, and CONTINUE and CANCEL. -/

namespace Sys2Proof.Machine

variable {L : Leave} {s t : State} {p : PanelNo} {n : StationNo} {tag : Byte} {i j : SlotNo} {o q : Order}

/-! ### Finishing -/

theorem settle_finished (r : Res) (ho : r.st.slot i = some o) (hl : o.state.live = false) : r.settle.slot i = some o :=
  (changes_settle r).finished ho hl

theorem finishOrder_self {st : OrderState} {m : Nat} (ho : s.slot i = some o) : ∃ b, (s.finishOrder i st m).slot i =
    some (o.finish st m (s.now + 1000 * s.params.tuning.retentionTime) b) := by
  unfold State.finishOrder
  simp only [ho]
  rw [setLatch_slot, updateOrder_slot, if_pos rfl, modPanel_slot, ho]
  exact ⟨_, rfl⟩

theorem finishOrder_latched {st : OrderState} {m : Nat} (ho : s.slot i = some o) (hs : s.inStart = false) :
    st.latch ∈ (s.finishOrder i st m).latches := by
  unfold State.finishOrder
  simp only [ho]
  refine (setLatch_mem _ _ _).2 (.inr ⟨rfl, ?_⟩)
  rw [updateOrder_inStart]
  exact fun e => absurd (hs.symm.trans e.1) (by decide)

/-! ### The cascade (R63) -/

theorem cancelWaiting_ne {m : Nat} : ∀ (ds : List SlotNo) (s : State), j ∉ ds →
    (ds.foldl (fun s i => s.finishOrder i (.cancelled .predecessor) m) s).slot j = s.slot j
  | [], _, _ => rfl
  | i :: ds, s, h => by
    rw [List.mem_cons, not_or] at h
    obtain ⟨hi, hds⟩ := h
    exact (cancelWaiting_ne ds _ hds).trans (finishOrder_slot (Ne.symm hi))

theorem cancelWaiting_mem {m : Nat} : ∀ (ds : List SlotNo) (s : State), ds.Nodup → j ∈ ds → s.slot j = some q →
    ∃ d b, (ds.foldl (fun s i => s.finishOrder i (.cancelled .predecessor) m) s).slot j =
      some (q.finish (.cancelled .predecessor) m d b)
  | [], _, _, hj, _ => absurd hj List.not_mem_nil
  | i :: ds, s, hn, hj, hq => by
    obtain ⟨hi, hds⟩ := List.nodup_cons.1 hn
    by_cases e : i = j
    · subst e
      obtain ⟨b, hb⟩ := finishOrder_self (st := .cancelled .predecessor) (m := m) hq
      exact ⟨_, b, (cancelWaiting_ne ds _ hi).trans hb⟩
    · exact cancelWaiting_mem ds _ hds ((List.mem_cons.1 hj).resolve_left (Ne.symm e)) ((finishOrder_slot e).trans hq)

/-- An order that waits on one of those that have ended is cancelled with it. -/
theorem cascade_waits {m k : Nat} {ids : List Nat} (hq : s.slot j = some q) (hw : ∃ id ∈ ids, q.waitsOn id = true) :
    ∃ d b, (State.cascade m (k + 1) ids s).slot j = some (q.finish (.cancelled .predecessor) m d b) := by
  have dependent : j ∈ s.dependents ids := mem_dependents.2 ⟨q, hq, hw⟩
  unfold State.cascade
  dsimp only
  rw [if_neg (by simpa using List.ne_nil_of_mem dependent)]
  obtain ⟨d, b, h⟩ := cancelWaiting_mem (m := m) _ s (allSlots_nodup.filter _) dependent hq
  exact ⟨d, b, (changes_cascade (L := Leave.all) ..).finished h rfl⟩

/-! ### The ending of an order (R56, R60) -/

theorem endOrder_eq {st : OrderState} (ho : s.slot i = some o) (hl : o.state.live = true) : (s.endOrder i st).st =
    let u := if o.state = .active then (s.interrupt o.panel).st else s
    State.cascade u.now 24 [o.id] (u.finishOrder i st u.now) := by
  simp only [State.endOrder, ho, hl, if_true, Res.map_st]
  split <;> rfl

/-- The order before it ends: with its step interrupted, it is as it was but for the phase and the reasons. -/
theorem interrupted_slot (s : State) (p : PanelNo) (ho : s.slot i = some o) :
    ∃ o', (s.interrupt p).st.slot i = some o' ∧ (o' = o ∨ o' = { o with phase := none, reasons := {} }) := by
  obtain h | ⟨h, -⟩ := interrupt_slot (q := p) ho
  · exact ⟨o, h, .inl rfl⟩
  · exact ⟨_, h, .inr rfl⟩

theorem endOrder_slot {st : OrderState} (ho : s.slot i = some o) (hl : o.state.live = true) (hst : st.live = false) :
    ∃ b, (s.endOrder i st).st.slot i = some (o.finish st s.now (s.now + 1000 * s.params.tuning.retentionTime) b) := by
  rw [endOrder_eq ho hl]
  dsimp only
  have ended (u : State) (o' : Order) (hu : u.lasting = s.lasting) (ho' : u.slot i = some o')
      (same : o' = o ∨ o' = { o with phase := none, reasons := {} }) : ∃ b,
      (State.cascade u.now 24 [o.id] (u.finishOrder i st u.now)).slot i =
        some (o.finish st s.now (s.now + 1000 * s.params.tuning.retentionTime) b) := by
    obtain ⟨b, h⟩ := finishOrder_self (st := st) (m := u.now) ho'
    refine ⟨b, (changes_cascade (L := Leave.all) ..).finished (h.trans ?_) (by exact hst)⟩
    rw [lasting_now hu, lasting_params hu]
    rcases same with rfl | rfl <;> rfl
  split
  · obtain ⟨o', ho', same⟩ := interrupted_slot s o.panel ho
    exact ended _ o' (lasting_interrupt s o.panel) ho' same
  · exact ended s o rfl ho (.inl rfl)

theorem endOrder_latched {st : OrderState} (ho : s.slot i = some o) (hl : o.state.live = true) (hs : s.inStart = false) :
    st.latch ∈ (s.endOrder i st).st.latches := by
  rw [endOrder_eq ho hl]
  refine (changes_cascade (L := Leave.all) ..).latches ?_
  split
  · obtain ⟨o', ho', -⟩ := interrupted_slot s o.panel ho
    exact finishOrder_latched ho' ((lasting_inStart (lasting_interrupt s o.panel)).trans hs)
  · exact finishOrder_latched ho hs

/-- An order that waited on the one that has ended is cancelled with it, at the same moment (R63). -/
theorem endOrder_dependent {st : OrderState} (ho : s.slot i = some o) (hl : o.state.live = true) (hj : j ≠ i)
    (hq : s.slot j = some q) (hw : q.waitsOn o.id = true) (hqa : q.state ≠ .active) : ∃ d b,
    (s.endOrder i st).st.slot j = some (q.finish (.cancelled .predecessor) s.now d b) := by
  rw [endOrder_eq ho hl]
  dsimp only
  have ended (u : State) (hu : u.now = s.now) (h : u.slot j = some q) : ∃ d b,
      (State.cascade u.now 24 [o.id] (u.finishOrder i st u.now)).slot j =
        some (q.finish (.cancelled .predecessor) s.now d b) := by
    rw [← hu]
    exact cascade_waits ((finishOrder_slot (Ne.symm hj)).trans h) ⟨o.id, List.mem_singleton.2 rfl, hw⟩
  split
  · refine ended _ (lasting_now (lasting_interrupt s o.panel)) ?_
    obtain h | ⟨-, ha⟩ := interrupt_slot (q := o.panel) hq
    · exact h
    · exact absurd ha hqa
  · exact ended s rfl hq

/-! ### CANCEL -/

theorem exec_cancel {id : Byte} (h : s.ready n) (hu : s.unit.working = true)
    (ho : s.orderNamed id = some (i, o)) (ha : s.authority n (hatchOf o.panel) = true) (hl : o.state.live = true) :
    exec (.cancel n tag id) s = .next ((((s.taken n).endOrder i (.cancelled .request)).settle).replied n tag .accepted
      [0, ((s.taken n).endOrder i (.cancelled .request)).settle.stateByte i]) := by
  refine request_acceptState (owner := ownerCancel n id) h ?_ tag
  unfold ownerCancel
  rw [show (s.taken n).unit.working = true from hu]
  exact onOrder_of (s := s.taken n) ho ha hl

theorem not_active_of_waitsOn {id : Nat} (hc : q.consistent) (hw : q.waitsOn id = true) : q.state ≠ .active := by
  intro ha
  obtain ⟨-, -, -, -, hp⟩ := hc
  simp [Order.waitsOn, ha, OrderState.live, OrderState.isPaused] at hw hp
  simp [hp] at hw

/-- Settles O23: the order ends at this moment and those that waited on it with it; the work that follows moves no finished
order. -/
theorem cancelEndsTheOrder : Obligations.CancelEndsTheOrder := by
  intro s n tag id i o h hu hs ho ha hl
  have slot : (s.taken n).slot i = some o := orderNamed_slot ho
  have hx := exec_cancel (tag := tag) h hu ho ha hl
  obtain ⟨b, ended⟩ := endOrder_slot (st := .cancelled .request) slot hl rfl
  have gone := (changes_settle _).live_none (endOrder_live (st := .cancelled .request) slot hl)
  have latched := (changes_settle _).latches (endOrder_latched (st := .cancelled .request) slot hl h.2.2.1)
  have lasting : ((s.taken n).endOrder i (.cancelled .request)).settle.lasting = (s.taken n).lasting :=
    (lasting_settle _).trans (lasting_endOrder ..)
  have dependent (j : SlotNo) (q : Order) (hq : (s.taken n).slot j = some q) (hj : j ≠ i) (hw : q.waitsOn o.id = true) :=
    endOrder_dependent (st := .cancelled .request) slot hl hj hq hw
      (not_active_of_waitsOn ((linked_iff.1 hs).consistent j q hq) hw)
  have stands := settle_finished _ ended rfl
  have cancelled (j : SlotNo) (q : Order) (hq : (s.taken n).slot j = some q) (hj : j ≠ i) (hw : q.waitsOn o.id = true) :
      ∃ d b, ((s.taken n).endOrder i (.cancelled .request)).settle.slot j =
        some (q.finish (.cancelled .predecessor) s.now d b) := by
    obtain ⟨d, b, hd⟩ := dependent j q hq hj hw
    exact ⟨d, b, settle_finished _ hd rfl⟩
  generalize ((s.taken n).endOrder i (.cancelled .request)).settle = w at *
  refine ⟨_, _, hx, stands, rfl, rfl, rfl, rfl, rfl, rfl, rfl, gone, latched, records_of_taken lasting, ?_, ?_⟩
  · rw [txQueue_of_taken lasting, stateByte_of stands]
    rfl
  · intro j q hq hj hw
    obtain ⟨d, b, hd⟩ := cancelled j q hq hj hw
    exact ⟨_, hd, rfl, rfl⟩

/-! ### CONTINUE -/

theorem exec_continue {id : Byte} (h : s.ready n) (hu : s.unit = .run) (ho : s.orderNamed id = some (i, o))
    (hn : o.issuer = n) (ha : s.authority n (hatchOf o.panel) = true) (hst : o.state = .atHold) :
    exec (.continueOrder n tag id) s = .next ((((s.taken n).continueHeld i o).settle).replied n tag .accepted
      [0, ((s.taken n).continueHeld i o).settle.stateByte i]) := by
  refine request_acceptState (owner := ownerContinue n id) h ?_ tag
  unfold ownerContinue
  rw [show (s.taken n).unit.isRun = true by rw [show (s.taken n).unit = .run from hu]; rfl]
  have may : (s.taken n).issuerWithAuthority n o = true := by
    have control : (s.taken n).mayControl n o = true := ha
    simp [State.issuerWithAuthority, hn, control]
  refine (onOrder_of (s := s.taken n) ho may (by rw [hst]; rfl)).trans ?_
  simp only [hst, ne_eq, not_true_eq_false, if_false]

theorem completeOrder_st (ho : s.slot i = some o) : (s.completeOrder i).st = s.finishOrder i .done s.now := by
  simp only [State.completeOrder, ho]

theorem continueHeld_next (ho : s.slot i = some o) (h : o.step < (stepList o.kind).length) : s.continueHeld i o =
    ⟨s.updateOrder i fun q => { q with state := .active, step := q.step + 1 }, [.evaluate o.panel true]⟩ := by
  unfold State.continueHeld
  rw [if_pos h, updateOrder_congr ho (g := fun q => { q with state := .active, step := q.step + 1 }) rfl]

theorem continueHeld_last (h : (stepList o.kind).length ≤ o.step) : s.continueHeld i o = s.completeOrder i := by
  unfold State.continueHeld
  rw [if_neg (by omega)]

theorem lasting_continueHeld (s : State) (i : SlotNo) (o : Order) : (s.continueHeld i o).st.lasting = s.lasting := by
  unfold State.continueHeld
  split
  · exact lasting_updateOrder fun _ => rfl
  · exact lasting_completeOrder s i

/-- Settles O22: before the last step the order is ACTIVE at the next one and moved on from there; at the last it finishes. -/
theorem continuePassesTheHold : Obligations.ContinuePassesTheHold := by
  intro s n tag id i o h hu hs ho hn ha hst
  have slot : (s.taken n).slot i = some o := orderNamed_slot ho
  have hx := exec_continue (tag := tag) h hu ho hn ha hst
  have lasting : ((s.taken n).continueHeld i o).settle.lasting = (s.taken n).lasting :=
    (lasting_settle _).trans (lasting_continueHeld _ _ _)
  have records := records_of_taken (tag := tag) (c := .accepted)
    (bs := [0, ((s.taken n).continueHeld i o).settle.stateByte i]) lasting
  have queue := txQueue_of_taken (tag := tag) (c := .accepted)
    (bs := [0, ((s.taken n).continueHeld i o).settle.stateByte i]) lasting
  have unpaused : o.pausedFrom = none := by
    obtain ⟨-, -, -, -, hp⟩ := (linked_iff.1 hs).consistent i o (orderNamed_slot ho)
    simpa [hst, OrderState.isPaused] using hp
  by_cases hl : o.step < (stepList o.kind).length
  · have next := continueHeld_next slot hl
    have own := updateOrder_slot_self slot fun o => { o with state := .active, step := o.step + 1 }
    obtain ⟨o', ho', moved⟩ := settle_movedOn ((s.taken n).continueHeld i o) (i := i)
      (o := { o with state := .active, step := o.step + 1 }) (by rw [next]; exact own) rfl unpaused
    have byte := stateByte_of ho'
    rw [next] at hx records byte ho'
    generalize (s.taken n).updateOrder i (fun o => { o with state := .active, step := o.step + 1 }) = u at *
    generalize hw : (Res.mk u [.evaluate o.panel true]).settle = w at *
    refine ⟨_, o', hx, ho', records, fun _ => ⟨moved.step, moved.state, own, by rw [hw, byte]⟩, fun h => by omega⟩
  · have last := continueHeld_last (s := s.taken n) (i := i) (Nat.le_of_not_lt hl)
    obtain ⟨b, finished⟩ := finishOrder_self (st := .done) (m := (s.taken n).now) slot
    rw [← completeOrder_st slot, ← last] at finished
    have gone := finishOrder_live (st := .done) (n := (s.taken n).now) slot rfl
    have latched := finishOrder_latched (st := .done) (m := (s.taken n).now) slot h.2.2.1
    rw [← completeOrder_st slot, ← last] at gone latched
    have stands := settle_finished _ finished rfl
    have gone := (changes_settle _).live_none gone
    have latched := (changes_settle _).latches latched
    generalize ((s.taken n).continueHeld i o).settle = w at *
    refine ⟨_, _, hx, stands, records, fun h => absurd h hl, fun _ => ⟨rfl, rfl, rfl, gone, latched, ?_⟩⟩
    rw [queue, stateByte_of stands]
    rfl

end Sys2Proof.Machine
end

section
/-! States in which no order works, and the work that follows a command in them: the stops, the service and the loss of the
output enable. -/

namespace Sys2Proof.Machine

variable {L : Leave} {s t u : State} {p : PanelNo} {n : StationNo} {tag : Byte} {i j : SlotNo} {o q : Order}

/-! ### No order works -/

/-- No order is ACTIVE or AT_HOLD. -/
def State.noneWorking (s : State) : Prop := ∀ i o, s.slot i = some o → o.state.working = false

theorem State.noneWorking.noneServed (h : s.noneWorking) : s.noneServed := fun p => by
  cases hs : s.served p with
  | none => rfl
  | some iok =>
    obtain ⟨i, o, k⟩ := iok
    have := h i o (served_slot hs)
    rw [served_active hs] at this
    cases this

theorem lasting_admissionState (h : t.lasting = s.lasting) : t.admissionState = s.admissionState := by
  change t.lasting.admissionState = s.lasting.admissionState
  rw [h]

theorem Change.noneWorking (h : Change L s t) (ha : s.admissionState ≠ .active) (hw : s.noneWorking) : t.noneWorking := by
  intro i o ho
  by_contra hn
  obtain ⟨q, hq, hq' | hq'⟩ := h.working ho (by simpa using hn)
  · rw [hw i q hq] at hq'; cases hq'
  · exact ha hq'

/-- Where no order is admitted as ACTIVE, none starts to work. -/
theorem Changes.noneWorking (h : Changes L s t) (ha : s.admissionState ≠ .active) (hw : s.noneWorking) : t.noneWorking := by
  induction h with
  | refl => exact hw
  | tail g h ih =>
    refine h.noneWorking ?_ ih
    rw [lasting_admissionState (Changes.lasting g)]
    exact ha

/-- Where no order works and nothing travels, the work that follows a command drives nothing. -/
theorem Changes.calmer_of_idle (h : Changes Leave.work s t) (ha : s.admissionState ≠ .active) (hw : s.noneWorking)
    (hm : ∀ p, (s.panel p).mode ≠ .driven) (p : PanelNo) : (s.panel p).Calmer (t.panel p) := by
  induction h with
  | refl => exact .refl _
  | tail g h ih =>
    refine ih.trans (h.calmer (fun hd => ?_) fun hh => hm p (ih.mode hh))
    have none := (Changes.noneWorking g ha hw).noneServed p
    change (State.served _ p).isSome = true at hd
    simp [none] at hd

/-! ### The orders of some panels are paused -/

/-- The orders paused by a command stay so in the work that follows it. -/
theorem paused_settle {r : Res} {f : Order → Bool} {ps : List PanelNo} {c : PauseReason} {g : Order → Prop}
    (hr : ∀ j, r.st.slot j = (s.slot j).map fun o => o.stoppedBy f ps c)
    (hg : ∀ o, o.state.working = true → g o → o.panel ∈ ps ∧ f o = true) : Paused c g s r.settle := by
  intro i o ho hw hgo
  obtain ⟨x, hx⟩ := working_pausedFrom hw
  have paused : r.st.slot i = some (o.pausedFor c x) := by
    rw [hr, ho, Option.map_some, Order.stoppedBy, if_pos (hg o hw hgo), hx]
    rfl
  have waits : (o.pausedFor c x).waiting = false := by
    have : x ≠ .pending := by rintro rfl; cases hs : o.state <;> simp [hs, OrderState.working, OrderState.pausedFrom] at hw hx
    simp [Order.pausedFor, Order.waiting, this]
  exact ⟨_, settle_unmoved r paused (by simp [Order.pausedFor]) waits, rfl, hx.symm, rfl, rfl, rfl⟩

/-- Once every ACTIVE and AT_HOLD order has been paused, none works. -/
theorem noneWorking_of_paused {c : PauseReason}
    (hr : ∀ j, t.slot j = (s.slot j).map fun o => o.stoppedBy (fun o => o.state.working) allPanels c) : t.noneWorking := by
  intro i o ho
  rw [hr] at ho
  obtain ⟨q, -, rfl⟩ := Option.map_eq_some_iff.1 ho
  unfold Order.stoppedBy
  split
  · rfl
  · rename_i hn
    simpa [mem_allPanels] using hn

/-! ### Work that finds no order served -/

theorem mem_enqueue {x : Job} {new js : List Job} (h : x ∈ enqueue new js) : x ∈ new ∨ x ∈ js := by
  have deliveries : ∀ {new js : List Job}, x ∈ afterDeliveries new js → x ∈ new ∨ x ∈ js := by
    intro new js
    induction js with
    | nil => exact fun h => .inl h
    | cons j js ih =>
      intro h
      unfold afterDeliveries at h
      split at h
      · obtain rfl | h := List.mem_cons.1 h
        · exact .inr List.mem_cons_self
        · exact (ih h).imp_right (List.mem_cons_of_mem _)
      · exact List.mem_append.1 h
  obtain h | h := List.mem_append.1 h
  · exact .inl ((List.takeWhile_sublist _).subset h)
  · exact (deliveries h).imp_left fun h => (List.dropWhile_sublist _).subset h

/-- What every piece of work of a kind keeps, while it asks for work of that kind only, the agenda keeps. -/
theorem drain_jobs_ind {P : State → Prop} {Q : Job → Prop}
    (h : ∀ j s, Q j → P s → P (runJob j s).st ∧ ∀ k ∈ (runJob j s).jobs, Q k) :
    ∀ (n : Nat) (js : List Job) (s : State), (∀ j ∈ js, Q j) → P s → P (drain n js s)
  | 0, _, _, _, hs => by simpa [drain] using hs
  | _ + 1, [], _, _, hs => by simpa [drain] using hs
  | n + 1, j :: js, s, hq, hs => by
    obtain ⟨hp, hk⟩ := h j s (hq j List.mem_cons_self) hs
    exact drain_jobs_ind h n _ _
      (fun x hx => (mem_enqueue hx).elim (hk x) fun hx => hq x (List.mem_cons_of_mem _ hx)) hp

/-- The piece of work releases no dependent. -/
def Job.plain : Job → Prop
  | .releaseDependent _ _ => False
  | _ => True

/-- `t` is `s` but for the grant sets and waiting lists of the packs, in which no panel has newly come. -/
def State.Repacked (s t : State) : Prop :=
  (∃ a b, t = { s with packA := a, packB := b }) ∧ ∀ k, ∀ p ∈ (t.pack k).panels, p ∈ (s.pack k).panels

theorem State.Repacked.refl (s : State) : s.Repacked s := ⟨⟨s.packA, s.packB, rfl⟩, fun _ _ h => h⟩

theorem State.Repacked.trans (h : s.Repacked t) (g : t.Repacked u) : s.Repacked u := by
  obtain ⟨⟨a, b, rfl⟩, hp⟩ := h
  obtain ⟨⟨c, d, rfl⟩, hq⟩ := g
  exact ⟨⟨c, d, rfl⟩, fun k p h => hp k p (hq k p h)⟩

theorem State.Repacked.served (h : s.Repacked t) (p : PanelNo) : t.served p = s.served p := by
  obtain ⟨⟨a, b, rfl⟩, -⟩ := h
  rfl

theorem modPack_pack (s : State) (k l : PackId) (f : Pack → Pack) :
    (s.modPack k f).pack l = if k = l then f (s.pack k) else s.pack l := by
  split
  · rename_i e; subst e; exact modPack_pack_self s k f
  · rename_i e; exact setPack_pack_ne s _ e

theorem repacked_modPack {k : PackId} {f : Pack → Pack} (hf : ∀ x, ∀ p ∈ (f x).panels, p ∈ x.panels) :
    s.Repacked (s.modPack k f) := by
  refine ⟨?_, fun l p h => ?_⟩
  · cases k
    · exact ⟨_, s.packB, rfl⟩
    · exact ⟨s.packA, _, rfl⟩
  · rw [modPack_pack] at h
    split at h
    · rename_i e; subst e; exact hf _ p h
    · exact h

theorem mem_afterPass {x : Pack} {cap : Nat} : ∀ p ∈ (x.afterPass cap).panels, p ∈ x.panels := by
  have split (cap : Nat) : ∀ (ws : List Waiter) (sum : Nat), passGrants cap sum ws ++ passRest cap sum ws = ws := by
    intro ws
    induction ws with
    | nil => exact fun _ => rfl
    | cons w ws ih =>
      intro sum
      unfold passGrants passRest
      split
      · exact congrArg (w :: ·) (ih _)
      · rfl
  intro p h
  have whole := congrArg (List.map Waiter.panel) (split cap x.waiting x.granted)
  rw [List.map_append] at whole
  unfold Pack.panels at h ⊢
  rw [← whole]
  simpa [Pack.afterPass, Function.comp_def, or_assoc] using h

theorem repacked_runPass (k : PackId) : s.Repacked (s.runPass k).st :=
  repacked_modPack (f := fun x => x.afterPass (s.effective k)) fun _ => mem_afterPass

/-- With no order served and no jog in progress, work moves flow only. -/
theorem runJob_unserved {x : Job} (hs : s.noneServed) (hj : x = .jogTest → s.jog = none) (hx : x.plain) :
    s.Repacked (runJob x s).st ∧ ∀ y ∈ (runJob x s).jobs, y.plain := by
  have still : s.Repacked (Res.ok s).st ∧ ∀ y ∈ (Res.ok s).jobs, y.plain := ⟨.refl s, fun _ h => by cases h⟩
  cases x with
  | evaluate p w => rw [runJob, evaluate_unserved (hs p)]; exact still
  | deliver p => rw [runJob, deliver_unserved (hs p)]; exact still
  | report p e => rw [runJob, reportStep_unserved (hs p)]; exact still
  | pass k =>
    refine ⟨repacked_runPass k, fun y hy => ?_⟩
    obtain ⟨w, -, rfl⟩ := List.mem_map.1 hy
    trivial
  | retest p => rw [runJob, retest_unserved (hs p)]; exact still
  | watch p => rw [runJob, watch_unserved (hs p)]; exact still
  | moveEnd p => rw [runJob, moveEnded_unserved (hs p)]; exact still
  | releaseDependent i id => exact hx.elim
  | jogTest => rw [runJob, jogTest_none (hj rfl)]; exact still

theorem settle_unserved {r : Res} (hs : r.st.noneServed) (hj : r.st.jog = none) (hx : ∀ x ∈ r.jobs, x.plain) :
    r.st.Repacked r.settle := by
  refine drain_jobs_ind (P := fun t => r.st.Repacked t) (Q := Job.plain) (fun x t hq ht => ?_) _ _ _ hx (.refl _)
  have jog : t.jog = none := by
    obtain ⟨⟨a, b, rfl⟩, -⟩ := ht
    exact hj
  obtain ⟨h1, h2⟩ := runJob_unserved (fun p => (ht.served p).trans (hs p)) (fun _ => jog) hq
  exact ⟨ht.trans h1, h2⟩

/-! ### SERVICE_ENTER and SERVICE_EXIT -/

/-- The unit's own records of the service mode. -/
def State.inService (s : State) (u : UnitState) (n : Option StationNo) : State := { s with unit := u, serviceStation := n }

/-- A request that is carried out at once is answered ACCEPTED. -/
theorem request_accept {owner : State → Answer} {bs : List Byte} (h : s.ready n)
    (ha : owner (s.taken n) = accept t false bs) (tag : Byte) :
    request n tag owner s = .next (t.replied n tag .accepted (0 :: bs)) := request_eq_replied h ha

theorem ownerServiceEnter_of (hu : s.unit = .run) (hk : s.isKind n [.bridge, .cargoControl] = true)
    (hp : s.servicePermitted = true) : ownerServiceEnter n s =
      accept ((s.pauseWorking allPanels .service).map fun s => s.inService .service (some n)).settle := by
  unfold ownerServiceEnter
  rw [if_neg (by simp [hu]), if_neg (by simp [hk]), if_neg (by simp [hp])]
  rfl

theorem ownerServiceExit_of (hu : s.unit = .service) (hn : s.serviceStation = some n) :
    ownerServiceExit n s = accept (s.endJog.map fun s => s.inService .run none).settle := by
  unfold ownerServiceExit
  rw [if_neg (by simp [hu]), if_neg (by simp [hn])]
  rfl

theorem exec_serviceEnter (h : s.ready n) (hu : s.unit = .run) (hk : s.isKind n [.bridge, .cargoControl] = true)
    (hp : s.servicePermitted = true) : exec (.serviceEnter n tag) s = .next ((((s.taken n).pauseWorking allPanels .service).map
      fun s => s.inService .service (some n)).settle.replied n tag .accepted [0]) :=
  request_accept h (ownerServiceEnter_of (s := s.taken n) hu hk hp) tag

theorem exec_serviceExit (h : s.ready n) (hu : s.unit = .service) (hn : s.serviceStation = some n) :
    exec (.serviceExit n tag) s =
      .next (((s.taken n).endJog.map fun s => s.inService .run none).settle.replied n tag .accepted [0]) :=
  request_accept h (ownerServiceExit_of (s := s.taken n) hu hn) tag

theorem dropFlow_plain (s : State) (p : PanelNo) : ∀ x ∈ (s.dropFlow p).jobs, x.plain := by
  unfold State.dropFlow
  split
  · exact fun x h => by cases h
  · exact fun x h => by rw [List.mem_singleton.1 h]; trivial
  · exact fun x h => by rw [List.mem_singleton.1 h]; trivial

theorem endJog_plain (s : State) : ∀ x ∈ s.endJog.jobs, x.plain := by
  unfold State.endJog
  split
  · exact fun x h => by cases h
  · intro x h
    obtain h | h := List.mem_append.1 h
    · exact dropFlow_plain _ _ x h
    · rw [List.mem_singleton.1 h]; trivial

/-- The end of a jog leaves the order table. -/
theorem endJog_slots (s : State) : s.endJog.st.slots = s.slots := by
  unfold State.endJog
  split
  · rfl
  · rename_i j h
    exact (dropFlow_slots _ _).trans (calms_jogCoilsOff (s := { s with jog := none }) j).slots

theorem endJog_live (s : State) (p : PanelNo) : (s.endJog.st.panel p).live = (s.panel p).live := by
  unfold State.endJog
  split
  · rfl
  · rename_i j h
    dsimp only [Res.add_st]
    rw [dropFlow_panel, modPanel_panel]
    have live := (calms_jogCoilsOff (s := { s with jog := none }) j).live
    split
    · rename_i e; subst e; exact live _
    · exact live p

theorem endJog_served (s : State) (p : PanelNo) : s.endJog.st.served p = s.served p :=
  served_congr (endJog_live s p) (endJog_slots s)

/-- Settles O45: the orders are paused before the unit is in SERVICE, where none is admitted as ACTIVE; on the way back no
order is served and the work moves flow only. -/
theorem serviceIsEnteredAndLeft : Obligations.ServiceIsEnteredAndLeft := by
  intro s n tag h hs
  refine ⟨fun hu hk hp => ?_, fun hu hn hv => ?_⟩
  · have slots := pauseWorking_slots (linked_taken (n := n) hs) allPanels .service
    have kept : ((s.taken n).pauseWorking allPanels .service).st.lasting = (s.taken n).lasting :=
      (changes_pauseWorking (L := Leave.all) (fun _ => trivial) ..).lasting
    have hx := exec_serviceEnter (tag := tag) h hu hk hp
    generalize (s.taken n).pauseWorking allPanels .service = r at *
    have last := lasting_settle (r.map fun s => s.inService .service (some n))
    have records := records_of_lasting last
    have stands := paused_settle (r := r.map fun s => s.inService .service (some n)) (s := s.taken n) (g := fun _ => True)
      slots fun o hw _ => ⟨mem_allPanels _, hw⟩
    have none := noneWorking_of_paused (t := (r.map fun s => s.inService .service (some n)).st) (s := s.taken n) slots
    refine ⟨_, hx, lasting_unit last, (congrArg State.serviceStation last :), stands,
      (changes_settle _).noneWorking (by simp [State.admissionState, State.inService]) none, ?_⟩
    refine (records_replied ..).trans (records.trans ?_)
    have same := (records_of_lasting kept).trans (records_taken s n)
    exact congrArg (fun u : State => { u with unit := UnitState.service, serviceStation := some n }) same
  · have hx := exec_serviceExit (tag := tag) h hu hn
    have slots := endJog_slots (s.taken n)
    have served := endJog_served (s.taken n)
    have jog := endJog_jog (s.taken n)
    have plain := endJog_plain (s.taken n)
    generalize (s.taken n).endJog = r at *
    obtain ⟨⟨a, b, e⟩, -⟩ := settle_unserved (r := r.map fun s => s.inService .run none) (fun p => (served p).trans (hv p))
        jog plain
    rw [e] at hx
    exact ⟨_, hx, rfl, rfl, jog, slots⟩

end Sys2Proof.Machine
end

section
/-! The end of a service jog, the stops, the loss of the output enable and the violation of an attendance watch. -/

namespace Sys2Proof.Machine

variable {L : Leave} {s t u : State} {p q : PanelNo} {n : StationNo} {tag : Byte} {i : SlotNo} {o : Order} {j : Jog}

/-! ### The end of a jog -/

/-- The unit with the coils of a jog off, before its flow is released (R197). -/
def State.jogStopped (s : State) (j : Jog) : State :=
  (({ s with jog := none }).jogCoilsOff j).modPanel j.panel fun x => { x with activity := x.activity.afterJog }

theorem endJog_of (hj : s.jog = some j) : s.endJog = ((s.jogStopped j).dropFlow j.panel).add [.retest (partner j.panel)] := by
  simp only [State.endJog, hj]
  rfl

theorem endJog_panel (hj : s.jog = some j) (q : PanelNo) : s.endJog.st.panel q = (s.jogStopped j).panel q := by
  rw [endJog_of hj]
  exact dropFlow_panel _ _ _

theorem jogStopped_travel {d : Dir} (hc : j.coil = d.coil) (hm : (s.panel j.panel).mode = .driven) :
    (s.jogStopped j).panel j.panel = { s.panel j.panel with
      coils := (s.panel j.panel).coils.travelOff, mode := .coasting, activity := .braking
      brakeTimer := some (s.now + s.params.tuning.brakingWindow), stall := .stopped, holdoff := none } := by
  have stopped : ({ s with jog := none }).jogCoilsOff j = ({ s with jog := none }).stopTravel j.panel := by
    unfold State.jogCoilsOff
    rw [hc]
    cases d <;> rfl
  have driven : (({ s with jog := none } : State).panel j.panel).mode = .driven := hm
  unfold State.jogStopped
  rw [stopped, State.stopTravel, if_pos driven, modPanel_panel, if_pos rfl, modPanel_panel, if_pos rfl]
  rfl

theorem jogStopped_cleat {d : CleatDir} {g : GroupNo} {m : Move} (hc : j.coil = d.coil g)
    (hm : (s.panel j.panel).move = some m) (hd : d.coil g = m.dir.coil m.group) :
    (s.jogStopped j).panel j.panel = { s.panel j.panel with
      coils := (s.panel j.panel).coils.put false j.coil, activity := (s.panel j.panel).activity.afterValve.afterJog
      move := some { m with valve := false, dwell := none } } := by
  have stopped : ({ s with jog := none }).jogCoilsOff j = ({ s with jog := none }).valveOff j.panel := by
    unfold State.jogCoilsOff
    rw [hc]
    cases d <;> rfl
  have move : (({ s with jog := none } : State).panel j.panel).move = some m := hm
  unfold State.jogStopped
  rw [stopped, State.valveOff]
  simp only [move]
  rw [modPanel_panel, if_pos rfl, modPanel_panel, if_pos rfl, hc, hd]
  rfl

theorem jogStopped_coil (h1 : ∀ d : Dir, j.coil ≠ d.coil) (h2 : ∀ (d : CleatDir) g, j.coil ≠ d.coil g) :
    (s.jogStopped j).panel j.panel = { s.panel j.panel with
      coils := (s.panel j.panel).coils.put false j.coil, activity := (s.panel j.panel).activity.afterJog } := by
  have stopped : ({ s with jog := none }).jogCoilsOff j = ({ s with jog := none }).deEnergise j.panel j.coil := by
    unfold State.jogCoilsOff
    cases hc : j.coil with
    | travelOut => exact absurd hc (h1 .outward)
    | travelIn => exact absurd hc (h1 .inward)
    | cleatRel g => exact absurd hc (h2 .release g)
    | cleatEng g => exact absurd hc (h2 .engage g)
    | _ => rfl
  unfold State.jogStopped
  rw [stopped, State.deEnergise, modPanel_panel, if_pos rfl, modPanel_panel, if_pos rfl]
  rfl

/-- A coil is that of a travel, that of a cleat move, or neither. -/
theorem Coil.cases_drive (c : Coil) : (∃ d : Dir, c = d.coil) ∨ (∃ (d : CleatDir) (g : GroupNo), c = d.coil g) ∨
    (∀ d : Dir, c ≠ d.coil) ∧ ∀ (d : CleatDir) g, c ≠ d.coil g := by
  cases c with
  | travelOut => exact .inl ⟨.outward, rfl⟩
  | travelIn => exact .inl ⟨.inward, rfl⟩
  | cleatRel g => exact .inr (.inl ⟨.release, g, rfl⟩)
  | cleatEng g => exact .inr (.inl ⟨.engage, g, rfl⟩)
  | _ => exact .inr (.inr ⟨fun d => by cases d <;> simp [Dir.coil], fun d g => by cases d <;> simp [CleatDir.coil]⟩)

theorem Dir.coil_iff (c : Coil) : (∃ d : Dir, c = d.coil) ↔ c = .travelOut ∨ c = .travelIn :=
  ⟨fun ⟨d, h⟩ => by cases d <;> simp [h, Dir.coil], fun h => h.elim (fun h => ⟨.outward, h⟩) fun h => ⟨.inward, h⟩⟩

/-! ### Flow that is released -/

theorem flow_congr (ha : t.packA = s.packA) (hb : t.packB = s.packB) (p : PanelNo) : t.flow p = s.flow p := by
  simp only [State.flow, ha, hb]

theorem mem_dropPanel {x : Pack} : q ∈ (x.dropPanel p).panels ↔ q ∈ x.panels ∧ q ≠ p := by
  unfold Pack.dropPanel Pack.panels
  simp only [List.mem_append, List.mem_map, List.mem_filter, bne_iff_ne]
  grind

theorem repacked_dropFlow (s : State) (p : PanelNo) : s.Repacked (s.dropFlow p).st := by
  unfold State.dropFlow
  split
  · exact .refl s
  · exact repacked_modPack fun x q h => (mem_dropPanel.1 h).1
  · exact repacked_modPack fun x q h => (mem_dropPanel.1 h).1

/-- A panel whose grant on a pack is released is gone from that pack. -/
theorem dropFlow_granted {k : PackId} {d : Nat} (h : s.flow p = .granted k d) : p ∉ ((s.dropFlow p).st.pack k).panels := by
  unfold State.dropFlow
  rw [h]
  dsimp only
  rw [modPack_pack_self]
  exact fun h => (mem_dropPanel.1 h).2 rfl

theorem jogStopped_packs (s : State) (j : Jog) : (s.jogStopped j).packA = s.packA ∧ (s.jogStopped j).packB = s.packB := by
  obtain ⟨y, hy, -⟩ := calms_jogCoilsOff (s := { s with jog := none }) j
  unfold State.jogStopped
  rw [hy]
  exact ⟨rfl, rfl⟩

theorem endJog_granted (hj : s.jog = some j) {k : PackId} {d : Nat} (h : s.flow j.panel = .granted k d) :
    j.panel ∉ (s.endJog.st.pack k).panels := by
  rw [endJog_of hj]
  obtain ⟨ha, hb⟩ := jogStopped_packs s j
  exact dropFlow_granted ((flow_congr ha hb _).trans h)

/-! ### The time of a jog expires -/

/-- Settles O47: the coils by the kind of the jog; the work that follows moves flow only, and gives the panel none. -/
theorem jogsEndWithTheirTime : Obligations.JogsEndWithTheirTime := by
  intro s
  refine ⟨fun j hj hs ha ht hc => ?_, fun hj => ?_⟩
  · have hj' : (s.reach j.deadline).jog = some j := hj
    have hx : exec .jogTimeExpiry s = .next (s.reach j.deadline).endJog.settle := by
      change execJogTimeExpiry s = _
      simp only [execJogTimeExpiry, hj]
    have panel := endJog_panel hj' j.panel
    have granted {k d} := endJog_granted hj' (k := k) (d := d)
    have last := (changes_endJog (L := Leave.all) (s := s.reach j.deadline)).lasting
    have jog := endJog_jog (s.reach j.deadline)
    have slots := endJog_slots (s.reach j.deadline)
    obtain ⟨⟨a, b, e⟩, packs⟩ := settle_unserved (fun p => (endJog_served (s.reach j.deadline) p).trans (hs p)) jog
      (endJog_plain _)
    have travel (d : Dir) (hd : j.coil = d.coil) := jogStopped_travel (s := s.reach j.deadline) hd (ht d hd)
    have cleat (d : CleatDir) (g : GroupNo) (hd : j.coil = d.coil g) : ∃ m, ((s.reach j.deadline).jogStopped j).panel j.panel =
        { s.panel j.panel with
          coils := (s.panel j.panel).coils.put false j.coil, activity := (s.panel j.panel).activity.afterValve.afterJog
          move := m } := by
      obtain ⟨m, hm, hdm⟩ := hc d g hd
      exact ⟨_, jogStopped_cleat (s := s.reach j.deadline) hd hm hdm⟩
    have coil := jogStopped_coil (s := s.reach j.deadline) (j := j)
    have act : ((s.reach j.deadline).panel j.panel).activity = .jog := ha
    have settled : ∀ q, (s.reach j.deadline).endJog.settle.panel q = (s.reach j.deadline).endJog.st.panel q := by
      intro q; rw [e]; rfl
    have free (k : PackId) (d : Nat) (hf : s.flow j.panel = .granted k d) :
        ∀ g ∈ ((s.reach j.deadline).endJog.settle.pack k).grants, g.panel ≠ j.panel := by
      intro g hg heq
      refine granted (k := k) (d := d) hf (packs k _ ?_)
      exact List.mem_append_left _ (heq ▸ List.mem_map_of_mem hg)
    have now : (s.reach j.deadline).endJog.settle.now = max s.now j.deadline := by
      rw [e]; exact lasting_now last
    have jog' : (s.reach j.deadline).endJog.settle.jog = none := by rw [e]; exact jog
    have slots' : (s.reach j.deadline).endJog.settle.slots = s.slots := by rw [e]; exact slots
    have result := (settled j.panel).trans panel
    generalize (s.reach j.deadline).endJog.settle = w at *
    refine ⟨w, hx, jog', now, ?_, free, ?_, fun hd => ?_, slots'⟩
    all_goals rw [result]
    · rcases Coil.cases_drive j.coil with ⟨d, hd⟩ | ⟨d, g, hd⟩ | ⟨h1, h2⟩
      · rw [travel d hd, hd]; cases d <;> rfl
      · obtain ⟨m, hm⟩ := cleat d g hd
        rw [hm]; simp [Coils.get_put]
      · rw [coil h1 h2]; simp [Coils.get_put]
    · rcases Coil.cases_drive j.coil with ⟨d, hd⟩ | ⟨d, g, hd⟩ | ⟨h1, h2⟩
      · rw [travel d hd, if_pos ((Dir.coil_iff _).1 ⟨d, hd⟩)]
      · have other : ¬ (j.coil = .travelOut ∨ j.coil = .travelIn) := by rw [hd]; cases d <;> simp [CleatDir.coil]
        obtain ⟨m, hm⟩ := cleat d g hd
        rw [hm, if_neg other, ha]
        rfl
      · rw [coil h1 h2, if_neg fun h => ?_, act]
        · rfl
        · obtain ⟨d, hd⟩ := (Dir.coil_iff _).2 h
          exact h1 d hd
    · obtain ⟨d, hd⟩ := (Dir.coil_iff _).2 hd
      rw [travel d hd]
      exact ⟨rfl, rfl⟩
  · change execJogTimeExpiry s = _
    simp only [execJogTimeExpiry, hj]

/-! ### STOP_HATCH and STOP_ALL -/

theorem ownerStopHatch_of {hatch : Byte} {h : HatchNo} (ha : hatchArg hatch = some h) (hc : s.hatchConfigured h = true)
    (hk : s.isKind n stopKinds = true) : ownerStopHatch n hatch s =
      accept (s.stopPanels [portOf h, starboardOf h]).settle false [byteOf (s.workingCount [portOf h, starboardOf h])] := by
  simp only [ownerStopHatch, ha, hc, hk, Bool.not_true, Bool.false_eq_true, if_false]

theorem ownerStopAll_of (hk : s.isKind n stopKinds = true) :
    ownerStopAll n s = accept (s.stopPanels allPanels).settle false [byteOf (s.workingCount allPanels)] := by
  simp only [ownerStopAll, hk, Bool.not_true, Bool.false_eq_true, if_false]

theorem stopPanels_slots (hs : s.Linked) (ps : List PanelNo) (k : SlotNo) : (s.stopPanels ps).st.slot k =
    (s.slot k).map fun o => o.stoppedBy (fun o => o.state.working) ps .request := by
  rw [← pauseWorking_slots hs]
  unfold State.stopPanels
  rw [Res.bind_st]
  split
  · split
    · exact slot_of_slots (endJog_slots _) k
    · rfl
  · rfl

theorem stopPanels_jog (s : State) (ps : List PanelNo) (h : (s.stopPanels ps).st.jog = some j) : j.panel ∉ ps := by
  unfold State.stopPanels at h
  rw [Res.bind_st] at h
  split at h
  · rename_i j' hj'
    split at h
    · rw [endJog_jog] at h; cases h
    · rename_i hn
      obtain rfl : j' = j := Option.some.inj (hj'.symm.trans h)
      simpa using hn
  · rename_i hj'
    rw [Res.ok_st, hj'] at h; cases h

theorem lasting_stopPanels (s : State) (ps : List PanelNo) : (s.stopPanels ps).st.lasting = s.lasting := by
  have paused := (changes_pauseWorking (L := Leave.all) (s := s) (fun _ => trivial) ps .request).lasting
  unfold State.stopPanels
  rw [Res.bind_st]
  split
  · split
    · exact (changes_endJog (L := Leave.all)).lasting.trans paused
    · exact paused
  · exact paused

theorem settle_jog (r : Res) (h : r.settle.jog = some j) : r.st.jog = some j := (changes_settle r).jogOf h

theorem mem_hatch_iff {h : HatchNo} : p ∈ [portOf h, starboardOf h] ↔ hatchOf p = h := by
  constructor
  · simp only [List.mem_cons, List.not_mem_nil, or_false]
    rintro (rfl | rfl)
    · simp [hatchOf, portOf]
    · simp [hatchOf, starboardOf, Fin.ext_iff]; omega
  · rintro rfl; exact mem_hatch p

/-- Settles O30: the stop of the panels of the hatch, or of all panels. -/
theorem stopsPauseAndEndTheJog : Obligations.StopsPauseAndEndTheJog := by
  intro s n tag hatch h hr hs hk
  refine ⟨fun ha hc => ?_, ?_⟩
  · have hx := request_accept hr (ownerStopHatch_of (s := s.taken n) ha hc hk) tag
    have slots := stopPanels_slots (linked_taken (n := n) hs) [portOf h, starboardOf h]
    have last := (lasting_settle _).trans (lasting_stopPanels (s.taken n) [portOf h, starboardOf h])
    have paused := paused_settle (s := s.taken n) (g := fun o => hatchOf o.panel = h) slots fun o hw hp =>
      ⟨mem_hatch_iff.2 hp, hw⟩
    have jog (j : Jog) (hj : ((s.taken n).stopPanels [portOf h, starboardOf h]).settle.jog = some j) : hatchOf j.panel ≠ h :=
      fun e => stopPanels_jog _ _ (settle_jog _ hj) (mem_hatch_iff.2 e)
    generalize ((s.taken n).stopPanels [portOf h, starboardOf h]).settle = w at *
    exact ⟨_, hx, paused, records_of_taken last, jog⟩
  · have hx := request_accept hr (ownerStopAll_of (s := s.taken n) hk) tag
    have slots := stopPanels_slots (linked_taken (n := n) hs) allPanels
    have last := (lasting_settle _).trans (lasting_stopPanels (s.taken n) allPanels)
    have paused := paused_settle (s := s.taken n) (g := fun _ => True) slots fun o hw _ => ⟨mem_allPanels _, hw⟩
    have unjogged : ((s.taken n).stopPanels allPanels).settle.jog = none := by
      by_contra hn
      obtain ⟨j, hj⟩ := Option.ne_none_iff_exists'.1 hn
      exact stopPanels_jog _ _ (settle_jog _ hj) (mem_allPanels _)
    generalize ((s.taken n).stopPanels allPanels).settle = t at *
    generalize byteOf ((s.taken n).workingCount allPanels) = b at hx
    exact ⟨_, hx, paused, records_of_taken last, unjogged⟩

end Sys2Proof.Machine
end

section
/-! The loss of the output enable, and the violation of an attendance watch. -/

namespace Sys2Proof.Machine

variable {L : Leave} {s t u : State} {p q : PanelNo} {n m : StationNo} {tag : Byte} {i : SlotNo} {o : Order}

/-! ### The output enable is lost -/

theorem forPanels_stopped (s : State) (q : PanelNo) : ((s.forPanels fun p s => s.panelOff p).panel q).mode ≠ .driven :=
  fold_reaches (f := fun s p => s.panelOff p) (P := fun x => x.mode ≠ .driven) (fun _ _ => calms_panelOff) panelOff_mode
    (fun _ _ h e hm => e (h.mode hm)) allPanels s (mem_allPanels q)

theorem forPanels_off_slots (s : State) : (s.forPanels fun p s => s.panelOff p).slots = s.slots := by
  have : ∀ (ps : List PanelNo) (s : State), (ps.foldl (fun s p => s.panelOff p) s).slots = s.slots := by
    intro ps
    induction ps with
    | nil => exact fun _ => rfl
    | cons p ps ih => exact fun s => (ih _).trans calms_panelOff.slots
  exact this allPanels s

/-- Every panel is off, every order that worked is PAUSED, and no jog is in progress. -/
theorem dropEnable_slots (hs : s.Linked) (r : PauseReason) (k : SlotNo) : (s.dropEnable r).st.slot k =
    (s.slot k).map fun o => o.stoppedBy (fun o => o.state.working) allPanels r := by
  have linked : (s.forPanels fun p s => s.panelOff p).Linked := (fold_panelOff (L := Leave.all) s).linked hs
  unfold State.dropEnable
  rw [Res.bind_st, slot_of_slots (endJog_slots _), pauseWorking_slots linked, slot_of_slots (forPanels_off_slots s)]

theorem dropEnable_jog (s : State) (r : PauseReason) : (s.dropEnable r).st.jog = none := by
  unfold State.dropEnable
  rw [Res.bind_st]
  exact endJog_jog _

theorem dropEnable_run (s : State) (r : PauseReason) :
    Changes Leave.halting (s.forPanels fun p s => s.panelOff p) (s.dropEnable r).st := by
  unfold State.dropEnable
  rw [Res.bind_st]
  exact (changes_pauseWorking (fun _ => trivial) ..).trans changes_endJog

theorem dropEnable_panel (s : State) (r : PauseReason) (q : PanelNo) :
    ((s.dropEnable r).st.panel q).coils = {} ∧ ((s.dropEnable r).st.panel q).mode ≠ .driven := by
  have calmer := Changes.calmer (dropEnable_run s r) q
  exact ⟨coils_off_of_get calmer.coils (forPanels_off s q), fun h => forPanels_stopped s q (calmer.mode h)⟩

theorem lasting_dropEnable (s : State) (r : PauseReason) : (s.dropEnable r).st.lasting = s.lasting :=
  (dropEnable_run s r).lasting.trans (fold_panelOff (L := Leave.all) s).lasting

/-- What the loss of the output enable in `s`, for the reason `r`, has made of the unit. -/
structure Stopped (s t : State) (r : PauseReason) : Prop where
  panels : ∀ p, (t.panel p).coils = {} ∧ (t.panel p).mode ≠ .driven
  paused : Paused r (fun _ => True) s t
  orders : t.noneWorking
  jog : t.jog = none

/-- Where every order that worked is PAUSED, nothing is driven and none is admitted as ACTIVE, the work that follows starts
nothing. -/
theorem stopped_settle {r : Res} {c : PauseReason}
    (slots : ∀ k, r.st.slot k = (s.slot k).map fun o => o.stoppedBy (fun o => o.state.working) allPanels c)
    (jog : r.st.jog = none) (off : ∀ p, (r.st.panel p).coils = {} ∧ (r.st.panel p).mode ≠ .driven)
    (admission : r.st.admissionState ≠ .active) : Stopped s r.settle c := by
  have none := noneWorking_of_paused slots
  have calmer := (changes_settle r).calmer_of_idle admission none fun p => (off p).2
  refine ⟨fun p => ⟨coils_off_of_get (calmer p).coils (off p).1, fun h => (off p).2 ((calmer p).mode h)⟩,
    paused_settle slots fun o hw _ => ⟨mem_allPanels _, hw⟩, (changes_settle r).noneWorking admission none, ?_⟩
  obtain h | h := (changes_settle r).jog
  · exact h.trans jog
  · exact h

theorem admissionState_disabled (h : s.loopOpen = true ∨ s.supplyLow = true) : s.admissionState ≠ .active := by
  unfold State.admissionState
  split
  · exact fun h => by cases h
  · split
    · exact fun h => by cases h
    · rename_i hl
      rw [if_pos (h.resolve_left hl)]
      exact fun h => by cases h

/-- The loss of the output enable, with its latch. -/
def State.lose (s : State) (r : PauseReason) (e : EventLatch) : Res := (s.dropEnable r).map fun s => s.setLatch e

theorem lose_st (s : State) (r : PauseReason) (e : EventLatch) : (s.lose r e).st = (s.dropEnable r).st.setLatch e := by
  unfold State.lose
  exact Res.map_st ..

theorem lasting_lose (s : State) (r : PauseReason) (e : EventLatch) : (s.lose r e).st.lasting = s.lasting := by
  rw [lose_st, lasting_setLatch, lasting_dropEnable]

theorem lose_settle (hs : s.Linked) (hu : s.loopOpen = true ∨ s.supplyLow = true) (r : PauseReason) (e : EventLatch) :
    Stopped s (s.lose r e).settle r := by
  refine stopped_settle (fun k => ?_) ?_ (fun p => ?_) ?_
  · rw [lose_st, setLatch_slot, dropEnable_slots hs]
  · rw [lose_st, setLatch_jog, dropEnable_jog]
  · rw [lose_st, setLatch_panel]
    exact dropEnable_panel s r p
  · rw [lasting_admissionState (lasting_lose s r e)]
    exact admissionState_disabled hu

theorem lasting_loseSettle (s : State) (r : PauseReason) (e : EventLatch) : (s.lose r e).settle.lasting = s.lasting :=
  (lasting_settle _).trans (lasting_lose s r e)

theorem lose_latched (s : State) (r : PauseReason) {e : EventLatch} (h : ¬ (s.inStart = true ∧ 4 ≤ e.code)) :
    e ∈ (s.lose r e).settle.latches := by
  refine (changes_settle _).latches ?_
  rw [lose_st]
  refine (setLatch_mem _ _ _).2 (.inr ⟨rfl, ?_⟩)
  rw [lasting_inStart (lasting_dropEnable s r)]
  exact h

theorem paused_congr {r : PauseReason} {f : Order → Prop} (h : Paused r f t u) (e : t.slots = s.slots) : Paused r f s u :=
  fun i o ho => h i o ((slot_of_slots e i).trans ho)

/-- Settles O34: the loop's own records or the supply's are set, and the output enable is lost. -/
theorem lostEnableStopsEverything : Obligations.LostEnableStopsEverything := by
  intro s hs
  refine ⟨fun held hh ho => ?_, fun mV held hh hv hl => ?_, fun held hh => ?_, fun mV held hh => ?_, fun mV held hh hv => ?_⟩
  · have long : ¬ held < 10 := by omega
    have hx : exec (.estopOpen held) s = .next
        (({ s with loopClosedLine := false, loopTaken := true, loopOpen := true } : State).lose .estop .estopChange).settle := by
      change execEstopOpen held s = _
      simp only [execEstopOpen, long, if_false, ho, Bool.false_eq_true, State.lose]
    have linked : ({ s with loopClosedLine := false, loopTaken := true, loopOpen := true } : State).Linked :=
      (linked_iff.1 hs).of_same {} fun _ => .inl rfl
    have stopped := lose_settle linked (.inl rfl) .estop .estopChange
    have last := lasting_loseSettle ({ s with loopClosedLine := false, loopTaken := true, loopOpen := true } : State) .estop
        .estopChange
    have latched := lose_latched ({ s with loopClosedLine := false, loopTaken := true, loopOpen := true } : State) .estop
      (e := .estopChange) fun h => absurd h.2 (by decide)
    generalize (({ s with loopClosedLine := false, loopTaken := true, loopOpen := true } : State).lose .estop .estopChange).settle = t at *
    exact ⟨t, hx, (congrArg State.loopOpen last :), lasting_enabled last, stopped.panels, paused_congr stopped.paused rfl,
      stopped.orders, stopped.jog, latched⟩
  · have long : ¬ held < supplyStable := by unfold supplyStable; omega
    have low : ¬ 19000 ≤ mV := by omega
    have hx : exec (.supplyUndervoltage mV held) s = .next
        (({ s with supplyMv := mV, supplyRecovered := false, supplyLow := true } : State).lose .supply .unitFault).settle := by
      change execSupplyUndervoltage mV held s = _
      simp only [execSupplyUndervoltage, long, low, if_false, hl, Bool.false_eq_true, State.lose]
    have linked : ({ s with supplyMv := mV, supplyRecovered := false, supplyLow := true } : State).Linked :=
      (linked_iff.1 hs).of_same {} fun _ => .inl rfl
    have stopped := lose_settle linked (.inr rfl) .supply .unitFault
    have last := lasting_loseSettle ({ s with supplyMv := mV, supplyRecovered := false, supplyLow := true } : State) .supply
        .unitFault
    have latched (hu : s.inStart = false) :=
      lose_latched ({ s with supplyMv := mV, supplyRecovered := false, supplyLow := true } : State) .supply
        (e := .unitFault) fun h => absurd (hu.symm.trans h.1) (by decide)
    generalize (({ s with supplyMv := mV, supplyRecovered := false, supplyLow := true } : State).lose .supply .unitFault).settle = t at *
    have supply : t.supplyLow = true := (congrArg State.supplyLow last :)
    exact ⟨t, hx, supply, (lasting_enabled last).trans (by simp [State.enabled]), stopped.panels,
      paused_congr stopped.paused rfl, stopped.orders, stopped.jog, by simp
          [State.unitFaults, State.hasUnitFault, supply, allUnitFaults], latched⟩
  · change execEstopOpen held s = _
    simp only [execEstopOpen, hh, if_true]
  · change execSupplyUndervoltage mV held s = _
    have short : held < supplyStable := hh
    simp only [execSupplyUndervoltage, short, if_true]
  · change execSupplyUndervoltage mV held s = _
    have long : ¬ held < supplyStable := by unfold supplyStable; omega
    simp only [execSupplyUndervoltage, long, hv, if_false, if_true]

end Sys2Proof.Machine
end

section
/-! The violation of an attendance watch (R147 to R149). -/

namespace Sys2Proof.Machine

variable {L : Leave} {s t u : State} {p q : PanelNo} {n m : StationNo} {tag : Byte} {i : SlotNo} {o : Order} {h : HatchNo}

/-! ### What pausing leaves of the stations -/

theorem dropFlow_stations (s : State) (p : PanelNo) : (s.dropFlow p).st.stations = s.stations := by
  obtain ⟨⟨a, b, e⟩, -⟩ := repacked_dropFlow s p
  rw [e]

theorem State.Calms.stations (h : s.Calms p t) : t.stations = s.stations := by
  obtain ⟨y, rfl, -⟩ := h; rfl

theorem interrupt_stations (s : State) (p : PanelNo) : (s.interrupt p).st.stations = s.stations := by
  unfold State.interrupt
  cases hs : s.served p with
  | none => rfl
  | some iok =>
    obtain ⟨i, o, k⟩ := iok
    dsimp only [Res.add_st]
    rw [dropFlow_stations]
    have calm : s.Calms p (if o.phase = some .running then s.stopStep p k else s) := by
      split
      · exact calms_stopStep k
      · exact .refl s p
    refine Eq.trans ?_ calm.stations
    generalize (if o.phase = some .running then s.stopStep p k else s) = u
    change (u.modOrder i fun o => { o with phase := none, reasons := {} }).stations = _
    unfold State.modOrder
    cases u.slot i <;> rfl

/-- Pausing an order counts its issuer again, and no other station. -/
theorem pauseOrder_station {c : PauseReason} (ho : s.slot i = some o) (hm : m ≠ o.issuer) :
    (s.pauseOrder i c).st.station m = s.station m := by
  unfold State.pauseOrder
  rw [ho]
  dsimp only
  cases o.state.pausedFrom with
  | none => rfl
  | some f =>
    dsimp only
    rw [Res.map_st]
    have before : ∃ o', (if o.state = .active then s.interrupt o.panel else Res.ok s).st.slot i = some o' ∧
        o'.issuer = o.issuer := by
      split
      · obtain ⟨o', ho', same⟩ := interrupted_slot s o.panel ho
        exact ⟨o', ho', by rcases same with rfl | rfl <;> rfl⟩
      · exact ⟨o, ho, rfl⟩
    have stations : (if o.state = .active then s.interrupt o.panel else Res.ok s).st.stations = s.stations := by
      split
      · exact interrupt_stations s o.panel
      · rfl
    obtain ⟨o', ho', hi⟩ := before
    rw [updateOrder_station ho', if_neg (by simp [hi, hm])]
    simp only [State.station, stations]

theorem pauseIf_station {f : Order → Bool} {c : PauseReason} (hf : ∀ o, f o = true → o.issuer = n) (hm : m ≠ n) (s : State)
    (p : PanelNo) : (s.pauseIf f c p).st.station m = s.station m := by
  unfold State.pauseIf
  cases hl : s.liveOrder p with
  | none => rfl
  | some io =>
    obtain ⟨i, o⟩ := io
    dsimp only
    split
    · rename_i ho
      exact pauseOrder_station (liveOrder_some hl).1 (hf o ho ▸ hm)
    · rfl

/-! ### The violation -/

/-- The orders that a violation of the station pauses. -/
def Order.watchedBy (o : Order) (n : StationNo) : Bool := o.issuer == n && o.state.working

/-- The unit with the pendant's orders PAUSED (R148). -/
def State.ordersPaused (s : State) (n : StationNo) : State :=
  (Res.each allPanels (fun p s => s.pauseIf (fun o => o.watchedBy n) .attendance p) (.ok s)).st

/-- The unit with the warnings of a violation (R148). -/
def State.panelsWarned (s : State) (ps : List PanelNo) : State := ps.foldl (fun s p => s.warn p .attendanceLost) s

/-- The unit with the latch of a violation and the watch of the pendant stopped (R147). -/
def State.unwatched (s : State) (n : StationNo) : State :=
  (s.setLatch .attendance).modStation n fun x => { x with watching := false, deadline := none }

theorem violation_pause (hm : s.params.tuning.attendanceMode = 0) :
    (s.violation n).st = ((s.ordersPaused n).panelsWarned (s.pendantPanels n)).unwatched n := by
  unfold State.violation
  dsimp only
  rw [if_pos hm, Res.map_st, Res.map_st]
  rfl

theorem violation_halt (hm : s.params.tuning.attendanceMode ≠ 0) :
    (s.violation n).st = (s.raiseAll (s.pendantPanels n) .attendance).st.unwatched n := by
  unfold State.violation
  dsimp only
  rw [if_neg hm, Res.map_st]
  rfl

theorem changes_ordersPaused (s : State) (n : StationNo) : Changes Leave.all s (s.ordersPaused n) :=
  changes_eachPause (fun _ => trivial) _ allPanels .attendance

theorem changes_panelsWarned : ∀ (ps : List PanelNo) (s : State), Changes L s (s.panelsWarned ps)
  | [], _ => .refl
  | p :: ps, _ => (changes_warn (p := p) .attendanceLost).trans (changes_panelsWarned ps _)

theorem panelsWarned_slots : ∀ (ps : List PanelNo) (s : State), (s.panelsWarned ps).slots = s.slots
  | [], _ => rfl
  | p :: ps, s => (panelsWarned_slots ps _).trans (by simp [State.warn])

theorem panelsWarned_stations : ∀ (ps : List PanelNo) (s : State), (s.panelsWarned ps).stations = s.stations
  | [], _ => rfl
  | p :: ps, s => (panelsWarned_stations ps _).trans (by simp [State.warn])

theorem warn_mem (s : State) (p : PanelNo) (k : PanelWarning) : k ∈ ((s.warn p k).panel p).warnings := by
  unfold State.warn
  rw [setLatch_panel, modPanel_panel, if_pos rfl]
  exact mem_joinSet.2 ⟨mem_allPanelWarnings k, .inl rfl⟩

theorem panelsWarned_mem : ∀ (ps : List PanelNo) (s : State), p ∈ ps →
    .attendanceLost ∈ ((s.panelsWarned ps).panel p).warnings
  | [], _, hp => absurd hp List.not_mem_nil
  | q :: ps, s, hp => by
    obtain rfl | hp := List.mem_cons.1 hp
    · exact ((changes_panelsWarned (L := Leave.all) ps _).panel p).warnings _ (warn_mem s p _)
    · exact panelsWarned_mem ps _ hp

theorem raiseAll_mem {k : PanelFault} : ∀ (ps : List PanelNo) (s : State), p ∈ ps → s.configured p = true →
    k ∈ ((s.raiseAll ps k).st.panel p).faults
  | [], _, hp, _ => absurd hp List.not_mem_nil
  | q :: ps, s, hp, hc => by
    have first : (s.raiseAll (q :: ps) k).st = ((s.raise q k).st.raiseAll ps k).st := each_cons_st _ _ _ _
    rw [first]
    obtain rfl | hp := List.mem_cons.1 hp
    · refine ((changes_raiseAll (L := Leave.all) trivial (fun _ => trivial) ps k).panel p).faults k ?_
      rw [raise_faults]
      split
      · exact mem_joinSet.2 ⟨mem_allPanelFaults k, .inl rfl⟩
      · rename_i hn
        by_contra hk
        exact hn ⟨rfl, hc, hk⟩
    · exact raiseAll_mem ps _ hp ((lasting_configured (lasting_raise s q k) p).trans hc)

theorem ordersPaused_slot (hs : s.Linked) (n : StationNo) (k : SlotNo) : (s.ordersPaused n).slot k =
    (s.slot k).map fun o => o.stoppedBy (fun o => o.watchedBy n) allPanels .attendance :=
  each_pauseIf_slots (f := fun o => o.watchedBy n)
    (fun o h => by simp only [Order.watchedBy, Bool.and_eq_true] at h; exact working_pausedFrom h.2) .attendance k allPanels s hs

theorem ordersPaused_station (s : State) (hm : m ≠ n) : (s.ordersPaused n).station m = s.station m :=
  Res.each_ind (P := fun t => t.station m = s.station m)
    (fun p u e => (pauseIf_station (fun o h => by simp only [Order.watchedBy, Bool.and_eq_true, beq_iff_eq] at h; exact h.1) hm
      u p).trans e) allPanels (.ok s) rfl

theorem unwatched_slots (s : State) (n : StationNo) : (s.unwatched n).slots = s.slots := by
  simp [State.unwatched]

theorem unwatched_panel (s : State) (n : StationNo) (p : PanelNo) : (s.unwatched n).panel p = s.panel p := by
  simp [State.unwatched]

theorem unwatched_station (s : State) (n m : StationNo) : (s.unwatched n).station m =
    if n = m then { s.station n with watching := false, deadline := none } else s.station m := by
  unfold State.unwatched
  rw [modStation_station _ n m fun x => { x with watching := false, deadline := none }]
  simp only [State.station, setLatch_stations]

theorem unwatched_latched (s : State) (n : StationNo) (hs : s.inStart = false) : .attendance ∈ (s.unwatched n).latches := by
  unfold State.unwatched
  rw [modStation_latches]
  exact (setLatch_mem _ _ _).2 (.inr ⟨rfl, fun h => absurd (hs.symm.trans h.1) (by decide)⟩)

theorem lasting_unwatched (s : State) (n : StationNo) : (s.unwatched n).lasting = s.lasting := by
  unfold State.unwatched
  refine Eq.trans (lasting_modStation fun _ => ?_) (lasting_setLatch ..)
  rfl

theorem lasting_violation (s : State) (n : StationNo) : (s.violation n).st.lasting = s.lasting := by
  by_cases hm : s.params.tuning.attendanceMode = 0
  · rw [violation_pause hm, lasting_unwatched, (changes_panelsWarned (L := Leave.all) _ _).lasting,
      (changes_ordersPaused s n).lasting]
  · rw [violation_halt hm, lasting_unwatched, lasting_raiseAll]

theorem pendantPanels_of (hh : s.pendantHatch n = some h) (hc : s.hatchConfigured h = true) :
    s.pendantPanels n = [portOf h, starboardOf h] := by
  have both : ∀ p ∈ [portOf h, starboardOf h], s.configured p = true := fun p hp => by
    unfold State.configured
    rw [mem_hatch_iff.1 hp]
    exact hc
  simp only [State.pendantPanels, hh]
  exact List.filter_eq_self.2 both

/-- What a violation and the work that follows it bring about. -/
theorem violation_settle (hs : s.Linked) (hu : s.inStart = false) (hh : s.pendantHatch n = some h)
    (hc : s.hatchConfigured h = true) :
    .attendance ∈ (s.violation n).settle.latches ∧
    (s.params.tuning.attendanceMode = 0 → Paused .attendance (fun o => o.issuer = n) s (s.violation n).settle ∧
      ∀ p ∈ [portOf h, starboardOf h], .attendanceLost ∈ ((s.violation n).settle.panel p).warnings) ∧
    (s.params.tuning.attendanceMode ≠ 0 → ∀ p ∈ [portOf h, starboardOf h],
      .attendance ∈ ((s.violation n).settle.panel p).faults) := by
  have panels := pendantPanels_of hh hc
  have work := changes_settle (s.violation n)
  refine ⟨work.latches ?_, fun hm => ⟨?_, fun p hp => (work.panel p).warnings _ ?_⟩, fun hm p hp => (work.panel p).faults _ ?_⟩
  · by_cases hm : s.params.tuning.attendanceMode = 0
    · rw [violation_pause hm]
      refine unwatched_latched _ n ?_
      rw [lasting_inStart (changes_panelsWarned (L := Leave.all) _ _).lasting,
        lasting_inStart (changes_ordersPaused s n).lasting]
      exact hu
    · rw [violation_halt hm]
      exact unwatched_latched _ n ((lasting_inStart (lasting_raiseAll ..)).trans hu)
  · refine paused_settle (f := fun o => o.watchedBy n) (ps := allPanels) (fun k => ?_) fun o hw hn =>
      ⟨mem_allPanels _, by simp [Order.watchedBy, hn, hw]⟩
    rw [violation_pause hm, slot_of_slots (unwatched_slots _ _), slot_of_slots (panelsWarned_slots _ _), ordersPaused_slot hs]
  · rw [violation_pause hm, unwatched_panel, panels]
    exact panelsWarned_mem _ _ hp
  · rw [violation_halt hm, unwatched_panel, panels]
    refine raiseAll_mem _ s hp ?_
    unfold State.configured
    rw [mem_hatch_iff.1 hp]
    exact hc

/-- At its end the pendant is watched no more; where orders are PAUSED, no other station changes. -/
theorem violation_stations (s : State) (n : StationNo) :
    ((s.violation n).st.station n).watching = false ∧ ((s.violation n).st.station n).deadline = none ∧
    (s.params.tuning.attendanceMode = 0 → ∀ m, m ≠ n → (s.violation n).st.station m = s.station m) := by
  have own : ((s.violation n).st.station n).watching = false ∧ ((s.violation n).st.station n).deadline = none := by
    by_cases hm : s.params.tuning.attendanceMode = 0
    · rw [violation_pause hm, unwatched_station, if_pos rfl]
      exact ⟨rfl, rfl⟩
    · rw [violation_halt hm, unwatched_station, if_pos rfl]
      exact ⟨rfl, rfl⟩
  refine ⟨own.1, own.2, fun hm m hne => ?_⟩
  rw [violation_pause hm, unwatched_station, if_neg (Ne.symm hne)]
  refine Eq.trans ?_ (ordersPaused_station s hne)
  simp only [State.station, panelsWarned_stations]

theorem pendantHatch_kind (hh : s.pendantHatch n = some h) : s.stationKind n = some .pendant := by
  unfold State.pendantHatch at hh
  split at hh
  · rename_i hk; exact hk.1
  · cases hh

/-- Settles O29: both ways to a violation, and what it leaves to the work that follows. -/
theorem violationStopsThePendant : Obligations.ViolationStopsThePendant := by
  intro s n tag h hs hu hh hc
  refine ⟨fun d hd => ?_, fun hr hw hl => ?_⟩
  · have hx : exec (.attendanceDeadlineExpiry n) s = .next ((s.reach d).violation n).settle := by
      change execAttendanceDeadlineExpiry n s = _
      simp only [execAttendanceDeadlineExpiry, hd]
    have linked : (s.reach d).Linked := (linked_iff.1 hs).of_same {} fun _ => .inl rfl
    obtain ⟨latched, paused, halted⟩ := violation_settle linked hu hh hc
    have last := (lasting_settle _).trans (lasting_violation (s.reach d) n)
    have stations := violation_stations (s.reach d) n
    have params : ((s.reach d).violation n).settle.params = s.params := (congrArg State.params last :)
    have claims : ((s.reach d).violation n).settle.claims = s.claims := (congrArg State.claims last :)
    generalize hv : ((s.reach d).violation n).settle = w at *
    refine ⟨w, hx, ⟨latched, params, claims, fun hm => ?_, fun hm => ?_⟩, stations, hv.symm⟩
    · obtain ⟨h1, h2⟩ := paused hm
      exact ⟨h1, h2 _ (by simp), h2 _ (by simp)⟩
    · exact ⟨halted hm _ (by simp), halted hm _ (by simp)⟩
  · have early : (s.taken n).keepOutcome n = .early := (keepOutcome_of_taken s n).trans (keepOutcome_early hw hl)
    have keep : (s.taken n).keep n = ((s.taken n).violation n).settle := by simp only [State.keep, early]
    have owner := ownerKeepalive_of (s := s.taken n) (pendantHatch_kind hh)
    rw [keep, early] at owner
    have hx := request_accept hr owner tag
    obtain ⟨latched, paused, halted⟩ := violation_settle (linked_taken (n := n) hs) hu hh hc
    have last := (lasting_settle _).trans (lasting_violation (s.taken n) n)
    obtain ⟨w1, w2, others⟩ := violation_stations (s.taken n) n
    have queue := txQueue_of_taken (tag := tag) (c := .accepted) (bs := [0, 2]) last
    have idle (hm : s.params.tuning.attendanceMode = 0) (m : StationNo) (hne : m ≠ n) :
        ((s.taken n).violation n).st.station m = s.station m :=
      (others hm m hne).trans ((taken_station s n m).trans (if_neg (Ne.symm hne)))
    have params : ((s.taken n).violation n).settle.params = s.params := (congrArg State.params last :)
    have claims : ((s.taken n).violation n).settle.claims = s.claims := (congrArg State.claims last :)
    generalize hv : ((s.taken n).violation n).settle = w at *
    refine ⟨_, hx, ⟨latched, params, claims, fun hm => ?_, fun hm => ?_⟩, ⟨w1, w2, idle⟩, rfl, queue⟩
    · obtain ⟨h1, h2⟩ := paused hm
      exact ⟨h1, h2 _ (by simp), h2 _ (by simp)⟩
    · exact ⟨halted hm _ (by simp), halted hm _ (by simp)⟩

end Sys2Proof.Machine
end

section
/-! Work on one panel (`State.WorksOn`): it touches the records of that panel and of its order; of the others only orders that
wait on a predecessor, and the panels that such an order is taken away from. -/

namespace Sys2Proof.Machine

variable {L : Leave} {s t u : State} {p q : PanelNo} {i j : SlotNo} {o : Order} {k : StepKind}

/-- `t` is `s` after work on the panel `p`. -/
structure State.WorksOn (p : PanelNo) (s t : State) : Prop where
  run : Changes Leave.all s t
  panel : s.Linked → ∀ q, p ≠ q → t.panel q = s.panel q ∨ ∃ i o, s.slot i = some o ∧ o.panel = q ∧ o.waiting = true
  slot : s.Linked → ∀ j o, s.slot j = some o → o.panel ≠ p → o.waiting = false → t.slot j = some o

namespace State.WorksOn

theorem refl (p : PanelNo) (s : State) : WorksOn p s s := ⟨.refl, fun _ _ _ => .inl rfl, fun _ _ _ h _ _ => h⟩

theorem of_eq (h : s = t) : WorksOn p s t := h ▸ refl p s

theorem trans (a : WorksOn p s t) (b : WorksOn p t u) : WorksOn p s u where
  run := a.run.trans b.run
  panel := fun hs q hq => by
    have ht := Changes.linked a.run hs
    obtain e | ⟨i, o, ho, hp, hw⟩ := b.panel ht q hq
    · obtain e' | h := a.panel hs q hq
      · exact .inl (e.trans e')
      · exact .inr h
    · right
      obtain ⟨o', ho', hl⟩ := Changes.slot_from a.run ho
      obtain ⟨-, -, hp', -⟩ := Order.lasting_fields hl
      refine ⟨i, o', ho', hp'.symm.trans hp, ?_⟩
      by_contra hn
      have hn : o'.waiting = false := by simpa using hn
      have := a.slot hs i o' ho' (fun e => hq (e.symm.trans (hp'.symm.trans hp))) hn
      obtain rfl : o = o' := Option.some.inj (ho.symm.trans this)
      rw [hw] at hn; cases hn
  slot := fun hs j o ho hp hw => b.slot (Changes.linked a.run hs) j o (a.slot hs j o ho hp hw) hp hw

/-- A run of changes that keeps the other panels and the order table. -/
theorem of_run (h : Changes Leave.all s t) (hp : ∀ q, p ≠ q → t.panel q = s.panel q) (hs : t.slots = s.slots) :
    WorksOn p s t := ⟨h, fun _ q hq => .inl (hp q hq), fun _ j _ ho _ _ => (slot_of_slots hs j).trans ho⟩

theorem of_calms (h : s.Calms p t) : WorksOn p s t :=
  of_run h.changes (fun q hq => by obtain ⟨y, rfl, -⟩ := h; exact setPanel_panel_ne _ _ hq) h.slots

theorem of_change {f : Panel → Panel} (h : Changes Leave.all s (s.modPanel p f)) : WorksOn p s (s.modPanel p f) :=
  of_run h (fun _ hq => modPanel_panel_ne _ _ hq) rfl

theorem latch {e : EventLatch} (h : 4 ≤ e.code) : WorksOn p s (s.setLatch e) :=
  of_run (changes_latch h) (fun q _ => setLatch_panel _ _ q) (by simp)

theorem warn (w : PanelWarning) : WorksOn p s (s.warn p w) := by
  refine of_run (changes_warn w) (fun q hq => ?_) ?_
  · unfold State.warn
    rw [setLatch_panel, modPanel_panel_ne _ _ hq]
  · simp [State.warn]

/-- A change of the panel's own order. -/
theorem of_slot (h : Changes Leave.all s t) (hp : ∀ q, p ≠ q → t.panel q = s.panel q) (ho : s.slot i = some o)
    (hi : s.Linked → o.panel = p) (hs : ∀ j, i ≠ j → t.slot j = s.slot j) : WorksOn p s t :=
  ⟨h, fun _ q hq => .inl (hp q hq), fun hl j x hx hxp _ => by
    by_cases e : i = j
    · subst e
      obtain rfl : o = x := Option.some.inj (ho.symm.trans hx)
      exact absurd (hi hl) hxp
    · rw [hs j e]; exact hx⟩

theorem dropFlow (s : State) (p q : PanelNo) : WorksOn p s (s.dropFlow q).st :=
  of_run changes_dropFlow (fun r _ => dropFlow_panel s q r) (dropFlow_slots s q)

theorem pack {x : PackId} {f : Pack → Pack} (h : ∀ y, (f y).lasting = y.lasting) : WorksOn p s (s.modPack x f) :=
  of_run (changes_modPack h) (fun _ _ => modPack_panel _ _ _ _) (modPack_slots _ _ _)

end State.WorksOn

open State (WorksOn)

/-! ### Orders that end -/

/-- The served order is the panel's own. -/
theorem State.serves.panel (h : s.serves p i) (hs : s.Linked) : ∃ o, s.slot i = some o ∧ o.panel = p ∧ o.state = .active := by
  obtain ⟨o, k, h⟩ := h
  obtain ⟨ho, hp, -⟩ := live_of_liveOrder hs (served_some h).1
  exact ⟨o, ho, hp, served_active h⟩

theorem worksOn_phased (h : s.serves p i) (ph : Option Phase) (r : Reasons) (v : Option Purpose) :
    WorksOn p s (s.setPhase p i ph r v) := by
  have run := h.phased (L := Leave.all) ph r v
  obtain ⟨o, k, hs⟩ := h
  refine .of_slot run (fun q hq => ?_) (served_slot hs) (fun hl => ?_) fun j hj => ?_
  · unfold State.setPhase
    rw [modPanel_panel_ne _ _ hq]; rfl
  · exact (live_of_liveOrder hl (served_some hs).1).2.1
  · unfold State.setPhase
    rw [modPanel_slot, modOrder_slot, if_neg hj]

theorem worksOn_dropPlan : WorksOn p s (s.modPanel p fun x => { x with plan := none }) := .of_change changes_dropPlan

theorem worksOn_interrupt (s : State) (p : PanelNo) : WorksOn p s (s.interrupt p).st := by
  unfold State.interrupt
  cases h : s.served p with
  | none => exact .refl p s
  | some iok =>
    obtain ⟨i, o, k⟩ := iok
    have calm : s.Calms p (if o.phase = some .running then s.stopStep p k else s) := by
      split
      · exact calms_stopStep k
      · exact .refl s p
    have serves : s.serves p i := ⟨o, k, h⟩
    exact (((WorksOn.of_calms calm).trans (worksOn_phased (serves.of_calms calm) none {} none)).trans worksOn_dropPlan).trans
      (.dropFlow _ p p)

theorem finishOrder_panel_ne {st : OrderState} {m : Nat} (ho : s.slot i = some o) (hq : o.panel ≠ q) :
    (s.finishOrder i st m).panel q = s.panel q := by
  unfold State.finishOrder
  simp only [ho]
  rw [setLatch_panel, updateOrder_panel, modPanel_panel_ne _ _ hq]

theorem worksOn_finishOrder {st : OrderState} {m : Nat} (ho : s.slot i = some o) (hl : o.state.live = true)
    (hst : st.live = false) (hp : s.Linked → o.panel = p ∨ o.waiting = true) : WorksOn p s (s.finishOrder i st m) where
  run := changes_finishOrder ho hl hst fun _ _ => .inl trivial
  panel := fun hs q hq => by
    by_cases e : o.panel = q
    · exact .inr ⟨i, o, ho, e, (hp hs).resolve_left fun h => hq (h.symm.trans e)⟩
    · exact .inl (finishOrder_panel_ne ho e)
  slot := fun hs j x hx hxp hw => by
    rw [finishOrder_slot]
    · exact hx
    · rintro rfl
      obtain rfl : o = x := Option.some.inj (ho.symm.trans hx)
      obtain h | h := hp hs
      · exact hxp h
      · rw [hw] at h; cases h

theorem worksOn_cancelWaiting {m : Nat} : ∀ (ds : List SlotNo) (s : State), ds.Nodup →
    (∀ i ∈ ds, ∃ o, s.slot i = some o ∧ o.waiting = true) →
    WorksOn p s (ds.foldl (fun s i => s.finishOrder i (.cancelled .predecessor) m) s)
  | [], s, _, _ => .refl p s
  | i :: ds, s, hn, h => by
    obtain ⟨hni, hn⟩ := List.nodup_cons.1 hn
    obtain ⟨o, hi, hw⟩ := h i List.mem_cons_self
    refine (worksOn_finishOrder (st := .cancelled .predecessor) (m := m) hi (Order.waiting_live hw) rfl fun _ => .inr hw).trans ?_
    refine worksOn_cancelWaiting ds _ hn fun j hj => ?_
    have hij : i ≠ j := fun e => hni (e ▸ hj)
    rw [finishOrder_slot hij]
    exact h j (List.mem_cons_of_mem _ hj)

theorem worksOn_cascade (m : Nat) : ∀ (n : Nat) (ids : List Nat) (s : State), WorksOn p s (State.cascade m n ids s)
  | 0, _, s => .refl p s
  | n + 1, ids, s => by
    unfold State.cascade; dsimp only; split
    · exact .refl p s
    · refine .trans (worksOn_cancelWaiting _ s (allSlots_nodup.filter _) fun i hi => ?_) (worksOn_cascade m n _ _)
      obtain ⟨o, ho, id, -, hw⟩ := mem_dependents.1 hi
      exact ⟨o, ho, waiting_of_waitsOn hw⟩

theorem worksOn_endOrder {st : OrderState} (hst : st.live = false) (hp : s.Linked → ∀ o, s.slot i = some o → o.panel = p) :
    WorksOn p s (s.endOrder i st).st := by
  cases ho : s.slot i with
  | none => exact .of_eq (by simp [State.endOrder, ho])
  | some o =>
    by_cases hl : o.state.live = true
    · rw [endOrder_eq ho hl]
      dsimp only
      refine .trans ?_ (worksOn_cascade _ _ _ _)
      split
      · obtain ⟨o', ho', same⟩ := interrupted_slot s o.panel ho
        have hl' : o'.state.live = true ∧ o'.panel = o.panel := by rcases same with rfl | rfl <;> exact ⟨hl, rfl⟩
        refine ⟨?_, fun hs => ?_, fun hs => ?_⟩
        · exact (worksOn_interrupt s o.panel).run.trans (changes_finishOrder ho' hl'.1 hst fun _ _ => .inl trivial)
        all_goals
          obtain rfl := hp hs o ho
          have whole := (worksOn_interrupt s o.panel).trans
            (worksOn_finishOrder (st := st) (m := (s.interrupt o.panel).st.now) ho' hl'.1 hst fun _ => .inl hl'.2)
        · exact whole.panel hs
        · exact whole.slot hs
      · exact worksOn_finishOrder ho hl hst fun hs => .inl (hp hs o ho)
    · exact .of_eq (by simp [State.endOrder, ho, hl])

theorem worksOn_failLive (s : State) (p : PanelNo) (r : FailReason) : WorksOn p s (s.failLive p r).st := by
  unfold State.failLive
  cases hl : s.liveOrder p with
  | none => exact .refl p s
  | some io =>
    obtain ⟨i, o⟩ := io
    refine worksOn_endOrder rfl fun hs x hx => ?_
    obtain ⟨ho, hp, -⟩ := live_of_liveOrder hs hl
    obtain rfl : x = o := Option.some.inj (hx.symm.trans ho)
    exact hp

theorem worksOn_endJog {j : Jog} (hj : s.jog = some j) : WorksOn j.panel s s.endJog.st := by
  refine .of_run changes_endJog (fun q hq => ?_) (endJog_slots s)
  rw [endJog_panel hj]
  unfold State.jogStopped
  rw [modPanel_panel_ne _ _ hq]
  obtain ⟨y, hy, -⟩ := calms_jogCoilsOff (s := { s with jog := none }) j
  rw [hy, setPanel_panel_ne _ _ hq]
  rfl

theorem worksOn_endJogOn (s : State) (p : PanelNo) : WorksOn p s (s.endJogOn p).st := by
  unfold State.endJogOn
  split
  · exact .refl p s
  · rename_i j hj
    split
    · rename_i e
      subst e
      exact worksOn_endJog hj
    · exact .refl p s

theorem worksOn_raise (s : State) (p : PanelNo) (f : PanelFault) : WorksOn p s (s.raise p f).st := by
  by_cases h : s.configured p = true ∧ f ∉ (s.panel p).faults
  · rw [raise_eq h.1 h.2]
    have held : WorksOn p s (s.modPanel p fun x => { x with faults := joinSet allPanelFaults f x.faults }) :=
      .of_change (.single (.fault p f trivial))
    exact (((held.trans (.of_calms calms_panelOff)).trans (worksOn_failLive _ p _)).trans (worksOn_endJogOn _ p)).trans
      (.latch (by decide))
  · refine .of_eq ?_
    unfold State.raise
    rw [if_pos]
    · rfl
    · by_cases hc : s.configured p = true
      · simpa [hc] using h
      · simp [hc]

end Sys2Proof.Machine
end

section
/-! The sequencer's operations and the agenda as work on one panel (`State.WorksOn`): a panel without an order and without a jog
is left alone by all the work that follows a command. -/

namespace Sys2Proof.Machine

open State (WorksOn)

variable {s t u : State} {p q : PanelNo} {i j : SlotNo} {o : Order} {k : StepKind}

/-! ### Running -/

theorem worksOn_energise (c : Coil) : WorksOn p s (s.energise p c) := by
  rw [energise_eq]
  refine .of_change ?_
  rw [← energise_eq]
  exact changes_energise c trivial

theorem startMove_panel_ne (g : GroupNo) (d : CleatDir) (a b : Nat) (x : Bool) (h : p ≠ q) :
    (s.startMove p g d a b x).panel q = s.panel q := by
  unfold State.startMove
  dsimp only
  split
  · rw [modPanel_panel_ne _ _ h]
  · rw [energise_eq, modPanel_panel_ne _ _ h, modPanel_panel_ne _ _ h, modPanel_panel_ne _ _ h]

theorem startMove_slots (g : GroupNo) (d : CleatDir) (a b : Nat) (x : Bool) : (s.startMove p g d a b x).slots = s.slots := by
  unfold State.startMove
  dsimp only
  split
  · rfl
  · rw [energise_eq]; rfl

theorem worksOn_startMove (g : GroupNo) (d : CleatDir) (a b : Nat) (x : Bool) : WorksOn p s (s.startMove p g d a b x) :=
  .of_run (changes_startMove g d a b x fun _ _ _ _ _ => trivial) (fun _ h => startMove_panel_ne g d a b x h)
    (startMove_slots g d a b x)

theorem worksOn_runMove (g : GroupNo) (d : CleatDir) : WorksOn p s (s.runMove p g d).st := by
  unfold State.runMove; split
  · exact .refl p s
  · exact worksOn_startMove g d _ _ _

theorem worksOn_runTimed (c : Coil) (a : Activity) (n : Nat) : WorksOn p s (s.runTimed p c a n) :=
  (worksOn_energise c).trans (.of_change (changes_quiet fun _ => .of_same rfl rfl rfl rfl id rfl rfl rfl rfl))

theorem worksOn_driveTravel (d : Dir) (fast jog : Bool) : WorksOn p s (s.driveTravel p d fast jog) := by
  have run := changes_driveTravel (L := Leave.all) (s := s) (p := p) (d := d) (fast := fast) (jog := jog) trivial
  rw [driveTravel_eq] at run ⊢
  exact .of_change run

theorem worksOn_afterChop (s : State) (p : PanelNo) : WorksOn p s (s.afterChop p).st := by
  unfold State.afterChop
  extract_lets u
  have warned : WorksOn p s u := .warn .travelTrip
  clear_value u
  split
  · have named : WorksOn p u (u.modPanel p fun x => { x with overloadPack := some (s.travelPack p) }) :=
      .of_change (changes_quiet fun _ => .of_same rfl rfl rfl rfl id rfl rfl rfl rfl)
    exact (warned.trans named).trans (worksOn_raise _ p _)
  · exact warned

theorem worksOn_chopPanel (s : State) (p : PanelNo) : WorksOn p s (s.chopPanel p).st := by
  rw [chopPanel_eq]
  exact .trans (.of_change (changes_chopped fun _ _ => trivial)) (worksOn_afterChop _ p)

theorem worksOn_chopIfTripped (s : State) (p : PanelNo) : WorksOn p s (s.chopIfTripped p).st := by
  unfold State.chopIfTripped; split
  · exact worksOn_chopPanel s p
  · exact .refl p s

theorem worksOn_runTravel (o : Order) : WorksOn p s (s.runTravel p o).st := by
  unfold State.runTravel; dsimp only
  have homed : WorksOn p s (s.modPanel p fun x => { x with chopMark := false, count := if x.certain then x.count else 4095 }) :=
    .of_change (changes_quiet fun x => .of_count rfl rfl rfl rfl
      (fun _ _ ⟨h1, h2, h⟩ => ⟨by dsimp only; split <;> omega, by dsimp only; split <;> omega, h⟩) rfl rfl rfl rfl)
  generalize (s.modPanel p fun x => { x with chopMark := false, count := if x.certain then x.count else 4095 }) = u at homed ⊢
  have planned : WorksOn p u (u.modPanel p fun x => { x with plan := some (u.planFor p (o.target.getD 0)) }) :=
    .of_change (changes_quiet fun _ => .of_same rfl rfl rfl rfl id rfl rfl rfl rfl)
  generalize (u.modPanel p fun x => { x with plan := some (u.planFor p (o.target.getD 0)) }) = v at planned ⊢
  exact ((homed.trans planned).trans (worksOn_driveTravel _ _ _)).trans (worksOn_chopIfTripped _ p)

theorem worksOn_run (h : s.serves p i) (o : Order) (k : StepKind) : WorksOn p s (s.run p i o k).st := by
  unfold State.run
  refine (worksOn_phased h (some .running) {} none).trans ?_
  cases k with
  | uncleat g => exact worksOn_runMove g .release
  | cleat g => exact worksOn_runMove g .engage
  | lift => exact worksOn_runTimed _ _ _
  | lower => exact worksOn_runTimed _ _ _
  | lockStow => exact worksOn_runTimed _ _ _
  | unlockStow => exact worksOn_runTimed _ _ _
  | travel => exact worksOn_runTravel o

/-! ### Evaluation -/

theorem worksOn_reference {n : Int} (hn : n = 0 ∨ n = s.openCount p) : WorksOn p s (s.reference p n) := by
  refine .of_run (changes_reference hn) (fun q hq => ?_) ?_
  · unfold State.reference State.warn; dsimp only; split
    · exact modPanel_panel_ne _ _ hq
    · rw [setLatch_panel, modPanel_panel_ne _ _ hq, modPanel_panel_ne _ _ hq]
  · unfold State.reference State.warn; dsimp only; split <;> simp

theorem worksOn_standingReference (o : Order) (k : StepKind) : WorksOn p s (s.standingReference p o k) := by
  unfold State.standingReference; split
  · split
    · rename_i n _ h
      refine worksOn_reference ?_
      simp only [State.endSwitch, Bool.or_eq_true, Bool.and_eq_true, beq_iff_eq] at h
      exact h.imp And.left And.left
    · exact .refl p s
  · exact .refl p s

theorem worksOn_skip (h : s.serves p i) : WorksOn p s (s.skip p i).st :=
  ((worksOn_phased h none {} none).trans worksOn_dropPlan).trans (.dropFlow _ p p)

theorem worksOn_sequenceFail (s : State) (p : PanelNo) : WorksOn p s (s.sequenceFail p).st :=
  (WorksOn.warn .sequenceStop).trans (worksOn_failLive _ p _)

theorem worksOn_toWait (h : s.serves p i) (r : Reasons) : WorksOn p s (s.toWait p i r).st :=
  ((worksOn_phased h (some .interlockWait) r none).trans worksOn_dropPlan).trans (.dropFlow _ p p)

theorem worksOn_request (h : s.serves p i) (o : Order) (k : StepKind) : WorksOn p s (s.request p i o k).st := by
  unfold State.request; dsimp only; split
  · exact worksOn_failLive s p _
  · split
    · exact worksOn_failLive s p _
    · have asked := (worksOn_phased h (some .flowWait) {} none).trans (worksOn_dropPlan (p := p))
      split
      · exact asked.trans (.pack (f := fun x => x.insert ⟨p, k.demand, o.cls, s.arbitration p⟩) fun _ => rfl)
      · exact asked

theorem worksOn_stages (h : s.serves p i) (o : Order) (k : StepKind) : WorksOn p s (s.stages p i o k).st := by
  unfold State.stages
  refine .trans (worksOn_standingReference o k) ?_
  have h := h.standingReference o k
  dsimp only
  split
  · exact worksOn_skip h
  · split
    · exact worksOn_sequenceFail _ p
    · split
      · exact worksOn_toWait h _
      · split
        · exact worksOn_run h o k
        · exact worksOn_request h o k

theorem worksOn_evaluate (s : State) (p : PanelNo) (w : Bool) : WorksOn p s (s.evaluate p w).st := by
  unfold State.evaluate
  cases h : s.served p with
  | none => exact .refl p s
  | some iok =>
    obtain ⟨i, o, k⟩ := iok
    have hs : s.serves p i := ⟨o, k, h⟩
    dsimp only; split
    · exact .refl p s
    · split
      · exact worksOn_phased hs _ _ _
      · exact worksOn_stages hs o k

theorem worksOn_deliver (s : State) (p : PanelNo) : WorksOn p s (s.deliver p).st := by
  unfold State.deliver
  cases h : s.served p with
  | none => exact .refl p s
  | some iok =>
    obtain ⟨i, o, k⟩ := iok
    dsimp only; split
    · exact worksOn_stages ⟨o, k, h⟩ o k
    · exact .refl p s

/-! ### Completion -/

theorem worksOn_completeStep (h : s.serves p i) (k : StepKind) : WorksOn p s (s.completeStep p i k).st := by
  unfold State.completeStep; dsimp only
  have calm : s.Calms p (match k with
      | .lift | .lower | .lockStow | .unlockStow => s.stepCoilsOff p
      | _ => s) := by
    split
    iterate 4 exact calms_stepCoilsOff
    exact .refl s p
  exact (((WorksOn.of_calms calm).trans (worksOn_phased (h.of_calms calm) none {} none)).trans worksOn_dropPlan).trans
    (.dropFlow _ p p)

theorem worksOn_completeOrder (hi : s.slot i = some o) (hl : o.state.live = true) (hp : s.Linked → o.panel = p) :
    WorksOn p s (s.completeOrder i).st := by
  rw [completeOrder_st hi]
  exact worksOn_finishOrder hi hl rfl fun hs => .inl (hp hs)

theorem worksOn_reportStep (s : State) (p : PanelNo) (e : StepEnd) : WorksOn p s (s.reportStep p e).st := by
  have run := changes_reportStep (L := Leave.all) (s := s) (p := p) e
  unfold State.reportStep at run ⊢
  cases h : s.served p with
  | none => exact .refl p s
  | some iok =>
    obtain ⟨i, o, k⟩ := iok
    have hi := served_slot h
    have hl : o.state.live = true := by simp [served_active h, OrderState.live]
    have own (hs : s.Linked) : o.panel = p := (live_of_liveOrder hs (served_some h).1).2.1
    rw [h] at run
    dsimp only at run ⊢
    split
    · exact .refl p s
    · rename_i hph
      rw [if_neg hph] at run
      split
      · rename_i he
        rw [if_pos he] at run
        refine .of_slot run (fun q _ => ?_) hi own fun j hj => ?_
        · exact (setLatch_panel _ _ q).trans (updateOrder_panel _ _ _ q)
        · exact (setLatch_slot _ _ j).trans ((updateOrder_slot).trans (if_neg hj))
      · rename_i he
        rw [if_neg he] at run
        split
        · rename_i hlt
          rw [if_pos hlt] at run
          exact .of_slot run (fun _ _ => rfl) hi own fun j hj => by rw [modOrder_slot, if_neg hj]
        · exact worksOn_completeOrder hi hl own

theorem worksOn_moveEnded (s : State) (p : PanelNo) : WorksOn p s (s.moveEnded p).st := by
  unfold State.moveEnded
  cases h : s.served p with
  | none => exact .refl p s
  | some iok =>
    obtain ⟨i, o, k⟩ := iok
    have hs : s.serves p i := ⟨o, k, h⟩
    dsimp only; split
    · split
      · split
        · exact worksOn_completeStep hs _
        · exact worksOn_runMove _ _
      · split
        · exact worksOn_completeStep hs _
        · exact worksOn_runMove _ _
      · exact .refl p s
    · exact .refl p s

/-! ### Watches -/

theorem worksOn_lapStop (h : s.serves p i) (r : Reasons) (k : StepKind) : WorksOn p s (s.lapStop p i r k).st :=
  (WorksOn.of_calms calms_stepCoilsOff).trans (worksOn_toWait (h.of_calms calms_stepCoilsOff) r)

theorem worksOn_stopPhased (h : s.serves p i) (r : Reasons) (v : Option Purpose) :
    WorksOn p s ((s.stopTravel p).setPhase p i (some .braking) r v) :=
  (WorksOn.of_calms calms_stopTravel).trans (worksOn_phased (h.of_calms calms_stopTravel) _ _ _)

theorem worksOn_newReasons (h : s.served p = some (i, o, k)) (r : Reasons) :
    WorksOn p s (s.modOrder i fun o => { o with reasons := r }) :=
  .of_slot (changes_newReasons h r) (fun _ _ => rfl) (served_slot h)
    (fun hs => (live_of_liveOrder hs (served_some h).1).2.1) fun j hj => by rw [modOrder_slot, if_neg hj]

theorem worksOn_retest (s : State) (p : PanelNo) : WorksOn p s (s.retest p).st := by
  unfold State.retest
  cases h : s.served p with
  | none => exact .refl p s
  | some iok =>
    obtain ⟨i, o, k⟩ := iok
    have hs : s.serves p i := ⟨o, k, h⟩
    dsimp only; split
    · exact worksOn_newReasons h _
    · split
      · exact worksOn_toWait hs _
      · exact .refl p s
    · split
      · split
        · exact (worksOn_stopPhased hs _ _).trans (.dropFlow _ p p)
        · exact .refl p s
      · split
        · exact worksOn_lapStop hs _ _
        · exact .refl p s
      · split
        · exact worksOn_lapStop hs _ _
        · exact .refl p s
      · exact .refl p s
    · split
      · exact worksOn_newReasons h _
      · exact .refl p s
    · exact .refl p s

theorem worksOn_watch (s : State) (p : PanelNo) : WorksOn p s (s.watch p).st := by
  unfold State.watch
  cases h : s.served p with
  | none => exact .refl p s
  | some iok =>
    obtain ⟨i, o, k⟩ := iok
    have hs : s.serves p i := ⟨o, k, h⟩
    have failed : WorksOn p s (if !s.hard p o k then s.sequenceFail p else .ok s).st := by
      split
      · exact worksOn_sequenceFail s p
      · exact .refl p s
    dsimp only; split
    · split
      · exact worksOn_completeStep hs k
      · exact failed
    · exact failed
    · exact failed
    · exact .refl p s

/-! ### The agenda -/

theorem unlink_panel (s : State) (i : SlotNo) (q : PanelNo) : (s.unlink i).st.panel q = s.panel q := by
  unfold State.unlink
  cases hi : s.slot i with
  | none => rfl
  | some o =>
    dsimp only
    split
    · unfold State.admitted
      split
      · rfl
      · exact updateOrder_panel _ _ _ q
    · split <;> rfl

theorem unlink_slot_ne (s : State) (h : i ≠ j) : (s.unlink i).st.slot j = s.slot j := by
  unfold State.unlink
  cases hi : s.slot i with
  | none => rfl
  | some o =>
    have first : (s.modOrder i fun o => { o with pred := none }).slot j = s.slot j := by rw [modOrder_slot, if_neg h]
    dsimp only
    split
    · unfold State.admitted
      split
      · exact first
      · exact (updateOrder_slot.trans (if_neg h)).trans first
    · split
      · exact (show (State.modOrder _ i _).slot j = _ by rw [modOrder_slot, if_neg h]).trans first
      · exact first

/-- The release of a dependent is work on any panel: the order was waiting. -/
theorem worksOn_releaseDependent (p : PanelNo) (i : SlotNo) (id : Nat) : WorksOn p s (s.releaseDependent i id).st := by
  refine ⟨changes_releaseDependent i id, fun _ q _ => .inl ?_, fun _ j x hx _ hw => ?_⟩
  all_goals unfold State.releaseDependent
  · split
    · split
      · exact unlink_panel s i q
      · rfl
    · rfl
  · split
    · rename_i o ho
      split
      · rename_i hd
        by_cases e : i = j
        · subst e
          obtain rfl : o = x := Option.some.inj (ho.symm.trans hx)
          have := waiting_of_waitsOn hd
          rw [hw] at this; cases this
        · exact (unlink_slot_ne s e).trans hx
      · exact hx
    · exact hx

/-- A panel without a live order has no order that waits. -/
theorem WorksOn.panel_eq (h : WorksOn p s t) (hs : s.Linked) (hp : p ≠ q) (hl : (s.panel q).live = none) :
    t.panel q = s.panel q := by
  obtain e | ⟨i, o, ho, rfl, hw⟩ := h.panel hs q hp
  · exact e
  · rw [hs.field i o ho (Order.waiting_live hw)] at hl; cases hl

theorem partner_ne (p : PanelNo) : partner p ≠ p := by revert p; decide

/-- Each piece of work leaves a panel without an order and without a jog alone. -/
theorem runJob_panel_eq (x : Job) (hs : s.Linked) (hl : (s.panel q).live = none) (hj : ∀ j, s.jog = some j → j.panel ≠ q) :
    (runJob x s).st.panel q = s.panel q := by
  have unserved : s.served q = none := served_none_of_live hl
  have on {p : PanelNo} {t : State} (h : WorksOn p s t) (same : s.served p = none → t = s) : t.panel q = s.panel q := by
    by_cases e : p = q
    · subst e; rw [same unserved]
    · exact WorksOn.panel_eq h hs e hl
  cases x with
  | evaluate p w => exact on (worksOn_evaluate s p w) fun h => congrArg Res.st (evaluate_unserved h w)
  | deliver p => exact on (worksOn_deliver s p) fun h => congrArg Res.st (deliver_unserved h)
  | report p e => exact on (worksOn_reportStep s p e) fun h => congrArg Res.st (reportStep_unserved h e)
  | pass k =>
    obtain ⟨⟨a, b, e⟩, -⟩ := repacked_runPass (s := s) k
    rw [runJob, e]; rfl
  | retest p => exact on (worksOn_retest s p) fun h => congrArg Res.st (retest_unserved h)
  | watch p => exact on (worksOn_watch s p) fun h => congrArg Res.st (watch_unserved h)
  | moveEnd p => exact on (worksOn_moveEnded s p) fun h => congrArg Res.st (moveEnded_unserved h)
  | releaseDependent i id =>
    obtain ⟨p, hp⟩ : ∃ p : PanelNo, p ≠ q := ⟨partner q, partner_ne q⟩
    exact WorksOn.panel_eq (worksOn_releaseDependent p i id) hs hp hl
  | jogTest =>
    change s.jogTest.st.panel q = _
    unfold State.jogTest
    split
    · rfl
    · rename_i j hjog
      split
      · rfl
      · exact WorksOn.panel_eq (worksOn_endJog hjog) hs (hj j hjog) hl

/-- All the work that follows a command leaves a panel without an order and without a jog alone. -/
theorem settle_panel_eq {r : Res} (hs : r.st.Linked) (hl : (r.st.panel q).live = none)
    (hj : ∀ j, r.st.jog = some j → j.panel ≠ q) : r.settle.panel q = r.st.panel q := by
  refine (drain_ind (P := fun t => (t.Linked ∧ ∀ j, t.jog = some j → j.panel ≠ q) ∧ t.panel q = r.st.panel q)
    (fun x t ⟨⟨ht, htj⟩, hp⟩ => ?_) agendaLimit r.jobs r.st ⟨⟨hs, hj⟩, rfl⟩).2
  have run := changes_runJob x t
  exact ⟨⟨Changes.linked run ht, fun j h => htj j (Changes.jogOf run h)⟩, (runJob_panel_eq x ht (hp ▸ hl) htj).trans hp⟩

end Sys2Proof.Machine
end

section
/-! A raised fault in full (R166): the panel's record and its live order right after the raise, and after the work that
follows. -/

namespace Sys2Proof.Machine

open State (WorksOn)

variable {s t u : State} {p q : PanelNo} {i j : SlotNo} {o : Order} {k : PanelFault}

/-! ### The coils of a panel go off -/

/-- The panel whose travel, if it runs, stops at `now` (R11). -/
def Panel.stopped (x : Panel) (now window : Nat) : Panel :=
  if x.mode = .driven then
    { x with coils := x.coils.travelOff, mode := .coasting, activity := .braking
             brakeTimer := some (now + window), stall := .stopped, holdoff := none }
  else x

/-- The panel whose coils have all gone off at `now` (R166). -/
def Panel.off (x : Panel) (now window : Nat) : Panel :=
  { x.cut.stopped now window with coils := {}, activity := (x.cut.stopped now window).activity.coilsOff, stepTimer := none }

theorem stopTravel_eq (s : State) (p : PanelNo) :
    s.stopTravel p = s.modPanel p fun x => x.stopped s.now s.params.tuning.brakingWindow := by
  unfold State.stopTravel
  split
  · rename_i h
    exact modPanel_congr (by simp [Panel.stopped, h])
  · rename_i h
    exact (modPanel_self (by simp [Panel.stopped, h])).symm

theorem panelOff_eq (s : State) (p : PanelNo) :
    s.panelOff p = s.modPanel p fun x => x.off s.now s.params.tuning.brakingWindow := by
  unfold State.panelOff
  rw [cutMove_eq, stopTravel_eq, modPanel_modPanel, modPanel_modPanel]
  rfl

theorem Panel.cut_mode (x : Panel) : x.cut.mode = x.mode := by rw [Panel.cut_eq]

theorem Panel.stopped_driven {x : Panel} (h : x.mode = .driven) (now w : Nat) : x.stopped now w =
    { x with coils := x.coils.travelOff, mode := .coasting, activity := .braking, brakeTimer := some (now + w)
             stall := .stopped, holdoff := none } := if_pos h

theorem Panel.stopped_quiet {x : Panel} (h : x.mode ≠ .driven) (now w : Nat) : x.stopped now w = x := if_neg h

/-- The record of a panel whose travel ran when its coils went off. -/
theorem Panel.off_driven {x : Panel} (h : x.mode = .driven) (now w : Nat) : x.off now w =
    { x with coils := {}, mode := .coasting, activity := .braking, brakeTimer := some (now + w), stall := .stopped
             holdoff := none, stepTimer := none, move := none, cleats := x.cut.cleats } := by
  unfold Panel.off
  rw [Panel.stopped_driven (x.cut_mode.trans h), Panel.cut_eq]
  rfl

/-- The record of a panel whose travel did not run. -/
theorem Panel.off_quiet {x : Panel} (h : x.mode ≠ .driven) (now w : Nat) : x.off now w =
    { x with coils := {}, activity := x.cut.activity.coilsOff, stepTimer := none, move := none, cleats := x.cut.cleats } := by
  unfold Panel.off
  rw [Panel.stopped_quiet (by rw [x.cut_mode]; exact h), Panel.cut_eq]

theorem setStates_faults (x : Panel) (f : List PanelFault) (ks : List CleatNo) (st : CleatState) :
    { x with faults := f }.setStates ks st = { x.setStates ks st with faults := f } := by
  induction ks generalizing x with
  | nil => rfl
  | cons k ks ih => exact ih (x.modCleat k fun c => { c with state := st })

theorem Panel.cut_faults (x : Panel) (f : List PanelFault) : { x with faults := f }.cut = { x.cut with faults := f } := by
  cases h : x.move with
  | none => simp [Panel.cut, h]
  | some m =>
    simp only [Panel.cut, h]
    exact setStates_faults (x.moveless m) f _ _

theorem Panel.off_faults (x : Panel) (f : List PanelFault) (now w : Nat) :
    { x with faults := f }.off now w = { x.off now w with faults := f } := by
  unfold Panel.off
  rw [Panel.cut_faults]
  by_cases h : x.cut.mode = .driven
  · rw [Panel.stopped_driven h, Panel.stopped_driven (x := { x.cut with faults := f }) h]
  · rw [Panel.stopped_quiet h, Panel.stopped_quiet (x := { x.cut with faults := f }) h]

/-! ### A panel at rest -/

/-- Nothing of the panel runs. -/
structure Panel.AtRest (x : Panel) : Prop where
  coils : x.coils = {}
  mode : x.mode ≠ .driven
  move : x.move = none
  timer : x.stepTimer = none
  activity : x.activity = .idle ∨ x.activity = .braking

theorem Activity.coilsOff_cases (a : Activity) : a.coilsOff = .idle ∨ a.coilsOff = .braking := by
  cases a <;> simp [Activity.coilsOff]

theorem Panel.off_atRest (x : Panel) (now w : Nat) : (x.off now w).AtRest := by
  by_cases h : x.mode = .driven
  · rw [Panel.off_driven h]
    exact ⟨rfl, by simp, rfl, rfl, .inr rfl⟩
  · rw [Panel.off_quiet h]
    exact ⟨rfl, h, rfl, rfl, Activity.coilsOff_cases _⟩

theorem stopTravel_quiet (h : (s.panel p).mode ≠ .driven) : s.stopTravel p = s := if_neg h

theorem stopStep_atRest (h : (s.panel p).AtRest) (k : StepKind) : s.stopStep p k = s := by
  have coils : s.stepCoilsOff p = s := by
    refine modPanel_self ?_
    obtain ⟨hc, -, -, ht, ha⟩ := h
    have hoff : (s.panel p).activity.coilsOff = (s.panel p).activity := by rcases ha with e | e <;> rw [e] <;> rfl
    rw [hoff, ← ht, hc]
    exact congrArg (fun c => { s.panel p with coils := c }) hc.symm
  have move (g : GroupNo) (d : CleatDir) : s.stopStep p (match d with | .release => .uncleat g | .engage => .cleat g) = s := by
    cases d <;> simp [State.stopStep, h.move]
  cases k with
  | uncleat g => exact move g .release
  | cleat g => exact move g .engage
  | travel => exact stopTravel_quiet h.mode
  | lift => exact coils
  | lower => exact coils
  | lockStow => exact coils
  | unlockStow => exact coils

/-- The interruption of a step that moves nothing clears the braking purpose and the plan, and nothing else of the panel. -/
theorem interrupt_atRest (h : (s.panel p).AtRest) : ∃ v pl,
    (s.interrupt p).st.panel p = { s.panel p with purpose := v, plan := pl } := by
  unfold State.interrupt
  cases hs : s.served p with
  | none => exact ⟨_, _, rfl⟩
  | some iok =>
    obtain ⟨i, o, k⟩ := iok
    have still : (if o.phase = some .running then s.stopStep p k else s) = s := by rw [stopStep_atRest h]; exact ite_self _
    refine ⟨none, none, ?_⟩
    dsimp only
    rw [still, Res.add_st, dropFlow_panel]
    simp [State.setPhase]

theorem valveOff_none (h : (s.panel p).move = none) : s.valveOff p = s := by simp [State.valveOff, h]

theorem put_off (c : Coil) : ({} : Coils).put false c = {} := by cases c <;> simp [Coils.put]

theorem deEnergise_off (h : (s.panel p).coils = {}) (c : Coil) : s.deEnergise p c = s := by
  refine modPanel_self ?_
  rw [h, put_off, ← h]

theorem jogCoilsOff_atRest {j : Jog} (h : (s.panel j.panel).AtRest) : s.jogCoilsOff j = s := by
  unfold State.jogCoilsOff
  split
  · exact stopTravel_quiet h.mode
  · exact stopTravel_quiet h.mode
  · exact valveOff_none h.move
  · exact valveOff_none h.move
  · exact deEnergise_off h.coils _

theorem Panel.AtRest.afterJog {x : Panel} (h : x.AtRest) : x.activity.afterJog = x.activity := by
  rcases h.activity with e | e <;> rw [e] <;> rfl

/-- The end of a jog on a panel at rest leaves the panel. -/
theorem endJogOn_atRest (h : (s.panel p).AtRest) : (s.endJogOn p).st.panel p = s.panel p := by
  unfold State.endJogOn
  split
  · rfl
  · rename_i j hj
    split
    · rename_i e
      subst e
      rw [endJog_panel hj, State.jogStopped]
      have same : ({ s with jog := none } : State).panel j.panel = s.panel j.panel := rfl
      generalize ({ s with jog := none } : State) = u at same ⊢
      rw [← same] at h
      rw [jogCoilsOff_atRest h, modPanel_self, same]
      rw [h.afterJog]
    · rfl

/-! ### The end of the panel's order -/

/-- The end of the panel's order, on a panel at rest: its order fields are cleared, and nothing else. -/
theorem endOrder_atRest {st : OrderState} (hs : s.Linked) (h : (s.panel o.panel).AtRest) (ho : s.slot i = some o)
    (hl : o.state.live = true) (hst : st.live = false) :
    (s.endOrder i st).st.panel o.panel = { s.panel o.panel with live := none, purpose := none, plan := none } := by
  rw [endOrder_eq ho hl]
  dsimp only
  have ended (u : State) (o' : Order) (hu : u.Linked) (ho' : u.slot i = some o') (hp : o'.panel = o.panel)
      (hl' : o'.state.live = true) : (State.cascade u.now 24 [o.id] (u.finishOrder i st u.now)).panel o.panel =
        { u.panel o.panel with live := none, purpose := none, plan := none } := by
    have linked : (u.finishOrder i st u.now).Linked :=
      (changes_finishOrder (L := Leave.all) ho' hl' hst fun _ _ => .inl trivial).linked hu
    have cleared : (u.finishOrder i st u.now).panel o.panel =
        { u.panel o.panel with live := none, purpose := none, plan := none } := by
      unfold State.finishOrder
      simp only [ho']
      rw [setLatch_panel, updateOrder_panel, hp, modPanel_panel, if_pos rfl]
    rw [← cleared]
    exact WorksOn.panel_eq (worksOn_cascade (p := partner o.panel) _ _ _ _) linked (partner_ne _) (by rw [cleared])
  split
  · obtain ⟨o', ho', same⟩ := interrupted_slot s o.panel ho
    have hi : o'.panel = o.panel ∧ o'.state = o.state := by rcases same with rfl | rfl <;> exact ⟨rfl, rfl⟩
    obtain ⟨v, pl, e⟩ := interrupt_atRest h
    rw [ended _ o' ((worksOn_interrupt s o.panel).run.linked hs) ho' hi.1 (hi.2 ▸ hl), e]
  · exact ended s o hs ho rfl hl

/-- The failure of the panel's order, on a panel at rest. -/
theorem failLive_atRest (hs : s.Linked) (h : (s.panel p).AtRest) (r : FailReason) : ∃ v pl,
    (s.failLive p r).st.panel p = { s.panel p with live := none, purpose := v, plan := pl } := by
  unfold State.failLive
  cases hl : s.liveOrder p with
  | none => exact ⟨_, _, by rw [← (liveOrder_eq_none hs).1 hl]; rfl⟩
  | some io =>
    obtain ⟨i, o⟩ := io
    obtain ⟨ho, rfl, hlo⟩ := live_of_liveOrder hs hl
    exact ⟨_, _, endOrder_atRest hs h ho hlo rfl⟩

/-! ### The raise -/

/-- The unit with a fault noted and its panel's coils off. -/
def State.faulted (s : State) (p : PanelNo) (k : PanelFault) : State :=
  (s.modPanel p fun x => { x with faults := joinSet allPanelFaults k x.faults }).panelOff p

theorem faulted_eq (s : State) (p : PanelNo) (k : PanelFault) : s.faulted p k = s.modPanel p fun x =>
    { x with faults := joinSet allPanelFaults k x.faults }.off s.now s.params.tuning.brakingWindow := by
  unfold State.faulted
  rw [panelOff_eq, modPanel_modPanel]
  rfl

theorem changes_faulted (s : State) (p : PanelNo) (k : PanelFault) : Changes Leave.all s (s.faulted p k) :=
  .trans (.single (.fault p k trivial)) calms_panelOff.changes

/-- The record of a panel right after a fault has been raised on it. -/
theorem raise_panel (hs : s.Linked) (hc : s.configured p = true) (hk : k ∉ (s.panel p).faults) : ∃ v pl,
    (s.raise p k).st.panel p = { (s.panel p).off s.now s.params.tuning.brakingWindow with
      faults := joinSet allPanelFaults k (s.panel p).faults, live := none, purpose := v, plan := pl } := by
  rw [raise_eq hc hk, setLatch_panel]
  have record : (s.faulted p k).panel p = { (s.panel p).off s.now s.params.tuning.brakingWindow with
      faults := joinSet allPanelFaults k (s.panel p).faults } := by
    rw [faulted_eq, modPanel_panel, if_pos rfl, Panel.off_faults]
  have rest : ((s.faulted p k).panel p).AtRest := by rw [faulted_eq, modPanel_panel, if_pos rfl]; exact Panel.off_atRest _ _ _
  obtain ⟨v, pl, failed⟩ := failLive_atRest ((changes_faulted s p k).linked hs) rest (.fault k)
  refine ⟨v, pl, ?_⟩
  have rest' : (((s.faulted p k).failLive p (.fault k)).st.panel p).AtRest := by
    rw [failed]
    exact ⟨rest.coils, rest.mode, rest.move, rest.timer, rest.activity⟩
  refine (endJogOn_atRest rest').trans (failed.trans ?_)
  rw [record]

theorem endJogOn_slots (s : State) (p : PanelNo) : (s.endJogOn p).st.slots = s.slots := by
  unfold State.endJogOn
  split
  · rfl
  · split
    · exact endJog_slots s
    · rfl

/-- The order that was live on the panel has failed with the fault, at this moment. -/
theorem raise_order (hs : s.Linked) (hc : s.configured p = true) (hk : k ∉ (s.panel p).faults) (ho : s.slot i = some o)
    (hl : (s.panel p).live = some o.id) :
    ∃ o', (s.raise p k).st.slot i = some o' ∧ o'.state = .failed (.fault k) ∧ o'.finishedAt = some s.now := by
  have linked := (changes_faulted s p k).linked hs
  have same : (s.faulted p k).slot i = some o := by rw [faulted_eq, modPanel_slot]; exact ho
  obtain ⟨j, x, hx, hid, hp, hlive⟩ := hs.order p o.id hl
  obtain rfl := hs.ids i j o x ho hx hid.symm
  obtain rfl : o = x := Option.some.inj (ho.symm.trans hx)
  rw [raise_eq hc hk, setLatch_slot]
  change ∃ o', (((s.faulted p k).failLive p (.fault k)).st.endJogOn p).st.slot i = some o' ∧ _
  rw [slot_of_slots (endJogOn_slots _ p)]
  unfold State.failLive
  rw [show (s.faulted p k).liveOrder p = some (i, o) from hp ▸ liveOrder_of_live linked same hlive]
  obtain ⟨b, h⟩ := endOrder_slot (st := .failed (.fault k)) same hlive rfl
  exact ⟨_, h, rfl, congrArg some (by rw [faulted_eq]; rfl)⟩

theorem raise_latched (hc : s.configured p = true) (hk : k ∉ (s.panel p).faults) (hu : s.inStart = false) :
    .panelFault ∈ (s.raise p k).st.latches := by
  rw [raise_eq hc hk, setLatch_mem]
  refine .inr ⟨rfl, fun h => ?_⟩
  have same : (((s.faulted p k).failLive p (.fault k)).st.endJogOn p).st.lasting = (s.faulted p k).lasting := by simp
  have start : (s.faulted p k).inStart = s.inStart := by rw [faulted_eq]; rfl
  rw [← start, ← lasting_inStart same] at hu
  exact absurd h.1 (by rw [← Bool.not_eq_true] at hu; exact hu)

theorem raise_jog (hc : s.configured p = true) (hk : k ∉ (s.panel p).faults) :
    ∀ j, (s.raise p k).st.jog = some j → j.panel ≠ p := by
  rw [raise_eq hc hk]
  simpa using endJogOn_jog _ p

/-- All that follows a raise leaves the panel's record as the raise has left it. -/
theorem raise_settle_panel {r : Res} (hr : r.st = (s.raise p k).st) (hs : s.Linked) (hc : s.configured p = true)
    (hk : k ∉ (s.panel p).faults) : r.settle.panel p = (s.raise p k).st.panel p := by
  rw [← hr]
  exact settle_panel_eq (hr ▸ Changes.linked (worksOn_raise s p k).run hs) (hr ▸ raise_live hs hc hk) (hr ▸ raise_jog hc hk)

end Sys2Proof.Machine
end

section
/-! What a raised fault leaves once the work that follows it is done (`Raised`), the coil diagnostics and the timeouts
(R164, R165, R18, R29, R84). -/

namespace Sys2Proof.Machine

variable {s t u : State} {p q : PanelNo} {i j : SlotNo} {o : Order} {k : PanelFault}

/-- `t` is what the raise of a fault on the panel makes of the unit `u`. -/
structure Raised (u t : State) (p : PanelNo) (k : PanelFault) : Prop where
  now : t.now = u.now
  record : ∃ v pl, t.panel p = { (u.panel p).off u.now u.params.tuning.brakingWindow with
    faults := joinSet allPanelFaults k (u.panel p).faults, live := none, purpose := v, plan := pl }
  latched : u.inStart = false → .panelFault ∈ t.latches
  order : ∀ i o, u.slot i = some o → (u.panel p).live = some o.id →
    ∃ o', t.slot i = some o' ∧ o'.state = .failed (.fault k) ∧ o'.finishedAt = some u.now

theorem raised_settle {r : Res} (hr : r.st = (u.raise p k).st) (hs : u.Linked) (hc : u.configured p = true)
    (hk : k ∉ (u.panel p).faults) : Raised u r.settle p k where
  now := (lasting_now (changes_settle r).lasting).trans (hr ▸ lasting_now (lasting_raise u p k))
  record := (raise_settle_panel hr hs hc hk) ▸ raise_panel hs hc hk
  latched := fun hu => (changes_settle r).latches (hr ▸ raise_latched hc hk hu)
  order := fun i o ho hl => by
    obtain ⟨o', h, hst, hf⟩ := raise_order hs hc hk ho hl
    exact ⟨o', settle_finished r (hr ▸ h) (by rw [hst]; rfl), hst, hf⟩

/-- Right after the raise. -/
theorem raised (hs : u.Linked) (hc : u.configured p = true) (hk : k ∉ (u.panel p).faults) : Raised u (u.raise p k).st p k where
  now := lasting_now (lasting_raise u p k)
  record := raise_panel hs hc hk
  latched := raise_latched hc hk
  order := fun _ _ => raise_order hs hc hk

namespace Raised

theorem mem (h : Raised u t p k) : k ∈ (t.panel p).faults := by
  obtain ⟨v, pl, e⟩ := h.record
  rw [e]
  exact mem_joinSet.2 ⟨mem_allPanelFaults k, .inl rfl⟩

theorem rest (h : Raised u t p k) : (t.panel p).AtRest := by
  obtain ⟨v, pl, e⟩ := h.record
  have r := (u.panel p).off_atRest u.now u.params.tuning.brakingWindow
  rw [e]
  exact ⟨r.coils, r.mode, r.move, r.timer, r.activity⟩

theorem live (h : Raised u t p k) : (t.panel p).live = none := by
  obtain ⟨v, pl, e⟩ := h.record
  rw [e]

/-- What a panel's coils going off leaves of its record. -/
theorem kept (h : Raised u t p k) : (t.panel p).shortCoil = (u.panel p).shortCoil ∧ (t.panel p).openCoil = (u.panel p).openCoil ∧
    (t.panel p).cleats = (u.panel p).cut.cleats ∧ (t.panel p).chop = (u.panel p).chop ∧
    (t.panel p).overloadPack = (u.panel p).overloadPack ∧ (t.panel p).warnings = (u.panel p).warnings := by
  obtain ⟨v, pl, e⟩ := h.record
  rw [e]
  by_cases hm : (u.panel p).mode = .driven
  · rw [Panel.off_driven hm]; exact ⟨rfl, rfl, rfl, rfl, rfl, rfl⟩
  · rw [Panel.off_quiet hm]; exact ⟨rfl, rfl, rfl, rfl, rfl, rfl⟩

/-- A running travel has stopped. -/
theorem braking (h : Raised u t p k) (hm : (u.panel p).mode = .driven) : (t.panel p).mode = .coasting ∧
    (t.panel p).brakeTimer = some (u.now + u.params.tuning.brakingWindow) ∧ (t.panel p).stall = .stopped ∧
    (t.panel p).holdoff = none := by
  obtain ⟨v, pl, e⟩ := h.record
  rw [e, Panel.off_driven hm]
  exact ⟨rfl, rfl, rfl, rfl⟩

theorem stall (h : Raised u t p k) (hs : (u.panel p).stall = .stopped) : (t.panel p).stall = .stopped := by
  by_cases hm : (u.panel p).mode = .driven
  · exact (h.braking hm).2.2.1
  · obtain ⟨v, pl, e⟩ := h.record
    rw [e, Panel.off_quiet hm]
    exact hs

end Raised

/-! ### The coil diagnostics -/

/-- The driver has switched a shorted coil off and names it. -/
def Panel.shorted (x : Panel) (c : Coil) : Panel := { x with coils := x.coils.put false c, shortCoil := some c }

/-- The open load of a coil is found and named. -/
def Panel.opened (x : Panel) (c : Coil) : Panel := { x with openFound := joinSet allCoils c x.openFound, openCoil := some c }

theorem openLoad_eq {c : Coil} (h : .solenoidOpen ∉ (s.panel p).faults) :
    s.openLoad p c = ((s.modPanel p fun x => x.opened c).raise p .solenoidOpen).settle := by
  unfold State.openLoad
  dsimp only
  rw [if_neg (by rw [modPanel_panel, if_pos rfl]; simpa using h), modPanel_modPanel]
  rfl

theorem linked_modPanel {f : Panel → Panel} (hs : s.Linked) (hf : ∀ x, (f x).live = x.live) : (s.modPanel p f).Linked := by
  refine hs.of_same { live := fun q => ?_ } fun _ => .inl rfl
  rw [modPanel_panel]
  split
  · rename_i h; rw [hf, h]
  · rfl

/-- A fault raised after a change of its panel's record that leaves the faults and the order. -/
theorem raised_modPanel {f : Panel → Panel} (hs : s.Linked) (hc : s.configured p = true) (hk : k ∉ (s.panel p).faults)
    (hl : ∀ x, (f x).live = x.live) (hf : ∀ x, (f x).faults = x.faults) :
    Raised (s.modPanel p f) ((s.modPanel p f).raise p k).settle p k :=
  raised_settle rfl (linked_modPanel hs hl) hc (by rw [modPanel_panel, if_pos rfl, hf]; exact hk)

/-- Settles O38: each finding is noted in the panel's record and the fault is raised on it, and the work that follows leaves
the panel and its failed order as they are. -/
theorem coilDiagnosticsRaiseTheirFaults : Obligations.CoilDiagnosticsRaiseTheirFaults := by
  intro s p c held hs hc he out
  have hs := linked_iff.1 hs
  have shows {f : Panel → Panel} {k : PanelFault} {t : State} (r : Raised (s.modPanel p f) t p k)
      (hl : ∀ x, (f x).live = x.live) : out t k :=
    ⟨r.mem, r.rest.coils, r.live, r.latched, fun i o ho hlo =>
      r.order i o ho (by rw [modPanel_panel, if_pos rfl, hl]; exact hlo)⟩
  have named {f : Panel → Panel} : (s.modPanel p f).panel p = f (s.panel p) := by rw [modPanel_panel, if_pos rfl]
  have opened (hk : .solenoidOpen ∉ (s.panel p).faults) :
      out (s.openLoad p c) .solenoidOpen ∧ ((s.openLoad p c).panel p).openCoil = some c := by
    rw [openLoad_eq hk]
    have r := raised_modPanel hs hc hk (f := fun x => x.opened c)
      (fun _ => rfl) fun _ => rfl
    exact ⟨shows r fun _ => rfl, r.kept.2.1.trans (by rw [named]; rfl)⟩
  refine ⟨fun mA hon hmA hheld hk => ?_, fun mA hon ht hmA hheld hk => ⟨_, ?_, opened hk⟩,
    fun ohms hoff ht ho hohms hheld hk => ⟨_, ?_, opened hk⟩, fun mA h => ?_, fun mA h => ?_⟩
  · have r := raised_modPanel hs hc hk (f := fun x => x.shorted c)
      (fun _ => rfl) fun _ => rfl
    refine ⟨_, ?_, shows r fun _ => rfl, r.kept.1.trans (by rw [named]; rfl)⟩
    change execCoilOvercurrent p c mA held s = _
    unfold execCoilOvercurrent
    rw [if_pos (by simp [hc, he, hon, hmA, hheld])]
    dsimp only
    rw [if_neg (by rw [State.deEnergise, modPanel_panel, if_pos rfl]; simpa using hk), State.deEnergise, modPanel_modPanel]
    rfl
  · change execCoilOpenLoad p c mA held s = _
    unfold execCoilOpenLoad
    rw [if_pos (by simp [hc, he, hon, ht, hmA, hheld])]
  · change execOffStateOpenLoad p c ohms held s = _
    unfold execOffStateOpenLoad
    rw [if_pos (by simp [hc, he, hoff, ht, ho]), if_neg (by omega), if_pos hheld]
  · change execCoilOvercurrent p c mA held s = _
    unfold execCoilOvercurrent
    rw [if_neg (by simp; omega)]
  · change execCoilOpenLoad p c mA held s = _
    unfold execCoilOpenLoad
    rw [if_neg (by simp; omega)]

/-! ### The timeouts -/

theorem linked_reach (hs : s.Linked) (d : Nat) : (s.reach d).Linked := hs.of_same {} fun _ => .inl rfl

theorem stopTravel_cleats (s : State) (p : PanelNo) : ((s.stopTravel p).panel p).cleats = (s.panel p).cleats ∧
    ((s.stopTravel p).panel p).move = (s.panel p).move := by
  unfold State.stopTravel
  split
  · rw [modPanel_panel, if_pos rfl]; exact ⟨rfl, rfl⟩
  · exact ⟨rfl, rfl⟩

theorem valveOff_cleats (s : State) (p : PanelNo) : ((s.valveOff p).panel p).cleats = (s.panel p).cleats ∧
    ((s.panel p).move = none → ((s.valveOff p).panel p).move = none) := by
  unfold State.valveOff
  split
  · exact ⟨rfl, id⟩
  · rename_i m hm
    rw [modPanel_panel, if_pos rfl]
    exact ⟨rfl, fun h => by rw [hm] at h; cases h⟩

theorem jogCoilsOff_cleats (s : State) (j : Jog) : ((s.jogCoilsOff j).panel j.panel).cleats = (s.panel j.panel).cleats ∧
    ((s.panel j.panel).move = none → ((s.jogCoilsOff j).panel j.panel).move = none) := by
  have travel := stopTravel_cleats s j.panel
  unfold State.jogCoilsOff
  split
  · exact ⟨travel.1, travel.2.trans⟩
  · exact ⟨travel.1, travel.2.trans⟩
  · exact valveOff_cleats s j.panel
  · exact valveOff_cleats s j.panel
  · unfold State.deEnergise
    rw [modPanel_panel, if_pos rfl]
    exact ⟨rfl, id⟩

/-- The end of a jog leaves the cleats of every panel, and starts no move. -/
theorem endJogOn_cleats (s : State) (p : PanelNo) : ((s.endJogOn p).st.panel p).cleats = (s.panel p).cleats ∧
    ((s.panel p).move = none → ((s.endJogOn p).st.panel p).move = none) := by
  unfold State.endJogOn
  split
  · exact ⟨rfl, id⟩
  · rename_i j hj
    split
    · rename_i e
      subst e
      rw [endJog_panel hj]
      unfold State.jogStopped
      rw [modPanel_panel, if_pos rfl]
      exact jogCoilsOff_cleats { s with jog := none } j
    · exact ⟨rfl, id⟩

theorem endJogOn_live (s : State) (p q : PanelNo) : ((s.endJogOn p).st.panel q).live = (s.panel q).live := by
  unfold State.endJogOn
  split
  · rfl
  · split
    · exact endJog_live s q
    · rfl

theorem mem_unconfirmed {m : Move} {c : CleatNo} : c ∈ m.unconfirmed ↔ c ∈ m.participants ∧ c ∉ m.confirmed := by
  simp [Move.unconfirmed]

/-- The window of a move has expired: the move is over and its unconfirmed participants are JAMMED (R29). -/
def State.windowOver (s : State) (p : PanelNo) (m : Move) : State :=
  (s.clearMove p).modPanel p fun x => x.setStates m.unconfirmed .jammed

/-- The valve of a jog's own move goes off, and the jog with it. -/
def State.jogOver (s : State) (p : PanelNo) (m : Move) : Res := if m.byJog && m.valve then s.endJogOn p else .ok s

theorem changes_windowOver {L : Leave} (s : State) (p : PanelNo) (m : Move) : Changes L s (s.windowOver p m) :=
  calms_clearMove.changes.trans (changes_quiet fun x => .of_setStates x _ _)

theorem windowOver_slots (s : State) (p : PanelNo) (m : Move) : (s.windowOver p m).slots = s.slots :=
  (calms_clearMove (s := s) (p := p)).slots

theorem windowOver_panel {m : Move} (hm : (s.panel p).move = some m) :
    (s.windowOver p m).panel p = ((s.panel p).moveless m).setStates m.unconfirmed .jammed := by
  unfold State.windowOver
  rw [clearMove_eq, modPanel_modPanel, modPanel_panel, if_pos rfl, hm]

theorem jogOver_eq (s : State) (p : PanelNo) (m : Move) : (s.jogOver p m).st = s ∨ (s.jogOver p m).st = (s.endJogOn p).st := by
  unfold State.jogOver
  split
  · exact .inr rfl
  · exact .inl rfl

/-- What the end of the jog leaves. -/
theorem jogOver_kept {L : Leave} (s : State) (p : PanelNo) (m : Move) : Changes L s ((s.jogOver p m).st) ∧
    (∀ i, (s.jogOver p m).st.slot i = s.slot i) ∧ ((s.jogOver p m).st.panel p).live = (s.panel p).live ∧
    ((s.jogOver p m).st.panel p).cleats = (s.panel p).cleats ∧
    ((s.panel p).move = none → ((s.jogOver p m).st.panel p).move = none) := by
  obtain e | e := jogOver_eq s p m
  · rw [e]; exact ⟨.refl, fun _ => rfl, rfl, rfl, id⟩
  · obtain ⟨cleats, move⟩ := endJogOn_cleats s p
    rw [e]
    exact ⟨changes_endJogOn, fun i => slot_of_slots (endJogOn_slots s p) i, endJogOn_live s p p, cleats, move⟩

/-- Settles O54: the expired timer is noted and the fault is raised, and the work that follows leaves the panel and its failed
order as they are. -/
theorem timeoutsRaiseTheirFaults : Obligations.TimeoutsRaiseTheirFaults := by
  intro s p hs hc x out
  have hs := linked_iff.1 hs
  have shows {u t : State} {c : Instr} {d : Nat} {k : PanelFault} {P : Panel → Prop} (r : Raised u t p k)
      (hx : exec c s = .next t) (hn : u.now = max s.now d) (hi : u.inStart = s.inStart) (hsl : ∀ i, u.slot i = s.slot i)
      (hl : (u.panel p).live = x.live) (hP : P (t.panel p)) : ∃ t, exec c s = .next t ∧
      t.now = max s.now d ∧ k ∈ (t.panel p).faults ∧ (t.panel p).coils = {} ∧ (t.panel p).live = none ∧
      (t.panel p).mode ≠ .driven ∧ (s.inStart = false → .panelFault ∈ t.latches) ∧ P (t.panel p) ∧
      ∀ i o, s.slot i = some o → x.live = some o.id →
        ∃ o', t.slot i = some o' ∧ o'.state = .failed (.fault k) ∧ o'.finishedAt = some (max s.now d) :=
    ⟨t, hx, r.now.trans hn, r.mem, r.rest.coils, r.live, r.rest.mode, fun h => r.latched (hi.trans h), hP,
      fun i o ho hlo => hn ▸ r.order i o ((hsl i).trans ho) (hl.trans hlo)⟩
  refine ⟨fun d hd hk => ?_, fun d hd => ?_, fun m hm hk => ?_⟩
  · have r := raised_modPanel (linked_reach hs d) hc hk (f := fun x => { x with stall := .stopped }) (fun _ => rfl) fun _ => rfl
    have named : ((s.reach d).modPanel p fun x => { x with stall := .stopped }).panel p = { x with stall := .stopped } := by
      rw [modPanel_panel, if_pos rfl]; rfl
    refine shows (P := fun y => y.stall = .stopped ∧ (x.mode = .driven → y.mode = .coasting ∧
      y.brakeTimer = some (max s.now d + s.params.tuning.brakingWindow))) r ?_ rfl rfl (fun _ => rfl) (by rw [named]) ⟨r.stall (by rw [named]), fun hd => ?_⟩
    · change execStallTimerExpiry p s = _
      simp only [execStallTimerExpiry]
      rw [show (s.panel p).stall = .running d from hd]
    · obtain ⟨h1, h2, -⟩ := r.braking (by rw [named]; exact hd)
      exact ⟨h1, h2⟩
  · have step (k : PanelFault) (hk' : (s.panel p).activity.timeoutFault = k) :
        out (.stepTimeout p) d k fun y => y.stepTimer = none := by
      intro hk
      have r := raised_modPanel (linked_reach hs d) hc hk (f := fun x => { x with stepTimer := none }) (fun _ => rfl)
        fun _ => rfl
      refine shows (P := fun y => y.stepTimer = none) r ?_ rfl rfl (fun _ => rfl) (by rw [modPanel_panel, if_pos rfl]; rfl)
          r.rest.timer
      change execStepTimeout p s = _
      simp only [execStepTimeout]
      rw [show (s.panel p).stepTimer = some d from hd, hk']
    exact ⟨fun h => step _ (congrArg Activity.timeoutFault h), fun h => step _ (congrArg Activity.timeoutFault h),
      fun v h => step _ (congrArg Activity.timeoutFault h)⟩
  · have hm : (s.panel p).move = some m := hm
    have v := changes_windowOver (L := { Leave.all with faults := False }) (s.reach m.window) p m
    have here := windowOver_panel (s := s.reach m.window) (p := p) hm
    rw [setStates_eq] at here
    obtain ⟨run, slots, live, cleats, move⟩ := jogOver_kept ((s.reach m.window).windowOver p m) p m
    have whole := v.trans run
    have same := Changes.lasting whole
    have faults : ((((s.reach m.window).windowOver p m).jogOver p m).st.panel p).faults = x.faults :=
      Changes.faults_eq whole (fun h => h) p
    have r := raised_settle (r := (((s.reach m.window).windowOver p m).jogOver p m).bind fun s => s.raise p .cleatJam) rfl
      (Changes.linked whole (linked_reach hs m.window)) ((lasting_configured same p).trans hc) (faults ▸ hk)
    rw [here] at live cleats move
    have moveless := move rfl
    refine shows (P := fun y => y.move = none ∧ ∀ k : CleatNo, y.cleats[k] =
      if k ∈ m.participants ∧ k ∉ m.confirmed then { x.cleats[k] with state := .jammed } else x.cleats[k]) r ?_
      (lasting_now same) (lasting_inStart (s := s.reach m.window) same) ?_ live ⟨r.rest.move, fun k => ?_⟩
    · change execConfirmationWindowExpiry p s = _
      simp only [execConfirmationWindowExpiry, hm]
      rfl
    · exact fun i => (slots i).trans (slot_of_slots (windowOver_slots _ _ _) i)
    · rw [r.kept.2.2.1, Panel.cut_cleats_none moveless, cleats]
      refine (setStates_cleats ..).trans ?_
      simp only [mem_unconfirmed]
      rfl

end Sys2Proof.Machine
end

section
/-! The travel trip, the chops it makes and the end of their hold-off (R106, R107, R108). -/

namespace Sys2Proof.Machine

variable {s t u : State} {p q : PanelNo} {i j : SlotNo} {o : Order} {k : PackId}

/-! ### The trip and the panels that travel on its pack -/

/-- A pack with a travel pressure and the trip that goes with it. -/
def Pack.tripped (x : Pack) (bar : Nat) (trip : Bool) : Pack := { x with travelBar := bar, trip := trip }

theorem tripped_travelPack (s : State) (k : PackId) (bar : Nat) (b : Bool) (p : PanelNo) :
    (s.modPack k fun x => x.tripped bar b).travelPack p = s.travelPack p := by
  have flow : (s.modPack k fun x => x.tripped bar b).flow p = s.flow p := by
    cases k <;> simp [State.flow, State.modPack, State.setPack, State.pack, Pack.tripped, Pack.grantOf, Pack.waiterOf]
  have up (l : PackId) : ((s.modPack k fun x => x.tripped bar b).pack l).up = (s.pack l).up := by
    rw [modPack_pack]
    split
    · rename_i e; subst e; rfl
    · rfl
  unfold State.travelPack State.grantPack State.listPack State.servingPack
  simp only [flow, up]
  cases k <;> rfl

theorem travelling_iff {x : Panel} : x.travelling = true ↔ x.mode = .driven ∧ x.holdoff = none := by
  simp [Panel.travelling]

theorem modPack_modPack (s : State) (k : PackId) (f g : Pack → Pack) :
    (s.modPack k f).modPack k g = s.modPack k fun x => g (f x) := by cases k <;> rfl

theorem modPack_congr {f g : Pack → Pack} (h : f (s.pack k) = g (s.pack k)) : s.modPack k f = s.modPack k g := by
  simp only [State.modPack, h]

theorem modPack_inStart (s : State) (k : PackId) (f : Pack → Pack) : (s.modPack k f).inStart = s.inStart := by cases k <;> rfl

/-! ### A chop -/

/-- The unit with the panel chopped and warned of it. -/
def State.chopWarned (s : State) (p : PanelNo) : State :=
  (s.modPanel p fun x => x.chopped s.now s.params.tuning.chopHoldoff).warn p .travelTrip

/-- The unit with the panel chopped for the last time. -/
def State.overloaded (s : State) (p : PanelNo) : State :=
  (s.chopWarned p).modPanel p fun x => { x with overloadPack := some (s.travelPack p) }

theorem chopWarned_panel (s : State) (p : PanelNo) : (s.chopWarned p).panel p =
    { (s.panel p).chopped s.now s.params.tuning.chopHoldoff with
      warnings := joinSet allPanelWarnings .travelTrip (s.panel p).warnings } := by
  unfold State.chopWarned State.warn
  rw [setLatch_panel, modPanel_panel, if_pos rfl, modPanel_panel, if_pos rfl]
  rfl

theorem chopWarned_latched (hu : s.inStart = false) : .warning ∈ (s.chopWarned p).latches := by
  unfold State.chopWarned State.warn
  rw [setLatch_mem]
  exact .inr ⟨rfl, fun h => absurd h.1 (by rw [← Bool.not_eq_true] at hu; exact hu)⟩

theorem chopWarned_same (s : State) (p : PanelNo) : (s.chopWarned p).lasting = s.lasting ∧ (s.chopWarned p).slots = s.slots ∧
    ∀ q, p ≠ q → (s.chopWarned p).panel q = s.panel q := by
  refine ⟨(lasting_warn _ _ _).trans (lasting_modPanel fun _ => rfl), by simp [State.chopWarned, State.warn], fun q hq => ?_⟩
  unfold State.chopWarned State.warn
  rw [setLatch_panel, modPanel_panel_ne _ _ hq, modPanel_panel_ne _ _ hq]

theorem chopPanel_below (h : min 255 ((s.panel p).chop + 1) < s.params.tuning.chopLimit) :
    s.chopPanel p = .ok (s.chopWarned p) := by
  have chop : ((s.chopWarned p).panel p).chop = min 255 ((s.panel p).chop + 1) := by rw [chopWarned_panel]; rfl
  have params : (s.chopWarned p).params = s.params := lasting_params (chopWarned_same s p).1
  rw [chopPanel_eq]
  unfold State.afterChop
  change (if ((s.chopWarned p).panel p).chop ≥ (s.chopWarned p).params.tuning.chopLimit then _ else _) = _
  rw [chop, params, if_neg (by omega)]
  rfl

theorem chopPanel_limit (h : s.params.tuning.chopLimit ≤ min 255 ((s.panel p).chop + 1)) :
    s.chopPanel p = (s.overloaded p).raise p .travelOverload := by
  have chop : ((s.chopWarned p).panel p).chop = min 255 ((s.panel p).chop + 1) := by rw [chopWarned_panel]; rfl
  have params : (s.chopWarned p).params = s.params := lasting_params (chopWarned_same s p).1
  rw [chopPanel_eq]
  unfold State.afterChop
  change (if ((s.chopWarned p).panel p).chop ≥ (s.chopWarned p).params.tuning.chopLimit then _ else _) = _
  rw [chop, params, if_pos h]
  rfl

/-- The panels that travel on the pack are chopped, one after another. -/
def State.chopAll (s : State) (k : PackId) : Res := Res.each (s.travellers k) (fun p s => s.chopPanel p) (.ok s)

theorem chopPanel_warned (s : State) (p : PanelNo) : .travelTrip ∈ ((s.chopPanel p).st.panel p).warnings ∧
    (s.inStart = false → .warning ∈ (s.chopPanel p).st.latches) := by
  have warned : .travelTrip ∈ ((s.chopWarned p).panel p).warnings := by
    rw [chopWarned_panel]
    exact mem_joinSet.2 ⟨mem_allPanelWarnings _, .inl rfl⟩
  by_cases h : s.params.tuning.chopLimit ≤ min 255 ((s.panel p).chop + 1)
  · rw [chopPanel_limit h]
    have run := (worksOn_raise (s.overloaded p) p .travelOverload).run
    refine ⟨(run.panel p).warnings _ ?_, fun hu => run.latches (chopWarned_latched (p := p) hu)⟩
    unfold State.overloaded
    rw [modPanel_panel, if_pos rfl]
    exact warned
  · rw [chopPanel_below (by omega)]
    exact ⟨warned, chopWarned_latched⟩

/-- Each of the panels that are chopped is warned of it. -/
theorem eachChop_warned : ∀ (ps : List PanelNo) (s : State), p ∈ ps →
    .travelTrip ∈ ((Res.each ps (fun p s => s.chopPanel p) (.ok s)).st.panel p).warnings ∧
    (s.inStart = false → .warning ∈ (Res.each ps (fun p s => s.chopPanel p) (.ok s)).st.latches)
  | [], _, hp => absurd hp List.not_mem_nil
  | q :: ps, s, hp => by
    rw [each_cons_st]
    have rest : Changes Leave.all (s.chopPanel q).st (Res.each ps (fun p s => s.chopPanel p) (.ok (s.chopPanel q).st)).st :=
      Res.each_ind (P := fun t => Changes Leave.all (s.chopPanel q).st t)
        (fun p u h => h.trans (worksOn_chopPanel u p).run) ps _ .refl
    obtain rfl | hp := List.mem_cons.1 hp
    · obtain ⟨warned, latched⟩ := chopPanel_warned s p
      exact ⟨(rest.panel p).warnings _ warned, fun h => rest.latches (latched h)⟩
    · obtain ⟨warned, latched⟩ := eachChop_warned ps _ hp
      exact ⟨warned, fun h => latched ((lasting_inStart (lasting_chopPanel s q)).trans h)⟩

theorem lasting_chopAll (s : State) (k : PackId) : (s.chopAll k).settle.lasting = s.lasting :=
  (changes_settle _).lasting.trans (Res.lasting_each (fun p s => lasting_chopPanel s p) _ _)

theorem exec_trips {bar held : Nat} (hb : s.params.tuning.tripLevel < bar) (ht : (s.pack k).trip = false)
    (hd : s.params.tuning.tripDeglitch ≤ min held (s.now - (s.pack k).deglitchFrom)) :
    exec (.travelTripRaised k (some bar) held) s = .next ((s.modPack k fun x => x.tripped bar true).chopAll k).settle := by
  change execTravelTripRaised k (some bar) held s = _
  unfold execTravelTripRaised
  dsimp only
  rw [if_pos ⟨ht, hb, hd⟩, modPack_modPack]
  rfl

theorem exec_reads {bar held : Nat} (h : ¬ ((s.pack k).trip = false ∧ s.params.tuning.tripLevel < bar ∧
    s.params.tuning.tripDeglitch ≤ min held (s.now - (s.pack k).deglitchFrom))) :
    exec (.travelTripRaised k (some bar) held) s = .next (s.modPack k fun x =>
      x.tripped bar (x.trip && decide (s.params.tuning.tripLevel < bar))) := by
  change execTravelTripRaised k (some bar) held s = _
  unfold execTravelTripRaised
  exact congrArg Host.Outcome.next (if_neg h)

/-- Settles O39: at the trip every travelling panel of the pack is warned of its chop, and neither the chops nor what follows
moves a pack's readings. -/
theorem theTripFollowsThePressure : Obligations.TheTripFollowsThePressure := by
  intro s k bar held counted
  refine ⟨fun hb hd => ?_, fun hb hd ht => ?_, fun hb c hc => ?_, fun c hc => ?_⟩
  · by_cases ht : (s.pack k).trip = false
    · have last := lasting_chopAll (s.modPack k fun x => x.tripped bar true) k
      have mine := lasting_pack last k
      have other := lasting_pack last (otherPack k)
      rw [modPack_pack, if_pos rfl] at mine
      rw [modPack_pack, if_neg (by cases k <;> decide)] at other
      refine ⟨_, exec_trips hb ht hd, congrArg Pack.trip mine, congrArg Pack.travelBar mine, other, fun _ p hp hk hu => ?_⟩
      have on : p ∈ (s.modPack k fun x => x.tripped bar true).travellers k := by
        rw [mem_travellers, tripped_travelPack, modPack_panel]
        exact ⟨travelling_iff.1 hp, hk⟩
      obtain ⟨warned, latched⟩ := eachChop_warned _ _ on
      have run := changes_settle ((s.modPack k fun x => x.tripped bar true).chopAll k)
      exact ⟨(run.panel p).warnings _ warned, run.latches (latched ((modPack_inStart s k _).trans hu))⟩
    · refine ⟨_, exec_reads fun h => ht h.1, ?_, ?_, ?_, fun h => absurd h ht⟩
      · rw [modPack_pack, if_pos rfl]; simpa [Pack.tripped, hb] using ht
      · rw [modPack_pack, if_pos rfl]; rfl
      · rw [modPack_pack, if_neg (by cases k <;> decide)]
  · refine ⟨_, exec_reads fun h => absurd h.2.2 (by omega), ?_, ?_⟩
    · rw [modPack_pack, if_pos rfl]; simp [Pack.tripped, ht]
    · cases k <;> rfl
  · have clear : (s.modPack k fun x => x.tripped bar (x.trip && decide (s.params.tuning.tripLevel < bar))) =
        s.modPack k fun x => { x with travelBar := bar, trip := false } :=
      modPack_congr (by simp [Pack.tripped, show ¬ s.params.tuning.tripLevel < bar by omega])
    rcases hc with rfl | rfl
    · rw [exec_reads fun h => absurd h.2.1 (by omega), clear]
    · rw [← clear]; rfl
  · have reads (f : Pack → Pack) : ((s.useFree none).modPack k f).free = s.free + 1 ∧
        ((s.useFree none).modPack k f).params = s.params ∧ ((s.useFree none).modPack k f).layout = s.layout := by
      cases k <;> exact ⟨rfl, rfl, rfl⟩
    rcases hc with rfl | rfl
    · change ∃ t, execTravelTripRaised k none held s = .next t ∧ _
      unfold execTravelTripRaised
      extract_lets b tun s1 s2
      split
      · have last : (s2.chopAll k).settle.lasting = s2.lasting := lasting_chopAll s2 k
        have two : s2.free = s.free + 1 ∧ s2.params = s.params ∧ s2.layout = s.layout := by
          simp only [s2, s1, modPack_modPack]; exact reads _
        exact ⟨_, rfl, (congrArg State.free last : (s2.chopAll k).settle.lasting.free = _).trans two.1,
          (lasting_params last).trans two.2.1, (lasting_layout last).trans two.2.2⟩
      · exact ⟨_, rfl, reads _⟩
    · exact ⟨_, rfl, reads _⟩

/-! ### The end of a hold-off -/

/-- A hold-off ends with the pressure gone and the trip CLEAR: the direction coil is energised again. -/
theorem holdoffEnd_clear {e : Dir} (he : (s.panel p).lastDir = some e)
    (hb : (s.pack (s.travelPack p)).travelBar ≤ s.params.tuning.tripLevel) (ht : (s.pack (s.travelPack p)).trip = false) :
    s.holdoffEnd p = .ok (s.modPanel p fun x =>
      { x with holdoff := none, stall := .running (s.now + s.params.tuning.stallPeriod) }.energised s.enabled e.coil) := by
  unfold State.holdoffEnd
  rw [if_pos hb]
  dsimp only
  rw [he]
  dsimp only
  rw [energise_eq, modPanel_modPanel, State.chopIfTripped, if_neg]
  · rfl
  · simp only [Bool.and_eq_true, not_and, Bool.not_eq_true]
    exact fun _ => ht

theorem overloaded_panel (s : State) (p : PanelNo) : (s.overloaded p).panel p =
    { (s.chopWarned p).panel p with overloadPack := some (s.travelPack p) } := by
  unfold State.overloaded
  rw [modPanel_panel, if_pos rfl]

theorem linked_overloaded (hs : s.Linked) (p : PanelNo) : (s.overloaded p).Linked := by
  refine Changes.linked (L := Leave.all) ?_ hs
  have warned : Changes Leave.all s (s.chopWarned p) := (changes_chopped fun _ _ => trivial).trans
      (changes_warn (p := p) .travelTrip)
  exact warned.trans (changes_quiet fun _ => .of_same rfl rfl rfl rfl id rfl rfl rfl rfl)

/-- Settles O40: a chop below the limit is the chopped record and its warning; the last one is a raise on top of it. -/
theorem chopsAndTheirHoldoff : Obligations.ChopsAndTheirHoldoff := by
  intro s p x tun
  refine ⟨fun k bar held hb ht hd => ⟨exec_trips hb ht hd, allPanels_nodup.filter _, fun q => ?_⟩, fun h => ?_,
    fun h hs hc hk hm => ?_, fun d e hd he hb ht => ?_, fun d hd hb => ?_, fun hd => ?_⟩
  · refine (mem_travellers (s := s.modPack k fun x => x.tripped bar true)).trans ?_
    rw [tripped_travelPack, and_assoc, modPack_panel]
  · have record := chopWarned_panel s p
    rw [chopPanel_below h]
    refine ⟨rfl, ?_⟩
    intro y
    have hy : y = { x.chopped s.now tun.chopHoldoff with warnings := joinSet allPanelWarnings .travelTrip x.warnings } := record
    have warned : .travelTrip ∈ y.warnings := by rw [hy]; exact mem_joinSet.2 ⟨mem_allPanelWarnings _, .inl rfl⟩
    refine ⟨?_, ?_, ?_, ?_, ?_, warned, ?_, ?_, fun d hd => ?_, fun q hq => (chopWarned_same s p).2.2 q (Ne.symm hq)⟩
    all_goals rw [hy]
    case refine_8 => exact congrArg (StallTimer.suspend · s.now) hd
    all_goals rfl
  · have hs := linked_iff.1 hs
    obtain ⟨last, slots, -⟩ := chopWarned_same s p
    have record := overloaded_panel s p
    rw [chopWarned_panel] at record
    have r := raised (k := .travelOverload) (linked_overloaded hs p) (u := s.overloaded p)
      ((lasting_configured (s := s) last p).trans hc) (by rw [record]; exact hk)
    obtain ⟨-, -, -, chop, pack, warnings⟩ := r.kept
    obtain ⟨mode, brake, stall, holdoff⟩ := r.braking (by rw [record]; exact hm)
    have now : (s.overloaded p).now = s.now := lasting_now (t := s.chopWarned p) last
    have params : (s.overloaded p).params = s.params := lasting_params (t := s.chopWarned p) last
    rw [chopPanel_limit h]
    refine ⟨r.mem, ?_, ?_, ?_, r.rest.coils, mode, holdoff, stall, ?_, r.live, fun hu => r.latched ?_, fun i o ho hl => ?_⟩
    · rw [pack, record]
    · rw [chop, record]; rfl
    · rw [warnings, record]; exact mem_joinSet.2 ⟨mem_allPanelWarnings _, .inl rfl⟩
    · rw [brake, now, params]
    · exact (lasting_inStart (s := s) last).trans hu
    · rw [← now]
      exact r.order i o ((slot_of_slots (s := s) slots i).trans ho) (by rw [record]; exact hl)
  · have e := holdoffEnd_clear (s := s.reach d) he hb ht
    have hx : exec (.chopHoldoffEnd p) s = .next ((s.reach d).holdoffEnd p).settle := by
      change execChopHoldoffEnd p s = _
      simp only [execChopHoldoffEnd]
      rw [show (s.panel p).holdoff = some d from hd]
    rw [e, settle_ok] at hx
    refine ⟨_, hx, rfl, ?_, ?_, ?_, ?_, rfl, fun q hq => modPanel_panel_ne _ _ (Ne.symm hq)⟩
    all_goals rw [modPanel_panel, if_pos rfl]
    all_goals rfl
  · change execChopHoldoffEnd p s = _
    simp only [execChopHoldoffEnd]
    rw [show (s.panel p).holdoff = some d from hd]
    have e : (s.reach d).holdoffEnd p = .ok ((s.reach d).modPanel p fun x =>
        { x with holdoff := some (max s.now d + tun.chopHoldoff) }) := if_neg (Nat.not_le_of_lt hb)
    exact (congrArg (fun r => Host.Outcome.next (Res.settle r)) e).trans (congrArg Host.Outcome.next (settle_ok _))
  · change execChopHoldoffEnd p s = _
    simp only [execChopHoldoffEnd]
    rw [show (s.panel p).holdoff = none from hd]

end Sys2Proof.Machine
end

section
/-! The service requests that set a panel's records (R198, R32): with no order served, the work that follows may end the jog
and moves nothing of the cleats. -/

namespace Sys2Proof.Machine

variable {s t u : State} {p q : PanelNo} {n : StationNo} {k : CleatNo} {m : Move} {j : Jog}

/-! ### Cleats and moves that stay -/

/-- The cleats of every panel, and those that take part in its move, are as they were; a move may have ended. -/
def State.CleatsStay (s t : State) : Prop := ∀ p, (t.panel p).cleats = (s.panel p).cleats ∧
  ∀ m, (t.panel p).move = some m → ∃ m', (s.panel p).move = some m' ∧ m.participants = m'.participants ∧
    m.confirmed = m'.confirmed

theorem State.CleatsStay.refl (s : State) : s.CleatsStay s := fun _ => ⟨rfl, fun m h => ⟨m, h, rfl, rfl⟩⟩

theorem State.CleatsStay.trans (a : s.CleatsStay t) (b : t.CleatsStay u) : s.CleatsStay u := fun p => by
  obtain ⟨hc, hm⟩ := b p
  refine ⟨hc.trans (a p).1, fun m h => ?_⟩
  obtain ⟨m', h', hp, hq⟩ := hm m h
  obtain ⟨x, hx, ep, eq⟩ := (a p).2 m' h'
  exact ⟨x, hx, hp.trans ep, hq.trans eq⟩

theorem State.CleatsStay.of_panels (h : ∀ p, t.panel p = s.panel p) : s.CleatsStay t := fun p => by
  rw [h p]; exact State.CleatsStay.refl s p

/-- A change of one panel that leaves its cleats and its move. -/
theorem cleatsStay_modPanel {f : Panel → Panel} (h : ∀ x, (f x).cleats = x.cleats ∧ (f x).move = x.move) :
    s.CleatsStay (s.modPanel p f) := fun q => by
  rw [modPanel_panel]
  split
  · rename_i e
    subst e
    obtain ⟨hc, hm⟩ := h (s.panel p)
    exact ⟨hc, fun m h => ⟨m, hm ▸ h, rfl, rfl⟩⟩
  · exact State.CleatsStay.refl s q

theorem cleatsStay_valveOff (s : State) (p : PanelNo) : s.CleatsStay (s.valveOff p) := by
  unfold State.valveOff
  split
  · exact .refl s
  · rename_i m hm
    intro q
    rw [modPanel_panel]
    split
    · rename_i e
      subst e
      exact ⟨rfl, fun x h => ⟨m, hm, by cases h; rfl, by cases h; rfl⟩⟩
    · exact State.CleatsStay.refl s q

theorem cleatsStay_stopTravel (s : State) (p : PanelNo) : s.CleatsStay (s.stopTravel p) := by
  rw [stopTravel_eq]
  refine cleatsStay_modPanel fun x => ?_
  unfold Panel.stopped
  split <;> exact ⟨rfl, rfl⟩

theorem cleatsStay_jogCoilsOff (s : State) (j : Jog) : s.CleatsStay (s.jogCoilsOff j) := by
  unfold State.jogCoilsOff
  split
  · exact cleatsStay_stopTravel s _
  · exact cleatsStay_stopTravel s _
  · exact cleatsStay_valveOff s _
  · exact cleatsStay_valveOff s _
  · exact cleatsStay_modPanel fun _ => ⟨rfl, rfl⟩

theorem cleatsStay_endJog (s : State) : s.CleatsStay s.endJog.st := by
  cases hj : s.jog with
  | none => rw [show s.endJog = .ok s by simp [State.endJog, hj]]; exact .refl s
  | some j =>
    have off : s.CleatsStay (s.jogStopped j) :=
      .trans (.of_panels (t := { s with jog := none }) fun _ => rfl)
        ((cleatsStay_jogCoilsOff _ j).trans (cleatsStay_modPanel fun _ => ⟨rfl, rfl⟩))
    exact off.trans (.of_panels fun q => by rw [endJog_panel hj])

/-! ### The work that follows where no order is served -/

/-- With no order served, a piece of work that releases no dependent leaves the cleats, and asks for such work only. -/
theorem runJob_cleatsStay {x : Job} (hs : s.noneServed) (hx : x.plain) :
    ((runJob x s).st.noneServed ∧ s.CleatsStay (runJob x s).st) ∧ ∀ y ∈ (runJob x s).jobs, y.plain := by
  by_cases hj : x = .jogTest
  · subst hj
    change (s.jogTest.st.noneServed ∧ s.CleatsStay s.jogTest.st) ∧ ∀ y ∈ s.jogTest.jobs, y.plain
    unfold State.jogTest
    split
    · exact ⟨⟨hs, .refl s⟩, fun _ h => by cases h⟩
    · split
      · exact ⟨⟨hs, .refl s⟩, fun _ h => by cases h⟩
      · exact ⟨⟨fun p => (endJog_served s p).trans (hs p), cleatsStay_endJog s⟩, endJog_plain s⟩
  · obtain ⟨repacked, plain⟩ := runJob_unserved hs (fun e => absurd e hj) hx
    refine ⟨⟨fun p => (repacked.served p).trans (hs p), .of_panels fun p => ?_⟩, plain⟩
    obtain ⟨⟨a, b, e⟩, -⟩ := repacked
    rw [e]
    rfl

/-- All the work that follows leaves the cleats. -/
theorem settle_cleatsStay {r : Res} (hs : r.st.noneServed) (hx : ∀ x ∈ r.jobs, x.plain) : r.st.CleatsStay r.settle := by
  refine (drain_jobs_ind (P := fun t => t.noneServed ∧ r.st.CleatsStay t) (Q := Job.plain) (fun x t hq ⟨ht, hc⟩ => ?_) _ _ _ hx
    ⟨hs, .refl _⟩).2
  obtain ⟨⟨h1, h2⟩, h3⟩ := runJob_cleatsStay ht hq
  exact ⟨⟨h1, hc.trans h2⟩, h3⟩

/-- The same of work that is done before what it asks for. -/
theorem now_settle_cleatsStay {x : Job} (hs : s.noneServed) (hx : x.plain) : s.CleatsStay ((Res.ok s).now [x]).settle := by
  have e : (Res.ok s).now [x] = runJob x s := rfl
  obtain ⟨⟨served, stay⟩, plain⟩ := runJob_cleatsStay hs hx
  rw [e]
  exact stay.trans (settle_cleatsStay served plain)

/-! ### The requests -/

theorem modCleat_cleats (s : State) (p : PanelNo) (k l : CleatNo) (f : Cleat → Cleat) :
    ((s.modCleat p k f).panel p).cleats[l] = if l = k then f (s.panel p).cleats[k] else (s.panel p).cleats[l] := by
  unfold State.modCleat
  rw [modPanel_panel, if_pos rfl]
  by_cases h : l = k
  · subst h; simp [Panel.modCleat, Panel.setCleat]
  · have : k.val ≠ l.val := fun e => h (Fin.ext e.symm)
    simp [Panel.modCleat, Panel.setCleat, this, h]

theorem onService_of {panel : Byte} {ok : PanelNo → Bool} {act : PanelNo → Answer} (hu : s.unit = .service)
    (ha : panelArg panel = some p) (ho : ok p = true) (hc : s.configured p = true) (hn : s.serviceStation = some n) :
    s.onService n panel ok act = act p := by
  unfold State.onService
  rw [if_neg (by simp [hu]), ha]
  dsimp only
  rw [if_neg (by simp [ho]), if_neg (by simp [hc]), if_neg (by simp [hn])]

theorem cleatOk_of {b : Byte} (hb : cleatArg b = some k) (hk : k.val < s.layout.cleatCount[p]) :
    s.cleatOk b p = true ∧ cleatNamed b = k := by
  refine ⟨?_, by simp [cleatNamed, hb]⟩
  unfold cleatArg at hb
  split at hb
  · obtain rfl := Option.some.inj hb
    simp only [State.cleatOk, Bool.and_eq_true, decide_eq_true_eq]
    dsimp only at hk
    omega
  · cases hb

/-- The unit with the cleat BYPASSED and out of the move. -/
def State.outOfMove (s : State) (p : PanelNo) (k : CleatNo) (m : Move) : State :=
  (s.modCleat p k fun c => { c with state := .bypassed }).modPanel p fun x => { x with move := some (m.without k) }

theorem bypass_none (h : (s.panel p).move = none) : s.bypass p k =
    ⟨s.modCleat p k fun c => { c with state := .bypassed }, [.jogTest]⟩ := by
  have same : ((s.modCleat p k fun c => { c with state := .bypassed }).panel p).move = none := by
    unfold State.modCleat
    rw [modPanel_panel, if_pos rfl]
    exact h
  unfold State.bypass
  dsimp only
  rw [same]

theorem bypass_some (h : (s.panel p).move = some m) : s.bypass p k =
    (if (m.without k).allConfirmed then (s.outOfMove p k m).finishMove p else .ok (s.outOfMove p k m)).add [.jogTest] := by
  have same : ((s.modCleat p k fun c => { c with state := .bypassed }).panel p).move = some m := by
    unfold State.modCleat
    rw [modPanel_panel, if_pos rfl]
    exact h
  unfold State.bypass
  dsimp only
  rw [same]
  rfl

theorem endJogOn_served (s : State) (p q : PanelNo) : (s.endJogOn p).st.served q = s.served q :=
  served_congr (endJogOn_live s p q) (endJogOn_slots s p)

theorem endJogOn_plain (s : State) (p : PanelNo) : ∀ x ∈ (s.endJogOn p).jobs, x.plain := by
  unfold State.endJogOn
  split
  · exact fun _ h => by cases h
  · split
    · exact endJog_plain s
    · exact fun _ h => by cases h

theorem jogOver_plain (s : State) (p : PanelNo) (m : Move) : ∀ x ∈ (s.jogOver p m).jobs, x.plain := by
  unfold State.jogOver
  split
  · exact endJogOn_plain s p
  · exact fun _ h => by cases h

theorem noneServed_modPanel {f : Panel → Panel} (hs : s.noneServed) (hf : ∀ x, (f x).live = x.live) :
    (s.modPanel p f).noneServed := fun q => by
  have live : ((s.modPanel p f).panel q).live = (s.panel q).live := by
    rw [modPanel_panel]
    split
    · rename_i e; rw [hf, e]
    · rfl
  exact (served_congr (s := s) live rfl).trans (hs q)

/-- The end of a move leaves the cleats, serves no order and asks for work that releases no dependent. -/
theorem finishMove_facts (hs : s.noneServed) (hm : (s.panel p).move = some m) : (s.finishMove p).st.noneServed ∧
    (∀ x ∈ (s.finishMove p).jobs, x.plain) ∧ ((s.finishMove p).st.panel p).cleats = (s.panel p).cleats ∧
    ((s.finishMove p).st.panel p).move = none ∧ (s.finishMove p).st.lasting = s.lasting := by
  have e : s.finishMove p = ((s.clearMove p).jogOver p m).add [.moveEnd p] := by
    unfold State.finishMove
    rw [hm]
    rfl
  have cleared : s.clearMove p = s.modPanel p fun x => x.moveless m := by rw [clearMove_eq, hm]
  obtain ⟨run, -, -, cleats, move⟩ := jogOver_kept (L := Leave.all) (s.clearMove p) p m
  have here : (s.clearMove p).panel p = (s.panel p).moveless m := by rw [cleared, modPanel_panel, if_pos rfl]
  have served : (s.clearMove p).noneServed := fun q => (calms_clearMove.served q).trans (hs q)
  rw [e]
  refine ⟨?_, fun x hx => ?_, cleats.trans (by rw [here]; rfl), move (by rw [here]; rfl),
    (Changes.lasting run).trans (lasting_clearMove s p)⟩
  · obtain e | e := jogOver_eq (s.clearMove p) p m
    · rw [Res.add_st, e]; exact served
    · rw [Res.add_st, e]; exact fun q => (endJogOn_served _ p q).trans (served q)
  · obtain hx | hx := List.mem_append.1 hx
    · exact jogOver_plain _ p m x hx
    · rw [List.mem_singleton.1 hx]; trivial

/-- What BYPASS_CLEAT leaves before the work that follows: no served order, plain work, the cleat BYPASSED and in no move. -/
theorem bypass_facts (hs : s.noneServed) (p : PanelNo) (k : CleatNo) :
    (s.bypass p k).st.noneServed ∧ (∀ x ∈ (s.bypass p k).jobs, x.plain) ∧
    (∀ l : CleatNo, ((s.bypass p k).st.panel p).cleats[l] =
      if l = k then { (s.panel p).cleats[k] with state := .bypassed } else (s.panel p).cleats[l]) ∧
    (s.bypass p k).st.lasting = s.lasting ∧
    ∀ m, ((s.bypass p k).st.panel p).move = some m → k ∉ m.participants ∧ k ∉ m.confirmed := by
  have last : (s.modCleat p k fun c => { c with state := .bypassed }).lasting = s.lasting := lasting_modCleat fun _ => rfl
  cases hm : (s.panel p).move with
  | none =>
    rw [bypass_none hm]
    refine ⟨noneServed_modPanel hs fun _ => rfl, fun x hx => by rw [List.mem_singleton.1 hx]; trivial, fun l => modCleat_cleats s p k l _, last, ?_⟩
    intro m h
    unfold State.modCleat at h
    rw [modPanel_panel, if_pos rfl] at h
    exact absurd (hm.symm.trans h) (by simp)
  | some m =>
    have record : (s.outOfMove p k m).panel p =
        { (s.modCleat p k fun c => { c with state := .bypassed }).panel p with move := some (m.without k) } := by
      unfold State.outOfMove
      rw [modPanel_panel, if_pos rfl]
    have cleats (l : CleatNo) : ((s.outOfMove p k m).panel p).cleats[l] =
        if l = k then { (s.panel p).cleats[k] with state := .bypassed } else (s.panel p).cleats[l] := by
      rw [record]
      exact modCleat_cleats s p k l _
    have last' : (s.outOfMove p k m).lasting = s.lasting := by
      refine Eq.trans (lasting_modPanel fun x => ?_) last
      rfl
    have served : (s.outOfMove p k m).noneServed :=
      noneServed_modPanel (noneServed_modPanel hs fun _ => rfl) fun _ => rfl
    have one {xs : List Job} {x y : Job} (hx : x ∈ xs ++ [y]) (h : ∀ x ∈ xs, x.plain) (hy : y.plain) : x.plain := by
      obtain hx | hx := List.mem_append.1 hx
      · exact h x hx
      · rw [List.mem_singleton.1 hx]; exact hy
    by_cases hc : (m.without k).allConfirmed = true
    · obtain ⟨h1, h2, h3, h4, h5⟩ := finishMove_facts (p := p) (m := m.without k) served (by rw [record])
      have e : s.bypass p k = ((s.outOfMove p k m).finishMove p).add [.jogTest] := by rw [bypass_some hm, if_pos hc]
      rw [e]
      refine ⟨h1, fun x hx => one hx h2 trivial, fun l => ?_, h5.trans last', fun m h => ?_⟩
      · exact (congrArg (fun v : Vector Cleat 12 => v[l]) h3).trans (cleats l)
      · rw [Res.add_st, h4] at h; cases h
    · have e : s.bypass p k = (Res.ok (s.outOfMove p k m)).add [.jogTest] := by rw [bypass_some hm, if_neg hc]
      rw [e]
      refine ⟨served, fun x hx => one hx (fun _ h => by cases h) trivial, cleats, last', fun x h => ?_⟩
      obtain rfl : m.without k = x := Option.some.inj ((congrArg Panel.move record).symm.trans h)
      simp [Move.without]

theorem Cleat.restored_state (c : Cleat) : c.restored.state =
    if c.state = .bypassed then (if c.made then .engaged else .released) else c.state := by
  unfold Cleat.restored cleatStateOf
  by_cases h : c.state = .bypassed
  · rw [if_pos h, if_pos h]
  · rw [if_neg h, if_neg h]

/-- Settles O48: the count is set at once; a cleat is BYPASSED, or takes the state of its switch, and the work that follows
leaves the cleats and the participants of a move as they are. -/
theorem serviceSetsTheRecords : Obligations.ServiceSetsTheRecords := by
  intro s n tag panel p h hu hn hs ha hc
  refine ⟨fun c h1 h2 hi => ?_, fun b k hb hk => ?_⟩
  · refine request_accept h (owner := ownerPresetPosition n panel c) ?_ tag
    refine (onService_of (s := s.taken n) (p := p) hu ha ?_ hc hn).trans ?_
    · simp only [countOk, Bool.and_eq_true, decide_eq_true_eq]
      exact ⟨h1, h2⟩
    · rw [if_neg]
      · rfl
      · have idle : (s.taken n).idlePanel p = true := beq_iff_eq.2 hi
        simp [idle]
  · obtain ⟨hok, hname⟩ := cleatOk_of (s := s) (p := p) hb hk
    constructor
    · have owner : ownerBypassCleat n panel b (s.taken n) = accept ((s.taken n).bypass p k).settle :=
        (onService_of (s := s.taken n) (p := p) hu ha hok hc hn).trans (by rw [hname])
      have hx : exec (.bypassCleat n tag panel b) s = _ := request_accept h owner tag
      obtain ⟨served, plain, cleats, last, move⟩ := bypass_facts (s := s.taken n) hs p k
      have stay := settle_cleatsStay served plain p
      have records := (changes_settle ((s.taken n).bypass p k)).lasting.trans last
      generalize ((s.taken n).bypass p k).settle = w at *
      have kept (l : CleatNo) := (congrArg (fun v : Vector Cleat 12 => v[l]) stay.1).trans (cleats l)
      refine ⟨_, hx, (kept k).trans (if_pos rfl), fun l hl => (kept l).trans (if_neg hl), records_of_taken records,
        fun m hm => ?_⟩
      obtain ⟨m', h', hp, hq⟩ := stay.2 m hm
      rw [hp, hq]
      exact move m' h'
    · have owner : ownerRestoreCleat n panel b (s.taken n) =
          accept ((Res.ok ((s.taken n).modCleat p k Cleat.restored)).now [.jogTest]).settle :=
        (onService_of (s := s.taken n) (p := p) hu ha hok hc hn).trans (by rw [hname])
      have hx : exec (.restoreCleat n tag panel b) s = _ := request_accept h owner tag
      have cleats (l : CleatNo) := modCleat_cleats (s.taken n) p k l Cleat.restored
      have last : ((s.taken n).modCleat p k Cleat.restored).lasting = (s.taken n).lasting :=
        lasting_modCleat fun c => by unfold Cleat.restored; split <;> rfl
      have stay := now_settle_cleatsStay (s := (s.taken n).modCleat p k Cleat.restored) (x := .jogTest)
        (noneServed_modPanel hs fun _ => rfl) trivial p
      have records := ((changes_settle ((Res.ok ((s.taken n).modCleat p k Cleat.restored)).now [.jogTest])).lasting.trans
        (Res.lasting_now ..)).trans last
      generalize ((Res.ok ((s.taken n).modCleat p k Cleat.restored)).now [.jogTest]).settle = w at *
      have kept (l : CleatNo) := (congrArg (fun v : Vector Cleat 12 => v[l]) stay.1).trans (cleats l)
      refine ⟨_, hx, ?_, fun l hl => (kept l).trans (if_neg hl), records_of_taken records⟩
      exact (congrArg Cleat.state ((kept k).trans (if_pos rfl))).trans (Cleat.restored_state _)

end Sys2Proof.Machine
end

section
/-! The attitude and the wind (R88 to R93, R98, R104). -/

namespace Sys2Proof.Machine

variable {s t u : State} {p q : PanelNo} {n : StationNo}

/-! ### FAST of every panel -/

/-- The fast permission of the panel's record `x` (R98). -/
def State.mayFast (s : State) (p : PanelNo) (x : Panel) : Bool :=
  x.certain && !s.fastBar && !s.noListSource && s.cards[cardOf p] == .normal && !x.chopMark

/-- The panel's record with FAST off. -/
def Panel.slowed (x : Panel) : Panel :=
  { x with coils := { x.coils with fast := false }, activity := x.activity.slowed
           plan := x.plan.map fun pl => { pl with fast := false } }

/-- The plan of the panel is fast. -/
def Panel.isFast (x : Panel) : Bool := x.plan.any fun pl => pl.fast

/-- The panel's record with its plan's FAST looked at again. -/
def Panel.fastChecked (x : Panel) (may : Bool) : Panel := if x.isFast && !may then x.slowed else x

theorem checkFast_eq (s : State) (p : PanelNo) : s.checkFast p = s.modPanel p fun x => x.fastChecked (s.mayFast p x) := by
  have may : s.fastPermitted p = s.mayFast p (s.panel p) := rfl
  unfold State.checkFast
  cases h : (s.panel p).plan with
  | none => exact (modPanel_self (by simp [Panel.fastChecked, Panel.isFast, h])).symm
  | some pl =>
    dsimp only
    rw [may]
    split
    · rename_i hf
      exact modPanel_congr (by rw [Panel.fastChecked, if_pos (by simpa [Panel.isFast, h] using hf)]; rfl)
    · rename_i hf
      exact (modPanel_self (by rw [Panel.fastChecked, if_neg (by simpa [Panel.isFast, h] using hf)])).symm

/-- FAST of each panel is looked at under the unit's own state. -/
theorem fold_checkFast : ∀ (ps : List PanelNo) (u : State), (∀ p x, u.mayFast p x = s.mayFast p x) →
    ps.foldl (fun u p => u.checkFast p) u = ps.foldl (fun u p => u.modPanel p fun x => x.fastChecked (s.mayFast p x)) u
  | [], _, _ => rfl
  | p :: ps, u, h => by
    rw [List.foldl_cons, List.foldl_cons, checkFast_eq]
    have same : (fun x : Panel => x.fastChecked (u.mayFast p x)) = fun x => x.fastChecked (s.mayFast p x) :=
      funext fun x => by rw [h]
    rw [same]
    exact fold_checkFast ps _ h

theorem forPanels_checkFast (s : State) : (s.forPanels fun p v => v.checkFast p) =
      { s with panels := (s.forPanels fun p v => v.checkFast p).panels } ∧
    ∀ q, (s.forPanels fun p v => v.checkFast p).panel q = (s.panel q).fastChecked (s.mayFast q (s.panel q)) := by
  have e : (s.forPanels fun p v => v.checkFast p) = s.forPanels fun p v => v.modPanel p fun x => x.fastChecked (s.mayFast p x) :=
    fold_checkFast allPanels s fun _ _ => rfl
  rw [e]
  exact forPanels_modPanel (fun p x => x.fastChecked (s.mayFast p x)) s

/-! ### LIST_HIGH -/

theorem deriveListHigh_eq (s : State) : s.deriveListHigh =
    { s with listHigh := s.highList, latches := s.deriveListHigh.latches } := latchIf_eq ..

theorem deriveListHigh_lasting (s : State) : s.deriveListHigh.lasting = { s with listHigh := s.highList }.lasting :=
  lasting_latchIf ..

theorem deriveListHigh_panel (s : State) (q : PanelNo) : s.deriveListHigh.panel q = s.panel q :=
  (congrArg (State.panel · q) (deriveListHigh_eq s) :)

theorem deriveListHigh_mayFast (s : State) (q : PanelNo) (x : Panel) : s.deriveListHigh.mayFast q x = s.mayFast q x :=
  (congrArg (State.mayFast · q x) (deriveListHigh_eq s) :)

theorem highList_iff : s.highList = true ↔ s.layout.listSource ≠ 1 ∧
    ((s.params.tuning.listWarning : Int) < |s.list| ∨ (s.params.tuning.trimLimit : Int) < |s.trim|) := by
  unfold State.highList State.noListSource
  simp only [Bool.and_eq_true, Bool.not_eq_true', Bool.or_eq_true, decide_eq_true_eq, beq_eq_false_iff_ne, gt_iff_lt]
  rw [Int.abs_eq_natAbs, Int.abs_eq_natAbs, Int.ofNat_lt, Int.ofNat_lt]

theorem deriveListHigh_latched (hh : s.highList = true) (hn : s.listHigh = false) (hu : s.inStart = false) :
    .warning ∈ s.deriveListHigh.latches :=
  mem_latchIf (s := { s with listHigh := s.highList }) (by simp [hh, hn]) fun h => by
    have : s.inStart = true := h.1
    rw [hu] at this
    cases this

/-! ### The report -/

theorem ownerListReport_of {l t : Half} (hk : s.stationKind n = some .inclinometer) : ownerListReport n l t s =
    accept (s.takeAttitude (signed l) (signed t))
      (limitAttitude (signed l) != signed l || limitAttitude (signed t) != signed t) := by
  unfold ownerListReport
  rw [if_neg (by simp [isKind_mem.2 ⟨_, List.mem_singleton.2 rfl, hk⟩])]

/-- The unit with a report taken, before the steps are tested. -/
def State.informed (s : State) (l m : Int) : State := (s.reported l m).deriveListHigh.forPanels fun p v => v.checkFast p

theorem takeAttitude_tested (s : State) (l m : Int) : s.takeAttitude l m =
    (Res.mk (s.informed l m) (allPanels.map Job.retest ++ [.jogTest])).settle := by
  rw [takeAttitude_eq, State.informed, retestAll]

theorem changes_takeAttitude (s : State) (l m : Int) : Changes Leave.work (s.informed l m) (s.takeAttitude l m) := by
  rw [takeAttitude_tested]
  generalize s.informed l m = u
  exact changes_settle (Res.mk u _)

theorem informed_eq (s : State) (l m : Int) : s.informed l m =
    { s.reported l m with listHigh := (s.reported l m).highList, latches := (s.reported l m).deriveListHigh.latches
                          panels := (s.informed l m).panels } :=
  (forPanels_checkFast (s.reported l m).deriveListHigh).1.trans
    (congrArg (fun v : State => { v with panels := (s.informed l m).panels }) (deriveListHigh_eq (s.reported l m)))

theorem informed_panel (s : State) (l m : Int) (q : PanelNo) : (s.informed l m).panel q =
    (s.panel q).fastChecked ((s.reported l m).mayFast q (s.panel q)) :=
  ((forPanels_checkFast (s.reported l m).deriveListHigh).2 q).trans (by rw [deriveListHigh_panel, deriveListHigh_mayFast]; rfl)

/-- A list beyond the warning level takes FAST from every plan. -/
theorem informed_slow {l m : Int} {pl : Plan} (hl : s.layout.listSource ≠ 1)
    (hb : (s.params.tuning.listWarning : Int) < |limitAttitude l|) (hp : (s.panel p).plan = some pl) (hf : pl.fast = true) :
    ((s.informed l m).panel p).plan = some { pl with fast := false } ∧
    ((s.informed l m).panel p).coils = { (s.panel p).coils with fast := false } := by
  have bar : (s.reported l m).fastBar = true := by
    rw [Int.abs_eq_natAbs, Int.ofNat_lt] at hb
    simp only [State.fastBar, State.noListSource, Bool.and_eq_true, Bool.not_eq_true', beq_eq_false_iff_ne, decide_eq_true_eq]
    exact ⟨hl, hb⟩
  have may : (s.reported l m).mayFast p (s.panel p) = false := by simp [State.mayFast, bar]
  rw [informed_panel, may, Panel.fastChecked, if_pos (by simp [Panel.isFast, hp, hf])]
  exact ⟨by simp [Panel.slowed, hp], rfl⟩

/-- What lasts of the unit once a report has been taken (R88, R90). -/
theorem informed_lasting (s : State) (l m : Int) :
    (s.informed l m).lasting = { s.reported l m with listHigh := (s.reported l m).highList }.lasting := by
  have checked : (s.informed l m).lasting = (s.reported l m).deriveListHigh.lasting := by
    unfold State.informed State.forPanels
    exact lasting_foldl (f := fun s p => s.checkFast p) (fun s p => checkFast_lasting s p) allPanels _
  exact checked.trans (deriveListHigh_lasting _)

/-- What a report leaves, once the work that follows it is done. -/
theorem reported_facts {w : State} {l m : Int} (run : w.lasting = (s.informed l m).lasting) : w.list = limitAttitude l ∧
    w.trim = limitAttitude m ∧ w.fresh = true ∧
    w.staleTimer = (if s.noListSource then none else some (s.now + stalenessPeriod)) ∧
    w.listHigh = (s.reported l m).highList ∧ w.params = s.params ∧ w.txQueue = s.txQueue := by
  have last := run.trans (informed_lasting s l m)
  exact ⟨(congrArg State.list last :), (congrArg State.trim last :), (congrArg State.fresh last :),
    (congrArg State.staleTimer last :), (congrArg State.listHigh last :), (congrArg State.params last :),
    (congrArg State.txQueue last :)⟩

theorem reported_records {w : State} {l m : Int} (run : w.lasting = (s.informed l m).lasting) : w.records = { s.records with
    list := w.list, trim := w.trim, fresh := true, staleTimer := w.staleTimer, listHigh := w.listHigh } := by
  obtain ⟨h1, h2, h3, h4, h5, -⟩ := reported_facts run
  rw [h1, h2, h4, h5, records_of_lasting (run.trans (informed_lasting s l m))]
  rfl

theorem txQueue_replied (s : State) (n : StationNo) (tag : Byte) (c : ReplyCode) (bs : List Byte) :
    (s.replied n tag c bs).txQueue = s.txQueue ++ [replyTo n tag c bs] := rfl

theorem limited_byte (a b c d : Int) : byteOf (bit (a != b || c != d) 1) = if a ≠ b ∨ c ≠ d then 1 else 0 := by
  by_cases h : a ≠ b ∨ c ≠ d
  · rw [if_pos h, show (a != b || c != d) = true by simpa using h]; rfl
  · rw [if_neg h, show (a != b || c != d) = false by simpa using h]; rfl

/-- The unit with the attitude STALE, before the steps are tested (R89). -/
def State.stale (s : State) (d : Nat) : State :=
  { s.reach d with fresh := false, staleTimer := none }.deriveListHigh.latchIf
    ({ s.reach d with fresh := false, staleTimer := none }.listStale && !s.listStale) .warning

/-- The unit with a level of the WIND line taken, before the steps are tested (R104). -/
def State.blown (s : State) (b : Bool) : State := { s with windLine := b, windSet := b }.latchIf (b && !s.windSet) .warning

/-- The steps of all panels tested again, then some more, and what follows. -/
def State.testSteps (s : State) (js : List Job) : State := (Res.mk s (allPanels.map Job.retest ++ js)).settle

theorem changes_testSteps (s : State) (js : List Job) : Changes Leave.work s (s.testSteps js) := changes_settle (Res.mk s _)

theorem stale_eq (s : State) (d : Nat) : s.stale d = { s with
    now := max s.now d, fresh := false, staleTimer := none, listHigh := s.highList, latches := (s.stale d).latches } := by
  unfold State.stale
  rw [latchIf_eq, deriveListHigh_eq]
  rfl

theorem blown_eq (s : State) (b : Bool) : s.blown b = { s with windSet := b, windLine := b, latches := (s.blown b).latches } :=
  latchIf_eq ..

theorem not_starting {e : EventLatch} (hu : s.inStart = false) : ¬ (s.inStart = true ∧ 4 ≤ e.code) := fun h => by
  rw [hu] at h
  cases h.1

theorem stale_latched (d : Nat) (hu : s.inStart = false)
    (h : s.listHigh = false ∧ s.highList = true ∨ s.fresh = true ∧ s.layout.listSource ≠ 1) :
    .warning ∈ (s.stale d).latches := by
  obtain ⟨hn, hh⟩ | ⟨hf, hl⟩ := h
  · have derived := deriveListHigh_latched (s := { s.reach d with fresh := false, staleTimer := none }) hh hn hu
    unfold State.stale State.latchIf
    split
    · exact (setLatch_mem _ _ _).2 (.inl derived)
    · exact derived
  · have start : ({ s.reach d with fresh := false, staleTimer := none } : State).deriveListHigh.inStart = false :=
      (lasting_inStart (deriveListHigh_lasting _)).trans hu
    exact mem_latchIf (by simp [State.listStale, State.noListSource, hf]; exact hl) (not_starting start)

theorem exec_staleness {d : Nat} (hd : s.staleTimer = some d) :
    exec .listStalenessExpiry s = .next ((s.stale d).testSteps []) := by
  change execListStalenessExpiry s = _
  unfold execListStalenessExpiry State.testSteps
  rw [hd, List.append_nil]
  rfl

theorem exec_wind {b : Bool} {held : Nat} (hh : 2000 ≤ held) (hb : s.windSet ≠ b) :
    exec (.windChange b held) s = .next ((s.blown b).testSteps [.jogTest]) := by
  change execWindChange b held s = _
  unfold execWindChange
  rw [if_neg]
  · rfl
  · simp only [windStable, Bool.or_eq_true, Bool.and_eq_true, beq_iff_eq, not_or, not_and]
    exact ⟨fun h => absurd (of_decide_eq_true h) (by omega), fun _ => hb⟩

/-- Settles O33: what a report, its expiry or the WIND line sets lasts through the tests of the steps that follow. -/
theorem attitudeAndWindAreTaken : Obligations.AttitudeAndWindAreTaken := by
  intro s tun tested high
  refine ⟨fun n tag l t h hk => ?_, fun d hd => ?_, fun b held hheld hb => ?_, fun b held hheld => ?_⟩
  · have owner := ownerListReport_of (s := s.taken n) (n := n) (l := l) (t := t) hk
    have hx : exec (.listReport n tag l t) s = _ := request_eq_replied h owner
    have same := takeAttitude_tested (s.taken n) (signed l) (signed t)
    have panel := informed_panel (s.taken n) (signed l) (signed t)
    have run := changes_takeAttitude (s.taken n) (signed l) (signed t)
    have warns : ((s.taken n).reported (signed l) (signed t)).highList = true → s.listHigh = false →
        .warning ∈ ((s.taken n).informed (signed l) (signed t)).latches := fun hh hn => by
      rw [informed_eq]
      exact deriveListHigh_latched (s := (s.taken n).reported (signed l) (signed t)) hh hn h.2.2.1
    generalize (s.taken n).takeAttitude (signed l) (signed t) = u at *
    obtain ⟨h1, h2, h3, h4, h5, h6, h7⟩ := reported_facts (s := s.taken n) run.lasting
    have records := reported_records (s := s.taken n) run.lasting
    have byte := limited_byte (limitAttitude (signed l)) (signed l) (limitAttitude (signed t)) (signed t)
    rw [← h1, ← h2] at hx byte
    rw [byte] at hx
    refine ⟨_, hx, h1, h2, h3, ?_, ?_, fun hn hh => run.latches (warns (h5.symm.trans hh) hn), ?_, ?_, ?_⟩
    · refine h4.trans ?_
      simp only [State.noListSource, beq_iff_eq]
      rfl
    · refine (Iff.of_eq (congrArg (· = true) h5)).trans ?_
      rw [highList_iff]
      refine iff_of_eq ?_
      rw [show (u.replied n tag .accepted _).list = _ from h1, show (u.replied n tag .accepted _).trim = _ from h2]
      rfl
    · refine (records_replied ..).trans (records.trans ?_)
      rw [records_taken]
      rfl
    · exact (txQueue_replied ..).trans (by rw [h7]; rfl)
    · intro v w
      have hv : v = (s.taken n).reported (signed l) (signed t) := by
        change { s.taken n with list := u.list, trim := u.trim, fresh := true, staleTimer := u.staleTimer } = _
        rw [h1, h2, h4]
        rfl
      have hw : w = (s.taken n).informed (signed l) (signed t) := by
        unfold State.informed
        rw [← hv]
      rw [hw]
      refine ⟨congrArg (State.replied · n tag .accepted _) same, fun hl hb p pl hp hf => ?_⟩
      exact informed_slow (s := s.taken n) hl (h1 ▸ hb) hp hf
  · have hx := exec_staleness hd
    have run := changes_testSteps (s.stale d) []
    have eq := stale_eq s d
    have same : (s.stale d).testSteps [] = tested (s.stale d) [] := rfl
    have latched := stale_latched (s := s) d
    generalize (s.stale d).testSteps [] = u at *
    generalize s.stale d = v at *
    have last := run.lasting
    have listHigh : u.listHigh = s.highList := (congrArg State.listHigh last : u.lasting.listHigh = v.lasting.listHigh).trans
        (by rw [eq]; rfl)
    have lists : u.list = s.list ∧ u.trim = s.trim :=
      ⟨(lasting_list last).trans (by rw [eq]), (lasting_trim last).trans (by rw [eq])⟩
    refine ⟨u, hx, (congrArg State.fresh last : u.lasting.fresh = v.lasting.fresh).trans (by rw [eq]; rfl),
      (congrArg State.staleTimer last : u.lasting.staleTimer = v.lasting.staleTimer).trans (by rw [eq]; rfl), lists.1, lists.2, ?_,
      fun hu hn hh => run.latches (latched hu (.inl ⟨hn, listHigh ▸ hh⟩)),
      fun hu hf hl => run.latches (latched hu (.inr ⟨hf, hl⟩)), v.latches, ?_⟩
    · rw [listHigh]; exact highList_iff
    · rw [listHigh, ← eq]; exact same
  · have hx := exec_wind hheld hb
    have run := changes_testSteps (s.blown b) [.jogTest]
    have eq := blown_eq s b
    have same : (s.blown b).testSteps [.jogTest] = tested (s.blown b) [.jogTest] := rfl
    have latched (hu : s.inStart = false) (hb' : b = true) : .warning ∈ (s.blown b).latches :=
      mem_latchIf (by subst hb'; simpa using hb) (not_starting hu)
    generalize (s.blown b).testSteps [.jogTest] = u at *
    generalize s.blown b = v at *
    have last := run.lasting
    refine ⟨u, hx, (congrArg State.windSet last : u.lasting.windSet = v.lasting.windSet).trans (by rw [eq]; rfl),
      (congrArg State.windLine last : u.lasting.windLine = v.lasting.windLine).trans (by rw [eq]; rfl),
      fun hu hb' => run.latches (latched hu hb'), ?_, v.latches, ?_⟩
    · rw [records_of_lasting last, eq]; rfl
    · rw [← eq]; exact same
  · change execWindChange b held s = _
    unfold execWindChange
    rw [if_pos (by simp only [windStable, Bool.or_eq_true]; exact .inl (decide_eq_true hheld))]

end Sys2Proof.Machine
end

section
/-! The driver cards' temperatures (R97, R98, R162, R163). -/

namespace Sys2Proof.Machine

variable {K : Known} {s t u : State} {p q : PanelNo} {k : CardNo} {r : Option Int}

theorem Leave.le_all {L : Leave} : L.Le Leave.all :=
  ⟨fun _ _ => trivial, fun _ _ _ => trivial, fun _ _ _ => trivial, fun _ => trivial⟩

/-! ### A whole command keeps the panels with faults standing -/

theorem Acts.faultedStand (h : Acts K s t) (hK : K.sound) (hl : s.Linked) (hs : s.faultedStand) : t.faultedStand := by
  suffices t.Linked ∧ t.faultedStand from this.2
  induction h with
  | refl => exact ⟨hl, hs⟩
  | tail _ h ih => exact ⟨h.linked hK ih.1, h.faultedStand hK ih.1 ih.2⟩

/-- What is known of a command on a linked state. -/
def Known.linked (c : Instr) (s : State) : Known := ⟨c, True, False, False, s.slot, s.created⟩

theorem fits_linked (c : Instr) (hs : s.Linked) : s.Fits (.linked c s) where
  linked := fun _ => hs
  watched := False.elim
  enabled := False.elim
  holds := fun _ => ⟨le_rfl, fun _ _ h _ => .inl h⟩
  table := fun _ _ hq ⟨_, hq', hl⟩ => Option.some.inj (hq.symm.trans hq') ▸ hl

theorem exec_faultedStand {c : Instr} (hl : s.Linked) (hs : s.faultedStand) (h : exec c s = .next t) : t.faultedStand :=
  (exec_acts (K := .linked c s) (fits_linked c hl) h).faultedStand trivial hl hs

/-! ### The card's state -/

/-- The unit with a card's reading stored. -/
def State.carded (s : State) (k : CardNo) (r : Option Int) : State :=
  { s with cards := s.cards.set k (s.cards[k].next r), cardTemp := s.cardTemp.set k r }

/-- The unit with the card's panels warned, where it has left NORMAL. -/
def State.cardWarned (s : State) (k : CardNo) (r : Option Int) : State :=
  if s.cards[k] = .normal ∧ s.cards[k].next r ≠ .normal then (s.cardPanels k).foldl (fun s p => s.warn p .cardHot) (s.carded k r)
  else s.carded k r

/-- The unit with FAST of the card's panels looked at again. -/
def State.cardSlowed (s : State) (k : CardNo) (r : Option Int) : State :=
  (s.cardPanels k).foldl (fun s p => s.checkFast p) (s.cardWarned k r)

/-- The panels that CARD_OVERTEMP is raised on. -/
def State.overheated (s : State) (k : CardNo) : List PanelNo :=
  if s.params.tuning.otsdMode = 0 then s.cardPanels k else allPanels.filter s.configured

theorem takeCard_eq (s : State) (k : CardNo) (r : Option Int) : s.takeCard k r =
    if s.cards[k] ≠ .overtemp ∧ s.cards[k].next r = .overtemp then (s.cardSlowed k r).raiseAll (s.overheated k) .cardOvertemp
    else .ok (s.cardSlowed k r) := rfl

theorem mem_cardPanels : p ∈ s.cardPanels k ↔ s.configured p = true ∧ cardOf p = k := by
  simp [State.cardPanels, mem_allPanels]

theorem mem_overheated : p ∈ s.overheated k ↔ s.configured p = true ∧ (cardOf p = k ∨ s.params.tuning.otsdMode ≠ 0) := by
  unfold State.overheated
  split
  · rename_i h; rw [mem_cardPanels]; simp [h]
  · rename_i h; simp [mem_allPanels, h]

/-! ### The warnings -/

theorem changes_warnAll (w : PanelWarning) : ∀ (ps : List PanelNo) (s : State),
    Changes Leave.all s (ps.foldl (fun s p => s.warn p w) s)
  | [], _ => .refl
  | p :: ps, _ => (changes_warn (p := p) w).trans (changes_warnAll w ps _)

theorem warnAll_mem (w : PanelWarning) : ∀ (ps : List PanelNo) (s : State), p ∈ ps →
    w ∈ ((ps.foldl (fun s p => s.warn p w) s).panel p).warnings
  | [], _, hp => absurd hp List.not_mem_nil
  | q :: ps, s, hp => by
    obtain rfl | hp := List.mem_cons.1 hp
    · exact ((changes_warnAll w ps _).panel p).warnings _ (warn_mem s p w)
    · exact warnAll_mem w ps _ hp

/-- A warning changes nothing of a panel but its warnings. -/
theorem warn_panel (s : State) (p q : PanelNo) (w : PanelWarning) :
    ∃ ws, (s.warn p w).panel q = { s.panel q with warnings := ws } := by
  unfold State.warn
  rw [setLatch_panel, modPanel_panel]
  split
  · rename_i e; subst e; exact ⟨_, rfl⟩
  · exact ⟨_, rfl⟩

theorem warnAll_panel (w : PanelWarning) (q : PanelNo) : ∀ (ps : List PanelNo) (s : State), ∃ ws,
    (ps.foldl (fun s p => s.warn p w) s).panel q = { s.panel q with warnings := ws }
  | [], s => ⟨_, rfl⟩
  | p :: ps, s => by
    obtain ⟨ws, e⟩ := warnAll_panel w q ps (s.warn p w)
    obtain ⟨vs, one⟩ := warn_panel s p q w
    exact ⟨ws, e.trans (by rw [one])⟩

theorem cardWarned_mem (h : s.cards[k] = .normal) (hd : s.cards[k].next r ≠ .normal) (hp : p ∈ s.cardPanels k) :
    .cardHot ∈ ((s.cardWarned k r).panel p).warnings := by
  unfold State.cardWarned
  rw [if_pos ⟨h, hd⟩]
  exact warnAll_mem _ _ _ hp

theorem cardWarned_panel (s : State) (k : CardNo) (r : Option Int) (q : PanelNo) : ∃ ws,
    (s.cardWarned k r).panel q = { s.panel q with warnings := ws } := by
  unfold State.cardWarned
  split
  · exact warnAll_panel _ q _ _
  · exact ⟨_, rfl⟩

theorem cardWarned_lasting (s : State) (k : CardNo) (r : Option Int) :
    (s.cardWarned k r).lasting = (s.carded k r).lasting := by
  unfold State.cardWarned
  split
  · exact lasting_foldl (fun s p => lasting_warn s p .cardHot) _ _
  · rfl

/-! ### FAST -/

theorem changes_cardSlowed (s : State) (k : CardNo) (r : Option Int) :
    Changes Leave.all (s.cardWarned k r) (s.cardSlowed k r) := by
  unfold State.cardSlowed
  generalize s.cardWarned k r = u
  generalize s.cardPanels k = ps
  induction ps generalizing u with
  | nil => exact .refl
  | cons p ps ih => exact changes_checkFast.trans (ih _)

theorem cardSlowed_lasting (s : State) (k : CardNo) (r : Option Int) : (s.cardSlowed k r).lasting = (s.carded k r).lasting :=
  (changes_cardSlowed s k r).lasting.trans (cardWarned_lasting s k r)

/-- A fast travel on a card that is not NORMAL goes on slowly (R97, R98). -/
theorem cardSlowed_panel {pl : Plan} (hd : s.cards[k].next r ≠ .normal) (hp : p ∈ s.cardPanels k)
    (hpl : (s.panel p).plan = some pl) (hf : pl.fast = true) : ∃ ws,
    (s.cardSlowed k r).panel p = { (s.panel p).slowed with warnings := ws } := by
  obtain ⟨ws, record⟩ := cardWarned_panel s k r p
  have card : (s.cardWarned k r).cards = s.cards.set k (s.cards[k].next r) :=
    (congrArg State.cards (cardWarned_lasting s k r) :)
  have may : (s.cardWarned k r).mayFast p ((s.cardWarned k r).panel p) = false := by
    obtain ⟨-, rfl⟩ := mem_cardPanels.1 hp
    have hot : ((s.cardWarned (cardOf p) r).cards[cardOf p] == .normal) = false := by simpa [card] using hd
    unfold State.mayFast
    rw [hot]
    simp
  have fast : ((s.cardWarned k r).panel p).isFast = true := by rw [record]; simp [Panel.isFast, hpl, hf]
  unfold State.cardSlowed
  rw [fold_checkFast (s := s.cardWarned k r) _ _ fun _ _ => rfl,
    (fold_modPanel (fun p x => x.fastChecked ((s.cardWarned k r).mayFast p x)) (s.cardPanels k) _
      (allPanels_nodup.filter _)).2 p, if_pos hp, may, Panel.fastChecked, if_pos (by simp [fast]), record]
  exact ⟨ws, rfl⟩

/-! ### The whole reading -/

theorem changes_takeCard (s : State) (k : CardNo) (r : Option Int) :
    Changes Leave.all (s.cardSlowed k r) (s.takeCard k r).st := by
  rw [takeCard_eq]
  split
  · exact changes_raiseAll trivial (fun _ => trivial) _ _
  · exact .refl

/-- Settles O37: the reading, its warnings and FAST come first; CARD_OVERTEMP is raised last, and only by a card that enters
OVERTEMP. -/
theorem cardStatesFollowTheTemperature : Obligations.CardStatesFollowTheTemperature := by
  intro s k r d
  have hd : d = s.cards[k].next r := cardAfter_eq
  clear_value d
  subst hd
  have hx : exec (.cardTemperatureChange k r) s = .next (s.takeCard k r).settle := rfl
  have run : Changes Leave.all (s.cardSlowed k r) (s.takeCard k r).settle :=
    (changes_takeCard s k r).trans (Changes.mono Leave.le_all (changes_settle _))
  have last := run.lasting.trans (cardSlowed_lasting s k r)
  have cards : (s.takeCard k r).settle.cards = s.cards.set k (s.cards[k].next r) := (congrArg State.cards last :)
  have below (h : ¬ (s.cards[k] ≠ .overtemp ∧ s.cards[k].next r = .overtemp)) : (s.takeCard k r).settle = s.cardSlowed k r := by
    rw [takeCard_eq, if_neg h, settle_ok]
  have above (h : s.cards[k] ≠ .overtemp) (hd : s.cards[k].next r = .overtemp) (p : PanelNo) (hp : p ∈ s.overheated k) :
      .cardOvertemp ∈ ((s.takeCard k r).settle.panel p).faults := by
    rw [takeCard_eq, if_pos ⟨h, hd⟩]
    have mem : .cardOvertemp ∈ (((s.cardSlowed k r).raiseAll (s.overheated k) .cardOvertemp).st.panel p).faults :=
      raiseAll_mem _ _ hp ((lasting_configured (cardSlowed_lasting s k r) p).trans (mem_overheated.1 hp).1)
    exact ((changes_settle _).panel p).faults _ mem
  have stand (hl : s.linked) (hf : s.faultedStand) := exec_faultedStand (linked_iff.1 hl) hf hx
  generalize (s.takeCard k r).settle = t at *
  refine ⟨t, hx, cards, fun h hd p hc hp => ?_, fun h hd p hc hp => ?_, fun hd hn p pl hc hp hpl hf => ?_,
    fun hl hf h hd p hc hp => ?_, ?_⟩
  · exact (run.panel p).warnings _ (((changes_cardSlowed s k r).panel p).warnings _
      (cardWarned_mem h hd (mem_cardPanels.2 ⟨hc, hp⟩)))
  · exact above h hd p (mem_overheated.2 ⟨hc, hp⟩)
  · rw [below fun h => hn.elim (fun e => by rw [e] at h; cases h.2) h.1]
    obtain ⟨ws, record⟩ := cardSlowed_panel hd (mem_cardPanels.2 ⟨hc, hp⟩) hpl hf
    rw [record]
    simp only [Panel.slowed, hpl, Option.map_some]
    congr 1
  · have mem := above h hd p (mem_overheated.2 ⟨hc, hp⟩)
    obtain ⟨coils, live, mode, -⟩ := (faultedStand_iff.1 (stand hl hf)).2 p fun e => by rw [e] at mem; cases mem
    exact ⟨coils, mode, live⟩
  · rw [records_of_lasting last]
    have temp : t.cardTemp = s.cardTemp.set k r := (congrArg State.cardTemp last :)
    rw [cards, temp]
    rfl

end Sys2Proof.Machine
end

section
/-! A change of a hatch's selector (R141, R142). -/

namespace Sys2Proof.Machine

variable {L : Leave} {s t u : State} {p q : PanelNo} {i j : SlotNo} {o : Order} {n : StationNo} {h : HatchNo} {c : PauseReason}

/-! ### An order paused by the command, in the work that follows -/

/-- The order `q` is the order `o` PAUSED, or cancelled with the predecessor it waited on. -/
structure Order.StaysPaused (c : PauseReason) (o q : Order) : Prop where
  state : q.state = .paused c ∨ o.waiting = true ∧ q.state = .cancelled .predecessor
  waits : q.waiting = true → o.waiting = true

theorem Changes.staysPaused (run : Changes L s t) (hL : ∀ p, ¬ L.orders p) (ho : s.slot i = some o) (hc : o.state = .paused c) :
    ∃ q, t.slot i = some q ∧ o.StaysPaused c q := by
  induction run with
  | refl => exact ⟨o, ho, .inl hc, id⟩
  | tail _ step ih =>
    obtain ⟨q, hq, stays⟩ := ih
    obtain same | ⟨q', hq', moves⟩ := step.slot hq
    · exact ⟨q, same, stays⟩
    · refine ⟨q', hq', ?_⟩
      have paused : q.state = .paused c := stays.state.resolve_right fun h => by
        have := moves.live
        rw [h.2] at this
        cases this
      rcases moves.how with hf | adv | ⟨hw, hst⟩
      · exact absurd hf (hL _)
      · have := adv.1
        rw [paused] at this
        cases this
      · refine ⟨?_, fun _ => stays.waits hw⟩
        rcases hst with e | e | e
        · exact .inl (e.trans paused)
        · exact .inr ⟨stays.waits hw, e⟩
        · rw [paused] at e; cases e

theorem settle_staysPaused (r : Res) (ho : r.st.slot i = some o) (hc : o.state = .paused c) :
    ∃ q, r.settle.slot i = some q ∧ o.StaysPaused c q := (changes_settle r).staysPaused (fun _ h => h) ho hc

/-! ### The pause of a selector change -/

/-- The order can be paused, and its issuer has no authority over the hatch. -/
def State.lacks (s : State) (h : HatchNo) (o : Order) : Bool := !s.authority o.issuer h && o.state.pausedFrom.isSome

theorem pauseIf_pausable (f : Order → Bool) (c : PauseReason) (p : PanelNo) (s : State) :
    s.pauseIf f c p = s.pauseIf (fun o => f o && o.state.pausedFrom.isSome) c p := by
  unfold State.pauseIf
  cases hl : s.liveOrder p with
  | none => rfl
  | some io =>
    obtain ⟨i, o⟩ := io
    dsimp only
    by_cases hp : o.state.pausedFrom.isSome = true
    · simp [hp]
    · have idle : s.pauseOrder i c = .ok s := by
        simp only [State.pauseOrder, (liveOrder_some hl).1, Option.not_isSome_iff_eq_none.1 hp]
      simp [idle]

theorem lasting_authority (e : t.lasting = s.lasting) (n : StationNo) (h : HatchNo) : t.authority n h = s.authority n h := by
  have selector : t.selector = s.selector := (congrArg State.selector e :)
  have due : t.selectorDue = s.selectorDue := (congrArg State.selectorDue e :)
  simp only [State.authority, State.hasSelector, State.hatchConfigured, lasting_layout e, selector, due, lasting_now e,
    lasting_stationKind e, lasting_pendantHatch e]

/-- The orders of the hatch whose issuers have lost authority are PAUSED. -/
theorem selectorPause_st (s : State) (h : HatchNo) : (s.selectorPause h).st =
    (Res.each [portOf h, starboardOf h] (fun p u => u.pauseIf (s.lacks h) .authority p) (.ok s)).st := by
  have first (u : State) (p : PanelNo) (hu : u.lasting = s.lasting) :
      u.pauseIf (fun o => !u.authority o.issuer h) .authority p = u.pauseIf (s.lacks h) .authority p := by
    rw [pauseIf_pausable]
    refine congrArg (u.pauseIf · .authority p) (funext fun o => ?_)
    rw [lasting_authority hu]
    rfl
  have kept : (s.pauseIf (s.lacks h) .authority (portOf h)).st.lasting = s.lasting :=
    (changes_pauseIf (L := Leave.all) fun _ _ _ _ => trivial).lasting
  have both (f : PanelNo → State → Res) (a b : PanelNo) (u : State) : (Res.each [a, b] f (.ok u)).st = (f b (f a u).st).st := rfl
  unfold State.selectorPause
  rw [both, both]
  rw [first s _ rfl, first _ _ kept]

theorem selectorPause_slots (hs : s.Linked) (h : HatchNo) (j : SlotNo) : (s.selectorPause h).st.slot j =
    (s.slot j).map fun o => o.stoppedBy (s.lacks h) [portOf h, starboardOf h] .authority := by
  rw [selectorPause_st]
  refine each_pauseIf_slots (f := s.lacks h) (fun o ho => Option.isSome_iff_exists.1 ?_) _ _ _ _ hs
  simp only [State.lacks, Bool.and_eq_true] at ho
  exact ho.2

theorem lasting_selectorPause (s : State) (h : HatchNo) : (s.selectorPause h).st.lasting = s.lasting := by
  rw [selectorPause_st]
  exact (changes_eachPause (L := Leave.all) (fun _ => trivial) _ _ _).lasting

/-- A PAUSED order that waits was PENDING. -/
theorem pending_of_pausedFor (h : (o.pausedFor c (o.state.pausedFrom.getD .active)).waiting = true) : o.state = .pending := by
  simp only [Order.waiting, Order.pausedFor, Bool.or_eq_true, Bool.and_eq_true, beq_iff_eq, Option.some.injEq] at h
  obtain h | h := h
  · cases h
  · have h := h.2
    cases hst : o.state <;> simp_all [OrderState.pausedFrom]

/-- The unit with a level of the selector line taken. -/
def State.switched (s : State) (h : HatchNo) (b : Bool) : State := { s with selector := s.selector.set h b }

theorem exec_switches {b : Bool} {held : Nat} (hh : 200 ≤ held) (hc : s.hatchConfigured h = true → s.hasSelector h = true)
    (hb : s.selector[h] ≠ b) : exec (.selectorChange h b held) s =
    .next (if s.hatchConfigured h then (((s.switched h b).setLatch .selectorChange).selectorPause h).settle else s.switched h b) := by
  change execSelectorChange h b held s = _
  unfold execSelectorChange
  rw [if_neg (Nat.not_lt.2 hh : ¬ held < selectorStable), if_neg (by simpa using hc), if_neg (by simpa using hb)]
  rfl

/-- Settles O32: the level is taken, the orders whose issuers have lost authority are PAUSED, and stay so in the work that
follows, unless they waited on an order that fails there. -/
theorem selectorChangePausesTheHatch : Obligations.SelectorChangePausesTheHatch := by
  intro s h b held
  refine ⟨fun hh => ?_, fun hh hc hn => ?_, fun hh hc hb => ?_, fun hh hc hb hs => ?_⟩
  · change execSelectorChange h b held s = _
    unfold execSelectorChange
    rw [if_pos (show held < selectorStable from hh)]
  · change execSelectorChange h b held s = _
    unfold execSelectorChange
    rw [if_neg (Nat.not_lt.2 hh : ¬ held < selectorStable), if_pos (by simp [hc, hn])]
  · change execSelectorChange h b held s = _
    unfold execSelectorChange
    rw [if_neg (Nat.not_lt.2 hh : ¬ held < selectorStable), if_neg (by simpa using hc), if_pos (by simp [hb])]
  · have hx := exec_switches hh hc hb
    by_cases hconf : s.hatchConfigured h = true
    · have linked : ((s.switched h b).setLatch .selectorChange).Linked := by
        rw [setLatch_eq]
        exact (linked_iff.1 hs).of_same {} fun _ => .inl rfl
      have slots (j : SlotNo) := selectorPause_slots linked h j
      have last := lasting_selectorPause ((s.switched h b).setLatch .selectorChange) h
      have same (i : SlotNo) : ((s.switched h b).setLatch .selectorChange).slot i = s.slot i := setLatch_slot _ _ i
      have latched (hu : s.inStart = false) : .selectorChange ∈ ((s.switched h b).setLatch .selectorChange).latches :=
        (setLatch_mem _ _ _).2 (.inr ⟨rfl, not_starting (s := s.switched h b) hu⟩)
      have kept : Changes Leave.all ((s.switched h b).setLatch .selectorChange)
          (((s.switched h b).setLatch .selectorChange).selectorPause h).st := by
        rw [selectorPause_st]
        exact changes_eachPause (fun _ => trivial) _ _ _
      have start : ((s.switched h b).setLatch .selectorChange).selector = s.selector.set h b := by rw [setLatch_eq]; rfl
      generalize (s.switched h b).setLatch .selectorChange = u at *
      have run := changes_settle (u.selectorPause h)
      have whole := run.lasting.trans last
      have stays {i} {o} := settle_staysPaused (u.selectorPause h) (c := .authority) (i := i) (o := o)
      rw [if_pos hconf] at hx
      refine ⟨(u.selectorPause h).settle, hx, ?_, fun hu _ => run.latches (kept.latches (latched hu)),
        fun _ i o ho hp hst ha => ?_, fun e => by rw [hconf] at e; cases e⟩
      · exact (congrArg State.selector whole : (u.selectorPause h).settle.lasting.selector = u.lasting.selector).trans start
      · have lacks : u.lacks h o = true := by
          rw [lasting_authority whole] at ha
          have pausable : o.state.pausedFrom.isSome = true := by
            obtain hw | e := hst
            · obtain ⟨x, e⟩ := working_pausedFrom hw
              simp [e]
            · simp [e, OrderState.pausedFrom]
          simp [State.lacks, ha, pausable]
        have paused := slots i
        rw [same, ho, Option.map_some, Order.stoppedBy, if_pos ⟨mem_hatch_iff.2 hp, lacks⟩] at paused
        obtain ⟨q, hq, hs⟩ := stays paused rfl
        exact ⟨q, hq, hs.state.imp_right fun ⟨hw, e⟩ => ⟨pending_of_pausedFor hw, e⟩⟩
    · rw [if_neg hconf] at hx
      exact ⟨_, hx, rfl, fun _ h => absurd h hconf, fun h => absurd h hconf, fun _ => rfl⟩

end Sys2Proof.Machine
end

section
/-! What changes a zone after its claim (R111 to R116). -/

namespace Sys2Proof.Machine

variable {s t u : State} {n : StationNo} {h : HatchNo} {z y : ClaimNo} {c : Claim} {tag id : Byte}

/-! ### The zone table -/

theorem claim_of_lasting (e : t.lasting = s.lasting) (z : ClaimNo) : t.claim z = s.claim z := by
  have claims : t.claims = s.claims := (congrArg State.claims e :)
  simp only [State.claim, claims]

theorem claims_of_lasting (e : t.lasting = s.lasting) : t.claims = s.claims := (congrArg State.claims e :)

theorem lineLive_of_lasting (e : t.lasting = s.lasting) : t.lineLive = s.lineLive := (congrArg State.lineLive e :)

theorem reportZone_lasting (s : State) (h : HatchNo) : (s.reportZone h).lasting = s.lasting :=
  (changes_settle (Res.mk s (zoneReport h))).lasting

theorem changes_reportZone (s : State) (h : HatchNo) : Changes Leave.work s (s.reportZone h) :=
  changes_settle (Res.mk s (zoneReport h))

/-- What the zone table holds once a claim has been set and the hatch told of it. -/
theorem told_claims (s : State) (z : ClaimNo) (x : Option Claim) (h : HatchNo) :
    ((s.setClaim z x).reportZone h).claim z = x ∧ (∀ y, y ≠ z → ((s.setClaim z x).reportZone h).claim y = s.claim y) ∧
    ((s.setClaim z x).reportZone h).lineLive = s.lineLive := by
  have last := reportZone_lasting (s.setClaim z x) h
  refine ⟨?_, fun y hy => ?_, lineLive_of_lasting (s := s.setClaim z x) last⟩
  · rw [claim_of_lasting last, setClaim_claim, if_pos rfl]
  · rw [claim_of_lasting last, setClaim_claim, if_neg (Ne.symm hy)]

/-! ### The owner -/

/-- A configured station is an INCLINOMETER or may do as an owner does. -/
theorem mayAsOwner_iff (hk : (s.stationKind n).isSome = true) : s.mayAsOwner n c = true ↔
    c.owner = n ∧ s.stationKind n ≠ some .inclinometer := by
  obtain ⟨k, hk⟩ := Option.isSome_iff_exists.1 hk
  unfold State.mayAsOwner State.isKind
  rw [hk]
  cases k <;> simp

theorem onZone_of {may : Claim → Bool} {act : ClaimNo → Claim → Answer} (hz : zoneArg id = some (.claimed z))
    (hc : s.claim z = some c) : s.onZone id may act = if may c then act z c else refuse s .notAuthorised := by
  unfold State.onZone
  rw [hz]
  dsimp only
  rw [hc]

/-! ### The events -/

/-- The unit with a zone STALE (R112). -/
def State.zoneStaled (s : State) (z : ClaimNo) (c : Claim) (d : Nat) : State :=
  ((((s.reach d).setClaim z (some { c with stale := true, deadline := none })).setLatch .zoneStale).latchIf
    (!s.anyZoneStale) .warning)

theorem exec_zoneDeadline {d : Nat} (hc : s.claim z = some c) (hd : c.deadline = some d) :
    exec (.zoneDeadlineExpiry z) s = .next ((s.zoneStaled z c d).reportZone c.hatch) := by
  change execZoneDeadlineExpiry z s = _
  unfold execZoneDeadlineExpiry
  rw [hc]
  dsimp only
  rw [hd]
  rfl

theorem zoneStaled_latched (z : ClaimNo) (c : Claim) (d : Nat) (hu : s.inStart = false) :
    .zoneStale ∈ (s.zoneStaled z c d).latches ∧ (s.anyZoneStale = false → .warning ∈ (s.zoneStaled z c d).latches) := by
  unfold State.zoneStaled
  have start : ((s.reach d).setClaim z (some { c with stale := true, deadline := none })).inStart = false := hu
  generalize (s.reach d).setClaim z (some { c with stale := true, deadline := none }) = u at *
  have first : .zoneStale ∈ (u.setLatch .zoneStale).latches := (setLatch_mem _ _ _).2 (.inr ⟨rfl, not_starting start⟩)
  have start' : (u.setLatch .zoneStale).inStart = false := (lasting_inStart (lasting_setLatch u _)).trans start
  constructor
  · unfold State.latchIf
    split
    · exact (setLatch_mem _ _ _).2 (.inl first)
    · exact first
  · exact fun h => mem_latchIf (by rw [h]; rfl) (not_starting start')

/-- The unit with a level of a PRESENCE line taken (R116). -/
def State.lined (s : State) (h : HatchNo) (b : Bool) : State :=
  { s with presence := s.presence.set h b, lineLive := s.lineLive.set h b }

theorem exec_presence {b : Bool} {held : Nat} (hh : presenceStable b ≤ held) (hc : s.hatchConfigured h = true) :
    exec (.presenceChange h b held) s = .next
      (if s.presence[h] == b && s.lineLive[h] == b then s else (s.lined h b).reportZone h) := by
  change execPresenceChange h b held s = _
  unfold execPresenceChange
  by_cases same : (s.presence[h] == b && s.lineLive[h] == b) = true
  · rw [if_pos same, if_pos (by rw [same]; simp)]
  · rw [if_neg same, if_neg (by simpa [Nat.not_lt.2 hh] using same)]
    exact congrArg Host.Outcome.next (if_pos hc)

/-- Settles O27: the zone table is changed first; the work that follows, the tests of the hatch's steps, leaves it. -/
theorem zonesChangeAsTheirRulesSay : Obligations.ZonesChangeAsTheirRulesSay := by
  intro s told
  have told_eq (u : State) (h : HatchNo) : told u h = u.reportZone h := rfl
  clear_value told
  refine ⟨?_, ?_, ?_, ?_, ?_⟩
  · intro n tag id z c hc h hz live
    refine ⟨fun ho hk => ?_, fun hm => ?_, fun hm => ?_⟩
    · have may : (s.taken n).mayAsOwner n c = true := (mayAsOwner_iff (s := s.taken n) h.2.1).2 ⟨ho, hk⟩
      have owner : ownerRenewZone n id (s.taken n) = accept ((s.taken n).renew z c) :=
        (onZone_of (s := s.taken n) hz hc).trans (if_pos may)
      have hx : exec (.renewZone n tag id) s = _ := request_accept h owner tag
      by_cases ht : c.timed = true
      · by_cases hs : c.stale = true
        · have e : (s.taken n).renew z c = ((s.taken n).setClaim z (some live)).reportZone c.hatch := by
            unfold State.renew
            rw [if_pos ht]
            exact if_pos hs
          obtain ⟨h1, h2, h3⟩ := told_claims (s.taken n) z (some live) c.hatch
          have here := told_eq ((s.taken n).setClaim z (some live)) c.hatch
          rw [e] at hx
          generalize ((s.taken n).setClaim z (some live)).reportZone c.hatch = w at *
          refine ⟨_, hx, h1.trans (by rw [if_pos ht]), h2, h3, fun e => ?_, fun _ e => ?_, fun _ _ => by rw [here]⟩
          · rw [ht] at e; cases e
          · rw [hs] at e; cases e
        · have e : (s.taken n).renew z c = (s.taken n).setClaim z (some live) := by
            unfold State.renew
            rw [if_pos ht]
            exact if_neg hs
          have self : ((s.taken n).setClaim z (some live)).claim z = some live := setClaim_claim_self ..
          have others (y : ClaimNo) (hy : y ≠ z) : ((s.taken n).setClaim z (some live)).claim y = s.claim y :=
            (setClaim_claim ..).trans (if_neg (Ne.symm hy))
          have lines : ((s.taken n).setClaim z (some live)).lineLive = s.lineLive := rfl
          rw [e] at hx
          generalize (s.taken n).setClaim z (some live) = w at *
          refine ⟨_, hx, self.trans (by rw [if_pos ht]), others, lines, fun e => ?_, fun _ _ => rfl, fun _ e => absurd e hs⟩
          rw [ht] at e; cases e
      · have e : (s.taken n).renew z c = s.taken n := if_neg ht
        have self : (s.taken n).claim z = some c := hc
        have others (y : ClaimNo) : (s.taken n).claim y = s.claim y := rfl
        have lines : (s.taken n).lineLive = s.lineLive := rfl
        have same : s.answered n tag .accepted [0] = (s.taken n).replied n tag .accepted [0] := rfl
        rw [e] at hx
        generalize s.taken n = w at *
        exact ⟨_, hx, self.trans (by rw [if_neg ht]), fun y _ => others y, lines, fun _ => same.symm, fun h => absurd h ht,
          fun h => absurd h ht⟩
    · have may : ((s.taken n).mayAsOwner n c || (s.taken n).isKind n [.bridge, .cargoControl]) = true :=
        Bool.or_eq_true_iff.2 (hm.imp_left (mayAsOwner_iff (s := s.taken n) h.2.1).2)
      have owner : ownerReleaseZone n id (s.taken n) = accept (((s.taken n).setClaim z none).reportZone c.hatch) :=
        (onZone_of (s := s.taken n) hz hc).trans (if_pos may)
      have hx : exec (.releaseZone n tag id) s = _ := request_accept h owner tag
      obtain ⟨h1, h2, h3⟩ := told_claims (s.taken n) z none c.hatch
      have here := told_eq ((s.taken n).setClaim z none) c.hatch
      generalize ((s.taken n).setClaim z none).reportZone c.hatch = w at *
      exact ⟨_, hx, h1, h2, h3, by rw [here]⟩
    · have may : (s.taken n).mayAsOwner n c = false := by
        rw [← Bool.not_eq_true, mayAsOwner_iff (s := s.taken n) h.2.1]
        exact fun ⟨ho, hk⟩ => hm.elim (· ho) hk
      refine ⟨?_, fun hk => ?_⟩
      · have owner : ownerRenewZone n id (s.taken n) = refuse (s.taken n) .notAuthorised :=
          (onZone_of (s := s.taken n) hz hc).trans (if_neg (by simp [may]))
        exact request_eq_replied h owner
      · have owner : ownerReleaseZone n id (s.taken n) = refuse (s.taken n) .notAuthorised :=
          (onZone_of (s := s.taken n) hz hc).trans (if_neg (by
            rw [may, show (s.taken n).isKind n [.bridge, .cargoControl] = false from hk]
            decide))
        exact request_eq_replied h owner
  · intro z c d hc hd u
    have hx := exec_zoneDeadline hc hd
    have run := changes_reportZone (s.zoneStaled z c d) c.hatch
    have last : ((s.zoneStaled z c d).reportZone c.hatch).lasting = u.lasting :=
      run.lasting.trans ((lasting_latchIf _ _ _).trans (lasting_setLatch _ _))
    have here := told_eq (s.zoneStaled z c d) c.hatch
    have latched := zoneStaled_latched (s := s) z c d
    generalize (s.zoneStaled z c d).reportZone c.hatch = t at *
    have lines : t.lineLive = s.lineLive := lineLive_of_lasting (s := u) last
    refine ⟨t, hx, here.symm, ?_, fun y hy => ?_, lines, fun hu => ?_⟩
    · exact (claim_of_lasting last z).trans ((setClaim_claim ..).trans (if_pos rfl))
    · exact (claim_of_lasting last y).trans ((setClaim_claim ..).trans (if_neg (Ne.symm hy)))
    · obtain ⟨h1, h2⟩ := latched hu
      exact ⟨run.latches h1, fun e => run.latches (h2 e)⟩
  · intro z hz
    change execZoneDeadlineExpiry z s = _
    unfold execZoneDeadlineExpiry
    cases hc : s.claim z with
    | none => rfl
    | some c =>
      dsimp only
      rw [hz c hc]
  · intro h b held hh hc
    have hx := exec_presence (s := s) (b := b) (by unfold presenceStable; exact hh) hc
    by_cases same : (s.presence[h] == b && s.lineLive[h] == b) = true
    · rw [if_pos same] at hx
      have level : s.lineLive[h] = b := by simp at same; exact same.2
      exact ⟨s, hx, level, fun _ _ => rfl, rfl, fun hn => absurd level hn⟩
    · rw [if_neg same] at hx
      have last := reportZone_lasting (s.lined h b) h
      have here := told_eq (s.lined h b) h
      generalize (s.lined h b).reportZone h = t at *
      have lines : t.lineLive = s.lineLive.set h b := lineLive_of_lasting (s := s.lined h b) last
      refine ⟨t, hx, ?_, fun g hg => ?_, claims_of_lasting (s := s.lined h b) last, fun _ => here.symm⟩
      · simp [lines]
      · have : h.val ≠ g.val := fun e => hg (Fin.ext e.symm)
        simp [lines, this]
  · intro h b held hh
    change execPresenceChange h b held s = _
    unfold execPresenceChange
    rw [if_pos (by simp [presenceStable, hh])]

end Sys2Proof.Machine
end

section
/-! A panel's place with the flow arbiters (R123, R124, R130): where the flow of a panel stands, and that it holds none once
it has been released. -/

namespace Sys2Proof.Machine

variable {s t u : State} {p q : PanelNo} {k : PackId}

/-- The packs name no panel twice (R124). -/
def State.onePlace (s : State) : Prop := (s.packA.panels ++ s.packB.panels).Nodup

theorem onePlace_of_flowLaws (h : s.flowLaws) : s.onePlace := h.2.1

theorem grantOf_eq_none {x : Pack} : x.grantOf p = none ↔ ∀ g ∈ x.grants, g.panel ≠ p := by
  simp [Pack.grantOf]

theorem waiterOf_eq_none {x : Pack} : x.waiterOf p = none ↔ ∀ w ∈ x.waiting, w.panel ≠ p := by
  simp [Pack.waiterOf]

theorem not_mem_panels {x : Pack} : p ∉ x.panels ↔ x.grantOf p = none ∧ x.waiterOf p = none := by
  rw [grantOf_eq_none, waiterOf_eq_none]
  simp [Pack.panels]

theorem flow_eq_none : s.flow p = .none ↔ p ∉ s.packA.panels ∧ p ∉ s.packB.panels := by
  rw [not_mem_panels, not_mem_panels]
  unfold State.flow
  cases s.packA.grantOf p <;> cases s.packB.grantOf p <;> cases s.packA.waiterOf p <;> cases s.packB.waiterOf p <;> simp

/-- Where the flow of a panel stands on a pack, the pack names the panel. -/
theorem mem_panels_of_flow {d : Nat} (h : s.flow p = .granted k d ∨ s.flow p = .waiting k d) : p ∈ (s.pack k).panels := by
  by_contra hn
  rw [not_mem_panels] at hn
  obtain ⟨hg, hw⟩ := hn
  revert h
  unfold State.flow
  cases k
  · change s.packA.grantOf p = none at hg
    change s.packA.waiterOf p = none at hw
    rw [hg, hw]
    cases s.packB.grantOf p <;> cases s.packB.waiterOf p <;> simp
  · change s.packB.grantOf p = none at hg
    change s.packB.waiterOf p = none at hw
    rw [hg, hw]
    cases s.packA.grantOf p <;> cases s.packA.waiterOf p <;> simp

/-- Not more than one of the packs names the panel. -/
def State.placedOnce (s : State) (p : PanelNo) : Prop := ∀ k, p ∈ (s.pack k).panels → p ∉ (s.pack (otherPack k)).panels

theorem State.onePlace.placedOnce (h : s.onePlace) (p : PanelNo) : s.placedOnce p := fun k hp => by
  have apart := List.disjoint_of_nodup_append h
  cases k
  · exact fun hq => apart hp hq
  · exact fun hq => apart hq hp

theorem flow_eq_none_iff_packs (k : PackId) :
    s.flow p = .none ↔ p ∉ (s.pack k).panels ∧ p ∉ (s.pack (otherPack k)).panels := by
  rw [flow_eq_none]
  cases k
  · exact Iff.rfl
  · exact And.comm

/-- A panel that the packs name once has no flow after its release (R130). -/
theorem flow_dropFlow (h : s.placedOnce p) : (s.dropFlow p).st.flow p = .none := by
  unfold State.dropFlow
  split
  case h_1 e => exact e
  all_goals
    rename_i k d e
    have here : p ∈ (s.pack k).panels := mem_panels_of_flow (d := d) (by simp [e])
    rw [flow_eq_none_iff_packs k]
    constructor
    · rw [modPack_pack_self]
      exact fun hq => (mem_dropPanel.1 hq).2 rfl
    · rw [show (s.modPack k fun x => x.dropPanel p).pack (otherPack k) = s.pack (otherPack k) from setPack_pack_other ..]
      exact h k here

end Sys2Proof.Machine
end

section
/-! The claim of a zone, and the tests of a panel's step against its interlock conditions (R73, R75, R76, R82, R105, R110). -/

namespace Sys2Proof.Machine

variable {s t u : State} {p q : PanelNo} {i : SlotNo} {o : Order} {k : StepKind} {n : StationNo} {h : HatchNo} {z : ClaimNo}

/-! ### The test of a step, by its phase -/

theorem retest_interlockWait (hs : s.served p = some (i, o, k)) (hp : o.phase = some .interlockWait) :
    s.retest p = ⟨s.setSlot i (some { o with reasons := s.reasons p o k }),
      if (s.reasons p o k).any then [] else [.evaluate p false]⟩ := by
  simp only [State.retest, hs, hp, modOrder_eq (served_slot hs)]

theorem retest_flowWait (hs : s.served p = some (i, o, k)) (hp : o.phase = some .flowWait) :
    s.retest p = if (s.reasons p o k).any then s.toWait p i (s.reasons p o k) else .ok s := by
  simp only [State.retest, hs, hp]

theorem retest_lap (hs : s.served p = some (i, o, k)) (hp : o.phase = some .running) (hk : k = .lift ∨ k = .lower) :
    s.retest p = if (s.reasons p o k).lap then s.lapStop p i (s.reasons p o k) k else .ok s := by
  obtain rfl | rfl := hk <;> simp only [State.retest, hs, hp]

theorem retest_travel {pl : Plan} (hs : s.served p = some (i, o, .travel)) (hp : o.phase = some .running)
    (hpl : (s.panel p).plan = some pl) : s.retest p =
      if (s.runningReasons p pl).any then s.interlockStop p i (s.runningReasons p pl) else .ok s := by
  simp only [State.retest, hs, hp, hpl]

theorem retest_braking (hs : s.served p = some (i, o, .travel)) (hp : o.phase = some .braking)
    (hu : (s.panel p).purpose = some .evaluate) :
    s.retest p = .ok (s.setSlot i (some { o with reasons := s.reasons p o .travel })) := by
  simp only [State.retest, hs, hp, hu, modOrder_eq (served_slot hs), and_self, if_true]

/-! ### A step that waits, or stops and waits -/

theorem setPhase_slot (hi : s.slot i = some o) (p : PanelNo) (ph : Option Phase) (r : Reasons) (u : Option Purpose) :
    (s.setPhase p i ph r u).slot i = some { o with phase := ph, reasons := r } := by
  unfold State.setPhase
  rw [modPanel_slot, modOrder_slot_self, hi]
  rfl

theorem setPhase_panel (s : State) (p : PanelNo) (i : SlotNo) (ph : Option Phase) (r : Reasons) (u : Option Purpose) :
    (s.setPhase p i ph r u).panel p = { s.panel p with purpose := u } := by
  unfold State.setPhase
  rw [modPanel_panel_self, modOrder_panel]

theorem setPhase_packs (s : State) (p : PanelNo) (i : SlotNo) (ph : Option Phase) (r : Reasons) (u : Option Purpose) :
    (s.setPhase p i ph r u).packA = s.packA ∧ (s.setPhase p i ph r u).packB = s.packB := ⟨rfl, rfl⟩

theorem toWait_slot (hi : s.slot i = some o) (r : Reasons) :
    (s.toWait p i r).st.slot i = some { o with phase := some .interlockWait, reasons := r } := by
  unfold State.toWait
  rw [slot_of_slots (dropFlow_slots ..), modPanel_slot]
  exact setPhase_slot hi ..

theorem toWait_panel (s : State) (p : PanelNo) (i : SlotNo) (r : Reasons) :
    (s.toWait p i r).st.panel p = { s.panel p with purpose := none, plan := none } := by
  unfold State.toWait
  rw [dropFlow_panel, modPanel_panel_self, setPhase_panel]

theorem toWait_flow (h : s.onePlace) (p : PanelNo) (i : SlotNo) (r : Reasons) : (s.toWait p i r).st.flow p = .none := by
  unfold State.toWait
  exact flow_dropFlow (s := (s.setPhase p i (some .interlockWait) r none).modPanel p fun x => { x with plan := none })
      (h.placedOnce p)

theorem stepCoilsOff_panel (s : State) (p : PanelNo) : (s.stepCoilsOff p).panel p =
    { s.panel p with
      coils := { (s.panel p).coils with liftUp := false, liftDown := false, stowLock := false, stowUnlock := false }
      activity := (s.panel p).activity.coilsOff, stepTimer := none } := modPanel_panel_self ..

theorem stopTravel_panel (s : State) (p : PanelNo) :
    (s.stopTravel p).panel p = (s.panel p).stopped s.now s.params.tuning.brakingWindow := by
  rw [stopTravel_eq, modPanel_panel_self]

theorem interlockStop_slot (hi : s.slot i = some o) (r : Reasons) :
    (s.interlockStop p i r).st.slot i = some { o with phase := some .braking, reasons := r } := by
  unfold State.interlockStop
  rw [slot_of_slots (dropFlow_slots ..), setPhase_slot (by rw [stopTravel_eq, modPanel_slot]; exact hi)]

theorem interlockStop_panel (s : State) (p : PanelNo) (i : SlotNo) (r : Reasons) : (s.interlockStop p i r).st.panel p =
    { (s.panel p).stopped s.now s.params.tuning.brakingWindow with purpose := some .evaluate } := by
  unfold State.interlockStop
  rw [dropFlow_panel, setPhase_panel, stopTravel_panel]

theorem interlockStop_flow (h : s.onePlace) (p : PanelNo) (i : SlotNo) (r : Reasons) :
    (s.interlockStop p i r).st.flow p = .none := by
  unfold State.interlockStop
  rw [stopTravel_eq]
  generalize hf : (fun x : Panel => x.stopped s.now s.params.tuning.brakingWindow) = f
  exact flow_dropFlow (s := (s.modPanel p f).setPhase p i (some .braking) r (some .evaluate)) (h.placedOnce p)

/-! ### The lowest free slot of the zone table -/

theorem find_finRange {m : Nat} {f : Fin m → Bool} {z : Fin m} (hz : f z = true) (lower : ∀ y, y < z → f y = false) :
    (List.finRange m).find? f = some z := by
  rw [List.find?_eq_some_iff_getElem]
  refine ⟨hz, z.val, by simp, by simp, fun j hj => ?_⟩
  simp [lower ⟨j, hj.trans z.isLt⟩ hj]

theorem freeClaim_of (hz : s.claim z = none) (lower : ∀ y, y < z → s.claim y ≠ none) : s.freeClaim = some z := by
  have all : allClaims = List.finRange 16 := by decide
  unfold State.freeClaim
  rw [all]
  refine find_finRange (by rw [hz]; rfl) fun y hy => ?_
  simpa [Option.isSome_iff_ne_none] using lower y hy

/-! ### The claim -/

theorem ownerClaimZone_of {hatch : Byte} {side kind : BitVec 2} {lo hi : Half} {sd : Side} {c : Claim}
    (hh : hatchArg hatch = some h) (hc : s.hatchConfigured h = true) (hs : sideArg side = some sd)
    (hlo : lo.toNat < hi.toNat) (hhi : hi.toNat ≤ 8192) (may : s.mayClaim n h = true) (free : s.freeClaim = some z)
    (claim : c = { stale := false, owner := n, kind := zoneKindArg kind, hatch := h, side := sd, lo := lo.toNat
                   hi := hi.toNat, timed := s.isKind n [.shore]
                   deadline := if s.isKind n [.shore] then some s.renewalDeadline else none }) :
    ownerClaimZone n hatch side kind lo hi s =
      accept ((s.setClaim z (some c)).reportZone h) false [byteOf (z.val + 1)] := by
  unfold ownerClaimZone
  rw [hh, hs]
  dsimp only
  rw [if_neg (by simp [hc, spanOk, hlo, hhi]), if_neg (by simp [may]), free, claim]

theorem mayClaim_iff : s.mayClaim n h = true ↔
    s.isKind n [.shore, .cargoControl, .bridge] = true ∨ s.pendantHatch n = some h := by
  simp [State.mayClaim]

theorem claimed_records (n : StationNo) (z : ClaimNo) (c : Claim) (last : t.lasting = ((s.taken n).setClaim z (some c)).lasting) :
    t.records = { s.records with claims := t.claims } := by
  have claims : t.claims = ((s.taken n).setClaim z (some c)).claims := claims_of_lasting last
  rw [records_of_lasting last, claims]
  exact congrArg (fun r : State => { r with claims := ((s.taken n).setClaim z (some c)).claims }) (records_taken s n)

/-- The claim that the checks let pass is in its slot, the hatch has been told, and the reply gives the id (R110). -/
theorem claimed (hr : s.ready n) {tag hatch : Byte} {side kind : BitVec 2} {lo hi : Half} {c : Claim}
    (hx : ownerClaimZone n hatch side kind lo hi (s.taken n) =
      accept (((s.taken n).setClaim z (some c)).reportZone h) false [byteOf (z.val + 1)]) :
    ∃ t, exec (.claimZone n tag hatch side kind lo hi) s = .next t ∧ t.claim z = some c ∧
      (∀ y, y ≠ z → t.claim y = s.claim y) ∧ t.records = { s.records with claims := t.claims } ∧
      t = (((s.taken n).setClaim z (t.claim z)).reportZone h).replied n tag .accepted [0, byteOf (z.val + 1)] ∧
      t.txQueue = s.txQueue ++ [replyTo n tag .accepted [0, byteOf (z.val + 1)]] := by
  have run : exec (.claimZone n tag hatch side kind lo hi) s = _ := request_accept hr hx tag
  obtain ⟨self, others, -⟩ := told_claims (s.taken n) z (some c) h
  have last := reportZone_lasting ((s.taken n).setClaim z (some c)) h
  have queue : ((s.taken n).setClaim z (some c)).lasting.txQueue = s.txQueue := rfl
  generalize hw : ((s.taken n).setClaim z (some c)).reportZone h = w at *
  have claim : (w.replied n tag .accepted [0, byteOf (z.val + 1)]).claim z = some c := self
  refine ⟨_, run, claim, others, ?_, ?_, ?_⟩
  · exact (records_replied ..).trans (claimed_records n z c last)
  · rw [claim, hw]
  · exact congrArg (· ++ [replyTo n tag .accepted [0, byteOf (z.val + 1)]]) ((congrArg State.txQueue last : _).trans queue)

/-! ### What a test does to a step -/

section
variable (hs : s.served p = some (i, o, k)) (hf : s.onePlace)
include hs hf

theorem retested_flowWait (hp : o.phase = some .flowWait) {r : Reasons} (hr : r = s.reasons p o k) :
    (r = {} → (s.retest p).st = s ∧ (s.retest p).jobs = []) ∧
    (r ≠ {} → (s.retest p).st.slot i = some { o with phase := some .interlockWait, reasons := r } ∧
      (s.retest p).st.flow p = .none ∧ ((s.retest p).st.panel p).coils = (s.panel p).coils ∧
      ((s.retest p).st.panel p).activity = (s.panel p).activity) := by
  rw [retest_flowWait hs hp, ← hr]
  refine ⟨fun e => ?_, fun e => ?_⟩
  · rw [if_neg (mt reasons_any.1 (not_not_intro e))]
    exact ⟨rfl, rfl⟩
  · rw [if_pos (reasons_any.2 e), toWait_panel]
    exact ⟨toWait_slot (served_slot hs) r, toWait_flow hf p i r, rfl, rfl⟩

theorem retested_lap (hp : o.phase = some .running) (hk : k = .lift ∨ k = .lower) {r : Reasons} (hr : r = s.reasons p o k) :
    (r.lap = false → (s.retest p).st = s ∧ (s.retest p).jobs = []) ∧
    (r.lap = true → (s.retest p).st.slot i = some { o with phase := some .interlockWait, reasons := r } ∧
      (s.retest p).st.flow p = .none ∧ ((s.retest p).st.panel p).coils.liftUp = false ∧
      ((s.retest p).st.panel p).coils.liftDown = false ∧ ((s.retest p).st.panel p).stepTimer = none ∧
      .retest (partner p) ∈ (s.retest p).jobs) := by
  rw [retest_lap hs hp hk, ← hr]
  refine ⟨fun e => ?_, fun e => ?_⟩
  · rw [if_neg (by simp [e])]
    exact ⟨rfl, rfl⟩
  · rw [if_pos e]
    unfold State.lapStop
    have slot : (s.stepCoilsOff p).slot i = some o := served_slot (s := s) hs
    have panel : ((s.stepCoilsOff p).toWait p i r).st.panel p = _ := toWait_panel ..
    have told : .retest (partner p) ∈ lapReport p k := by obtain rfl | rfl := hk <;> simp [lapReport]
    rw [stepCoilsOff_panel] at panel
    change (((s.stepCoilsOff p).toWait p i r).st.slot i = _) ∧ (((s.stepCoilsOff p).toWait p i r).st.flow p = _) ∧
      (((s.stepCoilsOff p).toWait p i r).st.panel p).coils.liftUp = false ∧
      (((s.stepCoilsOff p).toWait p i r).st.panel p).coils.liftDown = false ∧
      (((s.stepCoilsOff p).toWait p i r).st.panel p).stepTimer = none ∧ _
    rw [panel]
    exact ⟨toWait_slot slot r, toWait_flow (s := s.stepCoilsOff p) hf p i r, rfl, rfl, rfl,
      List.mem_append_right _ told⟩

end

theorem retested_travel (hs : s.served p = some (i, o, .travel)) (hf : s.onePlace) (hp : o.phase = some .running) {pl : Plan}
    (hpl : (s.panel p).plan = some pl) {r : Reasons} (hr : r = s.runningReasons p pl) :
    (r = {} → (s.retest p).st = s ∧ (s.retest p).jobs = []) ∧
    (r ≠ {} → (s.retest p).st.slot i = some { o with phase := some .braking, reasons := r } ∧ (s.retest p).st.flow p = .none ∧
      (s.retest p).st.panel p =
        { (s.panel p).stopped s.now s.params.tuning.brakingWindow with purpose := some .evaluate }) := by
  rw [retest_travel hs hp hpl, ← hr]
  refine ⟨fun e => ?_, fun e => ?_⟩
  · rw [if_neg (mt reasons_any.1 (not_not_intro e))]
    exact ⟨rfl, rfl⟩
  · rw [if_pos (reasons_any.2 e)]
    exact ⟨interlockStop_slot (served_slot hs) r, interlockStop_flow hf p i r, interlockStop_panel s p i r⟩

/-- Settles O26: the lowest free slot takes the claim, and the test of a step by the phase it is in. -/
theorem claimZoneTakesTheLowestFreeSlot : Obligations.ClaimZoneTakesTheLowestFreeSlot := by
  refine ⟨?_, ?_⟩
  · intro s n tag hatch side kind lo hi h sd z hr hh hc hsd hlo hhi may free lower
    have owner := ownerClaimZone_of (n := n) (kind := kind) (s := s.taken n) hh hc hsd hlo hhi (mayClaim_iff.2 may)
      (freeClaim_of (s := s.taken n) free lower) rfl
    exact claimed hr owner
  · intro s p i o k hs hl r x y
    have hf := onePlace_of_flowLaws hl
    refine ⟨fun q hq => ?_, fun pl q hp hk hpl hq => ?_⟩
    · have hq := heldBy_iff.1 hq
      refine ⟨fun hp => ?_, fun hp => retested_flowWait hs hf hp hq, fun hp hk => retested_lap hs hf hp hk hq, fun hp hk hu => ?_⟩
      · have e : r = _ := retest_interlockWait hs hp
        rw [e, ← hq]
        refine ⟨rfl, ?_⟩
        by_cases none : q = {}
        · rw [if_pos none]
          exact if_neg (mt reasons_any.1 (not_not_intro none))
        · rw [if_neg none]
          exact if_pos (reasons_any.2 none)
      · subst hk
        have e : r = _ := retest_braking hs hp hu
        rw [e, ← hq]
        exact ⟨rfl, rfl⟩
    · subst hk
      obtain ⟨clear, stop⟩ := retested_travel hs hf hp hpl (haltedBy_iff.1 hq)
      refine ⟨clear, fun hn hm => ?_⟩
      obtain ⟨slot, flow, panel⟩ := stop hn
      have panel : y = _ := panel
      have stopped : x.stopped s.now s.params.tuning.brakingWindow = _ := if_pos hm
      rw [panel, stopped]
      exact ⟨slot, flow, rfl, rfl, rfl, rfl, rfl, rfl, rfl⟩

end Sys2Proof.Machine
end

section
/-! The references of a panel's count (R16, R17, R99, R100). -/

namespace Sys2Proof.Machine

variable {s t u : State} {p q : PanelNo} {i : SlotNo} {o : Order} {d : Dir} {n : Int}

/-- The panel whose count has been set to `n` by a reference. -/
def Panel.referenced (x : Panel) (n : Int) (tolerance : Nat) : Panel :=
  if |x.count - n| ≤ tolerance then { x with count := n, certain := true }
  else
    { x with count := n, certain := true, slip := some (clampSlip (x.count - n))
             warnings := joinSet allPanelWarnings .referenceSlip x.warnings }

theorem reference_eq (s : State) (p : PanelNo) (n : Int) : s.reference p n =
    (s.modPanel p fun x => x.referenced n s.params.tuning.referenceTolerance).latchIf
      (!decide (|(s.panel p).count - n| ≤ s.params.tuning.referenceTolerance)) .warning := by
  unfold State.reference State.latchIf
  dsimp only
  by_cases near : |(s.panel p).count - n| ≤ s.params.tuning.referenceTolerance
  · rw [if_pos near, if_neg (by simp [near])]
    exact modPanel_congr (by rw [Panel.referenced, if_pos near])
  · rw [if_neg near, if_pos (by simp [near]), State.warn, modPanel_modPanel]
    exact congrArg (State.setLatch · .warning) (modPanel_congr (by rw [Panel.referenced, if_neg near]))

theorem latchIf_panel (s : State) (b : Bool) (e : EventLatch) (q : PanelNo) : (s.latchIf b e).panel q = s.panel q := by
  rw [latchIf_eq]; rfl

theorem reference_panel (s : State) (p : PanelNo) (n : Int) :
    (s.reference p n).panel p = (s.panel p).referenced n s.params.tuning.referenceTolerance := by
  rw [reference_eq, latchIf_panel, modPanel_panel_self]

theorem reference_panel_ne (s : State) (n : Int) (h : p ≠ q) : (s.reference p n).panel q = s.panel q := by
  rw [reference_eq, latchIf_panel, modPanel_panel_ne _ _ h]

theorem reference_slots (s : State) (p : PanelNo) (n : Int) : (s.reference p n).slots = s.slots := by
  rw [reference_eq, latchIf_eq]; rfl

theorem reference_jog (s : State) (p : PanelNo) (n : Int) : (s.reference p n).jog = s.jog := by
  rw [reference_eq, latchIf_eq]; rfl

theorem Panel.referenced_eq (x : Panel) (n : Int) (tol : Nat) : x.referenced n tol = { x with
    count := n, certain := true, slip := (x.referenced n tol).slip, warnings := (x.referenced n tol).warnings } := by
  unfold Panel.referenced
  split <;> rfl

/-- The record of a panel after a reference, as the statement asks it. -/
theorem Panel.referenced_slip (x : Panel) (n : Int) (tol : Nat) :
    (|x.count - n| ≤ tol → (x.referenced n tol).slip = x.slip) ∧
    (¬ |x.count - n| ≤ tol → (x.referenced n tol).slip = some (max (-255) (min (x.count - n) 255)) ∧
      .referenceSlip ∈ (x.referenced n tol).warnings) := by
  refine ⟨fun near => ?_, fun far => ?_⟩
  · rw [Panel.referenced, if_pos near]
  · rw [Panel.referenced, if_neg far]
    exact ⟨rfl, mem_joinSet.2 ⟨mem_allPanelWarnings _, .inl rfl⟩⟩

theorem served_reference (s : State) (p q : PanelNo) (n : Int) : (s.reference p n).served q = s.served q :=
  served_congr (reference_live s p n q) (reference_slots s p n)

/-! ### The make of an end switch -/

/-- The unit with the switches of a panel at new levels. -/
def State.sensed (s : State) (p : PanelNo) (w : Switches) : State := s.modPanel p fun x => { x with sw := w }

theorem exec_homeMake {held : Nat} {b : Bool} (hh : 2 ≤ held) (hn : (s.panel p).sw.home ≠ b) : exec (.homeMake p b held) s =
    .next (if s.configured p then
        ((s.sensed p { (s.panel p).sw with home := b }).endChanged p b 0 .inward).settle
      else s.sensed p { (s.panel p).sw with home := b }) := by
  change execHomeMake p b held s = _
  unfold execHomeMake
  rw [if_neg (by simp [fastStable, hn]; omega)]
  have e : (s.modPanel p fun x => { x with sw := { x.sw with home := b } }) =
      s.sensed p { (s.panel p).sw with home := b } := modPanel_congr rfl
  dsimp only
  rw [e]
  rfl

theorem exec_openEndMake {held : Nat} {b : Bool} (hh : 2 ≤ held) (hn : (s.panel p).sw.openEnd ≠ b) :
    exec (.openEndMake p b held) s = .next (if s.configured p then
        ((s.sensed p { (s.panel p).sw with openEnd := b }).endChanged p b (s.openCount p) .outward).settle
      else s.sensed p { (s.panel p).sw with openEnd := b }) := by
  change execOpenEndMake p b held s = _
  unfold execOpenEndMake
  rw [if_neg (by simp [fastStable, hn]; omega)]
  have e : (s.modPanel p fun x => { x with sw := { x.sw with openEnd := b } }) =
      s.sensed p { (s.panel p).sw with openEnd := b } := modPanel_congr rfl
  dsimp only
  rw [e]
  rfl

theorem sensed_panel (s : State) (p : PanelNo) (w : Switches) : (s.sensed p w).panel p = { s.panel p with sw := w } :=
  modPanel_panel_self ..

theorem sensed_panel_ne (s : State) (w : Switches) (h : p ≠ q) : (s.sensed p w).panel q = s.panel q :=
  modPanel_panel_ne _ _ h

theorem sensed_served (s : State) (p : PanelNo) (w : Switches) (q : PanelNo) : (s.sensed p w).served q = s.served q :=
  served_modPanel rfl

/-! ### What a reference stops -/

theorem plannedStop_panel (s : State) (p : PanelNo) (i : SlotNo) : (s.plannedStop p i).panel p =
    { (s.panel p).stopped s.now s.params.tuning.brakingWindow with purpose := some .complete } := by
  unfold State.plannedStop
  rw [setPhase_panel, stopTravel_panel]

theorem plannedStop_slot (hi : s.slot i = some o) : (s.plannedStop p i).slot i =
    some { o with phase := some .braking, reasons := {} } := by
  unfold State.plannedStop
  exact setPhase_slot (by rw [stopTravel_eq, modPanel_slot]; exact hi) ..

theorem plannedStop_panel_ne (s : State) (i : SlotNo) (h : p ≠ q) : (s.plannedStop p i).panel q = s.panel q := by
  unfold State.plannedStop State.setPhase
  rw [modPanel_panel_ne _ _ h, modOrder_panel, stopTravel_eq, modPanel_panel_ne _ _ h]

theorem plannedStop_jog (s : State) (p : PanelNo) (i : SlotNo) : (s.plannedStop p i).jog = s.jog := by
  unfold State.plannedStop State.setPhase
  rw [modPanel_jog, modOrder_jog, stopTravel_eq, modPanel_jog]

/-- The slow point turns FAST off at most. -/
theorem slowPoint_eq (s : State) (p : PanelNo) (pl : Plan) : s.slowPoint p pl = s ∨ s.slowPoint p pl = s.fastOff p := by
  unfold State.slowPoint
  split
  · split
    · exact .inr rfl
    · exact .inl rfl
  · exact .inl rfl

theorem checkPoints_stops {pl : Plan} (hs : s.served p = some (i, o, .travel)) (hp : o.phase = some .running)
    (hpl : (s.panel p).plan = some pl) (h : pl.at (s.panel p).count pl.stopAt = true) :
    s.checkPoints p = .ok ((s.slowPoint p pl).plannedStop p i) := by
  have count : ((s.slowPoint p pl).panel p).count = (s.panel p).count := by
    obtain e | e := slowPoint_eq s p pl
    · rw [e]
    · rw [e, State.fastOff, modPanel_panel_self]
  simp only [State.checkPoints, hs, hpl]
  rw [if_pos hp, count, if_pos h]

/-- A reference stops the RUNNING travel that is to stop at the switch, or whose stop command point it has reached. -/
theorem referenceTaken_stops {pl : Plan} (hs : s.served p = some (i, o, .travel)) (hp : o.phase = some .running)
    (hpl : (s.panel p).plan = some pl) (h : pl.stop = .switch ∨ pl.at (s.panel p).count pl.stopAt = true) :
    ∃ v, (v = s ∨ v = s.fastOff p) ∧ s.referenceTaken p = .ok (v.plannedStop p i) := by
  unfold State.referenceTaken
  rw [hs, hpl]
  dsimp only
  rw [if_pos hp]
  cases hk : pl.stop with
  | switch => exact ⟨s, .inl rfl, rfl⟩
  | count => exact ⟨_, slowPoint_eq s p pl, checkPoints_stops hs hp hpl (by simpa [hk] using h)⟩

theorem referenceTaken_unserved (hs : s.served p = none) : s.referenceTaken p = s.endJogOn p := by
  simp only [State.referenceTaken, hs]

theorem endMake_of (hm : (s.panel p).mode ≠ .quiet) (hd : (s.panel p).lastDir = some d) : s.endMake p n d =
    if (s.panel p).mode = .driven then (s.reference p n).referenceTaken p else ⟨s.reference p n, [.retest p]⟩ := by
  simp only [State.endMake]
  rw [if_pos ⟨hm, hd⟩]

theorem endMake_not (h : (s.panel p).mode = .quiet ∨ (s.panel p).lastDir ≠ some d) : s.endMake p n d = .ok s := by
  simp only [State.endMake]
  rw [if_neg fun e => h.elim e.1 (· e.2)]

/-- Work that has nothing to do leaves the unit as it is. -/
theorem drain_idle : ∀ (js : List Job) (m : Nat), (∀ j ∈ js, runJob j s = .ok s) → drain m js s = s
  | [], m, _ => drain_nil m s
  | _ :: _, 0, _ => rfl
  | j :: js, m + 1, h => by
    rw [drain_cons, h j List.mem_cons_self]
    rw [show enqueue (Res.ok s).jobs js = js from enqueue_nil js]
    exact drain_idle js m fun x hx => h x (List.mem_cons_of_mem _ hx)

theorem settle_idle {js : List Job} (h : ∀ j ∈ js, runJob j s = .ok s) : (Res.mk s js).settle = s := drain_idle js _ h

theorem runJob_jogTest (hj : s.jog = none) : runJob .jogTest s = .ok s := jogTest_none hj

theorem runJob_retest (hs : s.served p = none) : runJob (.retest p) s = .ok s := retest_unserved hs

theorem settle_jogTest (hj : s.jog = none) : ((Res.ok s).add [.jogTest]).settle = s :=
  settle_idle (js := [.jogTest]) (by simp [runJob_jogTest hj])

/-! ### The statement's terms -/

/-- The record `y` of a panel after a reference to `n` with the switch levels `w`, the count before being that of `x`. -/
theorem referenced_terms {x y : Panel} {w : Switches} {tol : Nat} (hw : x.sw = w) (hc : y.count = (x.referenced n tol).count)
    (hv : y.certain = (x.referenced n tol).certain) (hs : y.sw = (x.referenced n tol).sw)
    (hl : y.slip = (x.referenced n tol).slip) (hk : y.warnings = (x.referenced n tol).warnings) :
    y.count = n ∧ y.certain = true ∧ y.sw = w ∧ (|x.count - n| ≤ tol → y.slip = x.slip) ∧
      (¬ |x.count - n| ≤ tol → y.slip = some (max (-255) (min (x.count - n) 255)) ∧ .referenceSlip ∈ y.warnings) := by
  have whole := x.referenced_eq n tol
  obtain ⟨near, far⟩ := x.referenced_slip n tol
  rw [hc, hv, hs, hl, hk]
  exact ⟨by rw [whole], by rw [whole], by rw [whole]; exact hw, near, far⟩

/-- The command of an end switch in the direction `d`, and the switch levels once it is made. -/
def Dir.makes (d : Dir) (p : PanelNo) (held : Nat) : Instr :=
  match d with
  | .inward => .homeMake p true held
  | .outward => .openEndMake p true held

def Switches.atEnd (w : Switches) (d : Dir) : Switches :=
  match d with
  | .inward => { w with home := true }
  | .outward => { w with openEnd := true }

/-- The count at the end switch in the direction `d`. -/
def State.endPoint (s : State) (p : PanelNo) (d : Dir) : Int :=
  match d with
  | .inward => 0
  | .outward => s.openCount p

theorem exec_makes {held : Nat} (hh : 2 ≤ held) (hc : s.configured p = true) (hn : (s.panel p).sw.atEnd d ≠ (s.panel p).sw) :
    exec (d.makes p held) s = .next
        (((s.sensed p ((s.panel p).sw.atEnd d)).endMake p (s.endPoint p d) d).add [.jogTest]).settle := by
  cases d with
  | inward =>
    have open_ : (s.panel p).sw.home ≠ true := fun e => hn (by rw [Switches.atEnd, ← e])
    exact (exec_homeMake hh open_).trans (congrArg Host.Outcome.next (if_pos hc))
  | outward =>
    have open_ : (s.panel p).sw.openEnd ≠ true := fun e => hn (by rw [Switches.atEnd, ← e])
    exact (exec_openEndMake hh open_).trans (congrArg Host.Outcome.next (if_pos hc))

/-- What a panel's record is after a reference at the end switch in the direction `d`. -/
def State.madeAt (s : State) (p : PanelNo) (d : Dir) : Panel :=
  { s.panel p with sw := (s.panel p).sw.atEnd d }.referenced (s.endPoint p d) s.params.tuning.referenceTolerance

/-- The unit after a reference at the end switch in the direction `d`. -/
def State.madeEnd (s : State) (p : PanelNo) (d : Dir) : State :=
  (s.sensed p ((s.panel p).sw.atEnd d)).reference p (s.endPoint p d)

theorem madeEnd_panel (s : State) (p : PanelNo) (d : Dir) : (s.madeEnd p d).panel p = s.madeAt p d := by
  unfold State.madeEnd
  rw [reference_panel, sensed_panel]
  rfl

theorem madeEnd_panel_ne (s : State) (d : Dir) (h : p ≠ q) : (s.madeEnd p d).panel q = s.panel q := by
  unfold State.madeEnd
  rw [reference_panel_ne _ _ h, sensed_panel_ne _ _ h]

theorem madeEnd_slots (s : State) (p : PanelNo) (d : Dir) : (s.madeEnd p d).slots = s.slots := reference_slots ..

theorem madeEnd_jog (s : State) (p : PanelNo) (d : Dir) : (s.madeEnd p d).jog = s.jog := reference_jog ..

theorem madeEnd_served (s : State) (p q : PanelNo) (d : Dir) : (s.madeEnd p d).served q = s.served q := by
  unfold State.madeEnd
  rw [served_reference, sensed_served]

theorem madeEnd_lasting (s : State) (p : PanelNo) (d : Dir) :
    (s.madeEnd p d).lasting = (s.sensed p ((s.panel p).sw.atEnd d)).lasting := lasting_reference ..

theorem madeAt_eq (s : State) (p : PanelNo) (d : Dir) : s.madeAt p d = { s.panel p with
    sw := (s.panel p).sw.atEnd d, count := s.endPoint p d, certain := true, slip := (s.madeAt p d).slip
    warnings := (s.madeAt p d).warnings } := by
  unfold State.madeAt
  exact Panel.referenced_eq _ _ _

theorem exec_makes_driven {held : Nat} (hh : 2 ≤ held) (hc : s.configured p = true)
    (hn : (s.panel p).sw.atEnd d ≠ (s.panel p).sw) (hm : (s.panel p).mode = .driven) (hd : (s.panel p).lastDir = some d) :
    exec (d.makes p held) s = .next (((s.madeEnd p d).referenceTaken p).add [.jogTest]).settle := by
  rw [exec_makes hh hc hn, endMake_of (by rw [sensed_panel]; simp [hm]) (by rw [sensed_panel]; exact hd),
    if_pos (by rw [sensed_panel]; exact hm)]
  rfl

theorem exec_makes_coasting {held : Nat} (hh : 2 ≤ held) (hc : s.configured p = true)
    (hn : (s.panel p).sw.atEnd d ≠ (s.panel p).sw) (hm : (s.panel p).mode = .coasting) (hd : (s.panel p).lastDir = some d) :
    exec (d.makes p held) s = .next (Res.mk (s.madeEnd p d) [.retest p, .jogTest]).settle := by
  rw [exec_makes hh hc hn, endMake_of (by rw [sensed_panel]; simp [hm]) (by rw [sensed_panel]; exact hd),
    if_neg (by rw [sensed_panel]; simp [hm])]
  rfl

theorem fastOff_panel (s : State) (p : PanelNo) : (s.fastOff p).panel p = { s.panel p with
    coils := { (s.panel p).coils with fast := false }, activity := (s.panel p).activity.slowed
    plan := (s.panel p).plan.map fun pl => { pl with fast := false } } := modPanel_panel_self ..

/-- A running travel once it has been stopped for good, its FAST having gone off or not. -/
theorem plannedStop_driven {v : State} (hv : v = s ∨ v = s.fastOff p) (hm : (s.panel p).mode = .driven) (i : SlotNo) :
    ∃ pl, (v.plannedStop p i).panel p = { s.panel p with
      coils := (s.panel p).coils.travelOff, mode := .coasting, activity := .braking
      brakeTimer := some (s.now + s.params.tuning.brakingWindow), stall := .stopped, holdoff := none
      purpose := some .complete, plan := pl } := by
  rw [plannedStop_panel]
  obtain rfl | rfl := hv
  · exact ⟨_, by rw [Panel.stopped_driven hm]⟩
  · have mode : ((s.fastOff p).panel p).mode = .driven := by rw [fastOff_panel]; exact hm
    rw [Panel.stopped_driven mode, fastOff_panel]
    exact ⟨_, rfl⟩

/-- What a stop for good leaves of the rest: the order brakes, the jog and the other panels are as they were. -/
theorem plannedStop_rest {v : State} (hv : v = s ∨ v = s.fastOff p) (hi : s.slot i = some o) :
    (v.plannedStop p i).slot i = some { o with phase := some .braking, reasons := {} } ∧
    (v.plannedStop p i).jog = s.jog ∧ ∀ q, q ≠ p → (v.plannedStop p i).panel q = s.panel q := by
  obtain rfl | rfl := hv
  · exact ⟨plannedStop_slot hi, plannedStop_jog v p i, fun q h => plannedStop_panel_ne v i (Ne.symm h)⟩
  · exact ⟨plannedStop_slot (s := s.fastOff p) hi, plannedStop_jog (s.fastOff p) p i, fun q h =>
      (plannedStop_panel_ne (s.fastOff p) i (Ne.symm h)).trans (modPanel_panel_ne _ _ (Ne.symm h))⟩

theorem jogStopped_panel_ne (s : State) {j : Jog} (h : j.panel ≠ q) : (s.jogStopped j).panel q = s.panel q := by
  obtain ⟨y, hy, -⟩ := calms_jogCoilsOff (s := { s with jog := none }) j
  unfold State.jogStopped
  rw [hy, modPanel_panel_ne _ _ h, setPanel_panel_ne _ _ h]
  rfl

/-- A reference ends the travel jog that approached it. -/
theorem madeEnd_jogOver {j : Jog} (hj : s.jog = some j) (hp : j.panel = p) (hc : j.coil = d.coil) (hs : s.noneServed)
    (hm : (s.panel p).mode = .driven) : ∃ t, (((s.madeEnd p d).referenceTaken p).add [.jogTest]).settle = t ∧
      t.panel p = { s.madeAt p d with
        coils := (s.panel p).coils.travelOff, mode := .coasting, activity := .braking
        brakeTimer := some (s.now + s.params.tuning.brakingWindow), stall := .stopped, holdoff := none } ∧
      t.jog = none ∧ t.slots = s.slots ∧ ∀ q, q ≠ p → t.panel q = s.panel q := by
  have jog : (s.madeEnd p d).jog = some j := (madeEnd_jog s p d).trans hj
  have unserved : (s.madeEnd p d).noneServed := fun q => (madeEnd_served s p q d).trans (hs q)
  have ends : (s.madeEnd p d).referenceTaken p = (s.madeEnd p d).endJog := by
    rw [referenceTaken_unserved (unserved p)]
    simp only [State.endJogOn, jog, hp, if_true]
  have last := madeEnd_lasting s p d
  have now : (s.madeEnd p d).now = s.now := lasting_now (s := s.sensed p ((s.panel p).sw.atEnd d)) last
  have params : (s.madeEnd p d).params = s.params := (congrArg State.params last :)
  have record := madeEnd_panel s p d
  have mode : (s.madeAt p d).mode = .driven := by rw [madeAt_eq]; exact hm
  have coils : (s.madeAt p d).coils = (s.panel p).coils := by rw [madeAt_eq]
  have stopped := jogStopped_travel (s := s.madeEnd p d) hc (by rw [hp, record]; exact mode)
  rw [hp, record, now, params, coils] at stopped
  have here := endJog_panel jog p
  have there (q : PanelNo) (h : q ≠ p) : (s.madeEnd p d).endJog.st.panel q = s.panel q := by
    rw [endJog_panel jog, jogStopped_panel_ne _ (by rw [hp]; exact Ne.symm h), madeEnd_panel_ne s d (Ne.symm h)]
  have slots := (endJog_slots (s.madeEnd p d)).trans (madeEnd_slots s p d)
  obtain ⟨⟨a, b, settled⟩, -⟩ := settle_unserved (r := (s.madeEnd p d).endJog.add [.jogTest])
    (fun q => (endJog_served _ q).trans (unserved q)) (endJog_jog _) fun x hx =>
      (List.mem_append.1 hx).elim (endJog_plain _ x) fun h => by rw [List.mem_singleton.1 h]; trivial
  rw [ends, settled]
  exact ⟨_, rfl, here.trans stopped, endJog_jog _, slots, there⟩

/-- Settles O50, by the motion in which the end switch is made. -/
theorem referencesSetTheCount : Obligations.ReferencesSetTheCount := by
  intro s p held e hh hc x c w point near referenced braking hn
  have command : c = e.makes p held := by cases e <;> rfl
  have levels : w = x.sw.atEnd e := by cases e <;> rfl
  have at_end : point = s.endPoint p e := by cases e <;> rfl
  have record : referenced (s.madeAt p e) := by
    have := referenced_terms (x := { x with sw := x.sw.atEnd e }) (n := s.endPoint p e)
      (tol := s.params.tuning.referenceTolerance) rfl (y := s.madeAt p e) rfl rfl rfl rfl rfl
    simp only [referenced, near, at_end, levels]
    exact this
  have base : (s.modPanel p fun x => { x with sw := w }).reference p point = s.madeEnd p e := by
    rw [levels, at_end]; rfl
  have grown {y : Panel} (h : y.count = (s.madeAt p e).count ∧ y.certain = (s.madeAt p e).certain ∧ y.sw = (s.madeAt p e).sw ∧
      y.slip = (s.madeAt p e).slip ∧ y.warnings = (s.madeAt p e).warnings) : referenced y := by
    obtain ⟨h1, h2, h3, h4, h5⟩ := h
    simpa only [referenced, h1, h2, h3, h4, h5] using record
  have stands : (s.madeAt p e).mode = x.mode ∧ (s.madeAt p e).coils = x.coils ∧ (s.madeAt p e).plan = x.plan := by
    rw [madeAt_eq]; exact ⟨rfl, rfl, rfl⟩
  obtain ⟨mode, coils, plan⟩ := stands
  have record' := madeEnd_panel s p e
  have others (q : PanelNo) (h : q ≠ p) := madeEnd_panel_ne s e (Ne.symm h)
  have taken : s.configured p = true ∧ x.sw.atEnd e ≠ x.sw := ⟨hc, levels ▸ hn⟩
  obtain ⟨-, change⟩ := taken
  rw [command, base]
  clear_value c w point
  refine ⟨fun hj hm hd hs => ?_, fun hj hm hd i o pl hs hp hpl stop => ?_, fun hm hd => ?_, fun j hj hjp hjc hs hm hd => ?_,
    fun hj h => ?_⟩
  · refine ⟨s.madeEnd p e, ?_, ?_, ?_, ?_, madeEnd_slots s p e, others⟩
    · have jog : (s.madeEnd p e).jog = none := (madeEnd_jog s p e).trans hj
      have unserved : (s.madeEnd p e).served p = none := (madeEnd_served s p p e).trans hs
      obtain hm | hm := hm
      · rw [exec_makes_coasting hh hc change hm hd, settle_idle]
        simp [runJob_jogTest jog, runJob_retest unserved]
      · rw [exec_makes_driven hh hc change hm hd, referenceTaken_unserved unserved]
        have : (s.madeEnd p e).endJogOn p = .ok (s.madeEnd p e) := by simp only [State.endJogOn, jog]
        rw [this]
        exact congrArg Host.Outcome.next (settle_jogTest jog)
    · rw [record']; exact record
    · rw [record']; exact mode
    · rw [record']; exact coils
  · have served : (s.madeEnd p e).served p = some (i, o, .travel) := (madeEnd_served s p p e).trans hs
    have made : pl.stop = .switch ∨ pl.at ((s.madeEnd p e).panel p).count pl.stopAt = true := by
      rw [record', show (s.madeAt p e).count = point from record.1]; exact stop
    obtain ⟨v, hv, taken⟩ := referenceTaken_stops served hp (by rw [record', plan]; exact hpl) made
    have hx := exec_makes_driven hh hc change hm hd
    have last := madeEnd_lasting s p e
    have now : (s.madeEnd p e).now = s.now := lasting_now (s := s.sensed p (x.sw.atEnd e)) last
    have params : (s.madeEnd p e).params = s.params := (congrArg State.params last :)
    obtain ⟨pl', braked⟩ := plannedStop_driven hv (by rw [record', mode]; exact hm) i
    rw [record', now, params, coils] at braked
    obtain ⟨stopped, jog, apart⟩ := plannedStop_rest hv (served_slot served)
    have jog := (jog.trans (madeEnd_jog s p e)).trans hj
    have apart (q : PanelNo) (hq : q ≠ p) := (apart q hq).trans (others q hq)
    have active : o.state = .active := served_active hs
    have idle : ((Res.ok (v.plannedStop p i)).add [.jogTest]).settle = v.plannedStop p i :=
      settle_jogTest jog
    rw [taken, idle] at hx
    generalize v.plannedStop p i = t at *
    refine ⟨t, _, hx, ⟨grown ?_, ?_, ?_, ?_, ?_, ?_⟩, ?_, stopped, rfl, active, apart⟩
    all_goals rw [braked]
    exact ⟨rfl, rfl, rfl, rfl, rfl⟩
  · refine ⟨exec_makes_coasting hh hc change hm hd, ?_, madeEnd_slots s p e, madeEnd_jog s p e, ?_, ?_, others⟩
    · rw [record']; exact record
    · rw [record', mode]; exact hm
    · rw [record', coils]
  · obtain ⟨t, run, here, jog, slots, there⟩ := madeEnd_jogOver hj hjp hjc hs hm
    refine ⟨t, run ▸ exec_makes_driven hh hc change hm hd, ⟨grown ?_, ?_, ?_, ?_, ?_, ?_⟩, jog, slots, there⟩
    all_goals rw [here]
    exact ⟨rfl, rfl, rfl, rfl, rfl⟩
  · rw [exec_makes hh hc change, endMake_not (by rw [sensed_panel]; exact h)]
    have jog : (s.sensed p (x.sw.atEnd e)).jog = none := hj
    rw [levels]
    exact congrArg Host.Outcome.next (settle_jogTest jog)

end Sys2Proof.Machine
end

section
/-! The edges of the wheel (R10 to R15). -/

namespace Sys2Proof.Machine

variable {s t u : State} {p q : PanelNo} {i : SlotNo} {o : Order} {d : Dir} {n : Int} {k : PanelFault} {low high : Nat}

/-! ### What a raised fault leaves of the counter -/

theorem Panel.off_counter (x : Panel) (now w : Nat) : (x.off now w).count = x.count ∧ (x.off now w).certain = x.certain ∧
    (x.off now w).creep = x.creep ∧ (x.off now w).creepQuiet = x.creepQuiet := by
  by_cases h : x.mode = .driven
  · rw [Panel.off_driven h]; exact ⟨rfl, rfl, rfl, rfl⟩
  · rw [Panel.off_quiet h]; exact ⟨rfl, rfl, rfl, rfl⟩

theorem Raised.counter (h : Raised u t p k) : (t.panel p).count = (u.panel p).count ∧
    (t.panel p).certain = (u.panel p).certain ∧ (t.panel p).creep = (u.panel p).creep ∧
    (t.panel p).creepQuiet = (u.panel p).creepQuiet := by
  obtain ⟨v, pl, e⟩ := h.record
  rw [e]
  exact Panel.off_counter ..

theorem raise_held (h : k ∈ (s.panel p).faults) : s.raise p k = .ok s := by
  unfold State.raise
  rw [if_pos (by simp [h])]

/-! ### The wheel -/

/-- The unit with the wheel input waiting for a low before the next edge. -/
def State.disarmed (s : State) (p : PanelNo) : State := s.modPanel p fun x => { x with wheelArmed := false }

theorem exec_wheelEdge (hc : s.configured p = true) (hl : 0 < low) (hh : 2 ≤ high)
    (ha : (s.panel p).wheelArmed = true ∨ 2 ≤ low) :
    exec (.wheelEdge p low high) s = .next ((s.disarmed p).edge p).settle := by
  change execWheelEdge p low high s = _
  unfold execWheelEdge
  rw [if_neg (by simp [hc])]
  dsimp only
  rw [if_pos]
  · rfl
  · simp only [Bool.and_eq_true, Bool.or_eq_true, decide_eq_true_eq]
    exact ⟨⟨ha, hl⟩, hh⟩

theorem exec_wheelEdge_not (hc : s.configured p = true)
    (h : low = 0 ∨ high < 2 ∨ (s.panel p).wheelArmed = false ∧ low < 2) : exec (.wheelEdge p low high) s =
      .next (s.modPanel p fun x => { x with wheelArmed := x.wheelArmed || decide (2 ≤ low) }) := by
  change execWheelEdge p low high s = _
  unfold execWheelEdge
  rw [if_neg (by simp [hc])]
  dsimp only
  rw [if_neg]
  · exact congrArg Host.Outcome.next (modPanel_congr rfl)
  · simp only [Bool.and_eq_true, Bool.or_eq_true, decide_eq_true_eq]
    rintro ⟨⟨armed, hl⟩, hh⟩
    obtain h | h | ⟨h1, h2⟩ := h
    · exact absurd hl (by rw [h]; decide)
    · exact absurd hh (Nat.not_le.2 h)
    · rw [h1] at armed
      exact armed.elim (fun e => by cases e) (Nat.not_le.2 h2)

theorem edge_driven (hm : (s.panel p).mode = .driven) (hd : (s.panel p).lastDir = some d) : s.edge p =
    ((s.modPanel p fun x => { x with stall := x.stall.restart s.now s.params.tuning.stallPeriod }).moveEdge p d).bind
      fun s => s.checkPoints p := by
  simp only [State.edge, hm, hd]

theorem edge_coasting (hm : (s.panel p).mode = .coasting) (hd : (s.panel p).lastDir = some d) :
    s.edge p = (s.moveEdge p d).add [.retest p] := by
  simp only [State.edge, hm, hd]

theorem edge_quiet (hm : (s.panel p).mode = .quiet) : s.edge p = (s.creepEdge p).add [.watch p, .retest p] := by
  simp only [State.edge, hm]

theorem moveEdge_out (h : (s.panel p).count + d.sign < -255 ∨ 4095 < (s.panel p).count + d.sign) :
    s.moveEdge p d = (s.modPanel p fun x => { x with certain := false }).raise p .positionRange := by
  simp only [State.moveEdge]
  rw [if_pos (by simpa [edgeLimited] using h)]

theorem moveEdge_in (h1 : -255 ≤ (s.panel p).count + d.sign) (h2 : (s.panel p).count + d.sign ≤ 4095) :
    s.moveEdge p d = .ok (s.modPanel p fun x => { x with count := (s.panel p).count + d.sign }) := by
  simp only [State.moveEdge]
  rw [if_neg (by simp [edgeLimited]; omega)]
  have : edgeCount (s.panel p).count d = (s.panel p).count + d.sign := by unfold edgeCount; omega
  rw [this]

theorem checkPoints_unserved (h : s.served p = none) : s.checkPoints p = .ok s := by
  simp only [State.checkPoints, h]

theorem checkPoints_of {pl : Plan} (hs : s.served p = some (i, o, .travel)) (hp : o.phase = some .running)
    (hpl : (s.panel p).plan = some pl) : s.checkPoints p =
      if pl.at (s.panel p).count pl.stopAt then .ok ((s.slowPoint p pl).plannedStop p i)
      else if pl.at (s.panel p).count pl.overAt then (s.slowPoint p pl).raise p .overtravel
      else .ok (s.slowPoint p pl) := by
  have count : ((s.slowPoint p pl).panel p).count = (s.panel p).count := by
    obtain e | e := slowPoint_eq s p pl
    · rw [e]
    · rw [e, fastOff_panel]
  simp only [State.checkPoints, hs, hpl]
  rw [if_pos hp, count]

/-! ### An edge that would leave the range -/

/-- The unit after an edge that would leave the range, its fault not yet raised. -/
def State.strayed (s : State) (p : PanelNo) (f : StallTimer → StallTimer) : State :=
  s.modPanel p fun x => { x with wheelArmed := false, certain := false, stall := f x.stall }

theorem strayed_panel (s : State) (p : PanelNo) (f : StallTimer → StallTimer) : (s.strayed p f).panel p =
    { s.panel p with wheelArmed := false, certain := false, stall := f (s.panel p).stall } := modPanel_panel_self ..

/-- An edge that would leave the range raises its fault, which may be there already. -/
theorem edge_out (hs : s.Linked) (hc : s.configured p = true) (hm : (s.panel p).mode ≠ .quiet)
    (hd : (s.panel p).lastDir = some d) (h : (s.panel p).count + d.sign < -255 ∨ 4095 < (s.panel p).count + d.sign) :
    ∃ f, (.positionRange ∉ (s.panel p).faults →
        Raised (s.strayed p f) ((s.disarmed p).edge p).settle p .positionRange) ∧
      (s.served p = none → .positionRange ∈ (s.panel p).faults → ((s.disarmed p).edge p).settle = s.strayed p f) := by
  have record : (s.disarmed p).panel p = { s.panel p with wheelArmed := false } := modPanel_panel_self ..
  have linked (f : StallTimer → StallTimer) : (s.strayed p f).Linked := linked_modPanel hs fun _ => rfl
  have served (f : StallTimer → StallTimer) : (s.strayed p f).served p = s.served p := served_modPanel rfl
  have faults (f : StallTimer → StallTimer) : ((s.strayed p f).panel p).faults = (s.panel p).faults := by rw [strayed_panel]
  cases hm' : (s.panel p).mode with
  | quiet => exact absurd hm' hm
  | driven =>
    generalize hf : (fun x : StallTimer => x.restart s.now s.params.tuning.stallPeriod) = f
    have edge : (s.disarmed p).edge p = ((s.strayed p f).raise p .positionRange).bind fun s => s.checkPoints p := by
      rw [edge_driven (by rw [record]; exact hm') (by rw [record]; exact hd), moveEdge_out]
      · rw [State.disarmed, modPanel_modPanel, modPanel_modPanel, State.strayed, ← hf]; rfl
      · rw [modPanel_panel_self, record]; exact h
    refine ⟨f, fun hk => ?_, fun hn hk => ?_⟩
    · have gone := raise_live (linked f) hc (k := .positionRange) (by rw [faults]; exact hk)
      rw [edge]
      refine raised_settle ?_ (linked f) hc (by rw [faults]; exact hk)
      rw [Res.bind_st, checkPoints_unserved (served_none_of_live gone)]
      rfl
    · rw [edge, raise_held (by rw [faults]; exact hk)]
      exact (congrArg Res.settle (checkPoints_unserved ((served f).trans hn))).trans (settle_ok _)
  | coasting =>
    have edge : (s.disarmed p).edge p = ((s.strayed p id).raise p .positionRange).add [.retest p] := by
      rw [edge_coasting (by rw [record]; exact hm') (by rw [record]; exact hd), moveEdge_out (by rw [record]; exact h),
        State.disarmed, modPanel_modPanel, State.strayed]
      rfl
    refine ⟨id, fun hk => ?_, fun hn hk => ?_⟩
    · rw [edge]
      exact raised_settle rfl (linked id) hc (by rw [faults]; exact hk)
    · rw [edge, raise_held (by rw [faults]; exact hk)]
      exact settle_idle (js := [.retest p]) (by simp [runJob_retest ((served id).trans hn)])

/-! ### An edge within the range -/

/-- The unit after an edge that takes the count to `n`. -/
def State.counted (s : State) (p : PanelNo) (n : Int) (f : StallTimer → StallTimer) : State :=
  s.modPanel p fun x => { x with count := n, wheelArmed := false, stall := f x.stall }

theorem counted_panel (s : State) (p : PanelNo) (n : Int) (f : StallTimer → StallTimer) : (s.counted p n f).panel p =
    { s.panel p with count := n, wheelArmed := false, stall := f (s.panel p).stall } := modPanel_panel_self ..

section
variable (hd : (s.panel p).lastDir = some d) (h1 : -255 ≤ (s.panel p).count + d.sign)
  (h2 : (s.panel p).count + d.sign ≤ 4095)
include hd h1 h2

theorem edge_coasted (hm : (s.panel p).mode = .coasting) :
    (s.disarmed p).edge p = ⟨s.counted p ((s.panel p).count + d.sign) id, [.retest p]⟩ := by
  have record : (s.disarmed p).panel p = { s.panel p with wheelArmed := false } := modPanel_panel_self ..
  rw [edge_coasting (by rw [record]; exact hm) (by rw [record]; exact hd),
    moveEdge_in (by rw [record]; exact h1) (by rw [record]; exact h2), record, State.disarmed, modPanel_modPanel]
  rfl

theorem edge_drove (hm : (s.panel p).mode = .driven) : (s.disarmed p).edge p =
    (s.counted p ((s.panel p).count + d.sign) fun x => x.restart s.now s.params.tuning.stallPeriod).checkPoints p := by
  have record : (s.disarmed p).panel p = { s.panel p with wheelArmed := false } := modPanel_panel_self ..
  have counted : ((s.disarmed p).modPanel p fun x =>
      { x with stall := x.stall.restart (s.disarmed p).now (s.disarmed p).params.tuning.stallPeriod }).panel p =
      { s.panel p with
        wheelArmed := false, stall := (s.panel p).stall.restart s.now s.params.tuning.stallPeriod } := by
    rw [modPanel_panel_self, record]; rfl
  rw [edge_driven (by rw [record]; exact hm) (by rw [record]; exact hd),
    moveEdge_in (by rw [counted]; exact h1) (by rw [counted]; exact h2), counted, State.disarmed, modPanel_modPanel,
    modPanel_modPanel]
  rfl

end

/-! ### A creep edge -/

/-- The record of a panel after a creep edge (R14). -/
def Panel.crept (x : Panel) (now window : Nat) : Panel :=
  { x with certain := false, creep := min 255 (x.creep + 1), creepQuiet := some (now + window), wheelArmed := false
           warnings := joinSet allPanelWarnings .creep x.warnings }

/-- The unit after a creep edge, RUNAWAY not yet raised. -/
def State.crept (s : State) (p : PanelNo) : State :=
  (s.modPanel p fun x => x.crept s.now s.params.tuning.brakingWindow).setLatch .warning

theorem crept_panel (s : State) (p : PanelNo) :
    (s.crept p).panel p = (s.panel p).crept s.now s.params.tuning.brakingWindow := by
  unfold State.crept
  rw [setLatch_panel, modPanel_panel_self]

theorem crept_panel_ne (s : State) (h : p ≠ q) : (s.crept p).panel q = s.panel q := by
  unfold State.crept
  rw [setLatch_panel, modPanel_panel_ne _ _ h]

theorem crept_slots (s : State) (p : PanelNo) : (s.crept p).slots = s.slots := by
  unfold State.crept
  rw [setLatch_eq]
  rfl

theorem crept_served (s : State) (p q : PanelNo) : (s.crept p).served q = s.served q := by
  refine served_congr ?_ (crept_slots s p)
  by_cases e : p = q
  · subst e; rw [crept_panel]; rfl
  · rw [crept_panel_ne s e]

theorem crept_linked (hs : s.Linked) : (s.crept p).Linked :=
  Changes.linked (changes_latch (L := Leave.all) (by decide)) (linked_modPanel hs fun _ => rfl)

theorem creepEdge_eq (s : State) (p : PanelNo) : (s.disarmed p).creepEdge p =
    if s.params.tuning.creepLimit ≤ min 255 ((s.panel p).creep + 1) then (s.crept p).raise p .runaway else .ok (s.crept p) := by
  have record : (s.disarmed p).panel p = { s.panel p with wheelArmed := false } := modPanel_panel_self ..
  have same : ((s.disarmed p).modPanel p fun x => { x with
      certain := false, creep := min 255 (x.creep + 1)
      creepQuiet := some ((s.disarmed p).now + (s.disarmed p).params.tuning.brakingWindow) }).warn p .creep = s.crept p := by
    rw [State.warn, State.disarmed, modPanel_modPanel, modPanel_modPanel]
    rfl
  have creep : ((s.crept p).panel p).creep = min 255 ((s.panel p).creep + 1) := by rw [crept_panel]; rfl
  have limit : (s.crept p).params = s.params := by unfold State.crept; rw [setLatch_params]; rfl
  unfold State.creepEdge
  dsimp only
  rw [same, creep, limit]

theorem crept_unserved {r : Res} (hr : (s.disarmed p).creepEdge p = r) (hs : s.Linked) (hc : s.configured p = true)
    (hn : s.served p = none) : ((r.add [.watch p, .retest p]).settle = s.crept p ∧
        (s.params.tuning.creepLimit ≤ min 255 ((s.panel p).creep + 1) → .runaway ∈ (s.panel p).faults)) ∨
      s.params.tuning.creepLimit ≤ min 255 ((s.panel p).creep + 1) ∧
        Raised (s.crept p) (r.add [.watch p, .retest p]).settle p .runaway := by
  have unserved : (s.crept p).served p = none := (crept_served s p p).trans hn
  have idle : ((Res.ok (s.crept p)).add [.watch p, .retest p]).settle = s.crept p :=
    settle_idle (js := [.watch p, .retest p]) (by simp [runJob, watch_unserved unserved, retest_unserved unserved])
  rw [creepEdge_eq] at hr
  subst hr
  split
  · rename_i hlim
    have faults : ((s.crept p).panel p).faults = (s.panel p).faults := by rw [crept_panel]; rfl
    by_cases hk : .runaway ∈ (s.panel p).faults
    · rw [raise_held (by rw [faults]; exact hk)]
      exact .inl ⟨idle, fun _ => hk⟩
    · have configured : (s.crept p).configured p = true :=
        (lasting_configured (s := s.modPanel p fun x => x.crept s.now s.params.tuning.brakingWindow)
          (lasting_setLatch _ _) p).trans hc
      exact .inr ⟨hlim, raised_settle rfl (crept_linked hs) configured (by rw [faults]; exact hk)⟩
  · rename_i hlim
    exact .inl ⟨idle, fun h => absurd h hlim⟩

/-! ### The statement -/

theorem at_iff {pl : Plan} {c : Int} {g : Option Int} : pl.at c g = true ↔ ∃ q, g = some q ∧ reached pl.dir c q = true := by
  cases g <;> simp [Plan.at]

theorem slowPoint_coils (s : State) (p : PanelNo) (pl : Plan) : ((s.slowPoint p pl).panel p).coils =
    if pl.fast = true ∧ ∃ q ∈ pl.slow, reached pl.dir (s.panel p).count q = true then { (s.panel p).coils with fast := false }
    else (s.panel p).coils := by
  unfold State.slowPoint
  cases pl.slow with
  | none => simp
  | some g =>
    by_cases h : pl.fast = true ∧ reached pl.dir (s.panel p).count g = true
    · rw [if_pos (by simpa using h)]
      dsimp only
      rw [if_pos (by simpa using h), fastOff_panel]
    · rw [if_neg (by simpa using h)]
      dsimp only
      rw [if_neg (by simpa using h)]

/-- What the slow point leaves of the panel, and of the order table. -/
theorem slowPoint_kept (s : State) (p : PanelNo) (pl : Plan) : ((s.slowPoint p pl).panel p).count = (s.panel p).count ∧
    ((s.slowPoint p pl).panel p).mode = (s.panel p).mode ∧ ((s.slowPoint p pl).panel p).stall = (s.panel p).stall ∧
    (s.slowPoint p pl).slots = s.slots := by
  obtain e | e := slowPoint_eq s p pl
  · rw [e]; exact ⟨rfl, rfl, rfl, rfl⟩
  · rw [e, fastOff_panel]; exact ⟨rfl, rfl, rfl, rfl⟩

/-- What an edge of a RUNNING travel does at the points of its plan (R97, R99, R100): the count is that of `s` already. -/
theorem checkPoints_settle {pl : Plan} (hs : s.Linked) (hc : s.configured p = true) (hv : s.served p = some (i, o, .travel))
    (hp : o.phase = some .running) (hpl : (s.panel p).plan = some pl) (hm : (s.panel p).mode = .driven)
    (hn : (s.panel p).count = n) : ∃ t, (s.checkPoints p).settle = t ∧ (t.panel p).count = n ∧
      ((∃ q, pl.stopAt = some q ∧ reached pl.dir n q = true) →
        (t.panel p).mode = .coasting ∧ (t.panel p).coils = (s.panel p).coils.travelOff ∧ (t.panel p).activity = .braking ∧
        (t.panel p).brakeTimer = some (s.now + s.params.tuning.brakingWindow) ∧ (t.panel p).purpose = some .complete ∧
        ∃ o', t.slot i = some o' ∧ o'.phase = some .braking ∧ o'.state = .active) ∧
      ((∀ q, pl.stopAt = some q → reached pl.dir n q = false) → (∃ g, pl.overAt = some g ∧ reached pl.dir n g = true) →
        .overtravel ∈ (t.panel p).faults) ∧
      ((∀ q, pl.stopAt = some q ∨ pl.overAt = some q → reached pl.dir n q = false) →
        (t.panel p).mode = .driven ∧ t.slots = s.slots ∧ (t.panel p).stall = (s.panel p).stall ∧
        (t.panel p).coils = (if pl.fast = true ∧ ∃ q ∈ pl.slow, reached pl.dir n q = true then
          { (s.panel p).coils with fast := false } else (s.panel p).coils)) := by
  obtain ⟨count, mode, stall, slots⟩ := slowPoint_kept s p pl
  have active : o.state = .active := served_active hv
  rw [checkPoints_of hv hp hpl, hn]
  by_cases stops : pl.at n pl.stopAt = true
  · obtain ⟨g, hg, reach⟩ := at_iff.1 stops
    obtain ⟨pl', braked⟩ := plannedStop_driven (slowPoint_eq s p pl) hm i
    obtain ⟨slot, -, -⟩ := plannedStop_rest (slowPoint_eq s p pl) (served_slot hv)
    rw [if_pos stops, settle_ok]
    generalize (s.slowPoint p pl).plannedStop p i = t at *
    refine ⟨t, rfl, ?_, fun _ => ⟨?_, ?_, ?_, ?_, ?_, _, slot, rfl, active⟩, fun h => ?_, fun h => ?_⟩
    · rw [braked]; exact hn
    · rw [braked]
    · rw [braked]
    · rw [braked]
    · rw [braked]
    · rw [braked]
    · rw [h g hg] at reach; cases reach
    · rw [h g (.inl hg)] at reach; cases reach
  · have passes : ¬ ∃ q, pl.stopAt = some q ∧ reached pl.dir n q = true := mt at_iff.2 stops
    rw [if_neg stops]
    by_cases goes : pl.at n pl.overAt = true
    · obtain ⟨g, hg, reach⟩ := at_iff.1 goes
      rw [if_pos goes]
      have linked : (s.slowPoint p pl).Linked := Changes.linked (changes_slowPoint (L := Leave.all) pl) hs
      have configured : (s.slowPoint p pl).configured p = true :=
        (lasting_configured (changes_slowPoint (L := Leave.all) pl).lasting p).trans hc
      by_cases hk : .overtravel ∈ ((s.slowPoint p pl).panel p).faults
      · rw [raise_held hk, settle_ok]
        refine ⟨_, rfl, count.trans hn, fun h => absurd h passes, fun _ _ => hk, fun h => ?_⟩
        rw [h g (.inr hg)] at reach; cases reach
      · have r := raised_settle (r := (s.slowPoint p pl).raise p .overtravel) rfl linked configured hk
        refine ⟨_, rfl, r.counter.1.trans (count.trans hn), fun h => absurd h passes, fun _ _ => r.mem, fun h => ?_⟩
        rw [h g (.inr hg)] at reach; cases reach
    · rw [if_neg goes, settle_ok]
      refine ⟨_, rfl, count.trans hn, fun h => absurd h passes, fun _ h => absurd (at_iff.2 h) goes, fun _ =>
        ⟨mode.trans hm, slots, stall, ?_⟩⟩
      rw [slowPoint_coils, hn]

/-- Settles O51, by the counting mode of the panel. -/
theorem wheelEdgesMoveTheCount : Obligations.WheelEdgesMoveTheCount := by
  intro s p low high x c now tun out crept
  refine ⟨fun hs hc hl hh ha => ⟨fun d hd hm => ?_, ?_, ?_⟩, fun hc h => exec_wheelEdge_not hc h,
    fun hc => ?_⟩
  · intro n
    have hx := exec_wheelEdge hc hl hh ha
    refine ⟨?_, ?_, ?_, ?_, ?_⟩
    · intro hn hs'
      obtain ⟨f, fresh, old⟩ := edge_out (linked_iff.1 hs) hc hm hd hn
      by_cases hk : .positionRange ∈ x.faults
      · have hv : s.served p = none := hs'.resolve_right fun h => h.2 hk
        rw [old hv hk] at hx
        exact ⟨_, hx, by rw [strayed_panel], by rw [strayed_panel], by rw [strayed_panel]; exact hk⟩
      · have r := fresh hk
        obtain ⟨count, certain, -⟩ := r.counter
        rw [strayed_panel] at count certain
        exact ⟨_, hx, count, certain, r.mem⟩
    · intro h1 h2 hv hm
      have unserved : (s.counted p n id).served p = none := (served_modPanel rfl).trans hv
      rw [edge_coasted hd h1 h2 hm] at hx
      exact hx.trans (congrArg Host.Outcome.next (settle_idle (by simp only [List.mem_singleton, forall_eq]; exact runJob_retest unserved)))
    · intro h1 h2 hm
      rw [edge_coasted hd h1 h2 hm] at hx
      exact hx
    · intro h1 h2 hv hm
      have unserved : (s.counted p n fun y => y.restart now tun.stallPeriod).served p = none := (served_modPanel rfl).trans hv
      rw [edge_drove hd h1 h2 hm] at hx
      exact hx.trans (congrArg Host.Outcome.next ((congrArg Res.settle (checkPoints_unserved unserved)).trans (settle_ok _)))
    · intro i o pl h1 h2 hm hv hp hpl
      have linked : (s.counted p n fun y => y.restart now tun.stallPeriod).Linked :=
        linked_modPanel (linked_iff.1 hs) fun _ => rfl
      have record := counted_panel s p n fun y => y.restart now tun.stallPeriod
      obtain ⟨t, run, rest⟩ := checkPoints_settle (n := n) linked hc ((served_modPanel rfl).trans hv) hp
        (by rw [record]; exact hpl) (by rw [record]; exact hm) (by rw [record])
      rw [edge_drove hd h1 h2 hm] at hx
      rw [record] at rest
      exact ⟨t, run ▸ hx, rest⟩
  · intro hm hv
    have hx := exec_wheelEdge hc hl hh ha
    rw [edge_quiet (by rw [State.disarmed, modPanel_panel_self]; exact hm)] at hx
    obtain ⟨run, limit⟩ | ⟨limit, r⟩ := crept_unserved rfl (linked_iff.1 hs) hc hv
    · rw [run] at hx
      refine ⟨_, hx, ?_, ?_, fun _ => ⟨?_, crept_slots s p⟩⟩
      all_goals rw [crept_panel]
      · exact ⟨rfl, rfl, rfl, rfl, mem_joinSet.2 ⟨mem_allPanelWarnings _, .inl rfl⟩⟩
      · exact limit
      · rfl
    · obtain ⟨h1, h2, h3, h4⟩ := r.counter
      have warned := r.kept.2.2.2.2.2
      rw [crept_panel] at h1 h2 h3 h4 warned
      refine ⟨_, hx, ⟨h1, h2, h3, h4, ?_⟩, fun _ => r.mem, fun h => absurd h (Nat.not_lt.2 limit)⟩
      rw [warned]
      exact mem_joinSet.2 ⟨mem_allPanelWarnings _, .inl rfl⟩
  · intro hm hlim u
    have hx := exec_wheelEdge hc hl hh ha
    have edge : (s.disarmed p).creepEdge p = .ok (s.crept p) := (creepEdge_eq s p).trans (if_neg (Nat.not_le.2 hlim))
    have hu : u = s.crept p := congrArg Res.st edge
    rw [edge_quiet (by rw [State.disarmed, modPanel_panel_self]; exact hm), edge] at hx
    clear_value u
    subst hu
    refine ⟨hx, ?_, crept_slots s p, ?_, fun q h => crept_panel_ne s (Ne.symm h)⟩
    all_goals rw [crept_panel]
    · exact ⟨rfl, rfl, rfl, rfl, mem_joinSet.2 ⟨mem_allPanelWarnings _, .inl rfl⟩⟩
    · rfl
  · change execWheelEdge p low high s = _
    unfold execWheelEdge
    rw [if_pos (by simp [hc])]

end Sys2Proof.Machine
end

section
/-! A raised fault while no order is served (R166), the service jog among the things it ends; and the start of a jog (R197). -/

namespace Sys2Proof.Machine

variable {s t u : State} {p q : PanelNo} {i j : SlotNo} {o : Order} {k : PanelFault}

/-! ### The end of an order that nobody serves -/

/-- Orders have ended of which none was served: of the panels only the order fields have moved. -/
structure State.Ended (s t : State) : Prop where
  served : s.noneServed → t.noneServed
  packs : t.packA = s.packA ∧ t.packB = s.packB
  jog : t.jog = s.jog
  panel : ∀ q, ∃ l v pl, t.panel q = { s.panel q with live := l, purpose := v, plan := pl }

theorem State.Ended.refl (s : State) : s.Ended s := ⟨id, ⟨rfl, rfl⟩, rfl, fun _ => ⟨_, _, _, rfl⟩⟩

theorem State.Ended.trans (a : s.Ended t) (b : t.Ended u) : s.Ended u where
  served := fun h => b.served (a.served h)
  packs := ⟨b.packs.1.trans a.packs.1, b.packs.2.trans a.packs.2⟩
  jog := b.jog.trans a.jog
  panel := fun q => by
    obtain ⟨_, _, _, e⟩ := a.panel q
    obtain ⟨l, v, pl, h⟩ := b.panel q
    exact ⟨l, v, pl, by rw [h, e]⟩

theorem updateOrder_packs (s : State) (i : SlotNo) (f : Order → Order) :
    (s.updateOrder i f).packA = s.packA ∧ (s.updateOrder i f).packB = s.packB := by
  cases hi : s.slot i with
  | none => simp [State.updateOrder, hi]
  | some o => rw [updateOrder_eq hi]; exact ⟨rfl, rfl⟩

theorem slotOfId_updateOrder (s : State) (i : SlotNo) (f : Order → Order) (hf : ∀ o, (f o).id = o.id) (id : Nat) :
    (s.updateOrder i f).slotOfId id = s.slotOfId id := by
  cases hi : s.slot i with
  | none => simp only [State.updateOrder, hi]
  | some o =>
    rw [updateOrder_eq hi]
    exact slotOfId_setSlot hi (hf o) id

/-- No order is served where none was, if no order has newly become ACTIVE or been assigned. -/
theorem noneServed_of (hs : s.noneServed) (hslot : ∀ j o, t.slot j = some o → o.state = .active → s.slot j = some o)
    (hlive : ∀ q id, (t.panel q).live = some id → (s.panel q).live = some id) (hid : ∀ id, t.slotOfId id = s.slotOfId id) :
    t.noneServed := fun q => by
  cases h : t.served q with
  | none => rfl
  | some x =>
    obtain ⟨j, o, k⟩ := x
    obtain ⟨hl, ha, hk⟩ := served_some h
    obtain ⟨hj, hq, hi⟩ := liveOrder_some hl
    have := served_of (liveOrder_of (hlive q _ hq) ((hid _).symm.trans hi) (hslot j o hj ha)) ha hk
    rw [hs q] at this
    cases this

theorem ended_unassigned (s : State) (p : PanelNo) : s.Ended (s.modPanel p Panel.unassigned) := by
  have panel (q : PanelNo) : ∃ l v pl, (s.modPanel p Panel.unassigned).panel q =
      { s.panel q with live := l, purpose := v, plan := pl } ∧ (l = none ∨ l = (s.panel q).live) := by
    rw [modPanel_panel]
    split
    · rename_i e; subst e; exact ⟨_, _, _, rfl, .inl rfl⟩
    · exact ⟨_, _, _, rfl, .inr rfl⟩
  refine ⟨fun hs => noneServed_of hs (fun _ _ h _ => h) (fun q id h => ?_) fun _ => rfl, ⟨rfl, rfl⟩, rfl, fun q => ?_⟩
  · obtain ⟨l, v, pl, e, hl⟩ := panel q
    rw [e] at h
    obtain rfl | rfl := hl
    · cases h
    · exact h
  · obtain ⟨l, v, pl, e, -⟩ := panel q
    exact ⟨l, v, pl, e⟩

theorem ended_updateOrder (i : SlotNo) {f : Order → Order} (hid : ∀ o, (f o).id = o.id) (hf : ∀ o, (f o).state.live = false) :
    s.Ended (s.updateOrder i f) where
  served := fun hs => by
    refine noneServed_of hs (fun j o h ha => ?_) (fun q id h => by rwa [updateOrder_panel] at h)
      fun id => slotOfId_updateOrder s i f hid id
    rw [updateOrder_slot] at h
    split at h
    · obtain ⟨x, -, rfl⟩ := Option.map_eq_some_iff.1 h
      have := hf x
      rw [ha] at this
      cases this
    · exact h
  packs := updateOrder_packs s i f
  jog := updateOrder_jog s i f
  panel := fun q => ⟨_, _, _, updateOrder_panel s i f q⟩

theorem ended_latch (s : State) (e : EventLatch) : s.Ended (s.setLatch e) where
  served := fun hs q => (served_congr (by rw [setLatch_panel]) (by rw [setLatch_eq])).trans (hs q)
  packs := by rw [setLatch_eq]; exact ⟨rfl, rfl⟩
  jog := setLatch_jog s e
  panel := fun q => ⟨_, _, _, setLatch_panel s e q⟩

theorem Order.finish_live (o : Order) {st : OrderState} (hst : st.live = false) (n m : Nat) (b : Bool) :
    (o.finish st n m b).state.live = false := hst

theorem ended_finishOrder {st : OrderState} (s : State) (i : SlotNo) (n : Nat) (hst : st.live = false) :
    s.Ended (s.finishOrder i st n) := by
  unfold State.finishOrder
  cases hi : s.slot i with
  | none => exact .refl s
  | some o =>
    refine ((ended_unassigned s o.panel).trans (ended_updateOrder i ?_ ?_)).trans (ended_latch _ _)
    · exact fun _ => rfl
    · exact fun o => o.finish_live hst _ _ _

theorem ended_cascade (m : Nat) : ∀ (n : Nat) (ids : List Nat) (s : State), s.Ended (State.cascade m n ids s)
  | 0, _, s => .refl s
  | n + 1, ids, s => by
    unfold State.cascade
    dsimp only
    split
    · exact .refl s
    · refine .trans ?_ (ended_cascade m n _ _)
      have all : ∀ (ds : List SlotNo) (s : State),
          s.Ended (ds.foldl (fun s i => s.finishOrder i (.cancelled .predecessor) m) s) := fun ds => by
        induction ds with
        | nil => exact fun s => .refl s
        | cons i ds ih => exact fun s => (ended_finishOrder s i m rfl).trans (ih _)
      exact all _ s

theorem interrupt_unserved (h : s.served p = none) : s.interrupt p = .ok s := by simp only [State.interrupt, h]

/-- A failure where no order is served moves the order fields of the panels only, and leaves no work. -/
theorem failLive_unserved (hs : s.noneServed) (p : PanelNo) (r : FailReason) : s.Ended (s.failLive p r).st ∧
    (s.failLive p r).jobs = [] := by
  unfold State.failLive
  cases s.liveOrder p with
  | none => exact ⟨.refl s, rfl⟩
  | some io =>
    obtain ⟨i, o⟩ := io
    dsimp only
    unfold State.endOrder
    cases s.slot i with
    | none => exact ⟨.refl s, rfl⟩
    | some x =>
      dsimp only
      rw [interrupt_unserved (hs x.panel), ite_self]
      split
      · exact ⟨(ended_finishOrder s i s.now rfl).trans (ended_cascade _ _ _ _), rfl⟩
      · exact ⟨.refl s, rfl⟩

theorem placedOnce_congr (ha : t.packA = s.packA) (hb : t.packB = s.packB) : t.placedOnce p ↔ s.placedOnce p := by
  have e (k : PackId) : t.pack k = s.pack k := by cases k <;> assumption
  simp only [State.placedOnce, e]

/-! ### The raise of a fault on the panel of the jog -/

/-- A fault raised on the panel of the jog while no order is served: the panel's coils go off, the jog ends, and its flow is
released. -/
theorem raise_jogged {g : Jog} (hs : s.noneServed) (hc : s.configured p = true) (hk : k ∉ (s.panel p).faults)
    (hj : s.jog = some g) (hg : g.panel = p) (hp : s.placedOnce p) :
    (s.raise p k).st.noneServed ∧ (s.raise p k).st.jog = none ∧ (s.raise p k).st.flow p = .none ∧
    (∀ x ∈ (s.raise p k).jobs, x.plain) ∧
    ∃ l v pl, (s.raise p k).st.panel p = { (s.panel p).off s.now s.params.tuning.brakingWindow with
      faults := joinSet allPanelFaults k (s.panel p).faults, live := l, purpose := v, plan := pl } := by
  have raised : s.raise p k = ((((s.faulted p k).failLive p (.fault k)).bind fun s => s.endJogOn p).map fun s =>
      s.setLatch .panelFault).add [.retest (partner p)] := by
    unfold State.raise
    exact if_neg (by simp [hc, hk])
  have faulted := faulted_eq s p k
  have unserved : (s.faulted p k).noneServed := by
    rw [faulted]
    refine noneServed_modPanel hs fun x => ?_
    rw [Panel.off_faults]
    by_cases hm : x.mode = .driven
    · rw [Panel.off_driven hm]
    · rw [Panel.off_quiet hm]
  have record : (s.faulted p k).panel p = { (s.panel p).off s.now s.params.tuning.brakingWindow with
      faults := joinSet allPanelFaults k (s.panel p).faults } := by
    rw [faulted, modPanel_panel_self, Panel.off_faults]
  have packs : (s.faulted p k).packA = s.packA ∧ (s.faulted p k).packB = s.packB := by rw [faulted]; exact ⟨rfl, rfl⟩
  have jog : (s.faulted p k).jog = some g := by rw [faulted]; exact hj
  obtain ⟨ended, jobs⟩ := failLive_unserved unserved p (.fault k)
  generalize s.faulted p k = v at *
  obtain ⟨l, w, pl, panel⟩ := ended.panel p
  have none := ended.served unserved
  have jog := ended.jog.trans jog
  have packA := ended.packs.1.trans packs.1
  have packB := ended.packs.2.trans packs.2
  generalize v.failLive p (.fault k) = r at *
  have rest : (r.st.panel p).AtRest := by
    have off := (s.panel p).off_atRest s.now s.params.tuning.brakingWindow
    rw [panel, record]
    exact ⟨off.coils, off.mode, off.move, off.timer, off.activity⟩
  have ends : r.st.endJogOn p = r.st.endJog := by simp only [State.endJogOn, jog, hg, if_true]
  have final := endJogOn_atRest rest
  rw [ends] at final
  have latch := ended_latch r.st.endJog.st .panelFault
  rw [raised]
  simp only [Res.add_st, Res.map_st, Res.bind_st, ends]
  refine ⟨latch.served fun q => (endJog_served r.st q).trans (none q), latch.jog.trans (endJog_jog _), ?_, ?_, l, w, pl, ?_⟩
  · rw [flow_congr latch.packs.1 latch.packs.2, endJog_of jog, hg]
    refine flow_dropFlow (s := r.st.jogStopped g) ?_
    obtain ⟨ha, hb⟩ := jogStopped_packs r.st g
    exact (placedOnce_congr (ha.trans packA) (hb.trans packB)).2 hp
  · intro x hx
    simp only [Res.add, Res.map, Res.bind, List.mem_append, List.mem_singleton, jobs, ends] at hx
    obtain (h | h) | rfl := hx
    · cases h
    · exact endJog_plain _ x h
    · trivial
  · rw [setLatch_panel, final, panel, record]

end Sys2Proof.Machine
end

section
/-! JOG (R196, R197). -/

namespace Sys2Proof.Machine

variable {s t u : State} {p q : PanelNo} {k : PackId} {d : Dir} {j : Jog} {m : Nat} {c : Coil} {n : StationNo}

/-! ### The flow of a jog -/

/-- The unit with the jog's grant. -/
def State.jogGranted (s : State) (p : PanelNo) (k : PackId) (m : Nat) : State :=
  s.modPack k fun x => { x with grants := x.grants ++ [⟨p, m, true⟩] }

theorem jogPack_some (h : s.jogPack p m = some k) : s.servingPack p = some k ∧ s.flow p = .none := by
  unfold State.jogPack at h
  cases hs : s.servingPack p with
  | none => simp [hs] at h
  | some l =>
    simp only [hs] at h
    split at h
    · rename_i e
      obtain rfl := Option.some.inj h
      exact ⟨rfl, e.2.1⟩
    · cases h

theorem grantJog_some (h : s.jogPack p m = some k) (hm : m ≠ 0) : s.grantJog p m = s.jogGranted p k m := by
  simp only [State.grantJog, h, if_neg hm]
  rfl

theorem grantJog_zero (s : State) (p : PanelNo) : s.grantJog p 0 = s := by
  unfold State.grantJog
  split
  · rfl
  · rfl

theorem jogGranted_flow (h : s.flow p = .none) (k : PackId) (m : Nat) : (s.jogGranted p k m).flow p = .granted k m := by
  obtain ⟨ha, hb⟩ := flow_eq_none.1 h
  rw [not_mem_panels] at ha hb
  have joined (x : Pack) (hx : x.grantOf p = none) :
      Pack.grantOf { x with grants := x.grants ++ [⟨p, m, true⟩] } p = some ⟨p, m, true⟩ := by
    unfold Pack.grantOf at hx ⊢
    rw [List.find?_append, hx]
    simp
  cases k
  · have packA : (s.jogGranted p .a m).packA.grantOf p = some ⟨p, m, true⟩ := joined s.packA ha.1
    simp only [State.flow, packA]
  · have packA : (s.jogGranted p .b m).packA.grantOf p = none := ha.1
    have packB : (s.jogGranted p .b m).packB.grantOf p = some ⟨p, m, true⟩ := joined s.packB hb.1
    simp only [State.flow, packA, packB]

theorem jogGranted_placed (h : s.flow p = .none) (k : PackId) (m : Nat) : (s.jogGranted p k m).placedOnce p := by
  obtain ⟨ha, hb⟩ := flow_eq_none.1 h
  intro l hl
  cases k <;> cases l
  · exact hb
  · exact absurd hl hb
  · exact absurd hl ha
  · exact ha

theorem jogGranted_panel (s : State) (p : PanelNo) (k : PackId) (m : Nat) (q : PanelNo) :
    (s.jogGranted p k m).panel q = s.panel q := modPack_panel ..

theorem jogGranted_lasting (s : State) (p : PanelNo) (k : PackId) (m : Nat) : (s.jogGranted p k m).lasting = s.lasting :=
  lasting_modPack fun _ => rfl

theorem jogGranted_served (s : State) (p : PanelNo) (k : PackId) (m : Nat) (q : PanelNo) :
    (s.jogGranted p k m).served q = s.served q := served_modPack ..

theorem travelPack_of (h : s.flow p = .granted k m) : s.travelPack p = k := by
  simp only [State.travelPack, State.grantPack, h]
  rfl

/-! ### A travel jog -/

/-- The unit with a travel jog under way. -/
def State.jogDriven (s : State) (j : Jog) (k : PackId) (d : Dir) : State :=
  (({ s.jogGranted j.panel k 4 with jog := some j }).presetHoming j.panel d).driveTravel j.panel d false true

/-- The record of the panel of a travel jog under way. -/
def Panel.jogDriven (x : Panel) (d : Dir) (on : Bool) (deadline : Nat) : Panel :=
  Panel.setTravelling { x with count := if d = .inward ∧ x.certain = false then 4095 else x.count } d false true on deadline

theorem presetHoming_eq (s : State) (p : PanelNo) (d : Dir) : s.presetHoming p d =
    s.modPanel p fun x => { x with count := if d = .inward ∧ x.certain = false then 4095 else x.count } := by
  unfold State.presetHoming
  split
  · rename_i h
    refine modPanel_congr ?_
    cases hc : (s.panel p).certain <;> simp [h]
  · rename_i h
    exact (modPanel_self (by simp [h])).symm

theorem jogDriven_eq (s : State) (j : Jog) (k : PackId) (d : Dir) : s.jogDriven j k d =
    ({ s.jogGranted j.panel k 4 with jog := some j }).modPanel j.panel fun x =>
      x.jogDriven d s.enabled (s.now + s.params.tuning.stallPeriod) := by
  unfold State.jogDriven
  rw [presetHoming_eq, driveTravel_eq, modPanel_modPanel]
  have last := jogGranted_lasting s j.panel k 4
  have now : (s.jogGranted j.panel k 4).now = s.now := lasting_now last
  have enabled : (s.jogGranted j.panel k 4).enabled = s.enabled := modPack_enabled ..
  have params : (s.jogGranted j.panel k 4).params = s.params := lasting_params last
  generalize s.jogGranted j.panel k 4 = u at *
  rw [← now, ← params, ← enabled]
  rfl

theorem jogDriven_panel (s : State) (j : Jog) (k : PackId) (d : Dir) : (s.jogDriven j k d).panel j.panel =
    (s.panel j.panel).jogDriven d s.enabled (s.now + s.params.tuning.stallPeriod) := by
  rw [jogDriven_eq, modPanel_panel_self]
  exact congrArg (fun x : Panel => x.jogDriven d s.enabled _) (jogGranted_panel s j.panel k 4 j.panel)

theorem jogDriven_lasting (s : State) (j : Jog) (k : PackId) (d : Dir) : (s.jogDriven j k d).lasting = s.lasting := by
  unfold State.jogDriven
  rw [presetHoming_eq]
  refine (lasting_driveTravel ..).trans ((lasting_modPanel fun _ => ?_).trans (jogGranted_lasting s j.panel k 4))
  rfl

theorem jogDriven_packs (s : State) (j : Jog) (k : PackId) (d : Dir) :
    (s.jogDriven j k d).packA = (s.jogGranted j.panel k 4).packA ∧
    (s.jogDriven j k d).packB = (s.jogGranted j.panel k 4).packB := by
  rw [jogDriven_eq]; exact ⟨rfl, rfl⟩

theorem jogDriven_jog (s : State) (j : Jog) (k : PackId) (d : Dir) : (s.jogDriven j k d).jog = some j := by
  rw [jogDriven_eq]; rfl

theorem jogDriven_unserved (hn : s.noneServed) (j : Jog) (k : PackId) (d : Dir) : (s.jogDriven j k d).noneServed := by
  rw [jogDriven_eq]
  refine noneServed_modPanel (fun q => ?_) fun _ => ?_
  · exact (jogGranted_served s j.panel k 4 q).trans (hn q)
  · cases d <;> rfl

theorem jogDriven_travelPack (h : s.flow j.panel = .none) (k : PackId) (d : Dir) :
    (s.jogDriven j k d).travelPack j.panel = k := by
  obtain ⟨ha, hb⟩ := jogDriven_packs s j k d
  exact travelPack_of ((flow_congr ha hb _).trans (jogGranted_flow h k 4))

theorem jogDriven_trip (s : State) (j : Jog) (k : PackId) (d : Dir) : ((s.jogDriven j k d).pack k).trip = (s.pack k).trip := by
  have last : ((s.jogDriven j k d).lasting.pack k).trip = (s.lasting.pack k).trip := by rw [jogDriven_lasting]
  cases k <;> exact last

/-- A travel jog is chopped at once where the trip of its pack stands RAISED (R107). -/
theorem jogTravel_eq (hp : s.jogPack j.panel 4 = some k) (d : Dir) : (s.grantJog j.panel 4).jogTravel j d =
    if (s.pack k).trip then (s.jogDriven j k d).chopPanel j.panel else .ok (s.jogDriven j k d) := by
  have travelling : ((s.jogDriven j k d).panel j.panel).travelling = true := by rw [jogDriven_panel]; cases d <;> rfl
  have run : (s.grantJog j.panel 4).jogTravel j d = (s.jogDriven j k d).chopIfTripped j.panel := by
    rw [grantJog_some hp (by decide)]; rfl
  rw [run, State.chopIfTripped, travelling, jogDriven_travelPack (jogPack_some hp).2, jogDriven_trip]
  rfl

/-! ### A travel jog that is chopped -/

/-- The jog's first chop, at a chop limit above 1. -/
theorem jogTravel_chopped (hp : s.jogPack j.panel 4 = some k) (d : Dir) (ht : (s.pack k).trip = true)
    (hl : 1 < s.params.tuning.chopLimit) :
    (s.grantJog j.panel 4).jogTravel j d = .ok ((s.jogDriven j k d).chopWarned j.panel) := by
  rw [jogTravel_eq hp, ht]
  refine (if_pos rfl).trans (chopPanel_below ?_)
  have chop : ((s.jogDriven j k d).panel j.panel).chop = 0 := by rw [jogDriven_panel]; cases d <;> rfl
  have params : (s.jogDriven j k d).params = s.params := lasting_params (jogDriven_lasting s j k d)
  rw [chop, params]
  omega

/-- The jog's first chop, at a chop limit of 1: TRAVEL_OVERLOAD. -/
theorem jogTravel_overloaded (hp : s.jogPack j.panel 4 = some k) (d : Dir) (ht : (s.pack k).trip = true)
    (hl : s.params.tuning.chopLimit ≤ 1) :
    (s.grantJog j.panel 4).jogTravel j d = ((s.jogDriven j k d).overloaded j.panel).raise j.panel .travelOverload := by
  rw [jogTravel_eq hp, ht]
  refine (if_pos rfl).trans (chopPanel_limit ?_)
  have params : (s.jogDriven j k d).params = s.params := lasting_params (jogDriven_lasting s j k d)
  rw [params]
  omega

/-! ### The start of a jog -/

theorem lasting_grantJog (s : State) (p : PanelNo) (m : Nat) : (s.grantJog p m).lasting = s.lasting := by
  unfold State.grantJog
  split
  · split
    · rfl
    · exact lasting_modPack fun _ => rfl
  · rfl

theorem lasting_jogTravel (s : State) (j : Jog) (d : Dir) : (s.jogTravel j d).st.lasting = s.lasting := by
  unfold State.jogTravel
  rw [presetHoming_eq]
  refine (lasting_chopIfTripped ..).trans ((lasting_driveTravel ..).trans (lasting_modPanel fun _ => ?_))
  rfl

theorem lasting_jogCleat (s : State) (j : Jog) (g : GroupNo) (d : CleatDir) (time : Nat) :
    (s.jogCleat j g d time).st.lasting = s.lasting := by
  unfold State.jogCleat
  dsimp only
  split
  · exact (lasting_dropFlow ..).trans (lasting_startMove ..)
  · exact lasting_startMove ..

theorem lasting_jogCoil (s : State) (j : Jog) : (s.jogCoil j).st.lasting = s.lasting := by
  unfold State.jogCoil
  refine (lasting_modPanel fun _ => ?_).trans (lasting_energise ..)
  rfl

theorem startJog_travel (s : State) (p : PanelNo) (d : Dir) (time : Nat) :
    s.startJog p d.coil time = (s.grantJog p 4).jogTravel ⟨p, d.coil, s.now + time⟩ d := by cases d <;> rfl

theorem startJog_cleat (s : State) (p : PanelNo) (d : CleatDir) (g : GroupNo) (time : Nat) :
    s.startJog p (d.coil g) time = (s.grantJog p 2).jogCleat ⟨p, d.coil g, s.now + time⟩ g d time := by cases d <;> rfl

theorem startJog_coil (s : State) (p : PanelNo) (time : Nat) (h1 : ∀ d : Dir, c ≠ d.coil) (h2 : ∀ (d : CleatDir) g, c ≠ d.coil g) :
    s.startJog p c time = (s.grantJog p (coilDemand c)).jogCoil ⟨p, c, s.now + time⟩ := by
  cases c with
  | travelOut => exact absurd rfl (h1 .outward)
  | travelIn => exact absurd rfl (h1 .inward)
  | cleatRel g => exact absurd rfl (h2 .release g)
  | cleatEng g => exact absurd rfl (h2 .engage g)
  | _ => rfl

theorem lasting_startJog (s : State) (p : PanelNo) (c : Coil) (time : Nat) : (s.startJog p c time).st.lasting = s.lasting := by
  obtain ⟨d, rfl⟩ | ⟨d, g, rfl⟩ | ⟨h1, h2⟩ := Coil.cases_drive c
  · rw [startJog_travel]; exact (lasting_jogTravel ..).trans (lasting_grantJog ..)
  · rw [startJog_cleat]; exact (lasting_jogCleat ..).trans (lasting_grantJog ..)
  · rw [startJog_coil s p time h1 h2]; exact (lasting_jogCoil ..).trans (lasting_grantJog ..)

/-! ### What the request checks -/

section
variable {panel coil : Byte} {time : Half}

/-- Every check of R196 but the last. -/
structure State.JogOk (s : State) (n : StationNo) (panel coil : Byte) (time : Half) (p : PanelNo) (c : Coil) : Prop where
  unit : s.unit = .service
  panel : panelArg panel = some p
  coil : coilArg coil = some c
  short : 100 ≤ time.toNat
  long : time.toNat ≤ 5000
  configured : s.configured p = true
  station : s.serviceStation = some n
  sound : (s.panel p).faults = []
  free : s.jog = none
  idle : (s.panel p).activity = .idle
  conditions : s.jogConditions p c = true
  flow : s.jogFlow p c = true

theorem ownerJog_eq (h : s.JogOk n panel coil time p c) : ownerJog n panel coil time s =
    if Coil.isCleat c && (s.panel p).move.isSome then refuse s .busy else accept (s.startJog p c time.toNat).settle := by
  unfold ownerJog
  rw [if_neg (by simp [h.unit]), h.panel, h.coil]
  dsimp only
  rw [if_neg (by simp [h.short, h.long]), if_neg (by simp [h.configured]), if_neg (by simp [h.station]),
    if_neg (by simp [h.sound]), if_neg (by simp [h.free, State.idlePanel, h.idle]), if_neg (by simp [h.conditions]),
    if_neg (by simp [h.flow])]

theorem isCleat_iff : Coil.isCleat c = true ↔ ∃ (d : CleatDir) (g : GroupNo), c = d.coil g := by
  constructor
  · intro h
    cases c with
    | cleatRel g => exact ⟨.release, g, rfl⟩
    | cleatEng g => exact ⟨.engage, g, rfl⟩
    | _ => cases h
  · rintro ⟨d, g, rfl⟩
    cases d <;> rfl

end

end Sys2Proof.Machine
end

section
/-! What a JOG leaves, by the kind of its coil (R197, R107, R108). -/

namespace Sys2Proof.Machine

variable {s t u : State} {p q : PanelNo} {k : PackId} {c : Coil} {n : StationNo} {panel coil : Byte} {time : Half}

theorem jogConditions_enabled (h : s.jogConditions p c = true) : s.enabled = true := by
  unfold State.jogConditions at h
  exact (Bool.and_eq_true_iff.1 h).1

theorem jogPack_of_travel {d : Dir} (h : s.jogFlow p d.coil = true) (hk : s.servingPack p = some k) :
    s.jogPack p 4 = some k := by
  have need : coilDemand d.coil = 4 := by cases d <;> rfl
  unfold State.jogFlow at h
  rw [need] at h
  obtain ⟨l, hl⟩ := Option.isSome_iff_exists.1 (show (s.jogPack p 4).isSome = true by simpa using h)
  have := (jogPack_some hl).1
  rw [hk] at this
  obtain rfl := Option.some.inj this
  exact hl

theorem chopWarned_eq (s : State) (p : PanelNo) : ∃ l, s.chopWarned p = { s.modPanel p fun x =>
    { x.chopped s.now s.params.tuning.chopHoldoff with warnings := joinSet allPanelWarnings .travelTrip x.warnings } with
      latches := l } := by
  refine ⟨(s.chopWarned p).latches, ?_⟩
  unfold State.chopWarned State.warn
  rw [modPanel_modPanel]
  exact setLatch_eq _ _

/-- What the last chop leaves of the rest, its fault not yet raised. -/
theorem overloaded_kept (s : State) (p : PanelNo) : (s.overloaded p).lasting = s.lasting ∧
    (s.noneServed → (s.overloaded p).noneServed) ∧ (s.overloaded p).packA = s.packA ∧ (s.overloaded p).packB = s.packB ∧
    (s.overloaded p).jog = s.jog := by
  have last : (s.overloaded p).lasting = (s.chopWarned p).lasting := lasting_modPanel fun _ => rfl
  refine ⟨last.trans (chopWarned_same s p).1, fun hs => ?_, ?_⟩
  · refine noneServed_modPanel ?_ fun _ => rfl
    exact (ended_latch _ _).served (noneServed_modPanel (noneServed_modPanel hs fun _ => rfl) fun _ => rfl)
  · unfold State.overloaded
    obtain ⟨l, e⟩ := chopWarned_eq s p
    rw [e]
    exact ⟨rfl, rfl, rfl⟩

/-- A panel that no pack names any more is named by none after the work that follows where no order is served. -/
theorem State.Repacked.flow_none (h : s.Repacked t) (hs : s.flow p = .none) : t.flow p = .none := by
  rw [flow_eq_none] at hs ⊢
  exact ⟨fun hp => hs.1 (h.2 .a p hp), fun hp => hs.2 (h.2 .b p hp)⟩

/-! ### A travel jog -/

section
variable {d : Dir} (h : s.JogOk n panel coil time p d.coil) (hk : s.servingPack p = some k) (m : Nat)
include h hk

/-- A travel jog whose pack's trip is CLEAR. -/
theorem jog_clear (ht : (s.pack k).trip = false) :
    (s.startJog p d.coil m).settle = s.jogDriven ⟨p, d.coil, s.now + m⟩ k d := by
  have flow := jogPack_of_travel h.flow hk
  rw [startJog_travel, jogTravel_eq (j := ⟨p, d.coil, s.now + m⟩) flow, ht]
  exact settle_ok _

/-- A travel jog that is chopped at once, and goes on. -/
theorem jog_chopped (ht : (s.pack k).trip = true) (hl : 1 < s.params.tuning.chopLimit) :
    (s.startJog p d.coil m).settle = (s.jogDriven ⟨p, d.coil, s.now + m⟩ k d).chopWarned p := by
  have flow := jogPack_of_travel h.flow hk
  rw [startJog_travel, jogTravel_chopped (j := ⟨p, d.coil, s.now + m⟩) flow d ht hl]
  exact settle_ok _

/-- The record of the panel of a travel jog. -/
def State.jogRecord (s : State) (p : PanelNo) (d : Dir) : Panel :=
  (s.panel p).jogDriven d s.enabled (s.now + s.params.tuning.stallPeriod)

/-- The record of the panel of a travel jog that has been chopped. -/
def State.choppedRecord (s : State) (p : PanelNo) (d : Dir) : Panel :=
  { (s.jogRecord p d).chopped s.now s.params.tuning.chopHoldoff with
    warnings := joinSet allPanelWarnings .travelTrip (s.panel p).warnings }

omit h hk in
theorem jogChopped_panel (s : State) (p : PanelNo) (d : Dir) (m : Nat) (k : PackId) :
    ((s.jogDriven ⟨p, d.coil, m⟩ k d).chopWarned p).panel p = s.choppedRecord p d := by
  have last := jogDriven_lasting s ⟨p, d.coil, m⟩ k d
  have panel := jogDriven_panel s ⟨p, d.coil, m⟩ k d
  rw [chopWarned_panel, lasting_now last, lasting_params last, panel]
  cases d <;> rfl

/-- A travel jog that is chopped at once at a chop limit of 1: it ends with TRAVEL_OVERLOAD. -/
theorem jog_overloaded (hn : s.noneServed) (hu : s.inStart = false) (ht : (s.pack k).trip = true)
    (hl : s.params.tuning.chopLimit ≤ 1) :
    let w := (s.startJog p d.coil m).settle
    w.jog = none ∧ w.flow p = .none ∧ .panelFault ∈ w.latches ∧ ∃ l v pl cl,
      w.panel p = { s.choppedRecord p d with
        coils := {}, mode := .coasting, activity := .braking, stall := .stopped, holdoff := none, stepTimer := none
        brakeTimer := some (s.now + s.params.tuning.brakingWindow), move := none, cleats := cl
        faults := [.travelOverload], overloadPack := some k, live := l, purpose := v, plan := pl } := by
  intro w
  have flow := jogPack_of_travel h.flow hk
  have none := (jogPack_some flow).2
  have start : (s.startJog p d.coil m).settle = _ := congrArg Res.settle ((startJog_travel s p d m).trans
    (jogTravel_overloaded (j := ⟨p, d.coil, s.now + m⟩) flow d ht hl))
  have jogged := jogChopped_panel s p d (s.now + m) k
  have last := jogDriven_lasting s ⟨p, d.coil, s.now + m⟩ k d
  have unserved := jogDriven_unserved hn ⟨p, d.coil, s.now + m⟩ k d
  have jog := jogDriven_jog s ⟨p, d.coil, s.now + m⟩ k d
  obtain ⟨packA, packB⟩ := jogDriven_packs s ⟨p, d.coil, s.now + m⟩ k d
  have placed := (placedOnce_congr packA packB).2 (jogGranted_placed none k 4)
  have pack := jogDriven_travelPack (j := ⟨p, d.coil, s.now + m⟩) none k d
  generalize s.jogDriven ⟨p, d.coil, s.now + m⟩ k d = v at *
  have record : (v.overloaded p).panel p = { s.choppedRecord p d with overloadPack := some k } := by
    unfold State.overloaded
    rw [modPanel_panel_self, jogged]
    exact congrArg (fun k => { s.choppedRecord p d with overloadPack := some k }) pack
  obtain ⟨last', unserved', packA', packB', jog'⟩ := overloaded_kept v p
  have last' := last'.trans last
  have sound : ((v.overloaded p).panel p).faults = [] := by
    rw [record, show (s.choppedRecord p d).faults = (s.panel p).faults by cases d <;> rfl]
    exact h.sound
  have configured : (v.overloaded p).configured p = true := (lasting_configured last' p).trans h.configured
  have started : (v.overloaded p).inStart = false := (lasting_inStart last').trans hu
  have now : (v.overloaded p).now = s.now := lasting_now last'
  have params : (v.overloaded p).params = s.params := lasting_params last'
  have new : .travelOverload ∉ ((v.overloaded p).panel p).faults := by rw [sound]; exact List.not_mem_nil
  obtain ⟨quiet, gone, empty, plain, l, x, pl, panel⟩ := raise_jogged (unserved' unserved) configured new (jog'.trans jog) rfl
    ((placedOnce_congr packA' packB').2 placed)
  have latched := raise_latched configured new started
  have settled := settle_unserved quiet gone plain
  rw [← start] at settled
  rw [sound, record, now, params] at panel
  have flow := settled.flow_none empty
  obtain ⟨⟨a, b, e⟩, -⟩ := settled
  have mode : (s.choppedRecord p d).mode = .driven := by cases d <;> rfl
  rw [Panel.off_driven (x := { s.choppedRecord p d with overloadPack := some k }) mode] at panel
  refine ⟨(congrArg State.jog e).trans gone, flow, (congrArg State.latches e).symm ▸ latched, l, x, pl, _,
    (congrArg (State.panel · p) e).trans panel⟩

end

/-! ### A cleat jog -/

theorem foldCleat_eq (f : Cleat → Cleat) : ∀ (ks : List CleatNo) (x : Panel),
    ∃ cl, ks.foldl (fun x k => x.modCleat k f) x = { x with cleats := cl }
  | [], x => ⟨x.cleats, rfl⟩
  | k :: ks, x => by
    obtain ⟨cl, e⟩ := foldCleat_eq f ks (x.modCleat k f)
    exact ⟨cl, e⟩

theorem atLevel_full {g : GroupNo} {d : CleatDir} :
    (s.atLevel p g d).length = (s.participants p g).length ↔ s.atLevel p g d = s.participants p g :=
  ⟨fun h => List.filter_sublist.eq_of_length h, congrArg List.length⟩

/-- The move that the start of a group move makes of its participants (R24). -/
def State.newMove (s : State) (p : PanelNo) (g : GroupNo) (d : CleatDir) (dwell window : Nat) (byJog : Bool) : Move :=
  { group := g, dir := d, participants := s.participants p g, confirmed := s.atLevel p g d, valve := true, start := s.now
    dwell := some (s.now + dwell), window := s.now + window, byJog := byJog }

/-- A move all of whose participants stand at the commanded level needs no valve (R24). -/
theorem startMove_full {g : GroupNo} {d : CleatDir} (h : s.atLevel p g d = s.participants p g) (a b : Nat) (x : Bool) :
    ∃ cl, (s.startMove p g d a b x).panel p = { s.panel p with cleats := cl } := by
  obtain ⟨cl, e⟩ := foldCleat_eq (fun c => c.confirm d 0) (s.atLevel p g d) (s.panel p)
  refine ⟨cl, ?_⟩
  unfold State.startMove
  dsimp only
  rw [if_pos (atLevel_full.2 h), modPanel_panel_self, e]

/-- Any other has its valve energised. -/
theorem startMove_part {g : GroupNo} {d : CleatDir} (h : s.atLevel p g d ≠ s.participants p g) (a b : Nat) (x : Bool) :
    ∃ cl, (s.startMove p g d a b x).panel p = { s.panel p with
      cleats := cl, move := some (s.newMove p g d a b x), activity := if x then .jog else .cleatMove g d
      coils := if s.enabled then (s.panel p).coils.put true (d.coil g) else (s.panel p).coils } := by
  obtain ⟨cl, e⟩ := foldCleat_eq (fun c => c.confirm d 0) (s.atLevel p g d) (s.panel p)
  refine ⟨cl, ?_⟩
  unfold State.startMove
  dsimp only
  rw [if_neg (mt atLevel_full.1 h), energise_eq, modPanel_panel_self, modPanel_panel_self, modPanel_panel_self, e]
  rfl

theorem startMove_jog (s : State) (p : PanelNo) (g : GroupNo) (d : CleatDir) (a b : Nat) (x : Bool) :
    (s.startMove p g d a b x).jog = s.jog := by
  unfold State.startMove
  dsimp only
  split
  · rfl
  · rw [energise_eq]; rfl

theorem startMove_served (s : State) (p : PanelNo) (g : GroupNo) (d : CleatDir) (a b : Nat) (x : Bool) (q : PanelNo) :
    (s.startMove p g d a b x).served q = s.served q := by
  refine served_congr ?_ (startMove_slots g d a b x)
  by_cases e : p = q
  · subst e
    by_cases h : s.atLevel p g d = s.participants p g
    · obtain ⟨cl, e⟩ := startMove_full h a b x
      rw [e]
    · obtain ⟨cl, e⟩ := startMove_part h a b x
      rw [e]
  · rw [startMove_panel_ne g d a b x e]

/-- A jog's grant leaves all that a cleat move starts from. -/
theorem grantJog_kept (s : State) (p : PanelNo) (m : Nat) : (∀ q, (s.grantJog p m).panel q = s.panel q) ∧
    (∀ q g, (s.grantJog p m).participants q g = s.participants q g) ∧
    (∀ q g d, (s.grantJog p m).atLevel q g d = s.atLevel q g d) ∧ (s.grantJog p m).now = s.now ∧
    (s.grantJog p m).enabled = s.enabled ∧ (s.grantJog p m).jog = s.jog ∧
    (s.grantJog p m).params = s.params ∧ ∀ q, (s.grantJog p m).served q = s.served q := by
  unfold State.grantJog
  split
  · split
    · exact ⟨fun _ => rfl, fun _ _ => rfl, fun _ _ _ => rfl, rfl, rfl, rfl, rfl, fun _ => rfl⟩
    · rename_i k _ _
      cases k <;> exact ⟨fun _ => rfl, fun _ _ => rfl, fun _ _ _ => rfl, rfl, rfl, rfl, rfl, fun _ => rfl⟩
  · exact ⟨fun _ => rfl, fun _ _ => rfl, fun _ _ _ => rfl, rfl, rfl, rfl, rfl, fun _ => rfl⟩

/-- A cleat jog that needs no valve ends at once. -/
theorem jog_needless {g : GroupNo} {d : CleatDir} (hc : c = d.coil g) (hn : s.noneServed) (hj : s.jog = none)
    (hv : (s.panel p).move = none)
    (h : s.atLevel p g d = s.participants p g) (m : Nat) : (s.startJog p c m).settle.jog = none ∧
      ∃ cl, (s.startJog p c m).settle.panel p = { s.panel p with cleats := cl } := by
  subst hc
  obtain ⟨panel, parts, level, now, -, jog, params, served⟩ := grantJog_kept s p 2
  have start := startJog_cleat s p d g m
  generalize s.grantJog p 2 = u at *
  obtain ⟨cl, moved⟩ := startMove_full (p := p) ((level p g d).trans (h.trans (parts p g).symm)) m
    (max u.params.tuning.confirmationWindow m) true
  have moved := moved.trans (congrArg (fun x : Panel => { x with cleats := cl }) (panel p))
  have kept := startMove_jog u p g d m (max u.params.tuning.confirmationWindow m) true
  have unserved (q : PanelNo) := (startMove_served u p g d m (max u.params.tuning.confirmationWindow m) true q).trans
    ((served q).trans (hn q))
  have run : s.startJog p (d.coil g) m =
      (u.startMove p g d m (max u.params.tuning.confirmationWindow m) true).dropFlow p := by
    rw [start]
    unfold State.jogCleat
    exact if_pos (by rw [moved, hv]; rfl)
  rw [run]
  generalize u.startMove p g d m (max u.params.tuning.confirmationWindow m) true = v at *
  have dropped := repacked_dropFlow v p
  have settled := dropped.trans (settle_unserved (r := v.dropFlow p) (fun q => (dropped.served q).trans (unserved q))
    (by obtain ⟨⟨a, b, e⟩, -⟩ := dropped; rw [e]; exact kept.trans (jog.trans hj)) (dropFlow_plain v p))
  obtain ⟨⟨a, b, e⟩, -⟩ := settled
  exact ⟨(congrArg State.jog e).trans (kept.trans (jog.trans hj)), cl, (congrArg (State.panel · p) e).trans moved⟩

/-- Any other cleat jog makes a move of its group. -/
theorem jog_moves {g : GroupNo} {d : CleatDir} (hc : c = d.coil g) (h : s.atLevel p g d ≠ s.participants p g) (m : Nat) :
    (s.startJog p c m).settle.jog = some ⟨p, c, s.now + m⟩ ∧
      ∃ cl, (s.startJog p c m).settle.panel p = { s.panel p with
        cleats := cl, move := some (s.newMove p g d m (max s.params.tuning.confirmationWindow m) true), activity := .jog
        coils := if s.enabled then (s.panel p).coils.put true c else (s.panel p).coils } := by
  subst hc
  obtain ⟨panel, parts, level, now, enabled, -, params, -⟩ := grantJog_kept s p 2
  have start := startJog_cleat s p d g m
  have moves : (s.grantJog p 2).newMove p g d m (max (s.grantJog p 2).params.tuning.confirmationWindow m) true =
      s.newMove p g d m (max s.params.tuning.confirmationWindow m) true := by
    unfold State.newMove
    rw [parts, level, now, params]
  generalize s.grantJog p 2 = u at *
  have unlike : u.atLevel p g d ≠ u.participants p g := fun e => h ((level p g d).symm.trans (e.trans (parts p g)))
  obtain ⟨cl, moved⟩ := startMove_part unlike m (max u.params.tuning.confirmationWindow m) true
  rw [moves, panel, enabled] at moved
  have run : s.startJog p (d.coil g) m =
      .ok { u.startMove p g d m (max u.params.tuning.confirmationWindow m) true with jog := some ⟨p, d.coil g, s.now + m⟩ } := by
    rw [start]
    unfold State.jogCleat
    exact if_neg (by rw [moved]; simp)
  rw [run, settle_ok]
  exact ⟨rfl, cl, moved⟩

/-! ### Any other jog -/

theorem jog_energises (hn : s.noneServed) (h1 : ∀ d : Dir, c ≠ d.coil) (h2 : ∀ (d : CleatDir) g, c ≠ d.coil g) (m : Nat) :
    (s.startJog p c m).settle.jog = some ⟨p, c, s.now + m⟩ ∧ (s.startJog p c m).settle.panel p = { s.panel p with
      activity := .jog, coils := if s.enabled then (s.panel p).coils.put true c else (s.panel p).coils } := by
  obtain ⟨panel, -, -, -, enabled, -, -, served⟩ := grantJog_kept s p (coilDemand c)
  have start := startJog_coil s p m h1 h2
  generalize s.grantJog p (coilDemand c) = u at *
  have run : u.jogCoil ⟨p, c, s.now + m⟩ = ⟨({ u with jog := some ⟨p, c, s.now + m⟩ }).modPanel p fun x =>
      { x.energised u.enabled c with activity := .jog }, [.retest (partner p)]⟩ := by
    unfold State.jogCoil
    rw [energise_eq, modPanel_modPanel]
    rfl
  have unserved : (({ u with jog := some ⟨p, c, s.now + m⟩ }).modPanel p fun x =>
      { x.energised u.enabled c with activity := .jog }).noneServed :=
    noneServed_modPanel (fun q => (served q).trans (hn q)) fun _ => rfl
  rw [start, run, settle_idle (by simp [runJob, retest_unserved (unserved _)])]
  refine ⟨rfl, ?_⟩
  rw [modPanel_panel_self, enabled]
  exact congrArg (fun x : Panel => { x.energised s.enabled c with activity := .jog }) (panel p)

/-- What a travel jog leaves, as the statement asks it. -/
theorem jog_travels {d : Dir} (hc : c = d.coil) (h : s.JogOk n panel coil time p c) (hk : s.servingPack p = some k)
    (hn : s.noneServed)
    (hu : s.inStart = false) (m : Nat) :
    let t := (s.startJog p c m).settle
    ((s.pack k).trip = false →
      t.jog = some ⟨p, c, s.now + m⟩ ∧ (t.panel p).mode = .driven ∧ (t.panel p).lastDir = some d ∧
      (t.panel p).activity = .jog ∧ (t.panel p).coils.get c = true ∧ (t.panel p).coils.brakeRelease = true ∧
      (t.panel p).coils.fast = (s.panel p).coils.fast ∧ (t.panel p).creep = 0 ∧ (t.panel p).chop = 0 ∧
      (t.panel p).stall = .running (s.now + s.params.tuning.stallPeriod) ∧
      (t.panel p).warnings = (s.panel p).warnings ∧ (t.panel p).move = (s.panel p).move) ∧
    ((s.pack k).trip = true → .travelTrip ∈ (t.panel p).warnings ∧ (t.panel p).chop = 1 ∧
      (t.panel p).lastDir = some d ∧ (t.panel p).coils.travelOut = false ∧ (t.panel p).coils.travelIn = false ∧
      (t.panel p).coils.fast = false ∧
      (1 < s.params.tuning.chopLimit →
        t.jog = some ⟨p, c, s.now + m⟩ ∧ (t.panel p).mode = .driven ∧ (t.panel p).activity = .jog ∧
        (t.panel p).coils.brakeRelease = true ∧ (t.panel p).faults = [] ∧
        (t.panel p).holdoff = some (s.now + s.params.tuning.chopHoldoff) ∧
        (t.panel p).stall = .suspended s.params.tuning.stallPeriod ∧ (t.panel p).move = (s.panel p).move) ∧
      (s.params.tuning.chopLimit ≤ 1 →
        t.jog = none ∧ (t.panel p).mode = .coasting ∧ (t.panel p).activity = .braking ∧ (t.panel p).coils = {} ∧
        (t.panel p).faults = [.travelOverload] ∧ (t.panel p).overloadPack = some k ∧ .panelFault ∈ t.latches ∧
        (t.panel p).brakeTimer = some (s.now + s.params.tuning.brakingWindow) ∧ (t.panel p).holdoff = none ∧
        (t.panel p).stall = .stopped ∧ (t.panel p).move = none ∧ t.flow p = .none)) := by
  subst hc
  intro t
  have enabled := jogConditions_enabled h.conditions
  refine ⟨fun ht => ?_, fun ht => ?_⟩
  · have e : t = _ := jog_clear h hk m ht
    have panel := jogDriven_panel s ⟨p, d.coil, s.now + m⟩ k d
    have jog := jogDriven_jog s ⟨p, d.coil, s.now + m⟩ k d
    rw [← e] at panel jog
    rw [enabled] at panel
    refine ⟨jog, ?_⟩
    change t.panel p = _ at panel
    rw [panel]
    cases d <;> exact ⟨rfl, rfl, rfl, rfl, rfl, rfl, rfl, rfl, rfl, rfl, rfl⟩
  · have warned : .travelTrip ∈ (s.choppedRecord p d).warnings := mem_joinSet.2 ⟨mem_allPanelWarnings _, .inl rfl⟩
    have terms : (s.choppedRecord p d).chop = 1 ∧ (s.choppedRecord p d).lastDir = some d ∧
        (s.choppedRecord p d).coils.travelOut = false ∧ (s.choppedRecord p d).coils.travelIn = false ∧
        (s.choppedRecord p d).coils.fast = false := by cases d <;> exact ⟨rfl, rfl, rfl, rfl, rfl⟩
    obtain ⟨chop, dir, out, inn, fast⟩ := terms
    by_cases hl : 1 < s.params.tuning.chopLimit
    · have e : t = _ := jog_chopped h hk m ht hl
      have panel := jogChopped_panel s p d (s.now + m) k
      have jog : ((s.jogDriven ⟨p, d.coil, s.now + m⟩ k d).chopWarned p).jog = some ⟨p, d.coil, s.now + m⟩ := by
        obtain ⟨l, e⟩ := chopWarned_eq (s.jogDriven ⟨p, d.coil, s.now + m⟩ k d) p
        rw [e]
        exact jogDriven_jog s ⟨p, d.coil, s.now + m⟩ k d
      rw [← e] at panel jog
      rw [panel]
      refine ⟨warned, chop, dir, out, inn, fast, fun _ => ⟨jog, ?_⟩, fun h => absurd hl (Nat.not_lt.2 h)⟩
      have stall : (s.now + s.params.tuning.stallPeriod) - s.now = s.params.tuning.stallPeriod := Nat.add_sub_cancel_left ..
      have brake : (s.choppedRecord p d).coils.brakeRelease = true := by
        unfold State.choppedRecord State.jogRecord
        rw [enabled]
        cases d <;> rfl
      refine ⟨?_, ?_, brake, ?_, ?_, ?_, ?_⟩
      · cases d <;> rfl
      · cases d <;> rfl
      · rw [show (s.choppedRecord p d).faults = (s.panel p).faults by cases d <;> rfl]; exact h.sound
      · cases d <;> rfl
      · rw [show (s.choppedRecord p d).stall = .suspended ((s.now + s.params.tuning.stallPeriod) - s.now) by cases d <;> rfl,
          stall]
      · cases d <;> rfl
    · obtain ⟨jog, flow, latched, l, v, pl, cl, panel⟩ := jog_overloaded h hk m hn hu ht (Nat.not_lt.1 hl)
      change t.panel p = _ at panel
      rw [panel]
      exact ⟨warned, chop, dir, rfl, rfl, rfl, fun h => absurd h hl,
        fun _ => ⟨jog, rfl, rfl, rfl, rfl, rfl, latched, rfl, rfl, rfl, rfl, flow⟩⟩

/-- Settles O46, by the kind of the coil. -/
theorem jogsDriveTheirCoil : Obligations.JogsDriveTheirCoil := by
  intro s n tag panel coil time p c hr hu hn hp hc hlo hhi hconf hst hf hj ha hcond hflow cleatCoil started
  have ok : (s.taken n).JogOk n panel coil time p c := ⟨hu, hp, hc, hlo, hhi, hconf, hst, hf, hj, ha, hcond, hflow⟩
  have unserved : (s.taken n).noneServed := hn
  have begun : (s.taken n).inStart = false := hr.2.2.1
  refine ⟨fun hcl hm => ?_, fun hfree => ?_⟩
  · refine request_eq_replied hr ((ownerJog_eq ok).trans (if_pos ?_))
    exact Bool.and_eq_true_iff.2 ⟨isCleat_iff.2 hcl, Option.isSome_iff_ne_none.2 hm⟩
  · have owner : ownerJog n panel coil time (s.taken n) = accept ((s.taken n).startJog p c time.toNat).settle := by
      refine (ownerJog_eq ok).trans (if_neg ?_)
      rw [Bool.and_eq_true_iff, isCleat_iff, Option.isSome_iff_ne_none]
      exact fun ⟨h1, h2⟩ => hfree.elim (· h1) h2
    have hx : exec (.jog n tag panel coil time) s = _ := request_accept hr owner tag
    have last : ((s.taken n).startJog p c time.toNat).settle.lasting = (s.taken n).lasting :=
      (lasting_settle _).trans (lasting_startJog ..)
    have travels (d : Dir) (k : PackId) (hd : c = d.coil) (hk : s.servingPack p = some k) :=
      jog_travels hd ok (k := k) hk unserved begun time.toNat
    have needless (d : CleatDir) (g : GroupNo) (hd : c = d.coil g) :=
      jog_needless hd unserved hj (hfree.resolve_left (not_not_intro ⟨d, g, hd⟩)) (m := time.toNat)
    have moves (d : CleatDir) (g : GroupNo) (hd : c = d.coil g) :=
      jog_moves (s := s.taken n) (p := p) hd (m := time.toNat)
    have other (h1 : ∀ d : Dir, c ≠ d.coil) (h2 : ¬ cleatCoil) :=
      jog_energises (s := s.taken n) (p := p) unserved h1 (fun d g e => h2 ⟨d, g, e⟩) time.toNat
    have enabled : (s.taken n).enabled = true := jogConditions_enabled hcond
    generalize ((s.taken n).startJog p c time.toNat).settle = w at *
    refine ⟨_, hx, txQueue_of_taken last, records_of_taken last, travels, fun d g hd => ⟨fun h => ?_, fun h => ?_⟩,
      fun h1 h2 => ?_⟩
    · obtain ⟨jog, cl, e⟩ := needless d g hd h
      refine ⟨jog, ?_⟩
      change (w.panel p).coils = _ ∧ (w.panel p).activity = _
      rw [e]
      exact ⟨rfl, ha⟩
    · obtain ⟨jog, cl, e⟩ := moves d g hd h
      refine ⟨jog, ?_⟩
      change (w.panel p).coils.get c = true ∧ ∃ m, (w.panel p).move = some m ∧ _
      rw [e, enabled]
      refine ⟨?_, _, rfl, rfl, rfl, rfl, rfl, rfl, rfl⟩
      rw [hd]
      exact (Coils.get_put ..).trans (if_pos rfl)
    · obtain ⟨jog, e⟩ := other h1 h2
      refine ⟨jog, ?_⟩
      change (w.panel p).activity = _ ∧ (w.panel p).coils = _ ∧ (w.panel p).move = _
      rw [e, enabled]
      exact ⟨rfl, rfl, rfl⟩

end Sys2Proof.Machine
end

section
/-! START_END (R20, R37, R158, R161, R162, R193, R194). -/

namespace Sys2Proof.Machine

variable {L : Leave} {s t u : State} {p q : PanelNo} {k : CardNo} {r : Option Int} {f : PanelFault}

/-! ### What the work in START leaves of a panel -/

/-- What a warning, the check of FAST and a raise leave of a panel's record. -/
structure Panel.Stands (x y : Panel) : Prop where
  certain : y.certain = x.certain
  cleats : x.move = none → y.cleats = x.cleats ∧ y.move = none
  faults : ∀ f ∈ x.faults, f ∈ y.faults

theorem Panel.Stands.refl (x : Panel) : x.Stands x := ⟨rfl, fun h => ⟨rfl, h⟩, fun _ h => h⟩

theorem Panel.Stands.trans {x y z : Panel} (a : x.Stands y) (b : y.Stands z) : x.Stands z where
  certain := b.certain.trans a.certain
  cleats := fun h => ⟨(b.cleats (a.cleats h).2).1.trans (a.cleats h).1, (b.cleats (a.cleats h).2).2⟩
  faults := fun f h => b.faults f (a.faults f h)

/-- In START no panel has a live order, and there is no jog. -/
theorem State.Linked.start (hs : s.Linked) (hu : s.inStart = true) : (∀ p, (s.panel p).live = none) ∧ s.jog = none := by
  have start : s.unit ≠ .run ∧ s.unit ≠ .service := by
    unfold State.inStart at hu
    constructor <;> intro e <;> rw [e] at hu <;> cases hu
  refine ⟨fun p => ?_, ?_⟩
  · cases h : (s.panel p).live with
    | none => rfl
    | some id =>
      obtain ⟨i, o, ho, -, -, hl⟩ := hs.order p id h
      rw [hs.idle start.1 start.2 i o ho] at hl
      cases hl
  · cases h : s.jog with
    | none => rfl
    | some j => exact absurd (hs.jog j h).1 start.2

theorem stands_raise (hs : s.Linked) (hu : s.inStart = true) (p : PanelNo) (f : PanelFault) (q : PanelNo) :
    (s.panel q).Stands ((s.raise p f).st.panel q) := by
  obtain ⟨live, jog⟩ := hs.start hu
  by_cases e : p = q
  · subst e
    by_cases hc : s.configured p = true ∧ f ∉ (s.panel p).faults
    · obtain ⟨v, pl, record⟩ := (raised hs hc.1 hc.2).record
      obtain ⟨-, certain, -⟩ := (s.panel p).off_counter s.now s.params.tuning.brakingWindow
      have whole := (raised hs hc.1 hc.2).kept.2.2.1
      rw [record]
      refine ⟨certain, fun h => ⟨?_, ((s.panel p).off_atRest _ _).move⟩, fun g h => ?_⟩
      · rw [record] at whole
        exact whole.trans (Panel.cut_cleats_none h)
      · exact mem_joinSet.2 ⟨mem_allPanelFaults g, .inr h⟩
    · have same : s.raise p f = .ok s := by
        unfold State.raise
        refine if_pos ?_
        simp only [not_and, not_not] at hc
        cases h : s.configured p with
        | false => rfl
        | true => simp [hc h]
      rw [same]
      exact .refl _
  · rw [WorksOn.panel_eq (worksOn_raise s p f) hs e (live q)]
    exact .refl _

theorem stands_raiseAll (f : PanelFault) (q : PanelNo) : ∀ (ps : List PanelNo) (s : State), s.Linked → s.inStart = true →
    (s.panel q).Stands ((s.raiseAll ps f).st.panel q)
  | [], s, _, _ => .refl _
  | p :: ps, s, hs, hu => by
    unfold State.raiseAll
    rw [each_cons_st]
    exact (stands_raise hs hu p f q).trans (stands_raiseAll f q ps _ ((worksOn_raise s p f).run.linked hs)
      ((lasting_inStart (lasting_raise s p f)).trans hu))

theorem stands_cardSlowed (s : State) (k : CardNo) (r : Option Int) (q : PanelNo) :
    (s.panel q).Stands ((s.cardSlowed k r).panel q) := by
  obtain ⟨ws, record⟩ := cardWarned_panel s k r q
  unfold State.cardSlowed
  rw [fold_checkFast (s := s.cardWarned k r) _ _ fun _ _ => rfl,
    (fold_modPanel (fun p x => x.fastChecked ((s.cardWarned k r).mayFast p x)) (s.cardPanels k) _
      (allPanels_nodup.filter _)).2 q, record]
  unfold Panel.fastChecked
  split
  · split
    · exact ⟨rfl, fun h => ⟨rfl, h⟩, fun _ h => h⟩
    · exact ⟨rfl, fun h => ⟨rfl, h⟩, fun _ h => h⟩
  · exact ⟨rfl, fun h => ⟨rfl, h⟩, fun _ h => h⟩

/-! ### The cards -/

theorem linked_carded (hs : s.Linked) (k : CardNo) (r : Option Int) : (s.carded k r).Linked := hs.of_same {} fun _ => .inl rfl

theorem changes_cardWarned (s : State) (k : CardNo) (r : Option Int) :
    Changes Leave.all (s.carded k r) (s.cardWarned k r) := by
  unfold State.cardWarned
  split
  · exact changes_warnAll _ _ _
  · exact .refl

theorem changes_card (s : State) (k : CardNo) (r : Option Int) : Changes Leave.all (s.carded k r) (s.takeCard k r).st :=
  ((changes_cardWarned s k r).trans (changes_cardSlowed s k r)).trans (changes_takeCard s k r)

theorem stands_takeCard (hs : s.Linked) (hu : s.inStart = true) (k : CardNo) (r : Option Int) (q : PanelNo) :
    (s.panel q).Stands ((s.takeCard k r).st.panel q) := by
  refine (stands_cardSlowed s k r q).trans ?_
  rw [takeCard_eq]
  split
  · exact stands_raiseAll _ q _ _
      (Changes.linked ((changes_cardWarned s k r).trans (changes_cardSlowed s k r)) (linked_carded hs k r))
      ((lasting_inStart (s := s.carded k r) (cardSlowed_lasting s k r)).trans hu)
  · exact .refl _

/-- What lasts but for the cards, as they are in `u`. -/
def State.cardless (s u : State) : State := { s.lasting with cards := u.cards, cardTemp := u.cardTemp }

theorem lasting_cards (h : t.lasting = s.lasting) : t.cards = s.cards :=
  (congrArg State.cards h : t.lasting.cards = s.lasting.cards)

theorem cardless_of_lasting (h : t.lasting = s.lasting) (u : State) : t.cardless u = s.cardless u := by
  unfold State.cardless
  rw [h]

/-- The cards whose readings have been taken at the end of START. -/
structure State.CardsTaken (s t : State) (ks : List CardNo) : Prop where
  linked : s.Linked → t.Linked
  rest : ∀ u, t.cardless u = s.cardless u
  latches : t.latches = s.latches
  temp : t.cardTemp = s.cardTemp
  cards : ∀ k : CardNo, t.cards[k] = if k ∈ ks then s.cards[k].next s.cardTemp[k] else s.cards[k]
  panels : s.Linked → ∀ q, (s.panel q).Stands (t.panel q)

theorem cardsTaken_one (hu : s.inStart = true) (k : CardNo) : s.CardsTaken (s.takeCard k s.cardTemp[k]).st [k] := by
  have run := changes_card s k s.cardTemp[k]
  have last := run.lasting
  have cards : (s.takeCard k s.cardTemp[k]).st.cards = s.cards.set k (s.cards[k].next s.cardTemp[k]) :=
    (congrArg State.cards last :)
  refine ⟨fun hs => Changes.linked run (linked_carded hs k _), fun u => cardless_of_lasting last u,
    Changes.latches_start (s := s.carded k _) run hu, ?_, fun j => ?_, fun hs q => stands_takeCard hs hu k _ q⟩
  · have temp : (s.takeCard k s.cardTemp[k]).st.cardTemp = s.cardTemp.set k s.cardTemp[k] := (congrArg State.cardTemp last :)
    rw [temp]
    simp
  · rw [cards]
    by_cases e : k = j
    · subst e; simp
    · have : k.val ≠ j.val := fun h => e (Fin.ext h)
      simp [this, Ne.symm e]

theorem cardless_inStart (h : ∀ u, t.cardless u = s.cardless u) : t.inStart = s.inStart :=
  (congrArg State.inStart (h s) :)

theorem cardsTaken_each : ∀ (ks : List CardNo) (s : State), ks.Nodup → s.inStart = true →
    s.CardsTaken (Res.each ks (fun k s => s.takeCard k s.cardTemp[k]) (.ok s)).st ks
  | [], s, _, _ => ⟨id, fun _ => rfl, rfl, rfl, fun k => by simp; rfl, fun _ _ => .refl _⟩
  | k :: ks, s, hk, hu => by
    obtain ⟨new, hk⟩ := List.nodup_cons.1 hk
    have one := cardsTaken_one hu k
    rw [each_cons_st]
    generalize (s.takeCard k s.cardTemp[k]).st = u at *
    have rest := cardsTaken_each ks u hk ((cardless_inStart one.rest).trans hu)
    refine ⟨fun hs => rest.linked (one.linked hs), fun v => (rest.rest v).trans (one.rest v), rest.latches.trans one.latches,
      rest.temp.trans one.temp, fun j => ?_, fun hs q => (one.panels hs q).trans (rest.panels (one.linked hs) q)⟩
    have here := one.cards j
    rw [rest.cards j, one.temp, here]
    by_cases e : j = k
    · subst e; simp [new]
    · simp [e]

/-! ### What a panel's switches give it at the end of START -/

/-- The panel's record derived from its switches (R20, R36). -/
def Panel.derived (x : Panel) : Panel :=
  { x with certain := x.seat == .seated && x.sw.home && x.creep == 0, cleats := x.cleats.map Cleat.fromSwitch }

theorem derived_lasting (x : Panel) : x.derived.lasting = x.lasting := by
  unfold Panel.lasting Panel.derived
  rw [Vector.map_map]
  rfl

/-- A panel's derivation, and the fault that its switches may raise. -/
theorem derivePanel_eq (s : State) (p : PanelNo) : State.derivePanel p s =
    if (s.panel p).sw.conflict then (s.modPanel p Panel.derived).raise p .sensorConflict else .ok (s.modPanel p Panel.derived) := by
  unfold State.derivePanel
  dsimp only
  rw [modPanel_panel_self]
  rfl

theorem linked_derived (hs : s.Linked) (p : PanelNo) : (s.modPanel p Panel.derived).Linked := linked_modPanel hs fun _ => rfl

theorem changes_derivePanel (s : State) (p : PanelNo) :
    Changes Leave.all (s.modPanel p Panel.derived) (State.derivePanel p s).st := by
  rw [derivePanel_eq]
  split
  · exact raise_changes _ _ _
  · exact .refl

/-- The panels whose first states have been derived. -/
structure State.PanelsDerived (s t : State) (ps : List PanelNo) : Prop where
  linked : s.Linked → t.Linked
  rest : t.lasting = s.lasting
  latches : t.latches = s.latches
  others : s.Linked → ∀ q, q ∉ ps → t.panel q = s.panel q
  derived : s.Linked → ∀ q, q ∈ ps → (s.panel q).derived.Stands (t.panel q)
  conflict : s.Linked → ∀ q, q ∈ ps → s.configured q = true → (s.panel q).sw.conflict = true →
    .sensorConflict ∈ (t.panel q).faults

theorem panelsDerived_one (hu : s.inStart = true) (p : PanelNo) : s.PanelsDerived (State.derivePanel p s).st [p] := by
  have run := changes_derivePanel s p
  have base : (s.modPanel p Panel.derived).lasting = s.lasting := lasting_modPanel derived_lasting
  have here : (s.modPanel p Panel.derived).panel p = (s.panel p).derived := modPanel_panel_self ..
  have linked (hs : s.Linked) : (s.modPanel p Panel.derived).Linked := linked_derived hs p
  refine ⟨fun hs => Changes.linked run (linked hs), run.lasting.trans base,
    Changes.latches_start (s := s.modPanel p Panel.derived) run hu, fun hs q hq => ?_, fun hs q hq => ?_,
    fun hs q hq hc hx => ?_⟩
  · have apart : p ≠ q := fun e => hq (by rw [e]; exact List.mem_singleton_self q)
    have same : (s.modPanel p Panel.derived).panel q = s.panel q := modPanel_panel_ne _ _ apart
    rw [derivePanel_eq]
    split
    · rw [WorksOn.panel_eq (worksOn_raise _ p _) (linked hs) apart (((linked hs).start hu).1 q), same]
    · exact same
  · obtain rfl := List.mem_singleton.1 hq
    rw [derivePanel_eq]
    split
    · exact here ▸ stands_raise (linked hs) hu q _ q
    · rw [Res.ok_st, here]
      exact .refl _
  · obtain rfl := List.mem_singleton.1 hq
    rw [derivePanel_eq, if_pos hx, raise_faults]
    split
    · exact mem_joinSet.2 ⟨mem_allPanelFaults _, .inl rfl⟩
    · rename_i h
      have configured : (s.modPanel q Panel.derived).configured q = true := hc
      simpa [configured] using h

theorem panelsDerived_each : ∀ (ps : List PanelNo) (s : State), ps.Nodup → s.inStart = true →
    s.PanelsDerived (Res.each ps State.derivePanel (.ok s)).st ps
  | [], s, _, _ => ⟨id, rfl, rfl, fun _ _ _ => rfl, fun _ _ h => absurd h List.not_mem_nil,
    fun _ _ h => absurd h List.not_mem_nil⟩
  | p :: ps, s, hp, hu => by
    obtain ⟨new, hp⟩ := List.nodup_cons.1 hp
    have one := panelsDerived_one hu p
    rw [each_cons_st]
    generalize (State.derivePanel p s).st = u at *
    have rest := panelsDerived_each ps u hp ((lasting_inStart one.rest).trans hu)
    refine ⟨fun hs => rest.linked (one.linked hs), rest.rest.trans one.rest, rest.latches.trans one.latches,
      fun hs q hq => ?_, fun hs q hq => ?_, fun hs q hq hc hx => ?_⟩
    · have apart : q ≠ p ∧ q ∉ ps := by simpa using hq
      exact (rest.others (one.linked hs) q apart.2).trans (one.others hs q (by simpa using apart.1))
    · by_cases e : q = p
      · subst e
        rw [rest.others (one.linked hs) q new]
        exact one.derived hs q (List.mem_singleton_self q)
      · have later : q ∈ ps := by simpa [e] using hq
        exact one.others hs q (by simpa using e) ▸ rest.derived (one.linked hs) q later
    · by_cases e : q = p
      · subst e
        rw [rest.others (one.linked hs) q new]
        exact one.conflict hs q (List.mem_singleton_self q) hc hx
      · have later : q ∈ ps := by simpa [e] using hq
        have same := one.others hs q (by simpa using e)
        exact rest.conflict (one.linked hs) q later ((lasting_configured one.rest q).trans hc) (by rw [same]; exact hx)

/-! ### The kept cleats of a restart against their switches -/

/-- A cleat's record after its state has been compared with its switch (R37). -/
def Cleat.rechecked (c : Cleat) : Cleat := if c.disagrees then { c with state := .unknown } else c

theorem Cleat.unknown_disagrees (c : Cleat) : Cleat.disagrees { c with state := .unknown } = false := rfl

theorem Cleat.rechecked_twice (c : Cleat) : c.rechecked.rechecked = c.rechecked := by
  unfold Cleat.rechecked
  split
  · rw [Cleat.unknown_disagrees, if_neg (by decide)]
  · rfl

/-- The cleats `A` have been compared with their switches. -/
structure State.Rechecked (A : PanelNo → CleatNo → Bool) (s t : State) : Prop where
  rest : t.lasting = s.lasting
  slots : t.slots = s.slots
  cleats : ∀ q (j : CleatNo), (t.panel q).cleats[j] = if A q j then (s.panel q).cleats[j].rechecked else (s.panel q).cleats[j]
  lost : s.inStart = false → ∀ q (j : CleatNo), A q j = true → (s.panel q).cleats[j].disagrees = true →
    .cleatLost ∈ (t.panel q).warnings ∧ .warning ∈ t.latches
  warnings : ∀ q, ∀ w ∈ (s.panel q).warnings, w ∈ (t.panel q).warnings
  latches : ∀ e ∈ s.latches, e ∈ t.latches

theorem State.Rechecked.refl (s : State) : s.Rechecked (fun _ _ => false) s :=
  ⟨rfl, rfl, fun _ _ => rfl, fun _ _ _ h => absurd h (by decide), fun _ _ h => h, fun _ h => h⟩

theorem State.Rechecked.trans {A B : PanelNo → CleatNo → Bool} (a : s.Rechecked A t) (b : t.Rechecked B u) :
    s.Rechecked (fun q j => A q j || B q j) u := by
  refine ⟨b.rest.trans a.rest, b.slots.trans a.slots, fun q j => ?_, fun hs q j hA hd => ?_,
    fun q w h => b.warnings q w (a.warnings q w h), fun e h => b.latches e (a.latches e h)⟩
  · rw [b.cleats q j, a.cleats q j]
    cases hA : A q j <;> cases hB : B q j
    · rfl
    · rfl
    · rfl
    · exact Cleat.rechecked_twice _
  · cases h : A q j with
    | true =>
      obtain ⟨warned, latched⟩ := a.lost hs q j h hd
      exact ⟨b.warnings q _ warned, b.latches _ latched⟩
    | false =>
      have hB : B q j = true := by simpa [h] using hA
      have same : (t.panel q).cleats[j] = (s.panel q).cleats[j] := by rw [a.cleats q j, h]; rfl
      exact b.lost ((lasting_inStart a.rest).trans hs) q j hB (same ▸ hd)

theorem State.Rechecked.of_eq {A B : PanelNo → CleatNo → Bool} (h : s.Rechecked A t) (same : ∀ q j, A q j = B q j) :
    s.Rechecked B t := (funext fun q => funext (same q) : A = B) ▸ h

/-- A panel's cleat against its switch. -/
def State.recheckCleat (s : State) (p : PanelNo) (k : CleatNo) : State :=
  if (s.panel p).cleats[k].disagrees then (s.modCleat p k fun c => { c with state := .unknown }).warn p .cleatLost else s

theorem Panel.modCleat_cleat (x : Panel) (k j : CleatNo) (f : Cleat → Cleat) :
    (x.modCleat k f).cleats[j] = if j = k then f x.cleats[k] else x.cleats[j] := by
  unfold Panel.modCleat Panel.setCleat
  by_cases e : j = k
  · subst e; simp
  · have apart : k.val ≠ j.val := fun h => e (Fin.ext h.symm)
    simp [apart, e]

theorem rechecked_one (s : State) (p : PanelNo) (k : CleatNo) :
    s.Rechecked (fun q j => decide (q = p ∧ j = k)) (s.recheckCleat p k) := by
  unfold State.recheckCleat
  split
  case isFalse h =>
    refine ⟨rfl, rfl, fun q j => ?_, fun _ q j hA hd => ?_, fun _ _ h => h, fun _ h => h⟩
    · split
      · rename_i e
        obtain ⟨rfl, rfl⟩ := of_decide_eq_true e
        exact (if_neg h).symm
      · rfl
    · obtain ⟨rfl, rfl⟩ := of_decide_eq_true hA
      exact absurd hd h
  case isTrue h =>
    have run := (changes_modCleat (L := Leave.command) (s := s) (p := p) (k := k)
      (f := fun c : Cleat => { c with state := .unknown }) (fun _ => rfl) fun _ h1 h2 => ⟨h1, h2⟩).trans
        (changes_warn (p := p) .cleatLost)
    have one : ∀ q, ∃ ws, ((s.modCleat p k fun c => { c with state := .unknown }).warn p .cleatLost).panel q =
        { (s.modCleat p k fun c => { c with state := .unknown }).panel q with warnings := ws } ∧
        ∀ w ∈ (s.panel q).warnings, w ∈ ws := fun q => by
      unfold State.warn
      rw [setLatch_panel, modPanel_panel]
      have kept : ((s.modCleat p k fun c => { c with state := .unknown }).panel q).warnings = (s.panel q).warnings := by
        unfold State.modCleat
        rw [modPanel_panel]
        split
        · rename_i e
          rw [← e]
          rfl
        · rfl
      split
      · rename_i e
        subst e
        exact ⟨_, rfl, fun w h => mem_joinSet.2 ⟨mem_allPanelWarnings w, .inr (kept ▸ h)⟩⟩
      · exact ⟨_, rfl, fun w h => kept ▸ h⟩
    refine ⟨Changes.lasting run, ?_, fun q j => ?_, fun hs q j hA hd => ?_, fun q w hw => ?_, fun e he => Changes.latches run he⟩
    · rw [warn_slots]
      rfl
    · obtain ⟨ws, e, -⟩ := one q
      rw [e]
      unfold State.modCleat
      by_cases hq : q = p
      · subst hq
        rw [modPanel_panel_self, Panel.modCleat_cleat]
        by_cases hj : j = k
        · subst hj
          rw [if_pos rfl, if_pos (by simp)]
          exact (if_pos h).symm
        · rw [if_neg hj, if_neg (by simp [hj])]
      · rw [modPanel_panel_ne _ _ (Ne.symm hq), if_neg (by simp [hq])]
    · obtain ⟨rfl, rfl⟩ := of_decide_eq_true hA
      refine ⟨warn_mem _ _ _, ?_⟩
      exact (setLatch_mem _ .warning .warning).2 (.inr ⟨rfl, fun h => by
        have up : s.inStart = true := h.1
        rw [hs] at up
        cases up⟩)
    · obtain ⟨ws, e, grown⟩ := one q
      rw [e]
      exact grown w hw

theorem rechecked_panel (p : PanelNo) : ∀ (ks : List CleatNo) (s : State),
    s.Rechecked (fun q j => decide (q = p ∧ j ∈ ks)) (ks.foldl (fun s k => s.recheckCleat p k) s)
  | [], s => by simpa using State.Rechecked.refl s
  | k :: ks, s => by
    refine ((rechecked_one s p k).trans (rechecked_panel p ks _)).of_eq fun q j => ?_
    rw [← Bool.decide_or]
    refine decide_eq_decide.2 ?_
    rw [List.mem_cons]
    tauto

theorem mem_allCleats : ∀ j : CleatNo, j ∈ allCleats := by decide

theorem rechecked_all : ∀ (ps : List PanelNo) (s : State),
    s.Rechecked (fun q j => decide (q ∈ ps ∧ s.cleatConfigured q j = true)) (ps.foldl (fun s p => s.recheckCleats p) s)
  | [], s => by simpa using State.Rechecked.refl s
  | p :: ps, s => by
    have one := rechecked_panel p (s.panelCleats p) s
    have rest := rechecked_all ps (s.recheckCleats p)
    have same (q : PanelNo) (j : CleatNo) : (s.recheckCleats p).cleatConfigured q j = s.cleatConfigured q j :=
      (congrArg (State.cleatConfigured · q j) one.rest :)
    refine (one.trans rest).of_eq fun q j => ?_
    have listed : j ∈ s.panelCleats p ↔ s.cleatConfigured p j = true := by
      unfold State.panelCleats
      rw [List.mem_filter]
      exact and_iff_right (mem_allCleats j)
    rw [← Bool.decide_or]
    refine decide_eq_decide.2 ?_
    rw [same, listed, List.mem_cons]
    refine ⟨fun h => ?_, fun ⟨h, hc⟩ => ?_⟩
    · obtain ⟨rfl, hc⟩ | ⟨h, hc⟩ := h
      · exact ⟨.inl rfl, hc⟩
      · exact ⟨.inr h, hc⟩
    · obtain rfl | h := h
      · exact .inl ⟨rfl, hc⟩
      · exact .inr ⟨h, hc⟩

/-! ### The lines that every START reads -/

/-- A pack as the end of START leaves it (R161). -/
structure Pack.Evaluated (hot limit : Nat) (x y : Pack) : Prop where
  evaluated : y.evaluated = true
  pump : y.pump = !x.pumpOn
  lowPressure : y.lowPressure = x.lowPressure
  read : ∀ c : Int, x.oil = some c → ((hot : Int) ≤ c → y.hot = true) ∧ (c < hot - 5 → y.hot = false) ∧
    ((hot : Int) - 5 ≤ c → c < hot → y.hot = x.hot) ∧ y.overtemp = (x.overtemp || decide ((limit : Int) ≤ c))
  unread : x.oil = none → y.hot = true ∧ y.overtemp = true

theorem Pack.evaluated_evaluate (x : Pack) (hot limit : Nat) : x.Evaluated hot limit (x.evaluate hot limit) := by
  unfold Pack.evaluate Pack.takeOil
  cases h : x.oil with
  | none => exact ⟨rfl, rfl, rfl, fun c hc => absurd (h.symm.trans hc) (by simp), fun _ => ⟨rfl, rfl⟩⟩
  | some c =>
    refine ⟨rfl, rfl, rfl, fun d hd => ?_, fun hd => absurd (h.symm.trans hd) (by simp)⟩
    obtain rfl : c = d := Option.some.inj (h.symm.trans hd)
    refine ⟨fun a => if_pos a, fun a => ?_, fun a b => ?_, rfl⟩
    · exact (if_neg (by omega)).trans (if_pos a)
    · exact (if_neg (by omega)).trans (if_neg (by omega))

theorem Pack.Evaluated.of_lasting {hot limit : Nat} {x y z : Pack} (h : x.Evaluated hot limit y) (e : z.lasting = y.lasting) :
    x.Evaluated hot limit z := by
  have up : z.evaluated = y.evaluated := (congrArg Pack.evaluated e :)
  have pump : z.pump = y.pump := (congrArg Pack.pump e :)
  have pressure : z.lowPressure = y.lowPressure := (congrArg Pack.lowPressure e :)
  have warm : z.hot = y.hot := (congrArg Pack.hot e :)
  have warmer : z.overtemp = y.overtemp := (congrArg Pack.overtemp e :)
  exact ⟨up.trans h.evaluated, pump.trans h.pump, pressure.trans h.lowPressure, warm ▸ warmer ▸ h.read, warm ▸ warmer ▸ h.unread⟩

theorem evaluated_deriveLines (s : State) (key : Bool) (k : PackId) :
    (s.pack k).Evaluated s.params.tuning.oilHot s.params.tuning.oilOvertemp ((s.deriveLines key).pack k) := by
  cases k
  · exact Pack.evaluated_evaluate ..
  · exact Pack.evaluated_evaluate ..

/-- The supply and the packs as the end of START leaves them. -/
def State.Derived (s t : State) : Prop :=
  t.supplyLow = (s.supplyLow || decide (s.supplyMv < 19000)) ∧
  ∀ k, (s.pack k).Evaluated s.params.tuning.oilHot s.params.tuning.oilOvertemp (t.pack k)

theorem derived_of_lasting {key : Bool} (supply : t.supplyLow = (s.deriveLines key).supplyLow)
    (packs : ∀ k, (t.pack k).lasting = ((s.deriveLines key).pack k).lasting) : s.Derived t :=
  ⟨supply, fun k => (evaluated_deriveLines s key k).of_lasting (packs k)⟩

theorem linked_deriveLines (hs : s.Linked) (key : Bool) : (s.deriveLines key).Linked := hs.of_same {} fun _ => .inl rfl

/-! ### START_END after a power-on -/

/-- The configured panels have been derived. -/
def State.firstPanels (s : State) : State := (Res.each (allPanels.filter s.configured) State.derivePanel (.ok s)).st

/-- The levels of the wind, presence and loop lines have been taken. -/
def State.firstLevels (s : State) : State :=
  { s with
    windSet := s.windLine
    lineLive := s.presence.mapFinIdx fun i b h => b && s.hatchConfigured ⟨i, h⟩
    loopOpen := !s.loopClosedLine
    loopTaken := true }

theorem deriveFirst_st (s : State) :
    s.deriveFirst.st = (Res.each allCards (fun k s => s.takeCard k s.cardTemp[k]) (.ok s.firstPanels.firstLevels)).st := by
  unfold State.deriveFirst
  exact each_st_congr _ _ _ (Res.map_st ..)

theorem panelsDerived_first (hu : s.inStart = true) : s.PanelsDerived s.firstPanels (allPanels.filter s.configured) :=
  panelsDerived_each _ s (allPanels_nodup.filter _) hu

theorem cardsTaken_first (hu : s.inStart = true) : s.firstPanels.firstLevels.CardsTaken s.deriveFirst.st allCards := by
  have start : s.firstPanels.firstLevels.inStart = true := (lasting_inStart (panelsDerived_first hu).rest).trans hu
  rw [deriveFirst_st]
  exact cardsTaken_each allCards _ (by decide) start

/-- What the end of START after a power-on leaves of what lasts. -/
theorem settle_deriveFirst_lasting (hu : s.inStart = true) (u : State) :
    s.deriveFirst.settle.cardless u = s.firstPanels.firstLevels.cardless u :=
  (cardless_of_lasting (lasting_settle _) u).trans ((cardsTaken_first hu).rest u)

theorem settle_deriveFirst_latches (hu : s.inStart = true) : s.deriveFirst.settle.latches = s.latches := by
  have cards := cardsTaken_first hu
  have panels := panelsDerived_first hu
  have start : s.deriveFirst.st.inStart = true :=
    (cardless_inStart cards.rest).trans ((lasting_inStart (t := s.firstPanels) panels.rest).trans hu)
  exact (Changes.latches_start (changes_settle _) start).trans (cards.latches.trans panels.latches)

theorem settle_deriveFirst_cards (hu : s.inStart = true) (k : CardNo) :
    s.deriveFirst.settle.cards[k] = cardAfter s.cards[k] s.cardTemp[k] := by
  have cards := (cardsTaken_first hu).cards k
  have last : s.deriveFirst.settle.cards = s.deriveFirst.st.cards := lasting_cards (lasting_settle _)
  have panels := (panelsDerived_first hu).rest
  have states : s.firstPanels.firstLevels.cards = s.cards := (congrArg State.cards panels :)
  have temps : s.firstPanels.firstLevels.cardTemp = s.cardTemp := (congrArg State.cardTemp panels :)
  rw [if_pos (mem_allCards k), states, temps] at cards
  rw [last, cards, cardAfter_eq]

theorem settle_deriveFirst_panel (hs : s.Linked) (hu : s.inStart = true) (hc : s.configured p = true) :
    (s.panel p).derived.Stands (s.deriveFirst.settle.panel p) ∧
    ((s.panel p).sw.conflict = true → .sensorConflict ∈ (s.deriveFirst.settle.panel p).faults) := by
  have panels := panelsDerived_first hu
  have cards := cardsTaken_first hu
  have start : s.deriveFirst.st.inStart = true :=
    (cardless_inStart cards.rest).trans ((lasting_inStart (t := s.firstPanels) panels.rest).trans hu)
  have listed : p ∈ allPanels.filter s.configured := List.mem_filter.2 ⟨mem_allPanels p, hc⟩
  have linked : s.firstPanels.firstLevels.Linked := (panels.linked hs).of_same {} fun _ => .inl rfl
  have whole := cards.linked linked
  obtain ⟨live, jog⟩ := whole.start start
  have same : s.deriveFirst.settle.panel p = s.deriveFirst.st.panel p :=
    settle_panel_eq whole (live p) fun j h => absurd (jog.symm.trans h) (by simp)
  have stands := cards.panels linked p
  rw [same]
  exact ⟨(panels.derived hs p listed).trans stands, fun hx => stands.faults _ (panels.conflict hs p listed hc hx)⟩

theorem settle_deriveFirst_store (hu : s.inStart = true) : s.deriveFirst.settle.store = s.store := by
  have last := settle_deriveFirst_lasting hu s
  have panels := (panelsDerived_first hu).rest
  generalize s.deriveFirst.settle = w at *
  generalize s.firstPanels = b at *
  exact (congrArg State.store last :).trans (congrArg State.store panels :)

theorem endStart_powerOn (s : State) (key : Bool) (hu : s.unit = .start .powerOn) :
    exec (.startEnd key) s = .next { (s.deriveLines key).deriveFirst.settle with
      unit := if s.store.isSome then .run else .setup } := by
  have start : (s.deriveLines key).inStart = true := by
    unfold State.inStart
    rw [show (s.deriveLines key).unit = .start .powerOn from hu]
  have store : (s.deriveLines key).deriveFirst.settle.store = s.store := settle_deriveFirst_store start
  change execStartEnd key s = _
  unfold execStartEnd
  rw [hu]
  dsimp only [State.endStart]
  rw [store]

theorem Switches.conflict_iff (w : Switches) :
    w.conflict = true ↔ (w.seated1 = true ∨ w.seated2 = true) ∧ (w.lifted1 = true ∨ w.lifted2 = true) := by
  unfold Switches.conflict
  simp

/-- START_END after a power-on. -/
theorem startEnd_powerOn (s : State) (key : Bool) (hu : s.unit = .start .powerOn) : ∃ t, exec (.startEnd key) s = .next t ∧
    t.unit = (if s.store.isSome then .run else .setup) ∧ t.servicePermitted = key ∧ t.serviceStation = none ∧
    t.latches = s.latches ∧ t.loopOpen = !s.loopClosedLine ∧ t.windSet = s.windLine ∧
    (∀ h : HatchNo, t.lineLive[h] = (s.presence[h] && s.hatchConfigured h)) ∧
    s.Derived t ∧ t.params = s.params ∧ t.layout = s.layout ∧ t.store = s.store ∧
    (∀ k : CardNo, t.cards[k] = cardAfter s.cards[k] s.cardTemp[k]) ∧
    (s.linked → ∀ p, s.configured p = true → (s.panel p).derived.Stands (t.panel p) ∧
      ((s.panel p).sw.conflict = true → .sensorConflict ∈ (t.panel p).faults)) := by
  have start : (s.deriveLines key).inStart = true := by
    unfold State.inStart
    rw [show (s.deriveLines key).unit = .start .powerOn from hu]
  have last := settle_deriveFirst_lasting start s
  have panels := (panelsDerived_first start).rest
  have latches := settle_deriveFirst_latches start
  have cards := settle_deriveFirst_cards start
  have stands (hs : s.linked) (p : PanelNo) (hc : s.configured p = true) :=
    settle_deriveFirst_panel (linked_deriveLines (linked_iff.1 hs) key) start hc
  rw [endStart_powerOn s key hu]
  generalize (s.deriveLines key).deriveFirst.settle = w at *
  generalize (s.deriveLines key).firstPanels = b at *
  have presence : b.presence = s.presence := (congrArg State.presence panels :)
  have layout : b.layout = s.layout := (congrArg State.layout panels :)
  refine ⟨_, rfl, rfl, ((congrArg State.servicePermitted last :).trans (congrArg State.servicePermitted panels :)),
    ((congrArg State.serviceStation last :).trans (congrArg State.serviceStation panels :)), latches,
    ((congrArg State.loopOpen last :).trans (congrArg (fun t => !t.loopClosedLine) panels :)),
    ((congrArg State.windSet last :).trans (congrArg State.windLine panels :)), fun h => ?_,
    derived_of_lasting (key := key) ((congrArg State.supplyLow last :).trans (congrArg State.supplyLow panels :)) fun k => ?_,
    ((congrArg State.params last :).trans (congrArg State.params panels :)),
    ((congrArg State.layout last :).trans layout),
    ((congrArg State.store last :).trans (congrArg State.store panels :)), cards, stands⟩
  · have lines : w.lineLive = b.presence.mapFinIdx fun i x h => x && b.hatchConfigured ⟨i, h⟩ := (congrArg State.lineLive last :)
    change w.lineLive[h] = _
    rw [lines]
    simp [presence, State.hatchConfigured, layout]
  · have one : (w.pack k).lasting = (b.pack k).lasting := by
      cases k
      · exact (congrArg State.packA last :)
      · exact (congrArg State.packB last :)
    exact one.trans (lasting_pack panels k)

/-! ### START_END after a restart -/

theorem Cleat.rechecked_state (c : Cleat) : c.rechecked.state =
    if c.state = .engaged ∧ c.made = false ∨ c.state = .released ∧ c.made = true then .unknown else c.state := by
  unfold Cleat.rechecked Cleat.disagrees
  cases h : c.state <;> cases hm : c.made <;> simp [h]

/-- START has been left after a restart. -/
def State.startLeft (s : State) (fromSetup : Bool) : State := { s with unit := if fromSetup then .setup else .run }

/-- START_END after a restart. -/
theorem startEnd_restart (s : State) (key : Bool) (fromSetup : Bool) (hu : s.unit = .start (.restart fromSetup)) :
    ∃ t, exec (.startEnd key) s = .next t ∧ t.unit = (if fromSetup then .setup else .run) ∧ t.servicePermitted = key ∧
      t.loopOpen = s.loopOpen ∧ t.slots = s.slots ∧ t.lineLive = s.lineLive ∧ s.Derived t ∧
      (∀ z, t.claim z = (s.claim z).map fun c =>
        if c.timed && !c.stale then { c with deadline := some (s.now + 1000 * s.params.tuning.zoneRenewal) } else c) ∧
      (∀ p (k : CleatNo), (t.panel p).cleats[k] =
        if s.cleatConfigured p k = true then (s.panel p).cleats[k].rechecked else (s.panel p).cleats[k]) ∧
      ∀ p (k : CleatNo), s.cleatConfigured p k = true → (s.panel p).cleats[k].disagrees = true →
        .cleatLost ∈ (t.panel p).warnings ∧ .warning ∈ t.latches := by
  have all := rechecked_all allPanels ((s.deriveLines key).restartDeadlines.startLeft fromSetup)
  have ended : exec (.startEnd key) s = .next (allPanels.foldl (fun s p => s.recheckCleats p)
      ((s.deriveLines key).restartDeadlines.startLeft fromSetup)) := by
    change execStartEnd key s = _
    unfold execStartEnd
    rw [hu]
    rfl
  have left : ((s.deriveLines key).restartDeadlines.startLeft fromSetup).inStart = false := by
    cases fromSetup <;> rfl
  rw [ended]
  generalize allPanels.foldl (fun s p => s.recheckCleats p)
    ((s.deriveLines key).restartDeadlines.startLeft fromSetup) = t at *
  have last := all.rest
  refine ⟨t, rfl, lasting_unit last, (congrArg State.servicePermitted last :), (congrArg State.loopOpen last :), all.slots,
    (congrArg State.lineLive last :), derived_of_lasting (key := key) (congrArg State.supplyLow last :) fun k => lasting_pack
        last k,
    fun z => ?_, fun p k => ?_, fun p k hc hd => all.lost left p k ?_ hd⟩
  · have claims : t.claims = (s.deriveLines key).restartDeadlines.claims := (congrArg State.claims last :)
    unfold State.claim
    rw [claims]
    unfold State.restartDeadlines
    simp
    rfl
  · rw [all.cleats p k]
    simp only [mem_allPanels, true_and, decide_eq_true_eq]
    rfl
  · simp only [mem_allPanels, true_and, decide_eq_true_eq]
    exact hc

/-- Settles O4: at the end of START the lines, the panels and the cards give their first states, or the kept ones are compared
with them. -/
theorem startEnds : Obligations.StartEnds := by
  unfold Obligations.StartEnds
  intro s key tun evaluated
  have evaluated_of {t : State} (h : s.Derived t) : evaluated t :=
    ⟨h.1, fun k => ⟨(h.2 k).evaluated, (h.2 k).pump, (h.2 k).lowPressure, (h.2 k).read, (h.2 k).unread⟩⟩
  refine ⟨fun hu => ?_, fun b hu => ?_, fun hs => ?_⟩
  · obtain ⟨t, run, unit, permitted, station, latches, loop, wind, lines, derived, params, layout, store, cards, panels⟩ :=
      startEnd_powerOn s key hu
    refine ⟨t, run, unit, permitted, station, latches, loop, wind, lines, evaluated_of derived, params, layout, store, cards,
      fun hs p hc => ?_⟩
    obtain ⟨stands, conflict⟩ := panels hs p hc
    refine ⟨?_, fun hm k => ?_, fun h => conflict ((Switches.conflict_iff _).2 h)⟩
    · rw [stands.certain]
      simp [Panel.derived, and_assoc]
    · rw [(stands.cleats hm).1]
      simp [Panel.derived, Cleat.fromSwitch, Cleat.atPowerOn]
  · obtain ⟨t, run, unit, permitted, loop, slots, lines, derived, claims, cleats, lost⟩ := startEnd_restart s key b hu
    refine ⟨t, run, unit, permitted, loop, slots, lines, evaluated_of derived, claims, fun p k => ?_, fun p k hne => ?_⟩
    · rw [cleats p k]
      cases hc : s.cleatConfigured p k with
      | false => simp
      | true => simpa using Cleat.rechecked_state _
    · rw [cleats p k] at hne
      cases hc : s.cleatConfigured p k with
      | false => simp [hc] at hne
      | true =>
        rw [hc, if_pos rfl] at hne
        refine lost p k hc ?_
        by_contra hd
        exact hne (congrArg Cleat.state (if_neg hd))
  · have idle : exec (.startEnd key) s = .next (match s.unit with | .start c => s.endStart c key | _ => s) := rfl
    rw [idle]
    unfold State.inStart at hs
    cases h : s.unit with
    | start c => rw [h] at hs; cases hs
    | setup => rfl
    | run => rfl
    | service => rfl

end Sys2Proof.Machine
end

section
/-! COMMIT and the end of its store write, RECONFIGURE and RESTART (R139, R190 to R192, R194). -/

namespace Sys2Proof.Machine

variable {s t u : State} {n : StationNo} {p : PanelNo} {w : Writing}

/-! ### The layout takes effect -/

/-- The layout of the set in effect, the attitude as it was (R191). -/
def State.relaid (s : State) : State :=
  { s with
    layout := s.params.layout
    panels := s.panels.mapFinIdx fun i x h =>
      x.relaid (s.layout.configures (hatchOf ⟨i, h⟩)) (s.params.layout.configures (hatchOf ⟨i, h⟩))
        (s.layout.sameCleats s.params.layout ⟨i, h⟩)
    claims := s.claims.map fun c => Option.filter (fun c => s.params.layout.configures c.hatch) c
    lineLive := s.lineLive.mapFinIdx fun i b h =>
      s.params.layout.configures ⟨i, h⟩ && if s.layout.configures ⟨i, h⟩ then b else s.presence[i]
    stations := s.stations.mapFinIdx fun i x h =>
      if s.layout.sameStation s.params.layout ⟨i, h⟩ then x else { x with frameErrors := 0, lastReply := 0 }
    selectorDue := s.selectorDue.mapFinIdx fun i d h =>
      if s.params.layout.configures ⟨i, h⟩ then if s.layout.configures ⟨i, h⟩ then d else some (s.now + selectorStable)
      else none }

/-- Beyond `State.relaid` only the attitude changes, and only with the list source (R91). -/
theorem takeLayout_cases (s : State) : ∃ l m f h d,
    s.takeLayout = { s.relaid with list := l, trim := m, fresh := f, listHigh := h, staleTimer := d } ∧
    (s.layout.listSource ≠ s.params.layout.listSource → l = 0 ∧ m = 0 ∧ f = false ∧ d = none ∧ h = false) := by
  unfold State.takeLayout
  dsimp only
  split
  · rename_i h
    exact ⟨_, _, _, _, _, rfl, fun a => absurd h a⟩
  · exact ⟨0, 0, false, false, none, rfl, fun _ => ⟨rfl, rfl, rfl, rfl, rfl⟩⟩

theorem relaid_panel (s : State) (p : PanelNo) : s.relaid.panel p =
    (s.panel p).relaid (s.layout.configures (hatchOf p)) (s.params.layout.configures (hatchOf p))
      (s.layout.sameCleats s.params.layout p) := by
  unfold State.panel State.relaid
  simp

theorem relaid_station (s : State) (m : StationNo) : s.relaid.station m =
    if s.layout.sameStation s.params.layout m then s.station m
    else { s.station m with frameErrors := 0, lastReply := 0 } := by
  unfold State.station State.relaid
  simp

theorem relaid_claim (s : State) (z : ClaimNo) :
    s.relaid.claim z = Option.filter (fun c => s.params.layout.configures c.hatch) (s.claim z) := by
  unfold State.claim State.relaid
  simp

theorem relaid_lineLive (s : State) (h : HatchNo) : s.relaid.lineLive[h] =
    (s.params.layout.configures h && if s.layout.configures h then s.lineLive[h] else s.presence[h]) := by
  unfold State.relaid
  simp

theorem relaid_hasSelector {h : HatchNo} (hw : s.layout.configures h = false) (hn : s.params.layout.configures h = true) :
    s.relaid.hasSelector h = false := by
  have due : s.relaid.selectorDue[h] = some (s.now + selectorStable) := by
    unfold State.relaid
    simp [hw, hn]
  unfold State.hasSelector
  rw [due]
  have later : ¬ s.now + selectorStable ≤ s.now := by unfold selectorStable; omega
  exact (congrArg _ (decide_eq_false later)).trans (Bool.and_false _)

theorem Layout.sameStation_eq (l m : Layout) (n : StationNo) : l.sameStation m n =
    decide (l.stationKind[n] = m.stationKind[n] ∧ (l.stationKind[n] = 3 → l.stationHatch[n] = m.stationHatch[n])) := by
  unfold Layout.sameStation
  rw [Bool.eq_iff_iff]
  simp only [Bool.and_eq_true, Bool.or_eq_true, beq_iff_eq, bne_iff_ne, decide_eq_true_eq, ne_eq]
  tauto

theorem Layout.sameCleats_iff (l m : Layout) (p : PanelNo) :
    l.sameCleats m p = true ↔ l.cleatCount[p] = m.cleatCount[p] ∧ l.cleatGroup[p] = m.cleatGroup[p] := by
  unfold Layout.sameCleats
  simp

/-! ### The store write ends -/

/-- The unit once the set that was written is in effect. -/
def State.committed (s : State) : State :=
  { { s with writing := none }.takeLayout with store := some s.params, configAbsent := false, locked := true, unit := .run }

theorem committed_cases (s : State) : ∃ l m f h d, s.committed =
    { s.relaid with writing := none, list := l, trim := m, fresh := f, listHigh := h, staleTimer := d, store := some s.params
                    configAbsent := false, locked := true, unit := .run } ∧
    (s.layout.listSource ≠ s.params.layout.listSource → l = 0 ∧ m = 0 ∧ f = false ∧ d = none ∧ h = false) := by
  obtain ⟨l, m, f, h, d, taken, list⟩ := takeLayout_cases { s with writing := none }
  refine ⟨l, m, f, h, d, ?_, list⟩
  unfold State.committed
  rw [taken]
  rfl

theorem exec_storeWriteEnd_agrees (hw : s.writing = some w) :
    exec (.storeWriteEnd true) s = .next (s.committed.answerCommit w .accepted [0]) := by
  change execStoreWriteEnd true s = _
  unfold execStoreWriteEnd
  rw [hw]
  rfl

theorem exec_storeWriteEnd_differs (hw : s.writing = some w) : exec (.storeWriteEnd false) s =
    .next (State.answerCommit { s with writing := none, store := none } w .storeError []) := by
  change execStoreWriteEnd false s = _
  unfold execStoreWriteEnd
  rw [hw]
  rfl

/-- The answer of a COMMIT changes the queue and the last reply code of its station only. -/
theorem answerCommit_eq (s : State) (w : Writing) (c : ReplyCode) (bs : List Byte) : s.answerCommit w c bs =
    { s with txQueue := s.txQueue ++ if w.answer then [replyTo w.station w.tag c bs] else []
             stations := (s.answerCommit w c bs).stations } := by
  unfold State.answerCommit
  cases w.answer
  · simp
  · rfl

theorem answerCommit_station (s : State) (w : Writing) (c : ReplyCode) (bs : List Byte) (m : StationNo) :
    (s.answerCommit w c bs).station m =
      { s.station m with lastReply := if w.answer = true ∧ m = w.station then c.code else (s.station m).lastReply } := by
  unfold State.answerCommit
  cases w.answer with
  | false => simp
  | true =>
    rw [if_pos rfl, queueReply_station]
    by_cases e : w.station = m
    · subst e; simp
    · simp [e, Ne.symm e]

/-! ### The requests -/

theorem request_deferred {owner : State → Answer} {c : ReplyCode} (h : s.ready n)
    (ha : owner (s.taken n) = { st := t, code := c, deferred := true }) (tag : Byte) :
    request n tag owner s = .next t := by
  rw [request_of_ready h, handOver_of_deferred (by rw [ha]), ha]

theorem exec_commit (hr : s.ready n) (hk : s.stationKind n = some .bridge) (hu : s.unit = .setup) (hw : s.writing = none)
    (hc : s.params.inconsistent = none) (tag : Byte) :
    exec (.commit n tag) s = .next { s.taken n with writing := some ⟨n, tag, true⟩ } := by
  refine request_deferred (owner := ownerCommit n tag) hr (c := .accepted) ?_ tag
  have kind : (s.taken n).isKind n [.bridge] = true := isKind_mem.2 ⟨_, List.mem_singleton.2 rfl, hk⟩
  have consistent : (s.taken n).params.inconsistent = none := hc
  have unit : (s.taken n).unit = .setup := hu
  unfold ownerCommit
  rw [if_neg (not_not_intro unit), if_neg (by simp [kind]), if_neg (by simp [State.taken, hw]), consistent]

theorem exec_reconfigure (hr : s.ready n) (hk : s.stationKind n = some .bridge) (hu : s.unit = .run)
    (hl : ∀ i o, s.slot i = some o → o.state.live = false) (hp : ∀ p, (s.panel p).activity = .idle) (tag : Byte) :
    exec (.reconfigure n tag) s = .next (({ s.taken n with unit := .setup }).replied n tag .accepted [0]) := by
  refine request_accept (owner := ownerReconfigure n) hr ?_ tag
  have kind : (s.taken n).isKind n [.bridge] = true := isKind_mem.2 ⟨_, List.mem_singleton.2 rfl, hk⟩
  have none : (s.taken n).anyLive = false := by
    unfold State.anyLive
    refine List.any_eq_false.2 fun i _ => ?_
    have same : (s.taken n).slot i = s.slot i := rfl
    rw [same]
    cases h : s.slot i with
    | none => simp
    | some o => simp [hl i o h]
  have idle : (s.taken n).allIdle = true := List.all_eq_true.2 fun p _ => beq_iff_eq.2 (hp p)
  have unit : (s.taken n).unit = .run := hu
  unfold ownerReconfigure
  rw [if_neg (not_not_intro unit), if_neg (by simp [kind]), if_neg (by simp [none, idle])]

theorem exec_restart (hr : s.ready n) (hk : s.stationKind n = some .bridge) (hw : s.writing = none) (tag : Byte) :
    exec (.restart n tag) s = .next ((s.taken n).queueReply { replyTo n tag .accepted [0] with restarts := true }) := by
  have kind : (s.taken n).isKind n [.bridge] = true := isKind_mem.2 ⟨_, List.mem_singleton.2 rfl, hk⟩
  have answer : ownerRestart n (s.taken n) = { st := s.taken n, code := .accepted, bytes := [0], restarts := true } := by
    unfold ownerRestart
    rw [if_neg (by simp [kind]), if_neg (by simp [State.taken, hw])]
  change request n tag (ownerRestart n) s = _
  rw [request_of_ready hr, handOver_of_answered (by rw [answer]), answer]
  rfl

/-! ### The panels of a new layout -/

theorem Panel.fresh_faults (x : Panel) (b : Bool) : (x.fresh b).faults = if b = true ∧
    (x.sw.seated1 = true ∨ x.sw.seated2 = true) ∧ (x.sw.lifted1 = true ∨ x.sw.lifted2 = true) then [.sensorConflict]
    else [] := by
  unfold Panel.fresh Panel.poweredOn
  dsimp only
  simp only [Bool.and_eq_true, Switches.conflict_iff]

/-- Settles O43: the set takes effect at the end of a store write that agrees, and RECONFIGURE and RESTART do what they say. -/
theorem configurationTakesEffectAtCommit : Obligations.ConfigurationTakesEffectAtCommit := by
  unfold Obligations.ConfigurationTakesEffectAtCommit
  intro s n tag old new was now fromSwitch
  refine ⟨fun hr hk hu hw hc => exec_commit hr hk hu hw hc tag, fun w hw => ?_, fun w hw => ?_,
    fun hr hk hu hl hp => exec_reconfigure hr hk hu hl hp tag, fun hr hk hw => exec_restart hr hk hw tag⟩
  · obtain ⟨l, m, f, h, d, committed, list⟩ := committed_cases s
    have answered := answerCommit_eq s.committed w .accepted [0]
    have codes := answerCommit_station s.committed w .accepted [0]
    refine ⟨_, exec_storeWriteEnd_agrees hw, ?_⟩
    rw [committed] at answered codes ⊢
    generalize State.answerCommit _ w .accepted [0] = t at *
    have panel (p : PanelNo) : t.panel p = (s.panel p).relaid (was (hatchOf p)) (now (hatchOf p)) (old.sameCleats new p) :=
      (congrArg (State.panel · p) answered :).trans (relaid_panel s p)
    refine ⟨(congrArg State.unit answered :), (congrArg State.layout answered :), (congrArg State.params answered :),
      (congrArg State.store answered :), (congrArg State.locked answered :), (congrArg State.configAbsent answered :),
      (congrArg State.writing answered :), (congrArg State.latches answered :), (congrArg State.slots answered :), fun hl => ?_,
      fun z c hc => ?_, fun p => ⟨fun hp => ?_, fun hp => ?_⟩, fun h => ?_, fun h hw hn => ⟨?_, ?_⟩, fun m => ?_,
      (congrArg State.txQueue answered :)⟩
    · obtain ⟨rfl, rfl, rfl, rfl, rfl⟩ := list hl
      exact ⟨(congrArg State.list answered :), (congrArg State.trim answered :), (congrArg State.fresh answered :),
        (congrArg State.staleTimer answered :), (congrArg State.listHigh answered :)⟩
    · refine ((congrArg (State.claim · z) answered :).trans (relaid_claim s z)).trans ?_
      rw [hc, Option.filter_some]
      unfold Layout.configures
      simp only [decide_eq_true_eq]
      rfl
    · have fresh : t.panel p = (s.panel p).fresh (now (hatchOf p)) := (panel p).trans (if_pos (bne_iff_ne.2 hp))
      rw [fresh]
      exact ⟨rfl, rfl, rfl, rfl, Panel.fresh_faults _ _, rfl⟩
    · rw [panel p]
      unfold Panel.relaid
      rw [if_neg (by simp [hp])]
      simp only [Layout.sameCleats_iff]
      rfl
    · exact (congrArg (fun t : State => t.lineLive[h]) answered :).trans (relaid_lineLive s h)
    · exact (congrArg (State.hasSelector · h) answered :).trans (relaid_hasSelector hw hn)
    · exact (congrArg (fun t : State => t.selector[h]) answered :)
    · rw [codes m, ← Layout.sameStation_eq]
      have station := relaid_station s m
      generalize s.layout.sameStation s.params.layout m = same at station
      generalize s.relaid = v at *
      change ({ v.station m with lastReply := if w.answer = true ∧ m = w.station then _ else (v.station m).lastReply } : Station) = _
      rw [station]
      cases same <;> rfl
  · refine ⟨_, exec_storeWriteEnd_differs hw, ?_⟩
    rw [answerCommit_eq]
    exact ⟨rfl, rfl, rfl, rfl, rfl, rfl, rfl, rfl⟩

end Sys2Proof.Machine
end

section
/-! CLEAR_FAULTS (R166, R169, R170), and what a change of a pack leaves (R131 to R133, R161). -/

namespace Sys2Proof.Machine

variable {s t u : State} {n : StationNo} {p q : PanelNo} {k : PackId} {f : PanelFault}

/-! ### The panels of a scope -/

theorem faultGone_congr (hu : u = { s with panels := u.panels }) (hp : u.panel p = s.panel p) (f : PanelFault) :
    u.faultGone p f = s.faultGone p f := by
  unfold State.faultGone
  rw [hp, hu]
  rfl

theorem clearPanel_congr (hu : u = { s with panels := u.panels }) (hp : u.panel p = s.panel p) :
    u.clearPanel p = u.modPanel p fun x => x.cleared (s.remaining p) (s.keptWarnings p) := by
  have left : u.remaining p = s.remaining p := by
    unfold State.remaining
    rw [hp]
    simp only [faultGone_congr hu hp]
  have cards : u.cards = s.cards := (congrArg State.cards hu :)
  have kept : u.keptWarnings p = s.keptWarnings p := by
    unfold State.keptWarnings
    rw [hp, cards]
  unfold State.clearPanel
  rw [left, kept]

theorem panels_modPanel {g : Panel → Panel} (hu : u = { s with panels := u.panels }) :
    u.modPanel p g = { s with panels := (u.modPanel p g).panels } := by
  have same : u.modPanel p g = { u with panels := (u.modPanel p g).panels } := rfl
  generalize (u.modPanel p g).panels = v at *
  exact same.trans (congrArg (fun t : State => { t with panels := v }) hu :)

theorem fold_clearPanel : ∀ (ps : List PanelNo) (u : State), ps.Nodup → u = { s with panels := u.panels } →
    (∀ p ∈ ps, u.panel p = s.panel p) →
    ps.foldl (fun s p => s.clearPanel p) u =
      ps.foldl (fun u p => u.modPanel p fun x => x.cleared (s.remaining p) (s.keptWarnings p)) u
  | [], _, _, _, _ => rfl
  | p :: ps, u, hd, hu, hp => by
    obtain ⟨new, hd⟩ := List.nodup_cons.1 hd
    rw [List.foldl_cons, List.foldl_cons, clearPanel_congr hu (hp p List.mem_cons_self)]
    refine fold_clearPanel ps _ hd ?_ fun q hq => ?_
    · exact panels_modPanel hu
    · have apart : p ≠ q := fun e => new (e ▸ hq)
      exact (modPanel_panel_ne _ _ apart).trans (hp q (List.mem_cons_of_mem _ hq))

/-- The panels `ps` cleared. -/
def State.clearedAll (s : State) (ps : List PanelNo) : State := ps.foldl (fun s p => s.clearPanel p) s

theorem clearedAll_spec {ps : List PanelNo} (hd : ps.Nodup) : s.clearedAll ps = { s with panels := (s.clearedAll ps).panels } ∧
    ∀ q, (s.clearedAll ps).panel q =
      if q ∈ ps then (s.panel q).cleared (s.remaining q) (s.keptWarnings q) else s.panel q := by
  have folded : s.clearedAll ps = _ := fold_clearPanel (s := s) ps s hd rfl fun _ _ => rfl
  obtain ⟨same, panels⟩ := fold_modPanel (fun p x => x.cleared (s.remaining p) (s.keptWarnings p)) ps s hd
  rw [folded]
  exact ⟨same, panels⟩

/-- What CLEAR_FAULTS leaves of a panel. -/
def State.wiped (s : State) (p : PanelNo) : Panel := (s.panel p).cleared (s.remaining p) (s.keptWarnings p)

theorem mem_wiped_faults : f ∈ (s.wiped p).faults ↔ f ∈ (s.panel p).faults ∧ ¬ s.conditionGone p f := by
  have left : (s.wiped p).faults = s.remaining p := rfl
  rw [left, State.remaining, List.mem_filter, conditionGone_iff]
  simp

theorem mem_wiped_warnings {w : PanelWarning} :
    w ∈ (s.wiped p).warnings ↔ w ∈ (s.panel p).warnings ∧ w = .cardHot ∧ s.cards[cardOf p] ≠ .normal := by
  have kept : (s.wiped p).warnings = s.keptWarnings p := rfl
  rw [kept, State.keptWarnings]
  split
  · rename_i h
    exact ⟨fun hw => absurd hw List.not_mem_nil, fun ⟨_, _, hc⟩ => absurd h hc⟩
  · rename_i h
    simp only [List.mem_filter, beq_iff_eq]
    exact and_congr_right fun _ => (and_iff_left h).symm

theorem PanelFault.unsettles_iff (f : PanelFault) :
    f.unsettles = true ↔ f ∈ [PanelFault.runaway, .positionRange, .sensorConflict] := by
  cases f <;> decide

theorem wiped_certain : (s.wiped p).certain = true ↔ (s.panel p).certain = true ∧
    ∀ k ∈ [PanelFault.runaway, .positionRange, .sensorConflict], k ∈ (s.panel p).faults → k ∈ (s.wiped p).faults := by
  have left : (s.wiped p).certain =
    ((s.panel p).certain && !((s.panel p).faults.any fun k => k.unsettles && !(s.wiped p).faults.contains k)) := rfl
  rw [left]
  simp only [Bool.and_eq_true, List.any_eq_false, ← PanelFault.unsettles_iff, List.contains_eq_mem,
    Bool.not_eq_eq_eq_not, Bool.not_true, decide_eq_false_iff_not, not_and, not_not]
  exact and_congr_right fun _ => ⟨fun h k hk hm => h k hm hk, fun h k hm hk => h k hk hm⟩

theorem wiped_eq : s.wiped p = { s.panel p with
    faults := (s.wiped p).faults, warnings := (s.wiped p).warnings, certain := (s.wiped p).certain, creep := 0, chop := 0
    shortCoil := if .solenoidShort ∈ (s.wiped p).faults then (s.panel p).shortCoil else none
    openCoil := if .solenoidOpen ∈ (s.wiped p).faults then (s.panel p).openCoil else none
    cleats := (s.panel p).cleats.map fun c => { c with greatest := 0 } } := by
  have short : (s.wiped p).shortCoil = if .solenoidShort ∈ (s.wiped p).faults then (s.panel p).shortCoil else none := by
    simp only [← List.contains_iff_mem]
    rfl
  have openly : (s.wiped p).openCoil = if .solenoidOpen ∈ (s.wiped p).faults then (s.panel p).openCoil else none := by
    simp only [← List.contains_iff_mem]
    rfl
  rw [← short, ← openly]
  rfl

theorem wiped_faults_sublist : (s.wiped p).faults.Sublist (s.panel p).faults := List.filter_sublist

theorem wiped_warnings_sublist : (s.wiped p).warnings.Sublist (s.panel p).warnings := by
  change (s.keptWarnings p).Sublist _
  unfold State.keptWarnings
  split
  · exact List.nil_sublist _
  · exact List.filter_sublist

/-! ### A change of a pack -/

/-- The unit with a pack's new record and the latches that the change sets (R161). -/
def State.packTaken (s : State) (k : PackId) (y : Pack) : State :=
  (((s.setPack y k).latchIf (y.anyCause && !(s.pack k).anyCause) .unitFault).latchIf (y.hot && !(s.pack k).hot) .warning).latchIf
    ((s.pack k).up != y.up || (s.pack k).hot != y.hot) .packChange

theorem changePack_eq (s : State) (k : PackId) (g : Pack → Pack) : s.changePack k g =
    (if (s.pack k).up && !(g (s.pack k)).up then (s.packTaken k (g (s.pack k))).packDown k
     else if !(s.pack k).up && (g (s.pack k)).up then (s.packTaken k (g (s.pack k))).packUp k
     else if (s.pack k).hot && !(g (s.pack k)).hot then ⟨s.packTaken k (g (s.pack k)), [.pass k]⟩
     else .ok (s.packTaken k (g (s.pack k)))).settle := rfl

theorem changes_packTaken (s : State) (k : PackId) (y : Pack) : Changes Leave.all (s.setPack y k) (s.packTaken k y) :=
  ((changes_latchIf (by decide)).trans (changes_latchIf (by decide))).trans (changes_latchIf (by decide))

theorem changes_packUp (s : State) (k : PackId) : Changes Leave.all s (s.packUp k).st :=
  changes_moveWaiters (fun _ => trivial) (otherPack k)

theorem changes_changePack (s : State) (k : PackId) (g : Pack → Pack) :
    Changes Leave.all (s.packTaken k (g (s.pack k))) (s.changePack k g) := by
  rw [changePack_eq]
  generalize s.packTaken k (g (s.pack k)) = u
  refine .trans ?_ ((changes_settle _).mono Leave.le_all)
  split
  · exact changes_packDown (fun _ => trivial) k
  · split
    · exact changes_packUp u k
    · split <;> exact .refl

/-- A change of a pack's causes leaves of what lasts everything but that pack's record. -/
theorem changePack_lasting (s : State) (k : PackId) (g : Pack → Pack) :
    (s.changePack k g).lasting = (s.setPack (g (s.pack k)) k).lasting :=
  (Changes.lasting (changes_changePack s k g)).trans (Changes.lasting (changes_packTaken s k _))

/-! ### The answer -/

/-- The panels of a scope that a station may clear, cleared. -/
theorem ownerClearFaults_of {scope target : Byte} {sc : Scope} (ha : scopeArg scope target = some sc)
    (hh : sc.hatchOk s = true) (hp : sc.panelOk s = true) (hm : s.mayClear n sc = true) :
    ownerClearFaults n scope target s = accept (s.clearScope sc) false
      [byteOf (s.faultCount (s.scopePanels sc) - (s.clearedAll (s.scopePanels sc)).faultCount (s.scopePanels sc)),
       byteOf ((s.clearedAll (s.scopePanels sc)).faultCount (s.scopePanels sc)),
       byteOf (bit (s.clearScope sc).unitFaults.isEmpty 1)] := by
  unfold ownerClearFaults
  rw [ha]
  dsimp only
  rw [if_neg (by simp [hh]), if_neg (by simp [hp]), if_neg (by simp [hm])]
  rfl

/-- The byte that says whether the unit holds no fault (R181). -/
theorem unitFaults_byte (s : State) : byteOf (bit s.unitFaults.isEmpty 1) =
    if s.supplyLow || s.packA.anyCause || s.packB.anyCause then 0 else 1 := by
  have all : allUnitFaults = [.supplyLow, .packADown, .packBDown] := rfl
  unfold State.unitFaults
  rw [all]
  cases h1 : s.supplyLow <;> cases h2 : s.packA.anyCause <;> cases h3 : s.packB.anyCause <;>
    simp [State.hasUnitFault, h1, h2, h3] <;> rfl

/-! ### One panel, and the panels of a hatch -/

/-- The bytes of the answer, `v` being the unit after its panels and `u` at the end (R181). -/
def clearBytes (s v u : State) (ps : List PanelNo) : List Byte :=
  [0, byteOf (s.faultCount ps - v.faultCount ps), byteOf (v.faultCount ps),
   if u.supplyLow || u.packA.anyCause || u.packB.anyCause then 0 else 1]

theorem exec_clearFaults {scope target : Byte} {sc : Scope} (hr : s.ready n) (ha : scopeArg scope target = some sc)
    (hh : sc.hatchOk s = true) (hp : sc.panelOk s = true) (hm : s.mayClear n sc = true) (tag : Byte) :
    exec (.clearFaults n tag scope target) s = .next (((s.taken n).clearScope sc).replied n tag .accepted
      (clearBytes s ((s.taken n).clearedAll (s.scopePanels sc)) ((s.taken n).clearScope sc) (s.scopePanels sc))) := by
  have panels : (s.taken n).scopePanels sc = s.scopePanels sc := by cases sc <;> rfl
  have hatch : sc.hatchOk (s.taken n) = true := by cases sc <;> exact hh
  have panel : sc.panelOk (s.taken n) = true := by cases sc <;> exact hp
  have answer := ownerClearFaults_of (n := n) ha hatch panel hm
  rw [panels, unitFaults_byte] at answer
  exact request_accept hr answer tag

/-- The panels of a scope smaller than the unit are cleared, and nothing else changes. -/
theorem clearFaults_panels {scope target : Byte} {sc : Scope} (hr : s.ready n) (ha : scopeArg scope target = some sc)
    (hh : sc.hatchOk s = true) (hp : sc.panelOk s = true) (hm : s.mayClear n sc = true) (hu : sc ≠ .unit)
    (hd : (s.scopePanels sc).Nodup) (tag : Byte) : ∃ t, exec (.clearFaults n tag scope target) s = .next t ∧
      (∀ p, t.panel p = if p ∈ s.scopePanels sc then s.wiped p else s.panel p) ∧
      t = ({ s.taken n with panels := t.panels }).replied n tag .accepted (clearBytes s t t (s.scopePanels sc)) := by
  have panels : (s.taken n).scopePanels sc = s.scopePanels sc := by cases sc <;> rfl
  have within : (s.taken n).clearScope sc = (s.taken n).clearedAll (s.scopePanels sc) := by
    unfold State.clearScope
    rw [if_neg hu, panels]
    rfl
  obtain ⟨same, wiped⟩ := clearedAll_spec (s := s.taken n) hd
  refine ⟨_, exec_clearFaults hr ha hh hp hm tag, ?_⟩
  rw [within]
  generalize (s.taken n).clearedAll (s.scopePanels sc) = v at *
  exact ⟨wiped, congrArg (fun t : State => t.replied n tag .accepted (clearBytes s v v (s.scopePanels sc))) same⟩

/-! ### The unit -/

theorem clearSupply_eq (s : State) : s.clearSupply = { s with supplyLow := s.supplyLow && !s.supplyRecovered } := by
  unfold State.clearSupply
  split
  · rename_i h
    have left : (s.supplyLow && !s.supplyRecovered) = false := by
      cases hl : s.supplyLow <;> cases hr : s.supplyRecovered <;> simp_all
    rw [left]
  · rename_i h
    have left : (s.supplyLow && !s.supplyRecovered) = s.supplyLow := by
      cases hl : s.supplyLow <;> cases hr : s.supplyRecovered <;> simp_all
    rw [left]

/-- A pack's record once CLEAR_FAULTS of the unit has relieved it (R170). -/
theorem clearLatched_fields (x : Pack) (latched : Bool) (low hot : Nat) :
    (x.clearLatched latched low hot).pump = x.pump ∧
    (x.clearLatched latched low hot).lowPressure = (x.lowPressure && !(latched && decide (low ≤ x.pressure.getD 0))) ∧
    ((x.clearLatched latched low hot).overtemp = true ↔ x.overtemp = true ∧ ∀ c, x.oil = some c → (hot : Int) - 5 ≤ c) := by
  refine ⟨rfl, rfl, ?_⟩
  unfold Pack.clearLatched Pack.oilCool
  cases x.oil <;> simp

theorem clearPack_lasting (s : State) (k : PackId) : (s.clearPack k).lasting =
    (s.setPack ((s.pack k).clearLatched (s.params.tuning.pressureMode == 0) s.params.tuning.pressureLow s.params.tuning.oilHot)
      k).lasting :=
  changePack_lasting ..

/-- What relieving both packs leaves (R170). -/
theorem clearPacks_lasting (s : State) : ((s.clearPack .a).clearPack .b).params = s.params ∧
    (s.clearPack .a).params = s.params ∧
    ((s.clearPack .a).clearPack .b).frameErrorsWarned = s.frameErrorsWarned ∧
    ((s.clearPack .a).clearPack .b).supplyLow = s.supplyLow ∧
    (∀ m, (((s.clearPack .a).clearPack .b).station m).frameErrors = (s.station m).frameErrors) ∧
    ∀ k, (((s.clearPack .a).clearPack .b).pack k).lasting = ((s.pack k).clearLatched
      (s.params.tuning.pressureMode == 0) s.params.tuning.pressureLow s.params.tuning.oilHot).lasting := by
  have first := clearPack_lasting s .a
  have second := clearPack_lasting (s.clearPack .a) .b
  generalize (s.clearPack .a).clearPack .b = v at *
  generalize s.clearPack .a = u at *
  have params : u.params = s.params := (congrArg State.params first :)
  have packB : u.packB.lasting = s.packB.lasting := (congrArg State.packB first :)
  refine ⟨(congrArg State.params second :).trans params, params,
    (congrArg State.frameErrorsWarned second :).trans (congrArg State.frameErrorsWarned first :),
    (congrArg State.supplyLow second :).trans (congrArg State.supplyLow first :), fun m => ?_, fun k => ?_⟩
  · exact (congrArg Station.frameErrors (lasting_station second m) :).trans
      (congrArg Station.frameErrors (lasting_station first m) :)
  · cases k with
    | a => exact (congrArg State.packA second :).trans (congrArg State.packA first :)
    | b =>
      have taken := lasting_pack second .b
      rw [setPack_pack_self, params] at taken
      exact taken.trans (congrArg (fun x : Pack => x.clearLatched _ _ _) packB :)

/-- What the unit holds once its panels have been cleared, before the packs are relieved (R170). -/
def State.panelsCleared (s : State) (ps : List PanelNo) : State :=
  { s.clearedAll ps with frameErrorsWarned := false, supplyLow := s.supplyLow && !s.supplyRecovered }

theorem panelsCleared_eq {ps : List PanelNo} (hd : ps.Nodup) : s.panelsCleared ps = { s with
    panels := (s.clearedAll ps).panels, frameErrorsWarned := false, supplyLow := s.supplyLow && !s.supplyRecovered } := by
  have same := (clearedAll_spec (s := s) hd).1
  unfold State.panelsCleared
  generalize (s.clearedAll ps).panels = v at same ⊢
  rw [same]

theorem clearScope_unit (s : State) : s.clearScope .unit =
    ((s.panelsCleared (allPanels.filter s.configured)).clearPack .a).clearPack .b := by
  have same := (clearedAll_spec (s := s) (allPanels_nodup.filter s.configured)).1
  have panels : s.scopePanels .unit = allPanels.filter s.configured := rfl
  unfold State.clearScope State.panelsCleared
  rw [if_pos rfl, panels]
  unfold State.clearUnit
  dsimp only
  rw [clearSupply_eq]
  have folded : (allPanels.filter s.configured).foldl (fun s p => s.clearPanel p) s =
    s.clearedAll (allPanels.filter s.configured) := rfl
  rw [folded]
  have low : (s.clearedAll (allPanels.filter s.configured)).supplyLow = s.supplyLow := (congrArg State.supplyLow same :)
  have recovered : (s.clearedAll (allPanels.filter s.configured)).supplyRecovered = s.supplyRecovered :=
    (congrArg State.supplyRecovered same :)
  rw [low, recovered]

theorem halves_nodup : ∀ h : HatchNo, [portOf h, starboardOf h].Nodup := by decide

theorem clearPack_eq (hp : u.params = s.params) (k : PackId) : u.clearPack k = u.changePack k fun x =>
    x.clearLatched (s.params.tuning.pressureMode == 0) s.params.tuning.pressureLow s.params.tuning.oilHot := by
  unfold State.clearPack
  rw [hp]

/-- Settles O41: the panels of the scope are cleared one by one, and of the unit the packs are relieved after them. -/
theorem clearFaultsRemovesWhatIsGone : Obligations.ClearFaultsRemovesWhatIsGone := by
  unfold Obligations.ClearFaultsRemovesWhatIsGone
  intro s n tag b hr cleared count counts clears
  have wiped (p : PanelNo) : cleared p (s.wiped p) :=
    ⟨wiped_faults_sublist, fun _ => mem_wiped_faults, wiped_warnings_sublist, fun _ => mem_wiped_warnings, wiped_certain,
      wiped_eq⟩
  have clears_of {c : Instr} {ps : List PanelNo} (h : ∃ t, exec c s = .next t ∧
      (∀ p, t.panel p = if p ∈ ps then s.wiped p else s.panel p) ∧
      t = ({ s.taken n with panels := t.panels }).replied n tag .accepted (clearBytes s t t ps)) : clears c ps := by
    obtain ⟨t, run, panels, same⟩ := h
    refine ⟨t, run, fun p => ?_, same⟩
    rw [panels p]
    split
    · exact wiped p
    · rfl
  have may (sc : Scope) (h : s.isKind n [.bridge, .cargoControl] = true) : s.mayClear n sc = true := by
    simp [State.mayClear, h]
  refine ⟨fun p ha hc hm => ?_, fun h ha hc hm => ?_, fun hk => ?_⟩
  · have panels : s.scopePanels (.panel p) = [p] := by simp [State.scopePanels, hc]
    have right : s.mayClear n (.panel p) = true := by
      obtain hk | hp := hm
      · exact may _ hk
      · simp [State.mayClear, hp]
    refine clears_of ?_
    rw [← panels]
    have scope : scopeArg 0 b = some (.panel p) := congrArg (Option.map Scope.panel) ha
    exact clearFaults_panels hr scope rfl hc right (by simp) (panels ▸ List.nodup_singleton p) tag
  · have both : s.configured (portOf h) = true ∧ s.configured (starboardOf h) = true := by
      unfold State.configured
      rw [hatchOf_portOf, hatchOf_starboardOf]
      exact ⟨hc, hc⟩
    have panels : s.scopePanels (.hatch h) = [portOf h, starboardOf h] := by simp [State.scopePanels, both]
    have right : s.mayClear n (.hatch h) = true := by
      obtain hk | hp := hm
      · exact may _ hk
      · simp [State.mayClear, hp]
    refine clears_of ?_
    rw [← panels]
    have scope : scopeArg 1 b = some (.hatch h) := congrArg (Option.map Scope.hatch) ha
    exact clearFaults_panels hr scope hc rfl right (by simp) (panels ▸ halves_nodup h) tag
  · intro ps v relieve
    have run := exec_clearFaults (sc := .unit) (target := b) (scope := 2) hr rfl rfl rfl (may _ hk) tag
    obtain ⟨same, panels⟩ := clearedAll_spec (s := s.taken n) (allPanels_nodup.filter s.configured)
    have cleared_eq : v = { s.taken n with
        panels := v.panels, frameErrorsWarned := false, supplyLow := s.supplyLow && !s.supplyRecovered } :=
      panelsCleared_eq (s := s.taken n) (allPanels_nodup.filter s.configured)
    have whole : (s.taken n).clearScope .unit = (v.clearPack .a).clearPack .b := clearScope_unit (s.taken n)
    have counted : ∀ u, clearBytes s ((s.taken n).clearedAll (s.scopePanels .unit)) u (s.scopePanels .unit) = counts v u ps :=
      fun _ => rfl
    obtain ⟨params, params_a, errors, low, stations, packs⟩ := clearPacks_lasting v
    have params_v : v.params = s.params := (congrArg State.params cleared_eq :)
    have relieve_eq (u : State) (k : PackId) (hp : u.params = s.params) : relieve u k = u.clearPack k := by
      rw [clearPack_eq hp]
      rfl
    have relieved : relieve (relieve v .a) .b = (v.clearPack .a).clearPack .b := by
      rw [relieve_eq v .a params_v, relieve_eq _ .b (params_a.trans params_v)]
    rw [whole, counted] at run
    refine ⟨fun p => ?_, cleared_eq, _, run, ?_⟩
    · have here : v.panel p = if p ∈ ps then s.wiped p else s.panel p := panels p
      have listed : p ∈ ps ↔ s.configured p = true := by
        rw [List.mem_filter]
        exact and_iff_right (mem_allPanels p)
      rw [here]
      cases hc : s.configured p with
      | true => rw [if_pos rfl, if_pos (listed.2 hc)]; exact wiped p
      | false => rw [if_neg (by decide), if_neg fun h => absurd (hc.symm.trans (listed.1 h)) (by decide)]
    · have packs_v (k : PackId) : v.pack k = s.pack k := (congrArg (State.pack · k) cleared_eq :)
      have low_v : v.supplyLow = (s.supplyLow && !s.supplyRecovered) := (congrArg State.supplyLow cleared_eq :)
      have errors_v : v.frameErrorsWarned = false := (congrArg State.frameErrorsWarned cleared_eq :)
      have stations_v (m : StationNo) : (v.station m).frameErrors = ((s.taken n).station m).frameErrors :=
        (congrArg (fun u : State => (u.station m).frameErrors) cleared_eq :)
      generalize (v.clearPack .a).clearPack .b = w at *
      refine ⟨errors.trans errors_v, by rw [relieved]; rfl, low.trans low_v, fun m => ?_, fun k => ?_⟩
      · have answered : ((w.replied n tag .accepted (counts v w ps)).station m).frameErrors = (w.station m).frameErrors := by
          rw [replied_station]
          split
          · rename_i e
            rw [e]
          · rfl
        have taken : ((s.taken n).station m).frameErrors = (s.station m).frameErrors := by
          rw [taken_station]
          split
          · rename_i e
            rw [e]
          · rfl
        exact ((answered.trans (stations m)).trans (stations_v m)).trans taken
      · have pack := packs k
        rw [packs_v, params_v] at pack
        obtain ⟨pump, pressure, heat⟩ := clearLatched_fields (s.pack k) (s.params.tuning.pressureMode == 0)
          s.params.tuning.pressureLow s.params.tuning.oilHot
        have overtemp : (w.pack k).overtemp = _ := (congrArg Pack.overtemp pack :)
        refine ⟨(congrArg Pack.pump pack :).trans pump, (congrArg Pack.lowPressure pack :).trans pressure, ?_⟩
        change (w.pack k).overtemp = true ↔ _
        rw [overtemp]
        exact heat

end Sys2Proof.Machine
end

section
/-! What the operations on one order do to the flow: a panel's grant and its waiting request go with its step, and the flow of
the other panels stands (R124, R130). -/

namespace Sys2Proof.Machine

open State (WorksOn)

variable {s t u : State} {p q : PanelNo} {i j : SlotNo} {o : Order} {k : PackId} {w : Waiter}

/-! ### Without an entry nothing is dropped -/

theorem dropPanel_of_not_mem {x : Pack} (h : p ∉ x.panels) : x.dropPanel p = x := by
  have grants : x.grants.filter (fun g => g.panel != p) = x.grants :=
    List.filter_eq_self.2 fun g hg => bne_iff_ne.2 fun e => h (e ▸ List.mem_append_left _ (List.mem_map_of_mem hg))
  have waiting : x.waiting.filter (fun w => w.panel != p) = x.waiting :=
    List.filter_eq_self.2 fun w hw => bne_iff_ne.2 fun e => h (e ▸ List.mem_append_right _ (List.mem_map_of_mem hw))
  unfold Pack.dropPanel
  rw [grants, waiting]

theorem not_mem_dropPanel (x : Pack) (p : PanelNo) : p ∉ (x.dropPanel p).panels := fun h => (mem_dropPanel.1 h).2 rfl

/-- No pack names the panel. -/
def State.flowless (s : State) (p : PanelNo) : Prop := ∀ k, p ∉ (s.pack k).panels

theorem flowless_iff : s.flowless p ↔ s.flow p = .none := by
  rw [flow_eq_none]
  exact ⟨fun h => ⟨h .a, h .b⟩, fun ⟨ha, hb⟩ k => by cases k; exact ha; exact hb⟩

theorem State.flowless.placedOnce (h : s.flowless p) : s.placedOnce p := fun k hp => absurd hp (h k)

theorem pack_eq_of (ha : t.packA = s.packA) (hb : t.packB = s.packB) (k : PackId) : t.pack k = s.pack k := by
  cases k
  · exact ha
  · exact hb

theorem placedOnce_of_pack (h : ∀ k, t.pack k = s.pack k) : t.placedOnce p ↔ s.placedOnce p := by
  unfold State.placedOnce
  simp only [h]

theorem State.Calms.pack (h : s.Calms p t) (k : PackId) : t.pack k = s.pack k := by
  obtain ⟨y, rfl, -⟩ := h
  cases k <;> rfl

/-! ### The operations -/

theorem eq_otherPack {l : PackId} (h : l ≠ k) : k = otherPack l := by
  cases k <;> cases l
  · exact absurd rfl h
  · rfl
  · rfl
  · exact absurd rfl h

/-- The flow of a panel that the packs name once is dropped from both (R130). -/
theorem dropFlow_pack (h : s.placedOnce p) (k : PackId) : (s.dropFlow p).st.pack k = (s.pack k).dropPanel p := by
  have apart {l : PackId} {d : Nat} (e : s.flow p = .granted l d ∨ s.flow p = .waiting l d) :
      (s.modPack l fun x => x.dropPanel p).pack k = (s.pack k).dropPanel p := by
    have here : p ∈ (s.pack l).panels := mem_panels_of_flow e
    by_cases hk : l = k
    · subst hk
      exact modPack_pack_self ..
    · obtain rfl : k = otherPack l := eq_otherPack hk
      rw [dropPanel_of_not_mem (h l here)]
      exact setPack_pack_other ..
  unfold State.dropFlow
  split
  · rename_i e
    exact (dropPanel_of_not_mem (flowless_iff.2 e k)).symm
  · rename_i l d e
    exact apart (.inr e)
  · rename_i l d e
    exact apart (.inl e)

theorem setPhase_pack (s : State) (p : PanelNo) (i : SlotNo) (ph : Option Phase) (r : Reasons) (v : Option Purpose)
    (k : PackId) : (s.setPhase p i ph r v).pack k = s.pack k := by
  obtain ⟨ha, hb⟩ := setPhase_packs s p i ph r v
  exact pack_eq_of ha hb k

/-- The interruption of a step drops its flow (R86). -/
theorem interrupt_pack {x : SlotNo × Order × StepKind} (h : s.served p = some x) (one : s.placedOnce p) (k : PackId) :
    (s.interrupt p).st.pack k = (s.pack k).dropPanel p := by
  obtain ⟨i, o, q⟩ := x
  have calm : s.Calms p (if o.phase = some .running then s.stopStep p q else s) := by
    split
    · exact calms_stopStep q
    · exact .refl s p
  have same (k : PackId) : (((if o.phase = some .running then s.stopStep p q else s).setPhase p i none {} none).modPanel p
      fun x => { x with plan := none }).pack k = s.pack k :=
    (modPanel_pack ..).trans ((setPhase_pack ..).trans (calm.pack k))
  simp only [State.interrupt, h, Res.add_st]
  rw [dropFlow_pack ((placedOnce_of_pack same).2 one), same]

theorem interrupt_jog (s : State) (p : PanelNo) : (s.interrupt p).st.jog = s.jog := by
  unfold State.interrupt
  cases h : s.served p with
  | none => rfl
  | some x =>
    obtain ⟨i, o, q⟩ := x
    have calm : s.Calms p (if o.phase = some .running then s.stopStep p q else s) := by
      split
      · exact calms_stopStep q
      · exact .refl s p
    dsimp only [Res.add_st]
    obtain ⟨⟨a, b, e⟩, -⟩ := repacked_dropFlow
      (((if o.phase = some .running then s.stopStep p q else s).setPhase p i none {} none).modPanel p
        fun x => { x with plan := none }) p
    rw [e]
    obtain ⟨y, hy, -⟩ := calm
    rw [hy]
    unfold State.setPhase
    cases ho : s.slot i <;> simp [State.modOrder, ho]

theorem ended_endOrder {st : OrderState} (ho : s.slot i = some o) (hl : o.state.live = true) (hst : st.live = false) :
    (if o.state = .active then (s.interrupt o.panel).st else s).Ended (s.endOrder i st).st := by
  rw [endOrder_eq ho hl]
  exact (ended_finishOrder _ i _ hst).trans (ended_cascade _ _ _ _)

/-- The failing of a served order drops the flow of its step (R60). -/
theorem failLive_served {c : FailReason} {r : StepKind} (hs : s.Linked) (h : s.served p = some (i, o, r)) (one : s.placedOnce p) :
    (∀ k, (s.failLive p c).st.pack k = (s.pack k).dropPanel p) ∧ (s.failLive p c).st.jog = s.jog ∧
    ∃ b, (s.failLive p c).st.slot i = some (o.finish (.failed c) s.now (s.now + 1000 * s.params.tuning.retentionTime) b) := by
  obtain ⟨hlive, ha, -⟩ := served_some h
  obtain ⟨ho, hp, hl⟩ := live_of_liveOrder hs hlive
  have failed : (s.failLive p c).st = (s.endOrder i (.failed c)).st := by simp only [State.failLive, hlive]
  have ended := ended_endOrder ho hl (st := .failed c) rfl
  rw [if_pos ha, hp] at ended
  rw [failed]
  refine ⟨fun k => ?_, ended.jog.trans (interrupt_jog s p), endOrder_slot ho hl rfl⟩
  rw [← interrupt_pack h one k]
  exact pack_eq_of ended.packs.1 ended.packs.2 k

/-- The pause of a panel without flow leaves the packs. -/
theorem pauseIf_pack (f : Order → Bool) (c : PauseReason) (h : s.flowless p) (hs : s.Linked) (k : PackId) :
    (s.pauseIf f c p).st.pack k = s.pack k := by
  unfold State.pauseIf
  cases hl : s.liveOrder p with
  | none => rfl
  | some io =>
    obtain ⟨i, o⟩ := io
    obtain ⟨ho, hp, -⟩ := live_of_liveOrder hs hl
    dsimp only
    split
    · unfold State.pauseOrder
      rw [ho]
      dsimp only
      cases o.state.pausedFrom with
      | none => rfl
      | some x =>
        dsimp only
        rw [Res.map_st]
        obtain ⟨ua, ub⟩ := updateOrder_packs (if o.state = .active then s.interrupt o.panel else .ok s).st i
          fun o => { o with state := .paused c, pausedFrom := some x, phase := none, reasons := {} }
        refine (pack_eq_of ua ub k).trans ?_
        split
        · rw [hp]
          cases hv : s.served p with
          | none => rw [interrupt_unserved hv]; rfl
          | some x => rw [interrupt_pack hv h.placedOnce k, dropPanel_of_not_mem (h k)]
        · rfl
    · rfl

/-- The end of the jog drops the flow of its panel (R197). -/
theorem endJog_pack {g : Jog} (hj : s.jog = some g) (one : s.placedOnce g.panel) (k : PackId) :
    s.endJog.st.pack k = (s.pack k).dropPanel g.panel := by
  obtain ⟨ha, hb⟩ := jogStopped_packs s g
  have same (k : PackId) : (s.jogStopped g).pack k = s.pack k := pack_eq_of ha hb k
  rw [endJog_of hj]
  dsimp only [Res.add_st]
  rw [dropFlow_pack ((placedOnce_of_pack same).2 one), same]

/-! ### The steps of the other panels -/

/-- In a sound table a panel's step is that of its ACTIVE order. -/
theorem served_iff (hs : s.Linked) {r : StepKind} : s.served p = some (i, o, r) ↔
    s.slot i = some o ∧ o.panel = p ∧ o.state = .active ∧ (stepList o.kind)[o.step - 1]? = some r := by
  constructor
  · intro h
    obtain ⟨hl, ha, hk⟩ := served_some h
    obtain ⟨ho, hp, -⟩ := live_of_liveOrder hs hl
    exact ⟨ho, hp, ha, hk⟩
  · rintro ⟨ho, rfl, ha, hk⟩
    exact served_of (liveOrder_of_live hs ho (by rw [ha]; rfl)) ha hk

theorem not_waiting_of_active (hc : o.consistent) (ha : o.state = .active) : o.waiting = false := by
  obtain ⟨-, -, -, -, hf⟩ := hc
  have paused : o.state.isPaused = false := by rw [ha]; rfl
  have from_none : o.pausedFrom = none := by
    cases h : o.pausedFrom with
    | none => rfl
    | some x => rw [paused, h] at hf; exact absurd (hf.2 rfl) (by decide)
  simp [Order.waiting, ha, from_none]

/-- Work on one panel leaves the steps of the others. -/
theorem WorksOn.served (h : WorksOn p s t) (hs : s.Linked) (hq : p ≠ q) {x : SlotNo × Order × StepKind}
    (hx : s.served q = some x) : t.served q = some x := by
  obtain ⟨i, o, r⟩ := x
  obtain ⟨ho, rfl, ha, hk⟩ := (served_iff hs).1 hx
  have still := h.slot hs i o ho (Ne.symm hq) (not_waiting_of_active (hs.consistent i o ho) ha)
  exact (served_iff (Changes.linked h.run hs)).2 ⟨still, rfl, ha, hk⟩

/-! ### Entries that join a list -/

theorem insertWaiter_perm (w : Waiter) : ∀ ws : List Waiter, (insertWaiter w ws).Perm (w :: ws)
  | [] => .refl _
  | v :: ws => by
    unfold insertWaiter
    split
    · exact .refl _
    · exact ((insertWaiter_perm w ws).cons v).trans (.swap ..)

theorem mem_insert {x : Pack} {v : Waiter} : v ∈ (x.insert w).waiting ↔ v = w ∨ v ∈ x.waiting := by
  rw [Pack.insert, (insertWaiter_perm w x.waiting).mem_iff, List.mem_cons]

theorem insert_panels (x : Pack) (w : Waiter) : (x.insert w).panels.Perm (w.panel :: x.panels) := by
  have joined : (x.insert w).panels = x.grants.map Grant.panel ++ (insertWaiter w x.waiting).map Waiter.panel := rfl
  rw [joined]
  exact (((insertWaiter_perm w x.waiting).map Waiter.panel).append_left _).trans List.perm_middle

/-- The packs name no panel twice when each names none twice and no panel stands with both. -/
theorem onePlace_iff : s.onePlace ↔ (∀ k, (s.pack k).panels.Nodup) ∧ ∀ p, s.placedOnce p := by
  unfold State.onePlace
  rw [List.nodup_append']
  refine ⟨fun ⟨ha, hb, apart⟩ => ⟨fun k => ?_, fun p k h => ?_⟩, fun ⟨each, once⟩ => ⟨each .a, each .b, fun p h => once p .a h⟩⟩
  · cases k
    · exact ha
    · exact hb
  · cases k
    · exact fun h' => apart h h'
    · exact fun h' => apart h' h

theorem waiterOf_of_mem (one : s.onePlace) (hw : w ∈ (s.pack k).waiting) : (s.pack k).waiterOf w.panel = some w := by
  have apart := List.Nodup.of_append_right ((onePlace_iff.1 one).1 k)
  unfold Pack.waiterOf
  cases h : (s.pack k).waiting.find? fun v => v.panel == w.panel with
  | none => exact absurd (List.find?_eq_none.1 h w hw) (by simp)
  | some v =>
    have same : v.panel = w.panel := by simpa using List.find?_some h
    rw [List.inj_on_of_nodup_map apart (List.mem_of_find?_eq_some h) hw same]

theorem mem_dropPanel_waiting {x : Pack} : w ∈ (x.dropPanel p).waiting ↔ w ∈ x.waiting ∧ w.panel ≠ p := by
  unfold Pack.dropPanel
  simp

/-- Dropping a panel leaves the packs naming no panel twice. -/
theorem onePlace_dropPanel (one : s.onePlace) (h : ∀ k, t.pack k = (s.pack k).dropPanel p) : t.onePlace := by
  obtain ⟨each, once⟩ := onePlace_iff.1 one
  refine onePlace_iff.2 ⟨fun k => ?_, fun q k hq => ?_⟩
  · rw [h k]
    unfold Pack.dropPanel Pack.panels
    exact (each k).sublist ((List.filter_sublist.map _).append (List.filter_sublist.map _))
  · rw [h] at hq ⊢
    exact fun hq' => once q k (mem_dropPanel.1 hq).1 (mem_dropPanel.1 hq').1

/-- A waiting request has no grant with it. -/
theorem dropPanel_grants (one : s.onePlace) (hw : w ∈ (s.pack k).waiting) (j : PackId) :
    ((s.pack j).dropPanel w.panel).grants = (s.pack j).grants := by
  obtain ⟨each, once⟩ := onePlace_iff.1 one
  have here : w.panel ∈ (s.pack k).panels := List.mem_append_right _ (List.mem_map_of_mem hw)
  refine List.filter_eq_self.2 fun g hg => bne_iff_ne.2 fun e => ?_
  have there : w.panel ∈ (s.pack j).grants.map Grant.panel := e ▸ List.mem_map_of_mem hg
  by_cases hj : k = j
  · subst hj
    exact List.disjoint_of_nodup_append (each k) there (List.mem_map_of_mem hw)
  · rw [eq_otherPack hj] at there
    exact once _ k here (List.mem_append_left _ there)

/-! ### Work on several panels -/

/-- `t` is `s` after work on the panels `ps`. -/
structure State.WorksOver (ps : List PanelNo) (s t : State) : Prop where
  run : Changes Leave.all s t
  panel : s.Linked → ∀ q, q ∉ ps → t.panel q = s.panel q ∨ ∃ i o, s.slot i = some o ∧ o.panel = q ∧ o.waiting = true
  slot : s.Linked → ∀ j o, s.slot j = some o → o.panel ∉ ps → o.waiting = false → t.slot j = some o

namespace State.WorksOver

variable {ps qs : List PanelNo}

theorem refl (ps : List PanelNo) (s : State) : s.WorksOver ps s := ⟨.refl, fun _ _ _ => .inl rfl, fun _ _ _ h _ _ => h⟩

theorem of_one (h : WorksOn p s t) : s.WorksOver [p] t where
  run := h.run
  panel := fun hs q hq => h.panel hs q fun e => hq (e ▸ List.mem_singleton_self q)
  slot := fun hs j o ho hp => h.slot hs j o ho fun e => hp (e ▸ List.mem_singleton_self _)

theorem mono (h : s.WorksOver ps t) (hq : ∀ p ∈ ps, p ∈ qs) : s.WorksOver qs t where
  run := h.run
  panel := fun hs q hn => h.panel hs q fun hp => hn (hq q hp)
  slot := fun hs j o ho hn => h.slot hs j o ho fun hp => hn (hq _ hp)

theorem trans (a : s.WorksOver ps t) (b : t.WorksOver ps u) : s.WorksOver ps u where
  run := a.run.trans b.run
  panel := fun hs q hq => by
    obtain e | ⟨i, o, ho, hp, hw⟩ := b.panel (Changes.linked a.run hs) q hq
    · obtain e' | h := a.panel hs q hq
      · exact .inl (e.trans e')
      · exact .inr h
    · obtain ⟨o', ho', hl⟩ := Changes.slot_from a.run ho
      obtain ⟨-, -, hp', -⟩ := Order.lasting_fields hl
      refine .inr ⟨i, o', ho', hp'.symm.trans hp, ?_⟩
      by_contra hn
      have hn : o'.waiting = false := by simpa using hn
      have still := a.slot hs i o' ho' (by rw [hp'.symm.trans hp]; exact hq) hn
      obtain rfl : o = o' := Option.some.inj (ho.symm.trans still)
      rw [hw] at hn
      cases hn
  slot := fun hs j o ho hp hw => b.slot (Changes.linked a.run hs) j o (a.slot hs j o ho hp hw) hp hw

/-- The steps of the other panels stand. -/
theorem served (h : s.WorksOver ps t) (hs : s.Linked) (hq : q ∉ ps) {x : SlotNo × Order × StepKind}
    (hx : s.served q = some x) : t.served q = some x := by
  obtain ⟨i, o, r⟩ := x
  obtain ⟨ho, rfl, ha, hk⟩ := (served_iff hs).1 hx
  have still := h.slot hs i o ho hq (not_waiting_of_active (hs.consistent i o ho) ha)
  exact (served_iff (Changes.linked h.run hs)).2 ⟨still, rfl, ha, hk⟩

/-- A panel whose order does not wait is left alone. -/
theorem panel_eq (h : s.WorksOver ps t) (hs : s.Linked) (ho : s.slot i = some o) (hl : o.state.live = true)
    (hw : o.waiting = false) (hq : o.panel ∉ ps) : t.panel o.panel = s.panel o.panel := by
  obtain e | ⟨j, o', ho', hp, hw'⟩ := h.panel hs o.panel hq
  · exact e
  · have one := liveOrder_of_live hs ho hl
    have two := liveOrder_of_live hs ho' (Order.waiting_live hw')
    rw [hp, one] at two
    obtain rfl : o = o' := by simpa using congrArg (Option.map Prod.snd) two
    rw [hw'] at hw
    cases hw

end State.WorksOver

/-! ### The laws of the flow -/

theorem onePlace_of_flows (h : ∀ k, (t.pack k).grants = (s.pack k).grants ∧ (t.pack k).waiting = (s.pack k).waiting) :
    t.onePlace ↔ s.onePlace := by
  have same (k : PackId) : (t.pack k).panels = (s.pack k).panels := by
    unfold Pack.panels
    rw [(h k).1, (h k).2]
  have a : t.packA.panels = s.packA.panels := same .a
  have b : t.packB.panels = s.packB.panels := same .b
  unfold State.onePlace
  rw [a, b]

/-- The laws of R124 speak of the grants, the lists, the orders and the jog. -/
theorem flowLaws_congr (flows : ∀ k, (t.pack k).grants = (s.pack k).grants ∧ (t.pack k).waiting = (s.pack k).waiting)
    (served : ∀ p, t.served p = s.served p) (jog : t.jog = s.jog) (room : ∀ k, t.capacity k = s.capacity k)
    (h : s.flowLaws) : t.flowLaws := by
  obtain ⟨sum, one, grants, waiting⟩ := h
  refine ⟨fun k => ?_, (onePlace_of_flows flows).2 one, fun k g hg => ?_, fun k w hw => ?_⟩
  · unfold Pack.granted
    rw [(flows k).1, room k]
    exact sum k
  · rw [(flows k).1] at hg
    rw [jog, served]
    exact grants k g hg
  · rw [(flows k).2] at hw
    rw [served]
    exact waiting k w hw

end Sys2Proof.Machine
end

section
/-! The causes of a pack and what they make of its health (R131 to R133, R159 to R161). -/

namespace Sys2Proof.Machine

open State (WorksOn)

variable {s t u : State} {p q : PanelNo} {i j : SlotNo} {o : Order} {k : PackId} {w : Waiter}

/-! ### The causes -/

theorem Pack.judged_eq (x : Pack) (held running : Nat) :
    x.judged held running = (x.pumpOn && decide (1000 ≤ held) && decide (3000 ≤ running)) := by
  unfold Pack.judged
  rw [Bool.and_assoc, ← Bool.decide_and]
  congr 1
  exact decide_eq_decide.2 (by omega)

/-- A pack's record keeps its grants and its list. -/
def Pack.flows (x y : Pack) : Prop := y.grants = x.grants ∧ y.waiting = x.waiting

theorem setPack_lasting_other (s : State) (k : PackId) (y : Pack) :
    ((s.setPack y k).pack (otherPack k)).lasting = (s.pack (otherPack k)).lasting := by
  rw [setPack_pack_other]

/-- The latches of a change of a pack (R161). -/
theorem packTaken_latches (hs : s.inStart = false) (k : PackId) (y : Pack) :
    ((s.pack k).anyCause = false → y.anyCause = true → .unitFault ∈ (s.packTaken k y).latches) ∧
    ((s.pack k).up ≠ y.up ∨ (s.pack k).hot ≠ y.hot → .packChange ∈ (s.packTaken k y).latches) ∧
    ((s.pack k).hot = false → y.hot = true → .warning ∈ (s.packTaken k y).latches) := by
  have start (v : State) (b : Bool) (e : EventLatch) (h : v.inStart = false) : (v.latchIf b e).inStart = false := by
    rw [latchIf_eq]
    exact h
  have up₁ : (s.setPack y k).inStart = false := by cases k <;> exact hs
  have up₂ := start _ (y.anyCause && !(s.pack k).anyCause) .unitFault up₁
  have up₃ := start _ (y.hot && !(s.pack k).hot) .warning up₂
  have later {v : State} {b : Bool} {e e' : EventLatch} (he : 4 ≤ e'.code) (h : e ∈ v.latches) : e ∈ (v.latchIf b e').latches :=
    Changes.latches (L := Leave.all) (changes_latchIf he) h
  have now {v : State} {b : Bool} {e : EventLatch} (hb : b = true) (h : v.inStart = false) : e ∈ (v.latchIf b e).latches :=
    mem_latchIf hb fun h' => absurd (h.symm.trans h'.1) (by decide)
  refine ⟨fun hx hy => ?_, fun h => now ?_ up₃, fun hx hy => ?_⟩
  · exact later (by decide) (later (by decide) (now (by simp [hx, hy]) up₁))
  · simpa using h
  · exact later (by decide) (now (by simp [hx, hy]) up₂)

/-- What a reading of a pack's lines does: the pack's causes and oil state are those of `y`, and the change of the pack is the
change to `y` (R161). -/
theorem changePack_read {y : Pack} (hy : y = { y with grants := (s.pack k).grants, waiting := (s.pack k).waiting }) :
    let t := s.changePack k fun _ => y
    (t.pack k).lasting = y.lasting ∧
    t = (s.changePack k fun _ => { t.pack k with grants := (s.pack k).grants, waiting := (s.pack k).waiting }) ∧
    (t.pack (otherPack k)).lasting = (s.pack (otherPack k)).lasting ∧
    (s.inStart = false →
      ((s.pack k).anyCause = false → (t.pack k).anyCause = true → .unitFault ∈ t.latches) ∧
      ((s.pack k).up ≠ (t.pack k).up ∨ (s.pack k).hot ≠ (t.pack k).hot → .packChange ∈ t.latches) ∧
      ((s.pack k).hot = false → (t.pack k).hot = true → .warning ∈ t.latches)) := by
  intro t
  have last : t.lasting = (s.setPack y k).lasting := changePack_lasting s k fun _ => y
  have here : (t.pack k).lasting = y.lasting := by
    rw [lasting_pack last k, setPack_pack_self]
  have whole : { t.pack k with grants := (s.pack k).grants, waiting := (s.pack k).waiting } = y := by
    refine Eq.trans ?_ hy.symm
    exact (congrArg (fun z : Pack => { z with grants := (s.pack k).grants, waiting := (s.pack k).waiting }) here :)
  refine ⟨here, by rw [whole], ?_, fun hs => ?_⟩
  · rw [lasting_pack last, setPack_lasting_other]
  · have causes : (t.pack k).anyCause = y.anyCause := (congrArg Pack.anyCause here :)
    have up : (t.pack k).up = y.up := (congrArg Pack.up here :)
    have warm : (t.pack k).hot = y.hot := (congrArg Pack.hot here :)
    obtain ⟨fault, change, heat⟩ := packTaken_latches hs k y
    have kept {e : EventLatch} (h : e ∈ (s.packTaken k y).latches) : e ∈ t.latches :=
      Changes.latches (changes_changePack s k fun _ => y) h
    rw [causes, up, warm]
    exact ⟨fun a b => kept (fault a b), fun h => kept (change h), fun a b => kept (heat a b)⟩

/-! ### An entry whose list pack is decided again -/

/-- The outcome for an entry of pack `k` whose list pack has been decided again (R126, R132, R133). -/
structure State.Decided (k : PackId) (s t : State) (w : Waiter) : Prop where
  stays : s.listPack w.panel = k → w ∈ (t.pack k).waiting
  leaves : s.listPack w.panel ≠ k → w ∉ (t.pack k).waiting
  moves : s.listPack w.panel ≠ k → w.demand ≤ s.capacity (otherPack k) → w ∈ (t.pack (otherPack k)).waiting
  fails : s.listPack w.panel ≠ k → s.capacity (otherPack k) < w.demand → t.flowless w.panel ∧
    ∀ i o q, s.served w.panel = some (i, o, q) → ∃ o', t.slot i = some o' ∧ o'.state = .failed .flowImpossible

/-- The entries `ws` of pack `k` have had their list pack decided again. -/
structure State.Redecided (k : PackId) (ws : List Waiter) (s t : State) : Prop where
  work : s.WorksOver (ws.map Waiter.panel) t
  one : t.onePlace
  grants : ∀ j, (t.pack j).grants = (s.pack j).grants
  flowless : ∀ p, s.flowless p → t.flowless p
  kept : ∀ w ∈ (s.pack k).waiting, w ∉ ws → w ∈ (t.pack k).waiting
  came : ∀ w ∈ (s.pack (otherPack k)).waiting, w ∈ (t.pack (otherPack k)).waiting
  remain : ∀ w ∈ (t.pack k).waiting, w ∈ (s.pack k).waiting
  jog : t.jog = s.jog
  decided : ∀ w ∈ ws, s.Decided k t w

/-- Where a panel is listed depends on what lasts. -/
theorem listPack_lasting (h : t.lasting = s.lasting) (p : PanelNo) : t.listPack p = s.listPack p := by
  have layout : t.layout = s.layout := lasting_layout h
  have up (j : PackId) : (t.pack j).up = (s.pack j).up := (congrArg Pack.up (lasting_pack h j) :)
  have home : t.homePack p = s.homePack p := by
    unfold State.homePack
    rw [layout]
  unfold State.listPack State.servingPack
  simp only [home, up, layout]

theorem capacity_lasting (h : t.lasting = s.lasting) (j : PackId) : t.capacity j = s.capacity j := by
  have params : t.params = s.params := (congrArg State.params h :)
  cases j <;> simp only [State.capacity, params]

theorem otherPack_ne (k : PackId) : k ≠ otherPack k := by cases k <;> decide

theorem listPack_other {k : PackId} (h : s.listPack p ≠ k) : s.listPack p = otherPack k := eq_otherPack (Ne.symm h)

/-- An entry that stays. -/
theorem redecided_stays (one : s.onePlace) (hw : w ∈ (s.pack k).waiting) (h : s.listPack w.panel = k) :
    s.Redecided k [w] (s.moveWaiter k w.panel).st := by
  have same : s.moveWaiter k w.panel = .ok s := by
    unfold State.moveWaiter
    rw [waiterOf_of_mem one hw]
    exact if_pos h
  rw [same]
  refine ⟨.refl _ s, one, fun _ => rfl, fun _ h => h, fun _ h _ => h, fun _ h => h, fun _ h => h, rfl, fun v hv => ?_⟩
  obtain rfl := List.mem_singleton.1 hv
  exact ⟨fun _ => hw, fun hn => absurd h hn, fun hn => absurd h hn, fun hn => absurd h hn⟩

/-- An entry that no pack can serve any more: its order has failed. -/
theorem redecided_fails (hs : s.Linked) (one : s.onePlace) (hw : w ∈ (s.pack k).waiting) (h : s.listPack w.panel ≠ k)
    (big : s.capacity (otherPack k) < w.demand) (served : ∃ x, s.served w.panel = some x) :
    s.Redecided k [w] (s.moveWaiter k w.panel).st := by
  have failed : s.moveWaiter k w.panel = s.failLive w.panel .flowImpossible := by
    unfold State.moveWaiter
    rw [waiterOf_of_mem one hw]
    dsimp only
    rw [if_neg h, if_pos (by rw [listPack_other h]; exact big)]
  obtain ⟨⟨i, o, r⟩, hx⟩ := served
  obtain ⟨packs, jog, b, slot⟩ := failLive_served (c := .flowImpossible) hs hx ((onePlace_iff.1 one).2 w.panel)
  have work := worksOn_failLive s w.panel .flowImpossible
  rw [failed]
  generalize (s.failLive w.panel .flowImpossible).st = t at *
  have waits {v : Waiter} {j : PackId} (hv : v ∈ (s.pack j).waiting) (hne : v.panel ≠ w.panel) : v ∈ (t.pack j).waiting := by
    rw [packs]
    exact mem_dropPanel_waiting.2 ⟨hv, hne⟩
  have gone : t.flowless w.panel := fun j => by
    rw [packs]
    exact not_mem_dropPanel _ _
  refine ⟨.of_one work, onePlace_dropPanel one packs, fun j => ?_, fun p hp j => ?_, fun v hv hne => waits hv fun e => ?_,
    fun v hv => waits hv fun e => ?_, fun v hv => ?_, jog, fun v hv => ?_⟩
  · rw [packs, dropPanel_grants one hw]
  · rw [packs]
    exact fun hm => hp j (mem_dropPanel.1 hm).1
  · have inj := List.inj_on_of_nodup_map (List.Nodup.of_append_right ((onePlace_iff.1 one).1 k)) hv hw e
    exact hne (inj ▸ List.mem_singleton_self v)
  · exact (onePlace_iff.1 one).2 w.panel k (List.mem_append_right _ (List.mem_map_of_mem hw))
      (List.mem_append_right _ (e ▸ List.mem_map_of_mem hv))
  · rw [packs] at hv
    exact (mem_dropPanel_waiting.1 hv).1
  · obtain rfl := List.mem_singleton.1 hv
    refine ⟨fun e => absurd e h, fun _ hm => ?_, fun _ fits => absurd big (by omega), fun _ _ => ⟨gone, fun i' o' r' hx' => ?_⟩⟩
    · exact gone k (List.mem_append_right _ (List.mem_map_of_mem hm))
    · obtain rfl : i = i' := by
        have := hx.symm.trans hx'
        simpa using congrArg (Option.map Prod.fst) this
      exact ⟨_, slot, rfl⟩

/-- An entry that moves to the other list. -/
theorem redecided_moves (one : s.onePlace) (hw : w ∈ (s.pack k).waiting) (h : s.listPack w.panel ≠ k)
    (fits : w.demand ≤ s.capacity (otherPack k)) : s.Redecided k [w] (s.moveWaiter k w.panel).st := by
  obtain ⟨each, once⟩ := onePlace_iff.1 one
  have here : w.panel ∈ (s.pack k).panels := List.mem_append_right _ (List.mem_map_of_mem hw)
  have moved : s.moveWaiter k w.panel =
      .ok ((s.modPack k fun x => x.dropPanel w.panel).modPack (otherPack k) fun x => x.insert w) := by
    unfold State.moveWaiter
    rw [waiterOf_of_mem one hw]
    dsimp only
    rw [if_neg h, listPack_other h, if_neg (by omega)]
  have run := changes_moveWaiter (s := s) (L := Leave.all) (fun _ => trivial) k (p := w.panel)
  rw [moved] at run ⊢
  have left : ((s.modPack k fun x => x.dropPanel w.panel).modPack (otherPack k) fun x => x.insert w).pack k =
      (s.pack k).dropPanel w.panel := by
    unfold State.modPack
    rw [setPack_pack_ne _ _ (Ne.symm (otherPack_ne k)), setPack_pack_self]
  have joined : ((s.modPack k fun x => x.dropPanel w.panel).modPack (otherPack k) fun x => x.insert w).pack (otherPack k) =
      (s.pack (otherPack k)).insert w := by
    rw [modPack_pack_self]
    unfold State.modPack
    rw [setPack_pack_other]
  have panels : ∀ q, ((s.modPack k fun x => x.dropPanel w.panel).modPack (otherPack k) fun x => x.insert w).panel q =
      s.panel q := fun q => by cases k <;> rfl
  have slots : ((s.modPack k fun x => x.dropPanel w.panel).modPack (otherPack k) fun x => x.insert w).slots =
      s.slots := by cases k <;> rfl
  have jog : ((s.modPack k fun x => x.dropPanel w.panel).modPack (otherPack k) fun x => x.insert w).jog =
      s.jog := by cases k <;> rfl
  rw [Res.ok_st] at run ⊢
  generalize (s.modPack k fun x => x.dropPanel w.panel).modPack (otherPack k) (fun x => x.insert w) = t at *
  have named {q : PanelNo} : q ∈ (t.pack (otherPack k)).panels ↔ q = w.panel ∨ q ∈ (s.pack (otherPack k)).panels := by
    rw [joined, (insert_panels _ w).mem_iff, List.mem_cons]
  have other (j : PackId) : j = k ∨ j = otherPack k := by cases j <;> cases k <;> simp [otherPack]
  have oneT : t.onePlace := by
    refine onePlace_iff.2 ⟨fun j => ?_, fun q j hq => ?_⟩
    · obtain rfl | rfl := other j
      · rw [left]
        unfold Pack.dropPanel Pack.panels
        exact (each j).sublist ((List.filter_sublist.map _).append (List.filter_sublist.map _))
      · rw [joined, (insert_panels _ w).nodup_iff, List.nodup_cons]
        exact ⟨once _ k here, each _⟩
    · obtain rfl | rfl := other j
      · rw [left] at hq
        obtain ⟨hq, hne⟩ := mem_dropPanel.1 hq
        rw [named]
        exact fun hn => hn.elim hne (once q _ hq)
      · have back : otherPack (otherPack k) = k := by cases k <;> rfl
        rw [back, left]
        intro hn
        obtain ⟨hn, hne⟩ := mem_dropPanel.1 hn
        exact (named.1 hq).elim hne (once q k hn)
  refine ⟨.of_one (.of_run run (fun q _ => panels q) slots), oneT, fun j => ?_, fun p hp j => ?_, fun v hv hne => ?_,
    fun v hv => ?_, fun v hv => ?_, jog, fun v hv => ?_⟩
  · obtain rfl | rfl := other j
    · rw [left, dropPanel_grants one hw]
    · rw [joined]; rfl
  · obtain rfl | rfl := other j
    · rw [left]
      exact fun hm => hp j (mem_dropPanel.1 hm).1
    · rw [named]
      rintro (rfl | hm)
      · exact hp k here
      · exact hp _ hm
  · rw [left]
    refine mem_dropPanel_waiting.2 ⟨hv, fun e => ?_⟩
    have inj := List.inj_on_of_nodup_map (List.Nodup.of_append_right (each k)) hv hw e
    exact hne (inj ▸ List.mem_singleton_self v)
  · rw [joined]
    exact mem_insert.2 (.inr hv)
  · rw [left] at hv
    exact (mem_dropPanel_waiting.1 hv).1
  · obtain rfl := List.mem_singleton.1 hv
    refine ⟨fun e => absurd e h, fun _ => ?_, fun _ _ => ?_, fun _ big => absurd fits (by omega)⟩
    · rw [left]
      exact fun hm => (mem_dropPanel_waiting.1 hm).2 rfl
    · rw [joined]
      exact mem_insert.2 (.inl rfl)

/-- Each entry is decided again. -/
theorem redecided_one (hs : s.Linked) (one : s.onePlace) (hw : w ∈ (s.pack k).waiting) (served : ∃ x, s.served w.panel = some x) :
    s.Redecided k [w] (s.moveWaiter k w.panel).st := by
  by_cases h : s.listPack w.panel = k
  · exact redecided_stays one hw h
  · obtain big | fits := Nat.lt_or_ge (s.capacity (otherPack k)) w.demand
    · exact redecided_fails hs one hw h big served
    · exact redecided_moves one hw h fits

theorem redecided_each : ∀ (ws : List Waiter) (s : State), s.Linked → s.onePlace → (∀ w ∈ ws, w ∈ (s.pack k).waiting) →
    (ws.map Waiter.panel).Nodup → (∀ w ∈ ws, ∃ x, s.served w.panel = some x) →
    s.Redecided k ws (Res.each (ws.map Waiter.panel) (fun p s => s.moveWaiter k p) (.ok s)).st
  | [], s, _, one, _, _, _ => ⟨.refl _ s, one, fun _ => rfl, fun _ h => h, fun _ h _ => h, fun _ h => h, fun _ h => h, rfl,
    fun _ h => absurd h List.not_mem_nil⟩
  | w :: ws, s, hs, one, hm, hd, hv => by
    rw [List.map_cons, each_cons_st]
    obtain ⟨new, hd⟩ := List.nodup_cons.1 hd
    have first := redecided_one hs one (hm w List.mem_cons_self) (hv w List.mem_cons_self)
    generalize (s.moveWaiter k w.panel).st = u at *
    have linked := Changes.linked first.work.run hs
    have apart {v : Waiter} (h : v ∈ ws) : v.panel ∉ [w].map Waiter.panel := fun e =>
      new (by rw [← List.mem_singleton.1 e]; exact List.mem_map_of_mem h)
    have rest := redecided_each ws u linked first.one
      (fun v h => first.kept v (hm v (List.mem_cons_of_mem _ h)) fun e => apart h (List.mem_map_of_mem e)) hd
      fun v h => by
        obtain ⟨x, hx⟩ := hv v (List.mem_cons_of_mem _ h)
        exact ⟨x, first.work.served hs (apart h) hx⟩
    generalize (Res.each (ws.map Waiter.panel) (fun p s => s.moveWaiter k p) (.ok u)).st = t at *
    have last := Changes.lasting first.work.run
    have fresh : w ∉ ws := fun h => new (List.mem_map_of_mem h)
    refine ⟨(first.work.mono ?_).trans (rest.work.mono fun p h => List.mem_cons_of_mem _ h), rest.one,
      fun j => (rest.grants j).trans (first.grants j), fun p h => rest.flowless p (first.flowless p h),
      fun v h hn => rest.kept v (first.kept v h ?_) ?_, fun v h => rest.came v (first.came v h),
      fun v h => first.remain v (rest.remain v h), rest.jog.trans first.jog, fun v h => ?_⟩
    · exact fun p h => List.mem_cons.2 (.inl (List.mem_singleton.1 h))
    · exact fun h' => hn (List.mem_cons.2 (.inl (List.mem_singleton.1 h')))
    · exact fun h' => hn (List.mem_cons_of_mem _ h')
    · obtain rfl | h := List.mem_cons.1 h
      · have now := first.decided v (List.mem_singleton_self v)
        refine ⟨fun e => rest.kept v (now.stays e) fresh, fun e hm => now.leaves e (rest.remain v hm),
          fun e fits => rest.came v (now.moves e fits), fun e big => ?_⟩
        obtain ⟨gone, failed⟩ := now.fails e big
        refine ⟨rest.flowless _ gone, fun i o r hx => ?_⟩
        obtain ⟨o', ho', hf⟩ := failed i o r hx
        exact ⟨o', Changes.finished rest.work.run ho' (by rw [hf]; rfl), hf⟩
      · have later := rest.decided v h
        have lists := listPack_lasting last v.panel
        have room := capacity_lasting last (otherPack k)
        refine ⟨fun e => later.stays (lists.trans e), fun e => later.leaves (lists ▸ e),
          fun e fits => later.moves (lists ▸ e) (room ▸ fits), fun e big => ?_⟩
        obtain ⟨gone, failed⟩ := later.fails (lists ▸ e) (room ▸ big)
        exact ⟨gone, fun i o r hx => failed i o r (first.work.served hs (apart h) hx)⟩

/-! ### The grants that a pack voids -/

theorem pauseIf_jog (s : State) (f : Order → Bool) (c : PauseReason) (p : PanelNo) : (s.pauseIf f c p).st.jog = s.jog := by
  unfold State.pauseIf
  cases s.liveOrder p with
  | none => rfl
  | some io =>
    obtain ⟨i, o⟩ := io
    dsimp only
    split
    · unfold State.pauseOrder
      cases s.slot i with
      | none => rfl
      | some x =>
        dsimp only
        cases x.state.pausedFrom with
        | none => rfl
        | some y =>
          dsimp only
          rw [Res.map_st, updateOrder_jog]
          split
          · exact interrupt_jog s _
          · rfl
    · rfl

/-- What a pause leaves of the panels is what the interruption of the step leaves. -/
theorem pauseIf_panel (s : State) (f : Order → Bool) (c : PauseReason) (p q : PanelNo) (hs : s.Linked) :
    (s.pauseIf f c p).st.panel q = s.panel q ∨ (s.pauseIf f c p).st.panel q = (s.interrupt p).st.panel q := by
  unfold State.pauseIf
  cases hl : s.liveOrder p with
  | none => exact .inl rfl
  | some io =>
    obtain ⟨i, o⟩ := io
    obtain ⟨ho, hp, -⟩ := live_of_liveOrder hs hl
    dsimp only
    split
    · unfold State.pauseOrder
      rw [ho]
      dsimp only
      cases o.state.pausedFrom with
      | none => exact .inl rfl
      | some y =>
        dsimp only
        rw [Res.map_st, updateOrder_panel]
        split
        · exact .inr (by rw [hp])
        · exact .inl rfl
    · exact .inl rfl

theorem worksOn_pauseIf (s : State) (f : Order → Bool) (c : PauseReason) (p : PanelNo) : WorksOn p s (s.pauseIf f c p).st where
  run := changes_pauseIf fun _ _ _ _ => trivial
  panel := fun hs q hq => by
    obtain e | e := pauseIf_panel s f c p q hs
    · exact .inl e
    · rw [e]
      exact (worksOn_interrupt s p).panel hs q hq
  slot := fun hs j o ho hp _ => by
    rw [pauseIf_pausable, pauseIf_slots hs _ fun x h _ => Option.isSome_iff_exists.1 (Bool.and_eq_true_iff.1 h).2, ho]
    exact congrArg some (if_neg fun h => hp h.1)

/-- The pause of a served order: it stands PAUSED from ACTIVE. -/
theorem pauseIf_served {c : PauseReason} {r : StepKind} (hs : s.Linked) (h : s.served p = some (i, o, r)) :
    (s.pauseIf (fun _ => true) c p).st.slot i = some (o.pausedFor c .active) := by
  obtain ⟨ho, hp, ha, -⟩ := (served_iff hs).1 h
  rw [pauseIf_pausable, pauseIf_slots hs _ fun x h _ => Option.isSome_iff_exists.1 (Bool.and_eq_true_iff.1 h).2, ho]
  simp [hp, ha, OrderState.live, OrderState.pausedFrom]

/-- A travel that was running runs no longer. -/
theorem pauseIf_stopped {c : PauseReason} (hs : s.Linked) (h : s.served p = some (i, o, .travel)) (hr : o.phase = some .running) :
    ((s.pauseIf (fun _ => true) c p).st.panel p).mode ≠ .driven := by
  have hl := (served_some h).1
  have ha := served_active h
  have ho := served_slot h
  have hp := ((served_iff hs).1 h).2.1
  have panel : (s.pauseIf (fun _ => true) c p).st.panel p = (s.interrupt p).st.panel p := by
    simp only [State.pauseIf, hl, if_true, State.pauseOrder, ho, ha, OrderState.pausedFrom, Res.map_st, hp]
    exact updateOrder_panel ..
  rw [panel]
  simp only [State.interrupt, h, hr, if_true, Res.add_st, State.stopStep]
  rw [dropFlow_panel, modPanel_panel_self, setPhase_panel, stopTravel_panel]
  unfold Panel.stopped
  split
  · exact nofun
  · rename_i e
    exact e

/-- The panels `ps`, none of which has flow left, have had their orders paused. -/
structure State.Voided (ps : List PanelNo) (s t : State) : Prop where
  work : s.WorksOver ps t
  pack : ∀ k, t.pack k = s.pack k
  jog : t.jog = s.jog
  paused : ∀ p ∈ ps, ∀ i o r, s.served p = some (i, o, r) → t.slot i = some (o.pausedFor .packLoss .active)
  stopped : ∀ p ∈ ps, ∀ i o, s.served p = some (i, o, .travel) → o.phase = some .running → (t.panel p).mode ≠ .driven

theorem voided_each : ∀ (ps : List PanelNo) (s : State), s.Linked → ps.Nodup → (∀ p ∈ ps, s.flowless p) →
    s.Voided ps (Res.each ps (fun p s => s.pauseIf (fun _ => true) .packLoss p) (.ok s)).st
  | [], s, _, _, _ => ⟨.refl _ s, fun _ => rfl, rfl, fun _ h => absurd h List.not_mem_nil, fun _ h => absurd h List.not_mem_nil⟩
  | p :: ps, s, hs, hd, hf => by
    obtain ⟨new, hd⟩ := List.nodup_cons.1 hd
    rw [each_cons_st]
    have work := worksOn_pauseIf s (fun _ => true) .packLoss p
    have pack := pauseIf_pack (fun _ => true) .packLoss (hf p List.mem_cons_self) hs
    have jog := pauseIf_jog s (fun _ => true) .packLoss p
    have paused (i : SlotNo) (o : Order) (r : StepKind) (h : s.served p = some (i, o, r)) :=
      pauseIf_served (c := .packLoss) hs h
    have stopped (i : SlotNo) (o : Order) (h : s.served p = some (i, o, .travel)) (hr : o.phase = some .running) :=
      pauseIf_stopped (c := .packLoss) hs h hr
    generalize (s.pauseIf (fun _ => true) .packLoss p).st = u at *
    have linked := Changes.linked work.run hs
    have rest := voided_each ps u linked hd fun q hq k => by
      rw [pack]
      exact hf q (List.mem_cons_of_mem _ hq) k
    generalize (Res.each ps (fun p s => s.pauseIf (fun _ => true) .packLoss p) (.ok u)).st = t at *
    have apart {q : PanelNo} (h : q ∈ ps) : p ≠ q := fun e => new (e ▸ h)
    have live (o : Order) : (o.pausedFor .packLoss .active).state.live = true := rfl
    have still (o : Order) : (o.pausedFor .packLoss .active).waiting = false := by simp [Order.waiting, Order.pausedFor]
    refine ⟨((State.WorksOver.of_one work).mono ?_).trans (rest.work.mono fun q h => List.mem_cons_of_mem _ h),
      fun k => (rest.pack k).trans (pack k), rest.jog.trans jog, fun q hq i o r h => ?_, fun q hq i o h hr => ?_⟩
    · exact fun q h => List.mem_cons.2 (.inl (List.mem_singleton.1 h))
    · obtain rfl | hq := List.mem_cons.1 hq
      · have panel := ((served_iff hs).1 h).2.1
        exact rest.work.slot linked i _ (paused i o r h) (by rw [← panel] at new; exact new) (still o)
      · exact rest.paused q hq i o r (WorksOn.served work hs (apart hq) h)
    · obtain rfl | hq := List.mem_cons.1 hq
      · have panel := ((served_iff hs).1 h).2.1
        have same := rest.work.panel_eq linked (paused i o _ h) (live o) (still o) (by rw [← panel] at new; exact new)
        have panel : (o.pausedFor .packLoss .active).panel = q := panel
        rw [panel] at same
        rw [same]
        exact stopped i o h hr
      · exact rest.stopped q hq i o (WorksOn.served work hs (apart hq) h) hr

/-! ### A pack that goes DOWN, and one that comes UP -/

/-- The pack's grants are voided. -/
def State.voided (s : State) (k : PackId) : State := s.modPack k fun x => { x with grants := [] }

theorem voided_pack (s : State) (k : PackId) : (s.voided k).pack k = { s.pack k with grants := [] } ∧
    (s.voided k).pack (otherPack k) = s.pack (otherPack k) :=
  ⟨modPack_pack_self .., setPack_pack_other ..⟩

theorem voided_flowless (one : s.onePlace) {g : Grant} (hg : g ∈ (s.pack k).grants) : (s.voided k).flowless g.panel := by
  obtain ⟨each, once⟩ := onePlace_iff.1 one
  obtain ⟨here, there⟩ := voided_pack s k
  have named : g.panel ∈ (s.pack k).grants.map Grant.panel := List.mem_map_of_mem hg
  intro j
  by_cases hj : k = j
  · subst hj
    rw [here]
    exact fun hm => List.disjoint_of_nodup_append (each k) named hm
  · rw [eq_otherPack hj, there]
    exact once _ k (List.mem_append_left _ named)

theorem voided_onePlace (one : s.onePlace) (k : PackId) : (s.voided k).onePlace := by
  obtain ⟨each, once⟩ := onePlace_iff.1 one
  obtain ⟨here, there⟩ := voided_pack s k
  have fewer (j : PackId) : ((s.voided k).pack j).panels.Sublist (s.pack j).panels := by
    by_cases hj : k = j
    · subst hj
      rw [here]
      exact List.sublist_append_right _ _
    · rw [eq_otherPack hj, there]
  refine onePlace_iff.2 ⟨fun j => (each j).sublist (fewer j), fun p j hp hn => ?_⟩
  exact once p j ((fewer j).subset hp) ((fewer _).subset hn)

theorem mem_stepGrants {x : Pack} : p ∈ x.stepGrants ↔ ∃ g ∈ x.grants, g.panel = p ∧ g.jog = false := by
  unfold Pack.stepGrants
  rw [List.mem_filter, List.any_eq_true]
  simp [mem_allPanels]

/-- What stands once the grants of a pack have been voided, before the entries of its list are decided again (R132). -/
structure State.Emptied (k : PackId) (s t : State) : Prop where
  linked : t.Linked
  lasting : t.lasting = s.lasting
  here : t.pack k = { s.pack k with grants := [] }
  there : t.pack (otherPack k) = s.pack (otherPack k)
  served : ∀ w ∈ (s.pack k).waiting, ∃ x, t.served w.panel = some x ∧ s.served w.panel = some x
  jog : ∀ g ∈ (s.pack k).grants, g.jog = true → t.jog = none
  paused : ∀ g ∈ (s.pack k).grants, g.jog = false → ∃ i o r, s.served g.panel = some (i, o, r) ∧
    t.slot i = some (o.pausedFor .packLoss .active) ∧
    (r = .travel → o.phase = some .running → (t.panel g.panel).mode ≠ .driven)

/-- In SERVICE, where a jog is in progress, no order is served. -/
theorem jog_none_of_served (hs : s.Linked) {x : SlotNo × Order × StepKind} (h : s.served p = some x) : s.jog = none := by
  obtain ⟨i, o, r⟩ := x
  cases hj : s.jog with
  | none => rfl
  | some g =>
    have idle := hs.serviced (hs.jog g hj).1 i o (served_slot h)
    rw [served_active h] at idle
    cases idle

theorem packDown_emptied (hs : s.Linked) (hl : s.flowLaws) (k : PackId) : ∃ t, s.Emptied k t ∧
    (s.packDown k).st = (t.moveWaiters k).st ∧ .pass (otherPack k) ∈ (s.packDown k).jobs := by
  obtain ⟨-, one, grants, waiting⟩ := hl
  have one : s.onePlace := one
  have run₀ : Changes Leave.all s (s.voided k) := changes_modPack fun _ => rfl
  have linked₀ := Changes.linked run₀ hs
  have served₀ (p : PanelNo) : (s.voided k).served p = s.served p := served_modPack ..
  obtain ⟨here, there⟩ := voided_pack s k
  have bare (g : Grant) (hg : g ∈ (s.pack k).grants) : (s.voided k).flowless g.panel := voided_flowless one hg
  have voids := voided_each (s.pack k).stepGrants (s.voided k) linked₀ (allPanels_nodup.filter _) fun p hp => by
    obtain ⟨g, hg, rfl, -⟩ := mem_stepGrants.1 hp
    exact bare g hg
  have unfolded : s.packDown k = (((Res.each (s.pack k).stepGrants (fun p s => s.pauseIf (fun _ => true) .packLoss p)
      (.ok (s.voided k))).bind fun v => v.endVoidedJog (s.pack k).grants).bind fun v => v.moveWaiters k).add
        [.pass (otherPack k)] := rfl
  generalize Res.each (s.pack k).stepGrants (fun p s => s.pauseIf (fun _ => true) .packLoss p) (.ok (s.voided k)) = r at *
  have linked₁ := Changes.linked voids.work.run linked₀
  have jog₁ : r.st.jog = s.jog := by
    rw [voids.jog]
    cases k <;> rfl
  have unserved (w : Waiter) (hw : w ∈ (s.pack k).waiting) : w.panel ∉ (s.pack k).stepGrants := fun h => by
    obtain ⟨g, hg, e, -⟩ := mem_stepGrants.1 h
    refine List.disjoint_of_nodup_append ((onePlace_iff.1 one).1 k) (List.mem_map_of_mem hg) ?_
    rw [e]
    exact List.mem_map_of_mem hw
  have served₁ (w : Waiter) (hw : w ∈ (s.pack k).waiting) : ∃ x, r.st.served w.panel = some x ∧ s.served w.panel = some x := by
    obtain ⟨i, o, q, h, -⟩ := waiting k w hw
    exact ⟨_, voids.work.served linked₀ (unserved w hw) ((served₀ _).trans h), h⟩
  have last : r.st.lasting = s.lasting := (Changes.lasting voids.work.run).trans (Changes.lasting run₀)
  have paused₁ (g : Grant) (hg : g ∈ (s.pack k).grants) (hn : g.jog = false) : s.jog = none ∧
      ∃ i o q, s.served g.panel = some (i, o, q) ∧ r.st.slot i = some (o.pausedFor .packLoss .active) ∧
        (q = .travel → o.phase = some .running → (r.st.panel g.panel).mode ≠ .driven) := by
    have law := grants k g hg
    rw [hn, if_neg (by decide)] at law
    obtain ⟨i, o, q, h, -⟩ := law
    have listed : g.panel ∈ (s.pack k).stepGrants := mem_stepGrants.2 ⟨g, hg, rfl, hn⟩
    have h₀ := (served₀ g.panel).trans h
    exact ⟨jog_none_of_served hs h, i, o, q, h, voids.paused _ listed i o q h₀, fun e => voids.stopped _ listed i o (e ▸ h₀)⟩
  have ended : s.Emptied k (r.st.endVoidedJog (s.pack k).grants).st := by
    unfold State.endVoidedJog
    rw [jog₁]
    cases hj : s.jog with
    | none => exact ⟨linked₁, last, (voids.pack k).trans here, (voids.pack _).trans there, served₁, fun g hg hn => jog₁.trans hj,
        fun g hg hn => (paused₁ g hg hn).2⟩
    | some j =>
      have nobody (g : Grant) (hg : g ∈ (s.pack k).grants) : g.jog = true ∧ g.panel = j.panel := by
        cases hn : g.jog with
        | false => exact absurd (hj.symm.trans (paused₁ g hg hn).1) (by simp)
        | true =>
          have law := grants k g hg
          rw [hn, if_pos rfl] at law
          obtain ⟨j', hj', e⟩ := law
          obtain rfl : j = j' := Option.some.inj (hj.symm.trans hj')
          exact ⟨rfl, e.symm⟩
      dsimp only
      split
      · rename_i hany
        obtain ⟨g, hg, -⟩ := List.any_eq_true.1 hany
        have bare₁ : r.st.flowless j.panel := fun l => by
          rw [voids.pack, ← (nobody g hg).2]
          exact bare g hg l
        have pack (l : PackId) : r.st.endJog.st.pack l = r.st.pack l := by
          rw [endJog_pack (jog₁.trans hj) bare₁.placedOnce, dropPanel_of_not_mem (bare₁ l)]
        have run : Changes Leave.all r.st r.st.endJog.st := changes_endJog
        refine ⟨Changes.linked run linked₁, (Changes.lasting run).trans last, ?_, ?_, fun w hw => ?_,
          fun _ _ _ => endJog_jog _, fun g hg hn => ?_⟩
        · rw [pack, voids.pack, here]
        · rw [pack, voids.pack, there]
        · rw [endJog_served]
          exact served₁ w hw
        · rw [(nobody g hg).1] at hn
          cases hn
      · rename_i hnone
        have empty : (s.pack k).grants = [] := by
          refine List.eq_nil_iff_forall_not_mem.2 fun g hg => hnone (List.any_eq_true.2 ⟨g, hg, ?_⟩)
          simp [nobody g hg]
        refine ⟨linked₁, last, (voids.pack k).trans here, (voids.pack _).trans there, served₁, fun g hg => ?_, fun g hg => ?_⟩
        · rw [empty] at hg; exact absurd hg List.not_mem_nil
        · rw [empty] at hg; exact absurd hg List.not_mem_nil
  refine ⟨_, ended, ?_, ?_⟩
  · rw [unfolded, Res.add_st, Res.bind_st, Res.bind_st]
  · rw [unfolded]
    exact List.mem_append_right _ (List.mem_singleton_self _)

/-- The entries of a pack's list are decided again. -/
theorem moveWaiters_redecided (hs : s.Linked) (one : s.onePlace)
    (served : ∀ w ∈ (s.pack k).waiting, ∃ x, s.served w.panel = some x) :
    s.Redecided k (s.pack k).waiting (s.moveWaiters k).st :=
  redecided_each (s.pack k).waiting s hs one (fun _ h => h) (List.Nodup.of_append_right ((onePlace_iff.1 one).1 k)) served

/-- The health of the packs with `y` as the record of pack `k`. -/
def State.upWith (s : State) (k : PackId) (y : Pack) (j : PackId) : Bool := if j = k then y.up else (s.pack j).up

/-- Where a panel is listed with `y` as the record of pack `k` (R126). -/
def State.listsWith (s : State) (k : PackId) (y : Pack) (p : PanelNo) : PackId :=
  if s.upWith k y (s.homePack p) = false ∧ s.upWith k y (otherPack (s.homePack p)) = true ∧ s.layout.crossover = 1 then
    otherPack (s.homePack p)
  else s.homePack p

theorem setPack_up (s : State) (k : PackId) (y : Pack) (j : PackId) : ((s.setPack y k).pack j).up = s.upWith k y j := by
  unfold State.upWith
  split
  · rename_i e
    rw [e, setPack_pack_self]
  · rename_i e
    rw [setPack_pack_ne _ _ (Ne.symm e)]

theorem packTaken_listPack (s : State) (k : PackId) (y : Pack) (p : PanelNo) :
    (s.packTaken k y).listPack p = s.listsWith k y p := by
  rw [listPack_lasting (Changes.lasting (changes_packTaken s k y))]
  have home : (s.setPack y k).homePack p = s.homePack p := by cases k <;> rfl
  have layout : (s.setPack y k).layout = s.layout := by cases k <;> rfl
  unfold State.listPack State.servingPack State.listsWith
  simp only [home, setPack_up, layout, beq_iff_eq, Bool.and_eq_true]
  cases s.upWith k y (s.homePack p) <;> cases s.upWith k y (otherPack (s.homePack p)) <;> simp
  split <;> simp_all

/-- The state of a pack's record and of the latches, with everything else as it was. -/
theorem packTaken_same (s : State) (k : PackId) (y : Pack) : (s.packTaken k y).panels = s.panels ∧
    (s.packTaken k y).slots = s.slots ∧ (s.packTaken k y).jog = s.jog ∧ (s.packTaken k y).pack k = y ∧
    (s.packTaken k y).pack (otherPack k) = s.pack (otherPack k) ∧ (∀ j, (s.packTaken k y).capacity j = s.capacity j) := by
  unfold State.packTaken
  rw [latchIf_eq, latchIf_eq (State.latchIf _ _ _), latchIf_eq (State.setPack _ _ _)]
  cases k
  · exact ⟨rfl, rfl, rfl, rfl, rfl, fun j => by cases j <;> rfl⟩
  · exact ⟨rfl, rfl, rfl, rfl, rfl, fun j => by cases j <;> rfl⟩

theorem packTaken_served (s : State) (k : PackId) (y : Pack) (p : PanelNo) : (s.packTaken k y).served p = s.served p := by
  obtain ⟨panels, slots, -⟩ := packTaken_same s k y
  refine served_congr ?_ slots
  unfold State.panel
  rw [panels]

theorem packTaken_flowLaws {y : Pack} (hg : y.grants = (s.pack k).grants) (hw : y.waiting = (s.pack k).waiting)
    (h : s.flowLaws) : (s.packTaken k y).flowLaws := by
  obtain ⟨-, -, jog, here, there, room⟩ := packTaken_same s k y
  refine flowLaws_congr (fun j => ?_) (packTaken_served s k y) jog room h
  by_cases e : k = j
  · subst e
    rw [here]
    exact ⟨hg, hw⟩
  · rw [eq_otherPack e, there]
    exact ⟨rfl, rfl⟩

theorem packTaken_linked (hs : s.Linked) (k : PackId) (y : Pack) : (s.packTaken k y).Linked :=
  Changes.linked (changes_packTaken s k y) (hs.of_same (by cases k <;> exact {}) fun _ => by cases k <;> exact .inl rfl)

/-- A pack that goes DOWN (R132), with `y` as its record. -/
theorem packDown_spec {y : Pack} (hs : s.Linked) (hl : s.flowLaws) (hg : y.grants = (s.pack k).grants)
    (hw : y.waiting = (s.pack k).waiting) :
    let r := (s.packTaken k y).packDown k
    (r.st.pack k).grants = [] ∧ .pass (otherPack k) ∈ r.jobs ∧
    (∀ w ∈ (s.pack k).waiting, (s.packTaken k y).Decided k r.st w) ∧
    (∀ w ∈ (s.pack (otherPack k)).waiting, w ∈ (r.st.pack (otherPack k)).waiting) ∧
    (∀ g ∈ (s.pack k).grants, g.jog = true → r.st.jog = none) ∧
    ∀ g ∈ (s.pack k).grants, g.jog = false → ∃ i o q, s.served g.panel = some (i, o, q) ∧
      r.st.slot i = some (o.pausedFor .packLoss .active) ∧
      (q = .travel → o.phase = some .running → (r.st.panel g.panel).mode ≠ .driven) := by
  intro r
  obtain ⟨-, -, -, here, there, -⟩ := packTaken_same s k y
  have laws := packTaken_flowLaws hg hw hl
  have one : (s.packTaken k y).onePlace := laws.2.1
  obtain ⟨v, emptied, run, pass⟩ := packDown_emptied (packTaken_linked hs k y) laws k
  have list : (v.pack k).waiting = (s.pack k).waiting := by
    rw [emptied.here, here]
    exact hw
  have one_v : v.onePlace := by
    have same := voided_onePlace one k
    obtain ⟨eh, et⟩ := voided_pack (s.packTaken k y) k
    refine (onePlace_of_flows fun j => ?_).2 same
    by_cases e : k = j
    · subst e
      rw [emptied.here, eh]
      exact ⟨rfl, rfl⟩
    · rw [eq_otherPack e, emptied.there, et]
      exact ⟨rfl, rfl⟩
  have redecided := moveWaiters_redecided emptied.linked one_v fun w h => by
    rw [emptied.here] at h
    obtain ⟨x, hx, -⟩ := emptied.served w h
    exact ⟨x, hx⟩
  rw [list, ← run] at redecided
  have grants_y : ((s.packTaken k y).pack k).grants = (s.pack k).grants := by rw [here, hg]
  have waiting_y : ((s.packTaken k y).pack k).waiting = (s.pack k).waiting := by rw [here, hw]
  refine ⟨?_, pass, fun w h => ?_, fun w h => redecided.came w ?_, fun g h hj => ?_, fun g h hj => ?_⟩
  · rw [redecided.grants, emptied.here]
  · have now := redecided.decided w h
    have lists := listPack_lasting emptied.lasting w.panel
    have room := capacity_lasting emptied.lasting (otherPack k)
    refine ⟨fun e => now.stays (lists.trans e), fun e => now.leaves (lists ▸ e), fun e fits => now.moves (lists ▸ e) (room ▸ fits),
      fun e big => ?_⟩
    obtain ⟨gone, failed⟩ := now.fails (lists ▸ e) (room ▸ big)
    refine ⟨gone, fun i o q hx => failed i o q ?_⟩
    obtain ⟨x, hv, hu⟩ := emptied.served w (waiting_y ▸ h)
    rw [hv, ← hu, hx]
  · rw [emptied.there, there]
    exact h
  · rw [redecided.jog]
    exact emptied.jog g (grants_y ▸ h) hj
  · obtain ⟨i, o, q, hx, slot, mode⟩ := emptied.paused g (grants_y ▸ h) hj
    rw [packTaken_served] at hx
    have panel : o.panel = g.panel := ((served_iff hs).1 hx).2.1
    have apart : (o.pausedFor .packLoss .active).panel ∉ (s.pack k).waiting.map Waiter.panel := fun hn => by
      have one : s.onePlace := hl.2.1
      have named : g.panel ∈ (s.pack k).grants.map Grant.panel := List.mem_map_of_mem h
      have panel : (o.pausedFor .packLoss .active).panel = g.panel := panel
      rw [panel] at hn
      exact List.disjoint_of_nodup_append ((onePlace_iff.1 one).1 k) named hn
    have still : (o.pausedFor .packLoss .active).waiting = false := by simp [Order.waiting, Order.pausedFor]
    have same := redecided.work.panel_eq emptied.linked slot rfl still apart
    have panel : (o.pausedFor .packLoss .active).panel = g.panel := panel
    rw [panel] at same
    refine ⟨i, o, q, hx, redecided.work.slot emptied.linked i _ slot apart still, fun e hr => ?_⟩
    rw [same]
    exact mode e hr

/-- A pack that comes UP (R133), with `y` as its record. -/
theorem packUp_spec {y : Pack} (hs : s.Linked) (hl : s.flowLaws) (hg : y.grants = (s.pack k).grants)
    (hw : y.waiting = (s.pack k).waiting) :
    let r := (s.packTaken k y).packUp k
    .pass k ∈ r.jobs ∧ .pass (otherPack k) ∈ r.jobs ∧
    (∀ w ∈ (s.pack (otherPack k)).waiting, (s.packTaken k y).Decided (otherPack k) r.st w) ∧
    (∀ w ∈ (s.pack k).waiting, w ∈ (r.st.pack k).waiting) ∧ ∀ j, (r.st.pack j).grants = (s.pack j).grants := by
  intro r
  obtain ⟨-, -, -, here, there, -⟩ := packTaken_same s k y
  have laws := packTaken_flowLaws hg hw hl
  have one : (s.packTaken k y).onePlace := laws.2.1
  have redecided := moveWaiters_redecided (k := otherPack k) (packTaken_linked hs k y) one fun w h => by
    obtain ⟨i, o, q, hx, -⟩ := laws.2.2.2 _ w h
    exact ⟨_, hx⟩
  have run : r.st = ((s.packTaken k y).moveWaiters (otherPack k)).st := Res.add_st ..
  rw [← run, there] at redecided
  have back : otherPack (otherPack k) = k := by cases k <;> rfl
  refine ⟨List.mem_append_right _ (by simp), List.mem_append_right _ (by simp), redecided.decided, fun w h => ?_, fun j => ?_⟩
  · have came := redecided.came w
    rw [back, here] at came
    exact came (hw ▸ h)
  · rw [redecided.grants]
    by_cases e : k = j
    · subst e
      rw [here, hg]
    · rw [eq_otherPack e, there]

/-- Settles O36: a reading is a change of the pack's record, and the change of its health decides its grants and its list. -/
theorem packCausesFollowTheirLines : Obligations.PackCausesFollowTheirLines := by
  unfold Obligations.PackCausesFollowTheirLines
  refine ⟨?_, ?_⟩
  · intro s k tun x judged after
    have fields {y z : Pack} (h : y.lasting = z.lasting) : y.pump = z.pump ∧ y.pumpOn = z.pumpOn ∧ y.up = z.up ∧
        y.lowPressure = z.lowPressure ∧ y.overtemp = z.overtemp ∧ y.hot = z.hot :=
      ⟨(congrArg Pack.pump h :), (congrArg Pack.pumpOn h :), (congrArg Pack.up h :), (congrArg Pack.lowPressure h :),
        (congrArg Pack.overtemp h :), (congrArg Pack.hot h :)⟩
    refine ⟨?_, ?_, fun bar held running => ?_, fun bar held running => ?_, fun c => ?_, ?_⟩
    · obtain ⟨h, rest⟩ := changePack_read (s := s) (k := k) (y := { x with pumpOn := false, pump := true }) rfl
      obtain ⟨pump, line, up, pressure, overheat, hot⟩ := fields h
      exact ⟨_, rfl, ⟨pump, line, up.trans (by simp [Pack.up, Pack.anyCause]), pressure, overheat, hot⟩, rest⟩
    · obtain ⟨h, rest⟩ := changePack_read (s := s) (k := k) (y := { x with pumpOn := true, pump := false }) rfl
      obtain ⟨pump, line, up, pressure, overheat, hot⟩ := fields h
      exact ⟨_, rfl, ⟨pump, line, pressure, overheat, hot⟩, rest⟩
    · obtain ⟨h, rest⟩ := changePack_read (s := s) (k := k) (y := { x with
        pressure := bar
        lowPressure := x.lowPressure || (x.judged held running && decide (pressureOf bar < tun.pressureLow)) }) rfl
      obtain ⟨pump, line, up, pressure, overheat, hot⟩ := fields h
      refine ⟨_, rfl, ⟨pressure.trans ?_, pump, overheat, hot⟩, rest⟩
      rw [Pack.judged_eq]
      rfl
    · obtain ⟨h, rest⟩ := changePack_read (s := s) (k := k) (y := { x with
        pressure := bar
        lowPressure := x.lowPressure && !(tun.pressureMode == 1 && x.judged held running &&
          decide (tun.pressureLow ≤ pressureOf bar)) }) rfl
      obtain ⟨pump, line, up, pressure, overheat, hot⟩ := fields h
      refine ⟨_, rfl, ⟨pressure.trans ?_, pump, overheat, hot⟩, rest⟩
      rw [Pack.judged_eq]
      rfl
    · obtain ⟨h, rest⟩ := changePack_read (s := s) (k := k) (y := x.takeOil tun.oilHot tun.oilOvertemp (some c)) rfl
      obtain ⟨pump, line, up, pressure, overheat, hot⟩ := fields h
      refine ⟨_, rfl, ⟨fun a => hot.trans (if_pos a), fun a => hot.trans ?_, fun a b => hot.trans ?_, overheat, pump, pressure⟩,
        rest⟩
      · exact (if_neg (by omega)).trans (if_pos a)
      · exact (if_neg (by omega)).trans (if_neg (by omega))
    · obtain ⟨h, rest⟩ := changePack_read (s := s) (k := k) (y := x.takeOil tun.oilHot tun.oilOvertemp none) rfl
      obtain ⟨pump, line, up, pressure, overheat, hot⟩ := fields h
      exact ⟨_, rfl, ⟨hot, overheat, up.trans (by simp [Pack.up, Pack.anyCause, Pack.takeOil])⟩, rest⟩
  · intro s k y hs hl hg hw x t u up lists decided stay
    have hs := linked_iff.1 hs
    have whole : t = _ := changePack_eq s k fun _ => y
    have decides {j : PackId} {v : State} (h : ∀ w ∈ (s.pack j).waiting, (s.packTaken k y).Decided j v w) : decided v j := by
      intro w hw
      have now := h w hw
      have listed : (s.packTaken k y).listPack w.panel = lists w.panel := packTaken_listPack s k y w.panel
      have room : (s.packTaken k y).capacity (otherPack j) = s.capacity (otherPack j) := (packTaken_same s k y).2.2.2.2.2 _
      refine ⟨fun e => now.stays (listed.trans e), fun e => ⟨now.leaves (listed ▸ e), fun fits => now.moves (listed ▸ e) (room ▸ fits),
        fun big => ?_⟩⟩
      obtain ⟨gone, failed⟩ := now.fails (listed ▸ e) (room ▸ big)
      exact ⟨flowless_iff.1 gone, fun i o q hx => failed i o q ((packTaken_served s k y _).trans hx)⟩
    refine ⟨fun hx hy => ?_, fun hx hy => ?_, fun hu hx hy => ?_, fun hu hx hy => ?_⟩
    · obtain ⟨none, pass, dec, stays, jog, paused⟩ := packDown_spec hs hl hg hw
      have taken : t = (u.packDown k).settle := whole.trans (congrArg Res.settle (if_pos (by simp [x] at hx; simp [hx, hy])))
      exact ⟨taken, none, pass, decides dec, stays, jog, paused⟩
    · obtain ⟨pass, other, dec, stays, grants⟩ := packUp_spec hs hl hg hw
      have taken : t = (u.packUp k).settle := by
        rw [whole, if_neg (by simp [x] at hx; simp [hx]), if_pos (by simp [x] at hx; simp [hx, hy])]
        rfl
      exact ⟨taken, pass, other, decides dec, stays, grants⟩
    · have still : ((s.pack k).up && !y.up) = false ∧ (!(s.pack k).up && y.up) = false := by
        simp only [x] at hu
        rw [hu]
        cases y.up <;> decide
      have cool : ((s.pack k).hot && !y.hot) = false := by rw [hy]; exact Bool.and_false _
      rw [whole, if_neg (by simp [still]), if_neg (by simp [still]), if_neg (by simp [cool])]
      exact drain_nil agendaLimit _
    · have still : ((s.pack k).up && !y.up) = false ∧ (!(s.pack k).up && y.up) = false := by
        simp only [x] at hu
        rw [hu]
        cases y.up <;> decide
      have cooled : ((s.pack k).hot && !y.hot) = true := by simp only [x] at hx; rw [hx, hy]; rfl
      rw [whole, if_neg (by simp [still]), if_neg (by simp [still]), if_pos cooled]
      rfl

end Sys2Proof.Machine
end

section
/-! The ends of braking window, quiet time and dwell, the end of a step and the release of dependents (R11, R14, R27, R61, R62,
R81 to R83, R101). -/

namespace Sys2Proof.Machine

open State (WorksOn)

variable {s t u : State} {p q : PanelNo} {i j : SlotNo} {o : Order} {k : StepKind}

/-! ### The conditions of a step -/

/-! ### The braking window -/

/-- A panel whose braking window has ended (R11). -/
def Panel.rested (x : Panel) : Panel := { x with mode := .quiet, activity := x.activity.afterWindow, brakeTimer := none }

/-- The unit at the end of a panel's braking window. -/
def State.rested (s : State) (p : PanelNo) (d : Nat) : State := (s.reach d).modPanel p Panel.rested

theorem afterWindow_eq (a : Activity) : a.afterWindow = if a = .braking then .idle else a := by
  cases a <;> rfl

theorem rested_eq (s : State) (p : PanelNo) (d : Nat) : s.rested p d = { s with now := max s.now d }.modPanel p fun x =>
    { x with mode := .quiet, brakeTimer := none, activity := if x.activity = Activity.braking then .idle else x.activity } := by
  have same : Panel.rested = fun x : Panel =>
      { x with mode := .quiet, brakeTimer := none, activity := if x.activity = Activity.braking then .idle else x.activity } :=
    funext fun x => by
      unfold Panel.rested
      rw [afterWindow_eq]
  unfold State.rested
  rw [same]
  rfl

theorem exec_brakingWindowEnd {d : Nat} (h : (s.panel p).brakeTimer = some d) :
    exec (.brakingWindowEnd p) s = .next ((s.rested p d).windowEnded p).settle := by
  change execBrakingWindowEnd p s = _
  unfold execBrakingWindowEnd
  rw [h]
  rfl

theorem served_rested (s : State) (p : PanelNo) (d : Nat) : (s.rested p d).served p = s.served p := by
  unfold State.rested
  rw [served_modPanel rfl]
  exact served_congr rfl rfl

/-- The evaluation that follows a reversing window, or a panel's coming to rest, is that from stage 2 (R70, R83). -/
theorem evaluate_setPhase (h : s.served p = some (i, o, k)) :
    (s.setPhase p i none {} none).stages p i o k = runJob (.evaluate p false) (s.setPhase p i none {} none) := by
  have served := served_setPhase h p none {} none
  change _ = (s.setPhase p i none {} none).evaluate p false
  unfold State.evaluate
  rw [served]
  rfl

/-- What a step braking to its end leaves of its panel: `r` is its completion, the arrival check made before it (R81, R101). -/
theorem completeTravel (h : s.served p = some (i, o, .travel)) :
    let r := s.completeStep p i .travel
    r.jobs.getLast? = some (.report p .completed) ∧ r.st.slot i = some { o with phase := none, reasons := {} } ∧
      r.st.panel p = { s.panel p with plan := none, purpose := none } ∧ r.st.latches = s.latches ∧
      (s.placedOnce p → r.st.flow p = .none) := by
  intro r
  have slot := served_slot h
  have unfolded : r = (((s.setPhase p i none {} none).modPanel p fun x => { x with plan := none }).dropFlow p).add
    [.report p .completed] := rfl
  rw [unfolded]
  dsimp only [Res.add_st, Res.add]
  refine ⟨by rw [List.getLast?_append]; rfl, ?_, ?_, ?_, fun one => ?_⟩
  · rw [slot_of_slots (dropFlow_slots _ _), modPanel_slot, setPhase_slot slot]
  · rw [dropFlow_panel, modPanel_panel_self, setPhase_panel]
  · obtain ⟨⟨a, b, e⟩, -⟩ := repacked_dropFlow ((s.setPhase p i none {} none).modPanel p fun x => { x with plan := none }) p
    rw [e]
    unfold State.setPhase State.modOrder
    rw [slot]
    rfl
  · refine flow_dropFlow ((placedOnce_of_pack fun k => ?_).2 one)
    rw [modPanel_pack, setPhase_pack]

/-- The travel has missed its target (R101). -/
def Panel.missed (x : Panel) (tol : Int) : Prop :=
  ∃ pl, x.plan = some pl ∧ pl.stop = .count ∧ ¬ (x.certain = true ∧ |x.count - pl.t| ≤ tol)

theorem arrivalCheck_missed (h : (s.panel p).missed s.tol) : s.arrivalCheck p = s.warn p .targetMiss := by
  obtain ⟨pl, hp, hs⟩ := h
  unfold State.arrivalCheck
  dsimp only
  rw [hp]
  exact if_pos hs

theorem arrivalCheck_hit (h : ¬ (s.panel p).missed s.tol) : s.arrivalCheck p = s := by
  unfold State.arrivalCheck
  dsimp only
  cases hp : (s.panel p).plan with
  | none => rfl
  | some pl => exact if_neg fun hs => h ⟨pl, hp, hs⟩

theorem arrivalCheck_cases (s : State) (p : PanelNo) : s.arrivalCheck p = s ∨ s.arrivalCheck p = s.warn p .targetMiss := by
  by_cases h : (s.panel p).missed s.tol
  · exact .inr (arrivalCheck_missed h)
  · exact .inl (arrivalCheck_hit h)

/-- A failure with SEQUENCE and the work after it (R72). -/
theorem sequenceFail_settle (hs : s.Linked) (h : s.served p = some (i, o, k)) :
    ∃ o', (s.sequenceFail p).settle.slot i = some o' ∧ o'.state = .failed .sequence ∧ o'.finishedAt = some s.now ∧
      ((s.sequenceFail p).settle.panel p).live = none ∧ .sequenceStop ∈ ((s.sequenceFail p).settle.panel p).warnings := by
  obtain ⟨hl, ha, -⟩ := served_some h
  obtain ⟨ho, hp, live⟩ := live_of_liveOrder hs hl
  have warned : Changes Leave.all s (s.warn p .sequenceStop) := changes_warn _
  have slot : (s.warn p .sequenceStop).slot i = some o := by
    unfold State.slot
    rw [warn_slots]
    exact ho
  have lives : (s.warn p .sequenceStop).liveOrder p = some (i, o) := by
    rw [liveOrder_congr ?_ (warn_slots ..)]
    · exact hl
    · obtain ⟨ws, e⟩ := warn_panel s p p .sequenceStop
      rw [e]
  have failed : s.sequenceFail p = (s.warn p .sequenceStop).endOrder i (.failed .sequence) := by
    simp only [State.sequenceFail, State.failLive, lives]
  rw [failed]
  obtain ⟨b, ended⟩ := endOrder_slot (st := .failed .sequence) slot live rfl
  have now : (s.warn p .sequenceStop).now = s.now := warn_now ..
  have gone := endOrder_live (st := .failed .sequence) slot live
  have run : Changes Leave.all (s.warn p .sequenceStop) ((s.warn p .sequenceStop).endOrder i (.failed .sequence)).st :=
    (worksOn_endOrder (p := p) rfl fun _ o' ho' => by
      obtain rfl : o = o' := Option.some.inj (slot.symm.trans ho')
      exact hp).run
  have stop : .sequenceStop ∈ ((s.warn p .sequenceStop).panel p).warnings := warn_mem ..
  have later : Changes Leave.work _ _ := changes_settle ((s.warn p .sequenceStop).endOrder i (.failed .sequence))
  rw [hp] at gone
  refine ⟨_, Changes.finished later ended rfl, rfl, congrArg some now, Changes.live_none later gone, ?_⟩
  exact (Changes.panel later p).warnings _ ((Changes.panel run p).warnings _ stop)

theorem rested_panel (s : State) (p : PanelNo) (d : Nat) : (s.rested p d).panel p = (s.panel p).rested := modPanel_panel_self ..

theorem hard_rested (s : State) (p : PanelNo) (d : Nat) (o : Order) (k : StepKind) : (s.rested p d).hard p o k = s.hard p o k := by
  have cleats : (s.rested p d).everyCleat p CleatState.doneUncleat = s.everyCleat p CleatState.doneUncleat := by
    unfold State.everyCleat
    rw [rested_panel]
    rfl
  unfold State.hard
  rw [cleats, rested_panel]
  rfl

theorem linked_rested (hs : s.Linked) (p : PanelNo) (d : Nat) : (s.rested p d).Linked :=
  linked_modPanel (linked_reach hs d) fun _ => rfl

/-- The end of the window of a step that is braking to its end (R81). -/
theorem windowEnded_complete (h : s.served p = some (i, o, k)) (hb : o.phase = some .braking)
    (hp : (s.panel p).purpose = some .complete) : s.windowEnded p =
      if s.hard p o k then (s.arrivalCheck p).completeStep p i k else s.sequenceFail p := by
  simp only [State.windowEnded, h, hb, hp, if_true]

/-- The end of the window of any other braking step (R70, R83). -/
theorem windowEnded_evaluate (h : s.served p = some (i, o, k)) (hb : o.phase = some .braking)
    (hp : (s.panel p).purpose ≠ some .complete) :
    s.windowEnded p = runJob (.evaluate p false) (s.setPhase p i none {} none) := by
  rw [← evaluate_setPhase h]
  simp only [State.windowEnded, h, hb, if_true]
  exact if_neg hp

theorem windowEnded_other (h : s.served p = some (i, o, k)) (hb : o.phase ≠ some .braking) : s.windowEnded p = .ok s := by
  simp only [State.windowEnded, h]
  exact if_neg hb

/-! ### The end of a quiet time and of a dwell -/

theorem exec_creepQuietExpiry {d : Nat} (h : (s.panel p).creepQuiet = some d) : exec (.creepQuietExpiry p) s =
    .next ({ s with now := max s.now d }.modPanel p fun x => { x with creepQuiet := none }) := by
  change execCreepQuietExpiry p s = _
  unfold execCreepQuietExpiry
  rw [h]
  rfl

theorem afterValve_eq (a : Activity) : a.afterValve = match a with | .cleatMove _ _ => .idle | a => a := by
  cases a <;> rfl

theorem exec_cleatDwellExpiry {m : Move} {d : Nat} (hm : (s.panel p).move = some m) (hd : m.dwell = some d)
    (hj : m.byJog = false ∨ s.jog = none) : exec (.cleatDwellExpiry p) s =
      .next ({ s with now := max s.now d }.modPanel p fun x =>
        { x with coils := x.coils.put false (m.dir.coil m.group), move := some { m with valve := false, dwell := none }
                 activity := match x.activity with | .cleatMove _ _ => .idle | a => a }) := by
  have off : (s.reach d).valveOff p = { s with now := max s.now d }.modPanel p fun x =>
      { x with coils := x.coils.put false (m.dir.coil m.group), move := some { m with valve := false, dwell := none }
               activity := match x.activity with | .cleatMove _ _ => .idle | a => a } := by
    have same : ((s.reach d).panel p).move = some m := hm
    unfold State.valveOff
    rw [same]
    dsimp only
    simp only [afterValve_eq]
    rfl
  have ended : (if m.byJog then ((s.reach d).valveOff p).endJogOn p else .ok ((s.reach d).valveOff p)) =
      .ok ((s.reach d).valveOff p) := by
    obtain hj | hj := hj
    · rw [hj]; rfl
    · have none : ((s.reach d).valveOff p).jog = none := by
        rw [off]
        exact hj
      split
      · unfold State.endJogOn
        rw [none]
      · rfl
  change execCleatDwellExpiry p s = _
  unfold execCleatDwellExpiry
  rw [hm]
  dsimp only
  rw [hd]
  dsimp only
  rw [ended, settle_ok, off]

/-! ### The report of a step's end -/

theorem report_hold (h : s.served p = some (i, o, k)) (hf : o.phase = none) (ho : o.hold = some k) :
    runJob (.report p .completed) s = .ok ((s.updateOrder i fun o =>
      { o with state := .atHold, phase := none, reasons := {} }).setLatch .holdReached) := by
  have on : ¬ o.phase.isSome = true := by simp [hf]
  change s.reportStep p .completed = _
  simp only [State.reportStep, h, if_neg on, ho, and_self, if_true]

theorem report_next {e : StepEnd} (h : s.served p = some (i, o, k)) (hf : o.phase = none) (he : e = .skipped ∨ o.hold ≠ some k)
    (hs : o.step < (stepList o.kind).length) : runJob (.report p e) s =
      ⟨s.setSlot i (some { o with step := o.step + 1, reasons := {} }), [.evaluate p true]⟩ := by
  have on : ¬ o.phase.isSome = true := by simp [hf]
  have free : ¬ (e = .completed ∧ o.hold = some k) := fun ⟨a, b⟩ => he.elim (fun c => nomatch a.symm.trans c) fun c => c b
  change s.reportStep p e = _
  simp only [State.reportStep, h, if_neg on, if_neg free, if_pos hs]
  rw [modOrder_eq (served_slot h), hf]

theorem report_last {e : StepEnd} (h : s.served p = some (i, o, k)) (hf : o.phase = none) (he : e = .skipped ∨ o.hold ≠ some k)
    (hs : (stepList o.kind).length ≤ o.step) : runJob (.report p e) s = s.completeOrder i := by
  have on : ¬ o.phase.isSome = true := by simp [hf]
  have free : ¬ (e = .completed ∧ o.hold = some k) := fun ⟨a, b⟩ => he.elim (fun c => nomatch a.symm.trans c) fun c => c b
  change s.reportStep p e = _
  simp only [State.reportStep, h, if_neg on, if_neg free, if_neg (Nat.not_lt.2 hs)]

/-- The dependents of a DONE order, panel by panel (R62). -/
def State.releases (s : State) (id : Nat) : List SlotNo :=
  allPanels.filterMap fun p => (s.dependents [id]).find? fun j => match s.slot j with | some q => q.panel == p | none => false

theorem mem_releases (hs : s.Linked) {id : Nat} : j ∈ s.releases id ↔ ∃ q, s.slot j = some q ∧ q.waitsOn id = true := by
  have dependent {j : SlotNo} : j ∈ s.dependents [id] ↔ ∃ q, s.slot j = some q ∧ q.waitsOn id = true := by
    rw [mem_dependents]
    simp
  unfold State.releases
  rw [List.mem_filterMap]
  constructor
  · rintro ⟨p, -, hp⟩
    exact dependent.1 (List.mem_of_find?_eq_some hp)
  · rintro ⟨q, hq, hw⟩
    refine ⟨q.panel, mem_allPanels _, ?_⟩
    cases hf : (s.dependents [id]).find? fun j => match s.slot j with | some x => x.panel == q.panel | none => false with
    | none =>
      have no := List.find?_eq_none.1 hf j (dependent.2 ⟨q, hq, hw⟩)
      rw [hq] at no
      exact absurd (beq_self_eq_true q.panel) no
    | some l =>
      obtain ⟨x, hx, hxw⟩ := dependent.1 (List.mem_of_find?_eq_some hf)
      have panel : x.panel = q.panel := by
        have := List.find?_some hf
        rw [hx] at this
        simpa using this
      have one := liveOrder_of_live hs hx (Order.waiting_live (waiting_of_waitsOn hxw))
      have two := liveOrder_of_live hs hq (Order.waiting_live (waiting_of_waitsOn hw))
      rw [panel, two] at one
      obtain rfl : j = l := by simpa using congrArg (Option.map Prod.fst) one
      rfl

/-- An order that is DONE, and the dependents that its end releases (R61, R62). -/
theorem completeOrder_spec (hs : s.Linked) (ho : s.slot i = some o) (hl : o.state.live = true) (hw : o.waiting = false) :
    let r := s.completeOrder i
    (∃ b, r.st.slot i = some (o.finish .done s.now (s.now + 1000 * s.params.tuning.retentionTime) b)) ∧
    (r.st.panel o.panel).live = none ∧ (s.inStart = false → .orderDone ∈ r.st.latches) ∧
    ∀ j, .releaseDependent j o.id ∈ r.jobs ↔ ∃ q, s.slot j = some q ∧ q.waitsOn o.id = true := by
  intro r
  have unfolded : r = ⟨s.finishOrder i .done s.now, ((s.finishOrder i .done s.now).releases o.id).map fun j =>
      .releaseDependent j o.id⟩ := by
    change s.completeOrder i = _
    unfold State.completeOrder
    rw [ho]
    rfl
  have linked : (s.finishOrder i .done s.now).Linked :=
    (changes_finishOrder (L := Leave.all) ho hl rfl fun _ _ => .inl trivial).linked hs
  obtain ⟨b, done⟩ := finishOrder_self (st := .done) (m := s.now) ho
  rw [unfolded]
  refine ⟨⟨b, done⟩, finishOrder_live ho rfl, fun hu => finishOrder_latched ho hu, fun j => ?_⟩
  have listed : Job.releaseDependent j o.id ∈ ((s.finishOrder i .done s.now).releases o.id).map (fun j =>
      Job.releaseDependent j o.id) ↔ j ∈ (s.finishOrder i .done s.now).releases o.id := by
    simp
  change Job.releaseDependent j o.id ∈ ((s.finishOrder i .done s.now).releases o.id).map (fun j =>
      Job.releaseDependent j o.id) ↔ _
  rw [listed, mem_releases linked]
  by_cases e : i = j
  · subst e
    rw [done, ho]
    have ended : (o.finish .done s.now (s.now + 1000 * s.params.tuning.retentionTime) b).waitsOn o.id = false := by
      simp [Order.waitsOn, Order.finish, OrderState.live]
    have working : o.waitsOn o.id = false := by
      by_contra hn
      exact absurd (waiting_of_waitsOn (by simpa using hn)) (by simp [hw])
    simp [ended, working]
  · rw [finishOrder_slot e]

/-! ### The release of a dependent -/

theorem setSlot_setSlot (s : State) (j : SlotNo) (a b : Option Order) : (s.setSlot j a).setSlot j b = s.setSlot j b := by
  unfold State.setSlot
  simp

theorem setSlot_slot_eq (h : s.slot j = none) : s.setSlot j none = s := by
  unfold State.setSlot
  rw [← h]
  unfold State.slot
  simp

theorem updateOrder_modOrder (s : State) (j : SlotNo) (f g : Order → Order) (hf : ∀ o, (f o).issuer = o.issuer) :
    (s.modOrder j f).updateOrder j g = s.updateOrder j fun o => g (f o) := by
  cases h : s.slot j with
  | none => simp [State.modOrder, State.updateOrder, h, setSlot_slot_eq]
  | some o =>
    rw [modOrder_eq h]
    simp only [State.updateOrder, h, setSlot_slot_self, setSlot_setSlot, hf]

/-- A dependent that waits in the table is admitted (R45, R62). -/
theorem release_pending {id : Nat} (ho : s.slot j = some o) (hp : o.pred = some id) (hs : o.state = .pending) :
    runJob (.releaseDependent j id) s = ⟨s.updateOrder j fun q =>
        { q with pred := none, state := s.admissionState, step := 1
                 pausedFrom := if s.admissionState = .active then none else some .active },
      if s.admissionState = .active then [.evaluate o.panel true] else []⟩ := by
  have waits : o.waitsOn id = true := by simp [Order.waitsOn, hp, hs]
  have slot : (s.modOrder j fun o => { o with pred := none }).slot j = some { o with pred := none } := by
    rw [modOrder_slot, if_pos rfl, ho]
    rfl
  have admission : (s.modOrder j fun o => { o with pred := none }).admissionState = s.admissionState := by
    rw [modOrder_eq ho]
    rfl
  change s.releaseDependent j id = _
  simp only [State.releaseDependent, ho, waits, if_true, State.unlink, hs, State.admitted, slot, admission]
  rw [updateOrder_modOrder s j (fun o => { o with pred := none }) _ fun _ => rfl]

/-- A dependent that was paused while it waited stays PAUSED, from ACTIVE at step 1 (R62). -/
theorem release_paused {id : Nat} (ho : s.slot j = some o) (hp : o.pred = some id) (hs : o.state.isPaused = true)
    (hf : o.pausedFrom = some .pending) : runJob (.releaseDependent j id) s =
      .ok (s.setSlot j (some { o with pred := none, pausedFrom := some .active, step := 1 })) := by
  have other : o.state ≠ .pending ∧ o.state.live = true := by
    cases h : o.state <;> rw [h] at hs <;> simp_all [OrderState.isPaused, OrderState.live]
  have waits : o.waitsOn id = true := by simp [Order.waitsOn, hp, hf, other.2]
  have slot : (s.setSlot j (some { o with pred := none })).slot j = some { o with pred := none } := setSlot_slot_self ..
  change s.releaseDependent j id = _
  simp only [State.releaseDependent, ho, waits, if_true, State.unlink, if_neg other.1, other.2, hf, true_and]
  rw [modOrder_eq ho, modOrder_eq slot, setSlot_setSlot]

theorem release_other {id : Nat} (h : s.slot j = none ∨ ∃ q, s.slot j = some q ∧ q.waitsOn id = false) :
    runJob (.releaseDependent j id) s = .ok s := by
  change s.releaseDependent j id = _
  obtain h | ⟨q, hq, hw⟩ := h
  · simp only [State.releaseDependent, h]
  · simp only [State.releaseDependent, hq, hw]
    rfl

/-! ### The statement -/

theorem exec_idleTimers (s : State) (p : PanelNo) :
    ((s.panel p).brakeTimer = none → exec (.brakingWindowEnd p) s = .next s) ∧
    ((s.panel p).creepQuiet = none → exec (.creepQuietExpiry p) s = .next s) ∧
    ((∀ m, (s.panel p).move = some m → m.dwell = none) → exec (.cleatDwellExpiry p) s = .next s) ∧
    ((s.panel p).move = none → exec (.confirmationWindowExpiry p) s = .next s) ∧
    ((∀ d, (s.panel p).stall ≠ .running d) → exec (.stallTimerExpiry p) s = .next s) ∧
    ((s.panel p).stepTimer = none → exec (.stepTimeout p) s = .next s) := by
  refine ⟨fun h => ?_, fun h => ?_, fun h => ?_, fun h => ?_, fun h => ?_, fun h => ?_⟩
  · change execBrakingWindowEnd p s = _
    simp only [execBrakingWindowEnd, h]
  · change execCreepQuietExpiry p s = _
    simp only [execCreepQuietExpiry, h]
  · change execCleatDwellExpiry p s = _
    unfold execCleatDwellExpiry
    cases hm : (s.panel p).move with
    | none => rfl
    | some m => simp only [h m hm]
  · change execConfirmationWindowExpiry p s = _
    simp only [execConfirmationWindowExpiry, h]
  · change execStallTimerExpiry p s = _
    unfold execStallTimerExpiry
    cases hs : (s.panel p).stall with
    | running d => exact absurd hs (h d)
    | stopped => rfl
    | suspended d => rfl
  · change execStepTimeout p s = _
    simp only [execStepTimeout, h]

/-- The end of the window of a travel that is braking to its end. -/
theorem travel_ended {d : Nat} (hd : (s.panel p).brakeTimer = some d) (h : s.served p = some (i, o, .travel))
    (hb : o.phase = some .braking) (hp : (s.panel p).purpose = some .complete) (allowed : s.stepAllowed p o .travel)
    (hl : s.flowLaws) :
    let r := ((s.rested p d).arrivalCheck p).completeStep p i .travel
    let y := r.st.panel p
    exec (.brakingWindowEnd p) s = .next r.settle ∧ r.jobs.getLast? = some (.report p .completed) ∧
      r.st.slot i = some { o with phase := none, reasons := {} } ∧ r.st.flow p = .none ∧ y.coils = (s.panel p).coils ∧
      y.count = (s.panel p).count ∧ y.mode = .quiet ∧ y.plan = none ∧ y.purpose = none ∧
      ((s.panel p).missed s.tol → .targetMiss ∈ y.warnings ∧ (s.inStart = false → .warning ∈ r.st.latches)) ∧
      (¬ (s.panel p).missed s.tol → y.warnings = (s.panel p).warnings ∧ r.st.latches = s.latches) := by
  intro r y
  have served := (served_rested s p d).trans h
  have panel := rested_panel s p d
  have ended : exec (.brakingWindowEnd p) s = .next r.settle := by
    rw [exec_brakingWindowEnd hd, windowEnded_complete served hb (by rw [panel]; exact hp), hard_rested,
      if_pos (stepAllowed_iff.1 allowed)]
  have once : (s.rested p d).placedOnce p :=
    (placedOnce_of_pack fun k => by cases k <;> rfl).2 ((onePlace_of_flowLaws hl).placedOnce p)
  have tol : (s.rested p d).tol = s.tol := rfl
  have same : ((s.rested p d).panel p).missed (s.rested p d).tol ↔ (s.panel p).missed s.tol := by
    rw [panel, tol]
    exact Iff.rfl
  have checked (v : State) (hv : v.served p = some (i, o, .travel)) (hr : r = v.completeStep p i .travel)
      (ws : List PanelWarning) (he : v.panel p = { (s.panel p).rested with warnings := ws }) (one : v.placedOnce p) :
      r.jobs.getLast? = some (.report p .completed) ∧ r.st.slot i = some { o with phase := none, reasons := {} } ∧
      r.st.flow p = .none ∧ y = { (s.panel p).rested with warnings := ws, plan := none, purpose := none } ∧
      r.st.latches = v.latches := by
    obtain ⟨last, slot, rest, latches, flow⟩ := completeTravel hv
    rw [← hr] at last slot rest latches flow
    rw [he] at rest
    exact ⟨last, slot, flow one, rest, latches⟩
  refine ⟨ended, ?_⟩
  by_cases hm : (s.panel p).missed s.tol
  · have miss := arrivalCheck_missed (same.2 hm)
    obtain ⟨ws, warned⟩ := warn_panel (s.rested p d) p p .targetMiss
    have named := warn_mem (s.rested p d) p .targetMiss
    rw [panel] at warned
    obtain ⟨last, slot, flow, here, latches⟩ := checked _
      ((served_congr (by rw [warned, panel]) (warn_slots ..)).trans served) (congrArg (State.completeStep · p i .travel) miss)
      ws warned ((placedOnce_of_pack fun k => by cases k <;> simp [State.pack]).2 once)
    rw [here, latches]
    rw [warned] at named
    refine ⟨last, slot, flow, rfl, rfl, rfl, rfl, rfl, fun _ => ⟨named, fun hu => ?_⟩, fun h => absurd hm h⟩
    exact (setLatch_mem _ .warning .warning).2 (.inr ⟨rfl, fun h => by
      have up : s.inStart = true := h.1
      rw [hu] at up
      cases up⟩)
  · have hit := arrivalCheck_hit (fun h => hm (same.1 h))
    obtain ⟨last, slot, flow, here, latches⟩ := checked _ served (congrArg (State.completeStep · p i .travel) hit)
      (s.panel p).warnings panel once
    rw [here, latches]
    exact ⟨last, slot, flow, rfl, rfl, rfl, rfl, rfl, fun h => absurd h hm, fun _ => ⟨rfl, rfl⟩⟩

/-- What the end of a braking window does to the step of its panel, and what the other timers do. -/
theorem timers_run_out (s : State) (p : PanelNo) :
    (∀ d, (s.panel p).brakeTimer = some d → s.served p = none → exec (.brakingWindowEnd p) s = .next (s.rested p d)) ∧
    (∀ d i o k, (s.panel p).brakeTimer = some d → s.served p = some (i, o, k) →
      (o.phase ≠ some .braking → exec (.brakingWindowEnd p) s = .next (s.rested p d)) ∧
      (o.phase = some .braking → (s.panel p).purpose ≠ some .complete → exec (.brakingWindowEnd p) s =
        .next (runJob (.evaluate p false) ((s.rested p d).setPhase p i none {} none)).settle) ∧
      (o.phase = some .braking → (s.panel p).purpose = some .complete → ¬ s.stepAllowed p o k → s.linked →
        ∃ t o', exec (.brakingWindowEnd p) s = .next t ∧ t.slot i = some o' ∧ o'.state = .failed .sequence ∧
          o'.finishedAt = some (max s.now d) ∧ (t.panel p).live = none ∧ .sequenceStop ∈ (t.panel p).warnings)) := by
  refine ⟨fun d hd h => ?_, fun d i o k hd h => ⟨fun hb => ?_, fun hb hp => ?_, fun hb hp hn hs => ?_⟩⟩
  · rw [exec_brakingWindowEnd hd, windowEnded_unserved ((served_rested s p d).trans h), settle_ok]
  · rw [exec_brakingWindowEnd hd, windowEnded_other ((served_rested s p d).trans h) hb, settle_ok]
  · rw [exec_brakingWindowEnd hd, windowEnded_evaluate ((served_rested s p d).trans h) hb (by rw [rested_panel]; exact hp)]
  · have served := (served_rested s p d).trans h
    obtain ⟨o', slot, failed, finished, live, warned⟩ := sequenceFail_settle (linked_rested (linked_iff.1 hs) p d) served
    refine ⟨_, o', ?_, slot, failed, finished, live, warned⟩
    rw [exec_brakingWindowEnd hd, windowEnded_complete served hb (by rw [rested_panel]; exact hp), hard_rested,
      if_neg fun h => hn (stepAllowed_iff.2 h)]

/-- Settles O53: the timers by their cases, the report of a step's end and the release of a dependent by theirs. -/
theorem timersRunOut : Obligations.TimersRunOut := by
  unfold Obligations.TimersRunOut
  refine ⟨?_, ?_, ?_⟩
  · intro s p x ended
    obtain ⟨unserved, served⟩ := timers_run_out s p
    have ended_eq (d : Nat) : ended d = s.rested p d := (rested_eq s p d).symm
    simp only [ended_eq]
    refine ⟨unserved, fun d i o k hd h => ?_, fun d h => exec_creepQuietExpiry h,
      fun m d hm hd hj => exec_cleatDwellExpiry hm hd hj, exec_idleTimers s p⟩
    obtain ⟨other, evaluate, fail⟩ := served d i o k hd h
    refine ⟨other, evaluate, fail, fun hb hp allowed hk hl => ?_⟩
    subst hk
    exact travel_ended hd h hb hp allowed hl
  · intro s p i o k e h hs hf r
    have hs := linked_iff.1 hs
    refine ⟨fun he ho => ?_, fun he hn => ?_, fun he hn => ?_⟩
    · have run : r = _ := (he ▸ report_hold h hf ho : runJob (.report p e) s = _)
      rw [run]
      refine ⟨?_, rfl, fun hu => ?_⟩
      · rw [Res.ok_st, setLatch_slot, updateOrder_slot, if_pos rfl, served_slot h, Option.map_some, hf]
      · exact (setLatch_mem _ _ _).2 (.inr ⟨rfl, fun h => by
          have up := h.1
          rw [updateOrder_inStart, hu] at up
          cases up⟩)
    · have run : r = _ := report_next h hf he hn
      rw [run]
      exact ⟨rfl, rfl⟩
    · have run : r = _ := report_last h hf he hn
      have active := served_active h
      have panel := ((served_iff hs).1 h).2.1
      obtain ⟨⟨b, done⟩, live, latched, released⟩ := completeOrder_spec hs (served_slot h) (by rw [active]; rfl)
        (not_waiting_of_active (hs.consistent i o (served_slot h)) active)
      rw [run]
      rw [panel] at live
      exact ⟨⟨_, done, rfl, rfl, rfl, rfl, rfl⟩, live, latched, released⟩
  · intro s j id r
    refine ⟨fun q hq hp => ⟨?_, fun hst hf => ?_⟩, fun h => ?_⟩
    · intro hst enters
      have run : r = _ := release_pending hq hp hst
      have state : s.admissionState = if s.unit = .service then .paused .service
        else if s.loopOpen then .paused .estop else if s.supplyLow then .paused .supply else .active := rfl
      rw [state] at run
      refine ⟨fun hu => ?_, fun hu hl => ?_, fun hu hl hw => ?_, fun hu hl hw => ?_⟩
      · rw [if_pos hu] at run
        exact ⟨congrArg Res.st run, congrArg Res.jobs run⟩
      · rw [if_neg hu, if_pos hl] at run
        exact ⟨congrArg Res.st run, congrArg Res.jobs run⟩
      · rw [if_neg hu, if_neg (by simp [hl]), if_pos hw] at run
        exact ⟨congrArg Res.st run, congrArg Res.jobs run⟩
      · rw [if_neg hu, if_neg (by simp [hl]), if_neg (by simp [hw])] at run
        exact ⟨congrArg Res.st run, congrArg Res.jobs run⟩
    · have run : r = _ := release_paused hq hp hst hf
      rw [run]
      exact ⟨rfl, rfl⟩
    · have run : r = _ := release_other h
      rw [run]
      exact ⟨rfl, rfl⟩

end Sys2Proof.Machine
end

section
/-! The order of a waiting list, the grant pass, and the stages of an evaluation one by one (R69 to R78, R128, R129). -/

namespace Sys2Proof.Machine

open State (WorksOn)

variable {s t u : State} {p q : PanelNo} {i j : SlotNo} {o : Order} {k : StepKind} {l m : PackId} {d : Nat}

/-! ### The order of a waiting list -/

/-- RAIN ahead of NORMAL, then the higher arbitration number (R128). -/
def Waiter.leads (a b : Waiter) : Prop := a.cls = .rain ∧ b.cls = .normal ∨ a.cls = b.cls ∧ b.arb < a.arb

theorem ahead_iff {a b : Waiter} : a.ahead b = true ↔ a.leads b := by
  unfold Waiter.ahead Waiter.leads
  cases a.cls <;> cases b.cls <;> simp

theorem leads_trans {a b c : Waiter} (h : a.leads b) (h' : b.leads c) : a.leads c := by
  unfold Waiter.leads at *
  obtain ⟨h1, h2⟩ | ⟨h1, h2⟩ := h <;> obtain ⟨h3, h4⟩ | ⟨h3, h4⟩ := h'
  · exact .inl ⟨h1, h4⟩
  · exact .inl ⟨h1, h3 ▸ h2⟩
  · exact .inl ⟨h1.trans h3, h4⟩
  · exact .inr ⟨h1.trans h3, h4.trans h2⟩

/-- Two entries of different keys are ranked one way or the other. -/
theorem leads_of_not {a b : Waiter} (h : ¬ a.leads b) (hk : b.cls ≠ a.cls ∨ b.arb ≠ a.arb) : b.leads a := by
  unfold Waiter.leads at *
  cases ha : a.cls <;> cases hb : b.cls <;> simp [ha, hb] at *
  · omega
  · omega

theorem insertWaiter_ranked (w : Waiter) : ∀ ws : List Waiter, ws.Pairwise Waiter.leads →
    (∀ v ∈ ws, v.cls ≠ w.cls ∨ v.arb ≠ w.arb) → (insertWaiter w ws).Pairwise Waiter.leads
  | [], _, _ => List.pairwise_singleton ..
  | v :: ws, h, hk => by
    obtain ⟨hv, hws⟩ := List.pairwise_cons.1 h
    unfold insertWaiter
    split
    · rename_i first
      have lead := ahead_iff.1 first
      refine List.pairwise_cons.2 ⟨fun x hx => ?_, h⟩
      obtain rfl | hx := List.mem_cons.1 hx
      · exact lead
      · exact leads_trans lead (hv x hx)
    · rename_i later
      have lead := leads_of_not (mt ahead_iff.2 later) (hk v List.mem_cons_self)
      refine List.pairwise_cons.2 ⟨fun x hx => ?_, insertWaiter_ranked w ws hws fun x hx => hk x (List.mem_cons_of_mem _ hx)⟩
      obtain rfl | hx := List.mem_cons.1 ((insertWaiter_perm w ws).mem_iff.1 hx)
      · exact lead
      · exact hv x hx

/-! ### The grant pass -/

theorem passGrants_append (cap : Nat) : ∀ (n : Nat) (ws : List Waiter), passGrants cap n ws ++ passRest cap n ws = ws
  | _, [] => rfl
  | n, w :: ws => by
    unfold passGrants passRest
    split
    · rw [List.cons_append, passGrants_append]
    · rfl

theorem passGrants_sum (cap : Nat) : ∀ (n : Nat) (ws : List Waiter), passGrants cap n ws ≠ [] →
    n + ((passGrants cap n ws).map Waiter.demand).sum ≤ cap
  | _, [], h => absurd rfl h
  | n, w :: ws, h => by
    unfold passGrants at h ⊢
    split
    · rename_i fits
      by_cases none : passGrants cap (n + w.demand) ws = []
      · rw [none]
        simpa using fits
      · have := passGrants_sum cap (n + w.demand) ws none
        rw [List.map_cons, List.sum_cons]
        omega
    · rename_i full
      exact absurd (if_neg full) h

theorem passRest_full (cap : Nat) : ∀ (n : Nat) (ws : List Waiter), ∀ w ∈ (passRest cap n ws).head?,
    cap < n + ((passGrants cap n ws).map Waiter.demand).sum + w.demand
  | _, [], _, h => nomatch h
  | n, v :: ws, w, h => by
    unfold passRest at h
    unfold passGrants
    split at h
    · rename_i fits
      rw [if_pos fits, List.map_cons, List.sum_cons]
      have := passRest_full cap (n + v.demand) ws w h
      omega
    · rename_i full
      obtain rfl : v = w := Option.some.inj h
      rw [if_neg full]
      simp
      omega

theorem runPass_pack (s : State) (l : PackId) : (s.runPass l).st.pack l = (s.pack l).afterPass (s.effective l) :=
  setPack_pack_self ..

/-- The grants of a pass join those that stand. -/
theorem afterPass_granted (x : Pack) (cap : Nat) : (x.afterPass cap).granted =
    x.granted + ((passGrants cap x.granted x.waiting).map Waiter.demand).sum := by
  unfold Pack.granted Pack.afterPass
  rw [List.map_append, List.sum_append, List.map_map]
  rfl

theorem runPass_spec (s : State) (l : PackId) : ∃ granted rest,
    (s.pack l).waiting = granted ++ rest ∧ ((s.runPass l).st.pack l).waiting = rest ∧
    ((s.runPass l).st.pack l).grants = (s.pack l).grants ++ granted.map (fun w => ⟨w.panel, w.demand, false⟩) ∧
    ((s.runPass l).st.pack l).granted = (s.pack l).granted + (granted.map Waiter.demand).sum ∧
    (granted ≠ [] → ((s.runPass l).st.pack l).granted ≤ s.effective l) ∧
    (∀ w ∈ rest.head?, s.effective l < ((s.runPass l).st.pack l).granted + w.demand) ∧
    (s.runPass l).jobs = granted.map fun w => .deliver w.panel := by
  refine ⟨passGrants (s.effective l) (s.pack l).granted (s.pack l).waiting,
    passRest (s.effective l) (s.pack l).granted (s.pack l).waiting, (passGrants_append ..).symm, ?_⟩
  rw [runPass_pack, afterPass_granted]
  exact ⟨rfl, rfl, rfl, passGrants_sum _ _ _, passRest_full _ _ _, rfl⟩

/-! ### A step that fails -/

/-- The order in the slot has failed at this moment, and its panel has neither an order nor flow. -/
structure State.FailedBy (s t : State) (p : PanelNo) (i : SlotNo) (f : FailReason) : Prop where
  live : (t.panel p).live = none
  flow : t.flow p = .none
  order : ∃ o', t.slot i = some o' ∧ o'.state = .failed f ∧ o'.finishedAt = some s.now

theorem failedBy_failLive (hs : s.Linked) (h : s.served p = some (i, o, k)) (one : s.placedOnce p) (f : FailReason) :
    s.FailedBy (s.failLive p f).st p i f := by
  obtain ⟨packs, -, b, slot⟩ := failLive_served (c := f) hs h one
  refine ⟨failLive_live hs p f, flowless_iff.1 fun l => ?_, _, slot, rfl, rfl⟩
  rw [packs]
  exact not_mem_dropPanel _ _

theorem served_warn (s : State) (p q : PanelNo) (w : PanelWarning) : (s.warn p w).served q = s.served q := by
  obtain ⟨ws, e⟩ := warn_panel s p q w
  exact served_congr (by rw [e]) (warn_slots ..)

theorem warn_pack (s : State) (p : PanelNo) (w : PanelWarning) (l : PackId) : (s.warn p w).pack l = s.pack l := by
  unfold State.warn
  rw [setLatch_pack, modPanel_pack]

/-- A failure with SEQUENCE (R72). -/
theorem sequenceFail_failed (hs : s.Linked) (h : s.served p = some (i, o, k)) (one : s.placedOnce p) :
    s.FailedBy (s.sequenceFail p).st p i .sequence ∧ .sequenceStop ∈ ((s.sequenceFail p).st.panel p).warnings := by
  have linked : (s.warn p .sequenceStop).Linked := Changes.linked (changes_warn (L := Leave.all) .sequenceStop) hs
  obtain ⟨live, flow, order⟩ := failedBy_failLive linked ((served_warn ..).trans h)
    ((placedOnce_of_pack (warn_pack s p .sequenceStop)).2 one) .sequence
  refine ⟨⟨live, flow, ?_⟩, ?_⟩
  · rw [show (s.warn p .sequenceStop).now = s.now from warn_now ..] at order
    exact order
  · exact (Changes.panel (worksOn_failLive (s.warn p .sequenceStop) p .sequence).run p).warnings _ (warn_mem ..)

/-! ### A step that is skipped, or waits -/

theorem skip_spec (h : s.served p = some (i, o, k)) (one : s.placedOnce p) :
    (s.skip p i).st.slot i = some { o with phase := none, reasons := {} } ∧ (s.skip p i).st.flow p = .none ∧
    (s.skip p i).st.panel p = { s.panel p with purpose := none, plan := none } ∧
    (s.skip p i).jobs.getLast? = some (.report p .skipped) := by
  have slot := served_slot h
  unfold State.skip
  dsimp only [Res.add]
  refine ⟨?_, ?_, ?_, by rw [List.getLast?_append]; rfl⟩
  · rw [slot_of_slots (dropFlow_slots _ _), modPanel_slot, setPhase_slot slot]
  · exact flow_dropFlow (s := (s.setPhase p i none {} none).modPanel p fun x => { x with plan := none }) one
  · rw [dropFlow_panel, modPanel_panel_self, setPhase_panel]

/-- The unit with a step waiting for flow. -/
def State.asking (s : State) (p : PanelNo) (i : SlotNo) : State :=
  (s.setPhase p i (some .flowWait) {} none).modPanel p fun x => { x with plan := none }

theorem asking_slot (hi : s.slot i = some o) : (s.asking p i).slot i = some { o with phase := some .flowWait, reasons := {} } := by
  unfold State.asking
  rw [modPanel_slot, setPhase_slot hi]

theorem asking_panel (s : State) (p : PanelNo) (i : SlotNo) :
    (s.asking p i).panel p = { s.panel p with purpose := none, plan := none } := by
  unfold State.asking
  rw [modPanel_panel_self, setPhase_panel]

theorem asking_packs (s : State) (p : PanelNo) (i : SlotNo) :
    (s.asking p i).packA = s.packA ∧ (s.asking p i).packB = s.packB := ⟨rfl, rfl⟩

/-- A request that joins a list is the panel's flow. -/
theorem flow_insert {w : Waiter} (h : s.flow w.panel = .none) (l : PackId) :
    (s.modPack l fun x => x.insert w).flow w.panel = .waiting l w.demand := by
  obtain ⟨ha, hb⟩ := flow_eq_none.1 h
  rw [not_mem_panels] at ha hb
  have found (x : Pack) (hx : x.waiterOf w.panel = none) : (x.insert w).waiterOf w.panel = some w := by
    cases hf : (x.insert w).waiterOf w.panel with
    | none => exact absurd rfl (waiterOf_eq_none.1 hf w (mem_insert.2 (.inl rfl)))
    | some v =>
      have same : v.panel = w.panel := by simpa using List.find?_some hf
      obtain rfl | old := mem_insert.1 (List.mem_of_find?_eq_some hf)
      · rfl
      · exact absurd same (waiterOf_eq_none.1 hx v old)
  have grants (x : Pack) : (x.insert w).grantOf w.panel = x.grantOf w.panel := rfl
  cases l
  · have waiter : (s.modPack .a fun x => x.insert w).packA.waiterOf w.panel = some w := found s.packA ha.2
    have grantA : (s.modPack .a fun x => x.insert w).packA.grantOf w.panel = none := (grants s.packA).trans ha.1
    have grantB : (s.modPack .a fun x => x.insert w).packB.grantOf w.panel = none := hb.1
    simp only [State.flow, waiter, grantA, grantB]
  · have waiter : (s.modPack .b fun x => x.insert w).packB.waiterOf w.panel = some w := found s.packB hb.2
    have waiterA : (s.modPack .b fun x => x.insert w).packA.waiterOf w.panel = none := ha.2
    have grantA : (s.modPack .b fun x => x.insert w).packA.grantOf w.panel = none := ha.1
    have grantB : (s.modPack .b fun x => x.insert w).packB.grantOf w.panel = none := (grants s.packB).trans hb.1
    simp only [State.flow, waiter, waiterA, grantA, grantB]

/-- The flow request (R77, R127). -/
theorem request_spec (hs : s.Linked) (h : s.served p = some (i, o, k)) (hf : s.flow p = .none) :
    (s.arbitration p = 0 → s.FailedBy (s.request p i o k).st p i .noArbitration) ∧
    (s.arbitration p ≠ 0 → s.capacity (s.listPack p) < k.demand →
      s.FailedBy (s.request p i o k).st p i .flowImpossible) ∧
    (s.arbitration p ≠ 0 → k.demand ≤ s.capacity (s.listPack p) →
      (s.request p i o k).st.slot i = some { o with phase := some .flowWait, reasons := {} } ∧
      (s.request p i o k).jobs = [.pass (s.listPack p)] ∧
      (s.request p i o k).st.flow p = .waiting (s.listPack p) k.demand ∧
      ⟨p, k.demand, o.cls, s.arbitration p⟩ ∈ ((s.request p i o k).st.pack (s.listPack p)).waiting ∧
      ((s.request p i o k).st.panel p).coils = (s.panel p).coils) := by
  have one := (flowless_iff.2 hf).placedOnce
  unfold State.request
  refine ⟨fun ha => ?_, fun ha hc => ?_, fun ha hc => ?_⟩
  · rw [if_pos ha]
    exact failedBy_failLive hs h one _
  · rw [if_neg ha, if_pos hc]
    exact failedBy_failLive hs h one _
  · obtain ⟨packA, packB⟩ := asking_packs s p i
    have asks : (s.asking p i).flow p = .none := (flow_congr packA packB p).trans hf
    rw [if_neg ha, if_neg (by omega)]
    dsimp only
    rw [if_pos (by exact asks)]
    change ((s.asking p i).modPack (s.listPack p) fun x => x.insert _).slot i = _ ∧ _ = _ ∧
      ((s.asking p i).modPack (s.listPack p) fun x => x.insert _).flow p = _ ∧
      _ ∈ (((s.asking p i).modPack (s.listPack p) fun x => x.insert _).pack (s.listPack p)).waiting ∧
      (((s.asking p i).modPack (s.listPack p) fun x => x.insert _).panel p).coils = _
    refine ⟨?_, rfl, flow_insert (w := ⟨p, k.demand, o.cls, s.arbitration p⟩) asks _, ?_, ?_⟩
    · rw [slot_of_slots (modPack_slots ..), asking_slot (served_slot h)]
    · rw [modPack_pack_self]
      exact mem_insert.2 (.inl rfl)
    · rw [modPack_panel, asking_panel]

end Sys2Proof.Machine
end

section
/-! The running of a step that holds a grant: its coil, its activity and its timer, the move of a cleat step, the plan of a
travel and its first chop (R78, R80, R84, R102, R107, R108). -/

namespace Sys2Proof.Machine

open State (WorksOn)

variable {s t u : State} {p q : PanelNo} {i j : SlotNo} {o : Order} {k : StepKind} {l m : PackId} {d : Nat}

/-! ### A fault raised on a panel whose step is served -/

theorem Panel.off_live (x : Panel) (now w : Nat) : (x.off now w).live = x.live := by
  by_cases h : x.mode = .driven
  · rw [Panel.off_driven h]
  · rw [Panel.off_quiet h]

theorem endJogOn_none (h : s.jog = none) (p : PanelNo) : s.endJogOn p = .ok s := by
  unfold State.endJogOn
  rw [h]

/-- The raise of a fault drops the flow of the step it ends (R166). -/
theorem raise_pack {f : PanelFault} (hs : s.Linked) (h : s.served p = some (i, o, k)) (one : s.placedOnce p)
    (hc : s.configured p = true) (hf : f ∉ (s.panel p).faults) (l : PackId) :
    (s.raise p f).st.pack l = (s.pack l).dropPanel p := by
  have live (x : Panel) : ({ x with faults := joinSet allPanelFaults f x.faults }.off s.now s.params.tuning.brakingWindow).live =
      x.live := (Panel.off_live _ _ _).trans rfl
  have served : (s.faulted p f).served p = some (i, o, k) := by rw [faulted_eq, served_modPanel (live _), h]
  have same (l : PackId) : (s.faulted p f).pack l = s.pack l := by rw [faulted_eq, modPanel_pack]
  obtain ⟨packs, jog, -⟩ := failLive_served (c := .fault f) ((changes_faulted s p f).linked hs) served
    ((placedOnce_of_pack same).2 one)
  have none : ((s.faulted p f).failLive p (.fault f)).st.jog = none := by
    rw [jog, faulted_eq, modPanel_jog]
    exact jog_none_of_served hs h
  have e : (s.raise p f).st = (((s.faulted p f).failLive p (.fault f)).st.endJogOn p).st.setLatch .panelFault := raise_eq hc hf
  rw [e, endJogOn_none none, Res.ok_st, ← same l, ← packs l, setLatch_pack]

/-- A fault raised on a panel whose step is served fails the order. -/
theorem raise_failed {f : PanelFault} (hs : s.Linked) (h : s.served p = some (i, o, k)) (one : s.placedOnce p)
    (hc : s.configured p = true) (hf : f ∉ (s.panel p).faults) : s.FailedBy (s.raise p f).st p i (.fault f) := by
  have r := raised hs hc hf
  obtain ⟨ho, rfl, ha, -⟩ := (served_iff hs).1 h
  refine ⟨r.live, flowless_iff.1 fun l => ?_, r.order i o ho (hs.field i o ho (by rw [ha]; rfl))⟩
  rw [raise_pack hs h one hc hf]
  exact not_mem_dropPanel _ _

/-! ### Lift, lower and the stow -/

theorem runTimed_eq (s : State) (p : PanelNo) (c : Coil) (a : Activity) (n : Nat) : s.runTimed p c a n = s.modPanel p fun x =>
    { x.energised s.enabled c with activity := a, stepTimer := some (s.now + n) } := by
  unfold State.runTimed
  rw [energise_eq, modPanel_modPanel]

/-- The unit with a step RUNNING, before its coils are energised. -/
def State.begun (s : State) (p : PanelNo) (i : SlotNo) : State := s.setPhase p i (some .running) {} none

theorem begun_slot (hi : s.slot i = some o) : (s.begun p i).slot i = some { o with phase := some .running, reasons := {} } :=
  setPhase_slot hi ..

theorem begun_panel (s : State) (p : PanelNo) (i : SlotNo) : (s.begun p i).panel p = { s.panel p with purpose := none } :=
  setPhase_panel ..

theorem begun_pack (s : State) (p : PanelNo) (i : SlotNo) (l : PackId) : (s.begun p i).pack l = s.pack l := setPhase_pack ..

theorem begun_lasting (s : State) (p : PanelNo) (i : SlotNo) : (s.begun p i).lasting = s.lasting := lasting_setPhase ..

theorem flow_of_pack (h : ∀ l, t.pack l = s.pack l) (p : PanelNo) : t.flow p = s.flow p := flow_congr (h .a) (h .b) p

/-- What a step that needs its coil alone leaves. -/
theorem timed_spec (hi : s.slot i = some o) (c : Coil) (a : Activity) (n : Nat) :
    let t := (s.begun p i).runTimed p c a n
    t.slot i = some { o with phase := some .running, reasons := {} } ∧ (∀ l, t.pack l = s.pack l) ∧
    (t.panel p).coils = (if s.enabled then (s.panel p).coils.put true c else (s.panel p).coils) ∧
    (t.panel p).activity = a ∧ (t.panel p).stepTimer = some (s.now + n) := by
  intro t
  have e : t = _ := runTimed_eq ..
  rw [e, modPanel_panel_self, begun_panel]
  refine ⟨begun_slot (p := p) hi, fun l => ?_, rfl, rfl, rfl⟩
  rw [modPanel_pack, begun_pack]

/-! ### A cleat step -/

theorem startMove_pack (s : State) (p : PanelNo) (g : GroupNo) (d : CleatDir) (a b : Nat) (x : Bool) (l : PackId) :
    (s.startMove p g d a b x).pack l = s.pack l := by
  unfold State.startMove
  dsimp only
  split
  · rw [modPanel_pack]
  · rw [energise_eq, modPanel_pack, modPanel_pack, modPanel_pack]

theorem runMove_slots (s : State) (p : PanelNo) (g : GroupNo) (d : CleatDir) : (s.runMove p g d).st.slots = s.slots := by
  unfold State.runMove
  split
  · rfl
  · exact startMove_slots ..

theorem runMove_pack (s : State) (p : PanelNo) (g : GroupNo) (d : CleatDir) (l : PackId) :
    (s.runMove p g d).st.pack l = s.pack l := by
  unfold State.runMove
  split
  · rfl
  · exact startMove_pack ..

/-- A cleat step whose participants stand at the commanded level makes no move (R24, R80). -/
theorem runMove_full {g : GroupNo} {d : CleatDir} (hm : (s.panel p).move = none) (h : s.atLevel p g d = s.participants p g) :
    (s.runMove p g d).jobs = [.moveEnd p] ∧ ((s.runMove p g d).st.panel p).coils = (s.panel p).coils := by
  unfold State.runMove
  rw [if_neg (by simp [hm])]
  obtain ⟨cl, e⟩ := startMove_full h s.params.tuning.cleatDwell s.params.tuning.confirmationWindow false
  dsimp only
  rw [e, hm]
  exact ⟨rfl, rfl⟩

/-- Any other makes a move of its group. -/
theorem runMove_part {g : GroupNo} {d : CleatDir} (hm : (s.panel p).move = none) (h : s.atLevel p g d ≠ s.participants p g) :
    ∃ cl, (s.runMove p g d).st.panel p = { s.panel p with
      cleats := cl, activity := .cleatMove g d
      move := some (s.newMove p g d s.params.tuning.cleatDwell s.params.tuning.confirmationWindow false)
      coils := if s.enabled then (s.panel p).coils.put true (d.coil g) else (s.panel p).coils } := by
  unfold State.runMove
  rw [if_neg (by simp [hm])]
  exact startMove_part h ..

theorem begun_parts (s : State) (p : PanelNo) (i : SlotNo) (g : GroupNo) (d : CleatDir) :
    (s.begun p i).participants p g = s.participants p g ∧ (s.begun p i).atLevel p g d = s.atLevel p g d := by
  have parts : (s.begun p i).participants p g = s.participants p g := by
    unfold State.participants
    rw [begun_panel]
    rfl
  refine ⟨parts, ?_⟩
  unfold State.atLevel
  rw [parts, begun_panel]

/-- What a cleat step leaves, as the statement asks it. -/
theorem moves_spec (g : GroupNo) (d : CleatDir) (hm : (s.panel p).move = none) :
    let r := (s.begun p i).runMove p g d
    (s.atLevel p g d = s.participants p g → r.jobs = [.moveEnd p] ∧ (r.st.panel p).coils = (s.panel p).coils) ∧
    (s.atLevel p g d ≠ s.participants p g → (r.st.panel p).activity = .cleatMove g d ∧
      (r.st.panel p).coils = (if s.enabled then (s.panel p).coils.put true (d.coil g) else (s.panel p).coils) ∧
      ∃ m, (r.st.panel p).move = some m ∧ m.group = g ∧ m.dir = d ∧ m.byJog = false ∧
        m.dwell = some (s.now + s.params.tuning.cleatDwell) ∧ m.window = s.now + s.params.tuning.confirmationWindow) := by
  intro r
  obtain ⟨parts, level⟩ := begun_parts s p i g d
  have panel := begun_panel s p i
  have free : ((s.begun p i).panel p).move = none := by rw [panel]; exact hm
  refine ⟨fun h => ?_, fun h => ?_⟩
  · obtain ⟨jobs, coils⟩ := runMove_full free (level.trans (h.trans parts.symm))
    exact ⟨jobs, coils.trans (by rw [panel])⟩
  · obtain ⟨cl, e⟩ := runMove_part free fun e => h (level.symm.trans (e.trans parts))
    have e : r.st.panel p = _ := e
    rw [e, panel]
    exact ⟨rfl, rfl, _, rfl, rfl, rfl, rfl, rfl, rfl⟩

end Sys2Proof.Machine
end

section
/-! The running of a travel, the stages of an evaluation put together, and the watch on a step (R70 to R79, R98, R102). -/

namespace Sys2Proof.Machine

open State (WorksOn)

variable {s t u : State} {p q : PanelNo} {i j : SlotNo} {o : Order} {k : StepKind} {l m : PackId} {d : Dir} {pl : Plan}

/-! ### The plan and the coils of a travel -/

theorem planFor_congr (same : t.lasting = s.lasting) (certain : (t.panel p).certain = (s.panel p).certain)
    (count : (t.panel p).count = (s.panel p).count) (mark : (t.panel p).chopMark = (s.panel p).chopMark) (n : Int) :
    t.planFor p n = s.planFor p n := by
  have params : t.params = s.params := lasting_params same
  have layout : t.layout = s.layout := lasting_layout same
  have list : t.list = s.list := (congrArg State.list same :)
  have cards : t.cards = s.cards := lasting_cards same
  have theta (d : Dir) : t.theta p d = s.theta p d := by
    unfold State.theta State.noListSource State.downhill
    rw [layout, list]
  have allowance (d : Dir) : t.allowance p d = s.allowance p d := by
    unfold State.allowance
    rw [theta, params]
  have stopKind (d : Dir) : t.stopKind p n d = s.stopKind p n d := by
    unfold State.stopKind State.openCount
    rw [layout]
  have fast : t.fastPermitted p = s.fastPermitted p := by
    unfold State.fastPermitted State.fastBar State.noListSource
    rw [certain, mark, params, layout, list, cards]
  unfold State.planFor
  simp only [certain, count, params, theta, allowance, stopKind, fast]

/-- The record of a panel that a travel is planned for. -/
def Panel.planned (x : Panel) (pl : Plan) : Panel :=
  { x with purpose := none, chopMark := false, count := if x.certain then x.count else 4095, plan := some pl }

/-- The record of a panel whose travel has been started under a plan. -/
def Panel.underway (x : Panel) (pl : Plan) (on : Bool) (deadline : Nat) : Panel :=
  (x.planned pl).setTravelling pl.dir pl.fast false on deadline

/-- The coils of a panel whose travel has been started. -/
def Coils.driving (c : Coils) (on : Bool) (d : Dir) (fast : Bool) : Coils :=
  if on then { (c.put true d.coil) with brakeRelease := true, fast := c.fast || fast } else c

theorem setTravelling_eq (x : Panel) (d : Dir) (fast on : Bool) (n : Nat) : x.setTravelling d fast false on n =
    { x with mode := .driven, lastDir := some d, brakeTimer := none, stall := .running n, creep := 0, chop := 0
             chopMark := false, holdoff := none, activity := .travel d (if fast then .fast else .slow)
             coils := x.coils.driving on d fast } := by
  unfold Panel.setTravelling Panel.started Panel.energised Coils.driving
  cases on
  · cases fast
    · rfl
    · rfl
  · cases fast <;> cases d <;> simp [Coils.put, Dir.coil]

theorem underway_eq (x : Panel) (pl : Plan) (on : Bool) (n : Nat) : x.underway pl on n =
    { x with purpose := none, count := if x.certain then x.count else 4095, plan := some pl, mode := .driven
             lastDir := some pl.dir, brakeTimer := none, stall := .running n, creep := 0, chop := 0, chopMark := false
             holdoff := none, activity := .travel pl.dir (if pl.fast then .fast else .slow)
             coils := x.coils.driving on pl.dir pl.fast } := by
  unfold Panel.underway
  rw [setTravelling_eq]
  rfl

/-- A chop takes the direction coils and FAST from the coils of a travel. -/
theorem driving_chopped (c : Coils) (on : Bool) (d : Dir) (fast : Bool) :
    { c.driving on d fast with fast := false, travelOut := false, travelIn := false } =
      { (if on then { c with brakeRelease := true } else c) with travelOut := false, travelIn := false, fast := false } := by
  unfold Coils.driving
  cases on
  · rfl
  · cases d
    · rfl
    · rfl

/-- The plan of a travel that is started. -/
def State.travelPlan (s : State) (p : PanelNo) (o : Order) : Plan :=
  (s.modPanel p fun x => { x with chopMark := false, count := if x.certain then x.count else 4095 }).planFor p (o.target.getD 0)

/-- The unit with a travel started under its plan. -/
def State.underway (s : State) (p : PanelNo) (i : SlotNo) (pl : Plan) : State :=
  (s.begun p i).modPanel p fun x => x.underway pl s.enabled (s.now + s.params.tuning.stallPeriod)

theorem begun_modPanel_plan (s : State) (p : PanelNo) (i : SlotNo) (o : Order) :
    ((s.begun p i).modPanel p fun x => { x with chopMark := false, count := if x.certain then x.count else 4095 }).planFor p
      (o.target.getD 0) = s.travelPlan p o := by
  refine planFor_congr ?_ ?_ ?_ ?_ _
  · refine (lasting_modPanel fun _ => ?_).trans ((begun_lasting s p i).trans (lasting_modPanel fun _ => ?_).symm)
    · rfl
    · rfl
  · rw [modPanel_panel_self, modPanel_panel_self, begun_panel]
  · rw [modPanel_panel_self, modPanel_panel_self, begun_panel]
  · rw [modPanel_panel_self, modPanel_panel_self]

theorem run_travel (s : State) (p : PanelNo) (i : SlotNo) (o : Order) :
    s.run p i o .travel = (s.underway p i (s.travelPlan p o)).chopIfTripped p := by
  have run : s.run p i o .travel = (s.begun p i).runTravel p o := rfl
  have last := begun_lasting s p i
  have now : (s.begun p i).now = s.now := lasting_now last
  have params : (s.begun p i).params = s.params := lasting_params last
  have enabled : (s.begun p i).enabled = s.enabled := rfl
  rw [run, State.runTravel]
  rw [begun_modPanel_plan, driveTravel_eq, modPanel_modPanel, modPanel_modPanel]
  unfold State.underway
  refine congrArg (State.chopIfTripped · p) (modPanel_congr ?_)
  change Panel.setTravelling _ _ _ _ (s.begun p i).enabled ((s.begun p i).now + (s.begun p i).params.tuning.stallPeriod) = _
  rw [enabled, now, params, begun_panel]
  rfl

theorem underway_slot (hi : s.slot i = some o) (pl : Plan) :
    (s.underway p i pl).slot i = some { o with phase := some .running, reasons := {} } := by
  unfold State.underway
  rw [modPanel_slot, begun_slot hi]

theorem underway_pack (s : State) (p : PanelNo) (i : SlotNo) (pl : Plan) (l : PackId) :
    (s.underway p i pl).pack l = s.pack l := by
  unfold State.underway
  rw [modPanel_pack, begun_pack]

theorem underway_panel (s : State) (p : PanelNo) (i : SlotNo) (pl : Plan) : (s.underway p i pl).panel p =
    (s.panel p).underway pl s.enabled (s.now + s.params.tuning.stallPeriod) := by
  unfold State.underway
  rw [modPanel_panel_self, begun_panel]
  rfl

theorem underway_lasting (s : State) (p : PanelNo) (i : SlotNo) (pl : Plan) : (s.underway p i pl).lasting = s.lasting := by
  unfold State.underway
  refine (lasting_modPanel fun x => ?_).trans (begun_lasting s p i)
  rw [underway_eq]
  rfl

theorem underway_served (h : s.served p = some (i, o, k)) (pl : Plan) :
    (s.underway p i pl).served p = some (i, { o with phase := some .running, reasons := {} }, k) := by
  unfold State.underway
  rw [served_modPanel (by rw [underway_eq])]
  exact served_setPhase h p _ _ _

theorem underway_chop (s : State) (p : PanelNo) (i : SlotNo) (pl : Plan) : (s.underway p i pl).chopIfTripped p =
    if (s.pack (s.travelPack p)).trip then (s.underway p i pl).chopPanel p else .ok (s.underway p i pl) := by
  have pack : (s.underway p i pl).travelPack p = s.travelPack p := by
    unfold State.travelPack State.grantPack
    rw [flow_of_pack (underway_pack s p i pl), listPack_lasting (underway_lasting s p i pl)]
  have travelling : ((s.underway p i pl).panel p).travelling = true := by rw [underway_panel, underway_eq]; rfl
  unfold State.chopIfTripped
  rw [travelling, pack, underway_pack, Bool.true_and]

/-! ### What a travel leaves -/

/-- The record of a panel whose travel has been chopped at its start. -/
theorem choppedStart_panel (s : State) (p : PanelNo) (i : SlotNo) (pl : Plan) : ((s.underway p i pl).chopWarned p).panel p =
    { (s.panel p).underway pl s.enabled (s.now + s.params.tuning.stallPeriod) with
      coils := { (if s.enabled then { (s.panel p).coils with brakeRelease := true } else (s.panel p).coils) with
        travelOut := false, travelIn := false, fast := false }
      activity := .travel pl.dir .slow, plan := some { pl with fast := false }, stall := .suspended s.params.tuning.stallPeriod
      chopMark := true, holdoff := some (s.now + s.params.tuning.chopHoldoff), chop := 1
      warnings := joinSet allPanelWarnings .travelTrip (s.panel p).warnings } := by
  have last := underway_lasting s p i pl
  have now : (s.underway p i pl).now = s.now := lasting_now last
  have params : (s.underway p i pl).params = s.params := lasting_params last
  have left : s.now + s.params.tuning.stallPeriod - s.now = s.params.tuning.stallPeriod := Nat.add_sub_cancel_left ..
  rw [chopWarned_panel, now, params, underway_panel, underway_eq]
  unfold Panel.chopped StallTimer.suspend
  dsimp only
  rw [driving_chopped, left]
  rfl

theorem chopStart_below (hl : 1 < s.params.tuning.chopLimit) (p : PanelNo) (i : SlotNo) (pl : Plan) :
    (s.underway p i pl).chopPanel p = .ok ((s.underway p i pl).chopWarned p) := by
  refine chopPanel_below ?_
  have params : (s.underway p i pl).params = s.params := lasting_params (underway_lasting s p i pl)
  rw [underway_panel, underway_eq, params]
  simpa using hl

theorem chopStart_limit (hl : s.params.tuning.chopLimit ≤ 1) (p : PanelNo) (i : SlotNo) (pl : Plan) :
    (s.underway p i pl).chopPanel p = ((s.underway p i pl).overloaded p).raise p .travelOverload := by
  refine chopPanel_limit ?_
  have params : (s.underway p i pl).params = s.params := lasting_params (underway_lasting s p i pl)
  rw [underway_panel, underway_eq, params]
  simpa using hl

theorem chopWarned_pack (s : State) (p : PanelNo) (l : PackId) : (s.chopWarned p).pack l = s.pack l := by
  unfold State.chopWarned
  rw [warn_pack, modPanel_pack]

theorem chopWarned_served (s : State) (p q : PanelNo) : (s.chopWarned p).served q = s.served q := by
  unfold State.chopWarned
  rw [served_warn, served_modPanel rfl]

theorem overloaded_pack (s : State) (p : PanelNo) (l : PackId) : (s.overloaded p).pack l = s.pack l := by
  unfold State.overloaded
  rw [modPanel_pack, chopWarned_pack]

theorem overloaded_served (s : State) (p q : PanelNo) : (s.overloaded p).served q = s.served q := by
  unfold State.overloaded
  rw [served_modPanel rfl, chopWarned_served]

theorem linked_underway (hs : s.Linked) (h : s.served p = some (i, o, k)) (pl : Plan) : (s.underway p i pl).Linked := by
  unfold State.underway
  refine linked_modPanel ?_ fun x => by rw [underway_eq]
  exact Changes.linked (changes_setPhase (L := Leave.all) (served_slot h) (served_active h) _ _ _) hs

/-- A travel whose first chop is its last fails with TRAVEL_OVERLOAD (R108). -/
theorem overloadedStart (hs : s.Linked) (h : s.served p = some (i, o, k)) (one : s.placedOnce p)
    (hf : .travelOverload ∉ (s.panel p).faults) (pl : Plan) :
    let t := (((s.underway p i pl).overloaded p).raise p .travelOverload).st
    s.FailedBy t p i (.fault .travelOverload) ∧ .travelOverload ∈ (t.panel p).faults ∧ .travelTrip ∈ (t.panel p).warnings ∧
      (t.panel p).chop = 1 ∧ (t.panel p).coils = {} ∧ (t.panel p).mode = .coasting := by
  intro t
  have linked := linked_overloaded (linked_underway hs h pl) p
  have served := (overloaded_served (s.underway p i pl) p p).trans (underway_served h pl)
  have pack (l : PackId) := (overloaded_pack (s.underway p i pl) p l).trans (underway_pack s p i pl l)
  have record := (overloaded_panel (s.underway p i pl) p).trans
    (congrArg (fun x : Panel => { x with overloadPack := some ((s.underway p i pl).travelPack p) }) (choppedStart_panel s p i pl))
  rw [underway_eq] at record
  have last := (overloaded_kept (s.underway p i pl) p).1.trans (underway_lasting s p i pl)
  have now := lasting_now last
  have configured : ((s.underway p i pl).overloaded p).configured p = true := by
    obtain ⟨ho, rfl, ha, -⟩ := (served_iff hs).1 h
    exact (lasting_configured last o.panel).trans (hs.configured i o ho (by rw [ha]; rfl))
  have new : .travelOverload ∉ (((s.underway p i pl).overloaded p).panel p).faults := by rw [record]; exact hf
  have failed := raise_failed linked served ((placedOnce_of_pack pack).2 one) configured new
  have r := raised linked configured new
  obtain ⟨-, -, -, chop, -, warnings⟩ := r.kept
  obtain ⟨mode, -⟩ := r.braking (by rw [record])
  rw [record] at chop warnings
  refine ⟨⟨failed.live, failed.flow, ?_⟩, r.mem, ?_, chop, r.rest.coils, mode⟩
  · rw [← now]
    exact failed.order
  · rw [warnings]
    exact mem_joinSet.2 ⟨mem_allPanelWarnings _, .inl rfl⟩

end Sys2Proof.Machine
end

section
/-! The ranking of the flow requests and the stages of an evaluation (R69 to R79, R128, R129): the statement. -/

namespace Sys2Proof.Machine

open State (WorksOn)

variable {s t u : State} {p q : PanelNo} {i j : SlotNo} {o : Order} {k : StepKind} {l m : PackId} {d : Dir} {pl : Plan} {n : Int}

/-! ### The stages -/

/-- The step's travel stands at its end switch (R71). -/
def State.standsAtEnd (s : State) (p : PanelNo) (o : Order) (k : StepKind) (n : Int) : Prop :=
  k = .travel ∧ o.target = some n ∧ (n = 0 ∧ (s.panel p).sw.home = true ∨ n = s.openCount p ∧ (s.panel p).sw.openEnd = true)

theorem endSwitch_iff : s.endSwitch p n = true ↔
    n = 0 ∧ (s.panel p).sw.home = true ∨ n = s.openCount p ∧ (s.panel p).sw.openEnd = true := by
  simp [State.endSwitch]

theorem standingReference_atEnd (h : s.standsAtEnd p o k n) : s.standingReference p o k = s.reference p n := by
  obtain ⟨rfl, target, stands⟩ := h
  unfold State.standingReference
  rw [target]
  exact if_pos (endSwitch_iff.2 stands)

theorem standingReference_not (h : ∀ n, ¬ s.standsAtEnd p o k n) : s.standingReference p o k = s := by
  unfold State.standingReference
  split
  · rename_i n target
    exact if_neg fun made => h n ⟨rfl, target, endSwitch_iff.1 made⟩
  · rfl

/-- The standing reference completes the step (R71). -/
theorem stages_atEnd (h : s.standsAtEnd p o k n) : s.stages p i o k = (s.reference p n).skip p i := by
  have stood := standingReference_atEnd h
  obtain ⟨rfl, target, -⟩ := h
  have record := reference_panel s p n
  rw [Panel.referenced_eq] at record
  have done : (s.reference p n).completion p o .travel = true := by
    unfold State.completion
    dsimp only
    rw [record, target]
    simp [State.tol]
  unfold State.stages
  rw [stood]
  exact if_pos done

section
variable (h : ∀ n, ¬ s.standsAtEnd p o k n)
include h

theorem stages_done (hd : s.stepDone p o k) : s.stages p i o k = s.skip p i := by
  unfold State.stages
  rw [standingReference_not h]
  exact if_pos (stepDone_iff.1 hd)

theorem stages_barred (hd : ¬ s.stepDone p o k) (ha : ¬ s.stepAllowed p o k) : s.stages p i o k = s.sequenceFail p := by
  unfold State.stages
  rw [standingReference_not h]
  dsimp only
  rw [if_neg (mt stepDone_iff.2 hd)]
  exact if_pos (by simpa using mt stepAllowed_iff.2 ha)

theorem stages_allowed (hd : ¬ s.stepDone p o k) (ha : s.stepAllowed p o k) : s.stages p i o k =
    if (s.reasons p o k).any then s.toWait p i (s.reasons p o k)
    else if (s.grantPack p).isSome then s.run p i o k else s.request p i o k := by
  unfold State.stages
  rw [standingReference_not h]
  dsimp only
  rw [if_neg (mt stepDone_iff.2 hd), if_neg (by simpa using stepAllowed_iff.1 ha)]

end

theorem reference_pack (s : State) (p : PanelNo) (n : Int) (l : PackId) : (s.reference p n).pack l = s.pack l := by
  rw [reference_eq, latchIf_eq]
  cases l
  · rfl
  · rfl

theorem grantPack_isSome : (s.grantPack p).isSome = true ↔ ∃ l d, s.flow p = .granted l d := by
  unfold State.grantPack
  cases s.flow p <;> simp

/-! ### What is evaluated, delivered and watched -/

theorem evaluate_braking (h : s.served p = some (i, o, k)) (hp : o.phase ≠ some .running)
    (hb : (s.panel p).activity = .braking) :
    runJob (.evaluate p true) s = .ok (s.setPhase p i (some .braking) {} (some .evaluate)) := by
  change s.evaluate p true = _
  unfold State.evaluate
  rw [h]
  dsimp only
  rw [if_neg hp, if_pos (by simp [hb])]

theorem evaluate_stages (h : s.served p = some (i, o, k)) (hp : o.phase ≠ some .running) {whole : Bool}
    (hb : whole = false ∨ (s.panel p).activity ≠ .braking) : runJob (.evaluate p whole) s = s.stages p i o k := by
  change s.evaluate p whole = _
  unfold State.evaluate
  rw [h]
  dsimp only
  rw [if_neg hp, if_neg (by rcases hb with rfl | hb <;> simp [*])]

theorem deliver_stages (h : s.served p = some (i, o, k)) (hp : o.phase = some .flowWait) (hg : (s.grantPack p).isSome = true) :
    runJob (.deliver p) s = s.stages p i o k := by
  change s.deliver p = _
  unfold State.deliver
  rw [h]
  exact if_pos (by simp [hp, hg])

theorem watch_completes (h : s.served p = some (i, o, k)) (hp : o.phase = some .running) (he : k.endsItself = true)
    (hd : s.stepDone p o k) : runJob (.watch p) s = s.completeStep p i k := by
  change s.watch p = _
  simp only [State.watch, h, hp]
  exact if_pos (by rw [he, stepDone_iff.1 hd]; rfl)

theorem watch_fails (h : s.served p = some (i, o, k))
    (hp : o.phase = some .running ∨ o.phase = some .interlockWait ∨ o.phase = some .flowWait) (ha : ¬ s.stepAllowed p o k)
    (he : k.endsItself = true → ¬ s.stepDone p o k) : runJob (.watch p) s = s.sequenceFail p := by
  have barred : (!s.hard p o k) = true := by simpa using mt stepAllowed_iff.2 ha
  change s.watch p = _
  obtain hp | hp | hp := hp
  · simp only [State.watch, h, hp]
    rw [if_neg fun both => ?_, if_pos barred]
    obtain ⟨ends, done⟩ := Bool.and_eq_true_iff.1 both
    exact he ends (stepDone_iff.2 done)
  · simp only [State.watch, h, hp]
    exact if_pos barred
  · simp only [State.watch, h, hp]
    exact if_pos barred

/-- A step that ends with its condition (R79, R85). -/
theorem completeStep_spec (h : s.served p = some (i, o, k)) (one : s.placedOnce p) (he : k.endsItself = true) :
    let r := s.completeStep p i k
    r.st.slot i = some { o with phase := none, reasons := {} } ∧ r.st.flow p = .none ∧
      (r.st.panel p).coils =
        { (s.panel p).coils with liftUp := false, liftDown := false, stowLock := false, stowUnlock := false } ∧
      (r.st.panel p).stepTimer = none ∧ .report p .completed ∈ r.jobs := by
  intro r
  have off : r = ((((s.stepCoilsOff p).setPhase p i none {} none).modPanel p fun x => { x with plan := none }).dropFlow p).add
      (.report p .completed :: lapReport p k) := by
    cases k with
    | lift => rfl
    | lower => rfl
    | lockStow => rfl
    | unlockStow => rfl
    | uncleat g => cases he
    | cleat g => cases he
    | travel => cases he
  have slot : (s.stepCoilsOff p).slot i = some o := served_slot (s := s) h
  rw [off]
  dsimp only [Res.add]
  rw [dropFlow_panel, modPanel_panel_self, setPhase_panel, stepCoilsOff_panel]
  refine ⟨?_, ?_, rfl, rfl, List.mem_append_right _ List.mem_cons_self⟩
  · rw [slot_of_slots (dropFlow_slots _ _), modPanel_slot, setPhase_slot slot]
  · refine flow_dropFlow (s := ((s.stepCoilsOff p).setPhase p i none {} none).modPanel p fun x => { x with plan := none })
      ((placedOnce_of_pack fun l => ?_).2 one)
    rw [modPanel_pack, setPhase_pack, State.stepCoilsOff, modPanel_pack]

/-- A travel that is not at its target has a direction, the plan's (R94). -/
theorem heads_travelPlan (hd : ¬ s.stepDone p o .travel) : s.heads p (o.target.getD 0) (s.travelPlan p o).dir := by
  have certain : ((s.modPanel p fun x =>
      { x with chopMark := false, count := if x.certain then x.count else 4095 }).panel p).certain = (s.panel p).certain := by
    rw [modPanel_panel_self]
  have count : ((s.modPanel p fun x =>
      { x with chopMark := false, count := if x.certain then x.count else 4095 }).panel p).count =
        if (s.panel p).certain then (s.panel p).count else 4095 := by
    rw [modPanel_panel_self]
  unfold State.travelPlan
  cases hc : (s.panel p).certain with
  | false =>
    obtain ⟨-, dir, -⟩ := planFor_of_uncertain (certain.trans hc) (o.target.getD 0)
    rw [dir]
    exact .inl hc
  | true =>
    obtain ⟨-, dir, -⟩ := planFor_target (t := o.target.getD 0) (certain.trans hc)
    rw [dir, count, hc, if_pos rfl]
    have apart : (s.panel p).count ≠ o.target.getD 0 := fun e => hd ⟨hc, by rw [e]; simp⟩
    split
    · rename_i below
      exact ⟨hc, below⟩
    · exact .inr (by omega)

/-! ### A step that runs -/

theorem run_travel_clear (ht : (s.pack (s.travelPack p)).trip = false) (i : SlotNo) (o : Order) :
    s.run p i o .travel = .ok (s.underway p i (s.travelPlan p o)) := by
  rw [run_travel, underway_chop, ht]
  rfl

theorem run_travel_chopped (ht : (s.pack (s.travelPack p)).trip = true) (hl : 1 < s.params.tuning.chopLimit) (i : SlotNo)
    (o : Order) : s.run p i o .travel = .ok ((s.underway p i (s.travelPlan p o)).chopWarned p) := by
  rw [run_travel, underway_chop, ht, if_pos rfl, chopStart_below hl]

theorem run_travel_overloaded (ht : (s.pack (s.travelPack p)).trip = true) (hl : s.params.tuning.chopLimit ≤ 1) (i : SlotNo)
    (o : Order) : s.run p i o .travel =
      ((s.underway p i (s.travelPlan p o)).overloaded p).raise p .travelOverload := by
  rw [run_travel, underway_chop, ht, if_pos rfl, chopStart_limit hl]

/-- A step that runs keeps its grant, unless its first chop is its last. -/
theorem run_keeps (hi : s.slot i = some o)
    (hk : k ≠ .travel ∨ (s.pack (s.travelPack p)).trip = false ∨ 1 < s.params.tuning.chopLimit) :
    (s.run p i o k).st.slot i = some { o with phase := some .running, reasons := {} } ∧
      ∀ l, (s.run p i o k).st.pack l = s.pack l := by
  have moved (g : GroupNo) (d : CleatDir) : ((s.begun p i).runMove p g d).st.slot i =
      some { o with phase := some .running, reasons := {} } ∧ ∀ l, ((s.begun p i).runMove p g d).st.pack l = s.pack l :=
    ⟨(slot_of_slots (runMove_slots ..) i).trans (begun_slot hi), fun l => (runMove_pack ..).trans (begun_pack ..)⟩
  have timed (c : Coil) (a : Activity) (n : Nat) : ((s.begun p i).runTimed p c a n).slot i =
      some { o with phase := some .running, reasons := {} } ∧ ∀ l, ((s.begun p i).runTimed p c a n).pack l = s.pack l := by
    obtain ⟨slot, pack, -⟩ := timed_spec hi c a n (p := p)
    exact ⟨slot, pack⟩
  cases k with
  | uncleat g => exact moved g .release
  | cleat g => exact moved g .engage
  | lift => exact timed _ _ _
  | lower => exact timed _ _ _
  | lockStow => exact timed _ _ _
  | unlockStow => exact timed _ _ _
  | travel =>
    have hk := hk.resolve_left fun e => e rfl
    cases ht : (s.pack (s.travelPack p)).trip with
    | false =>
      rw [run_travel_clear ht]
      exact ⟨underway_slot hi _, underway_pack s p i _⟩
    | true =>
      rw [run_travel_chopped ht (hk.resolve_left (by simp [ht]))]
      exact ⟨(slot_of_slots (chopWarned_same ..).2.1 i).trans (underway_slot hi _), fun l =>
        (chopWarned_pack ..).trans (underway_pack ..)⟩

/-- What a travel leaves, as the statement asks it. -/
theorem travels_spec (hs : s.Linked) (h : s.served p = some (i, o, .travel)) (one : s.placedOnce p)
    (hd : ¬ s.stepDone p o .travel) :
    let x := s.panel p
    let t := s.params.tuning
    let r := s.run p i o .travel
    let y := r.st.panel p
    let count : Int := if x.certain then x.count else 4095
    let pl := s.travelPlan p o
    let driven : Prop := s.heads p (o.target.getD 0) pl.dir ∧ y.count = count ∧ y.certain = x.certain ∧
      y.mode = .driven ∧ y.lastDir = some pl.dir ∧ y.creep = 0
    ((s.pack (s.travelPack p)).trip = false → driven ∧ r.jobs = [] ∧ y.plan = some pl ∧ y.chop = 0 ∧
      y.chopMark = false ∧ y.holdoff = none ∧ y.stall = .running (s.now + t.stallPeriod) ∧
      y.activity = .travel pl.dir (if pl.fast then .fast else .slow) ∧
      y.coils = (if s.enabled then { (x.coils.put true pl.dir.coil) with brakeRelease := true, fast := x.coils.fast || pl.fast }
        else x.coils)) ∧
    ((s.pack (s.travelPack p)).trip = true → 1 < t.chopLimit → driven ∧ r.jobs = [] ∧
      y.plan = some { pl with fast := false } ∧ y.chop = 1 ∧ y.chopMark = true ∧
      y.holdoff = some (s.now + t.chopHoldoff) ∧ y.stall = .suspended t.stallPeriod ∧
      y.activity = .travel pl.dir .slow ∧ .travelTrip ∈ y.warnings ∧ y.coils =
        { (if s.enabled then { x.coils with brakeRelease := true } else x.coils) with
          travelOut := false, travelIn := false, fast := false }) ∧
    ((s.pack (s.travelPack p)).trip = true → t.chopLimit ≤ 1 → .travelOverload ∉ x.faults →
      s.FailedBy r.st p i (.fault .travelOverload) ∧ .travelOverload ∈ y.faults ∧ .travelTrip ∈ y.warnings ∧ y.chop = 1 ∧
      y.coils = {} ∧ y.mode = .coasting) := by
  intro x t r y count pl driven
  have heads := heads_travelPlan hd
  refine ⟨fun ht => ?_, fun ht hl => ?_, fun ht hl hn => ?_⟩
  · have run : r = _ := run_travel_clear ht i o
    have panel : y = _ := (congrArg (fun r : Res => r.st.panel p) run).trans (underway_panel ..)
    rw [underway_eq] at panel
    refine ⟨⟨heads, ?_⟩, congrArg Res.jobs run, ?_⟩
    · rw [panel]
      exact ⟨rfl, rfl, rfl, rfl, rfl⟩
    · rw [panel]
      exact ⟨rfl, rfl, rfl, rfl, rfl, rfl, rfl⟩
  · have run : r = _ := run_travel_chopped ht hl i o
    have panel : y = _ := (congrArg (fun r : Res => r.st.panel p) run).trans (choppedStart_panel ..)
    rw [underway_eq] at panel
    refine ⟨⟨heads, ?_⟩, congrArg Res.jobs run, ?_⟩
    · rw [panel]
      exact ⟨rfl, rfl, rfl, rfl, rfl⟩
    · rw [panel]
      exact ⟨rfl, rfl, rfl, rfl, rfl, rfl, mem_joinSet.2 ⟨mem_allPanelWarnings _, .inl rfl⟩, rfl⟩
  · have run : r = _ := run_travel_overloaded ht hl i o
    have ended := overloadedStart hs h one hn pl
    have state : r.st = _ := congrArg Res.st run
    rw [← state] at ended
    exact ended

/-- Settles O55: the ranking and the pass on their lists, and the evaluation of a step stage by stage. -/
theorem grantsFollowTheRanking : Obligations.GrantsFollowTheRanking := by
  refine ⟨?_, runPass_spec, ?_⟩
  · intro w ws ranked
    exact ⟨insertWaiter_perm w ws, insertWaiter_ranked w ws⟩
  intro s p i o k h hs hf x t failed asks energised timed moves travels
  have hs := linked_iff.1 hs
  have one := (onePlace_of_flowLaws hf).placedOnce p
  have slot := served_slot h
  have fails {r : Res} {f : FailReason} (hr : s.FailedBy r.st p i f) : failed r f := ⟨hr.live, hr.flow, hr.order⟩
  refine ⟨fun hp => ⟨fun hb => ?_, fun whole hb => ?_⟩, fun hp hg => ?_, ?_⟩
  · have run := evaluate_braking h hp hb
    intro r
    have e : r = _ := run
    rw [e]
    refine ⟨rfl, setPhase_slot slot .., ?_, ?_, setPhase_packs ..⟩
    · rw [Res.ok_st, setPhase_panel]
    · rw [Res.ok_st, setPhase_panel]
  · intro r y skipped atEnd
    have run : r = s.stages p i o k := evaluate_stages h hp hb
    refine ⟨fun q hq => ?_, fun hq => ⟨fun hd => ?_, fun hd ha => ?_, fun hd ha c hc => ?_⟩⟩
    · have skips := run.trans (stages_atEnd hq)
      have record := reference_panel s p q
      rw [Panel.referenced_eq] at record
      obtain ⟨near, far⟩ := (s.panel p).referenced_slip q t.referenceTolerance
      obtain ⟨slot, flow, panel, last⟩ := skip_spec ((served_reference s p p q).trans h)
        ((placedOnce_of_pack (reference_pack s p q)).2 one)
      rw [record] at panel
      have panel : y = _ := (congrArg (fun r : Res => r.st.panel p) skips).trans panel
      rw [← skips] at slot flow last
      refine ⟨⟨slot, flow, ?_, ?_, last⟩, ?_, ?_, ?_, fun hn => ?_⟩
      · rw [panel]
      · rw [panel]
      · rw [panel]
      · rw [panel]
      · rw [panel]; exact near
      · rw [panel]; exact far (Int.not_le.2 hn)
    · have skips := run.trans (stages_done hq hd)
      obtain ⟨slot, flow, panel, last⟩ := skip_spec h one
      have panel : y = _ := (congrArg (fun r : Res => r.st.panel p) skips).trans panel
      rw [← skips] at slot flow last
      refine ⟨⟨slot, flow, ?_, ?_, last⟩, ?_⟩
      · rw [panel]
      · rw [panel]
      · rw [panel]
    · have stops := run.trans (stages_barred hq hd ha)
      obtain ⟨fail, stop⟩ := sequenceFail_failed hs h one
      rw [← stops] at fail stop
      exact ⟨fails fail, stop⟩
    · have hc := heldBy_iff.1 hc
      have goes := run.trans (stages_allowed hq hd ha)
      rw [← hc] at goes
      refine ⟨fun hn => ?_, fun hn hflow => ?_, fun hn j d hflow => ?_⟩
      · have waits := goes.trans (if_pos (reasons_any.2 hn))
        have panel : y = _ := (congrArg (fun r : Res => r.st.panel p) waits).trans (toWait_panel ..)
        refine ⟨?_, ?_, ?_, ?_⟩
        · rw [waits]; exact toWait_slot slot c
        · rw [waits]; exact toWait_flow (onePlace_of_flowLaws hf) p i c
        · rw [panel]
        · rw [panel]
      · have asked := (goes.trans (if_neg (mt reasons_any.1 (not_not_intro hn)))).trans
          (if_neg (by rw [grantPack_isSome, hflow]; simp))
        have spec := request_spec hs h hflow
        rw [← asked] at spec
        obtain ⟨unarbitrated, impossible, waits⟩ := spec
        have asks' : asks k.demand r := ⟨fun a => fails (unarbitrated a), fun a b => fails (impossible a b), waits⟩
        cases k with
        | uncleat g => exact asks'
        | cleat g => exact asks'
        | lift => exact asks'
        | lower => exact asks'
        | lockStow => exact asks'
        | unlockStow => exact asks'
        | travel => exact asks'
      · have runs : r = s.run p i o k := (goes.trans (if_neg (mt reasons_any.1 (not_not_intro hn)))).trans
          (if_pos (grantPack_isSome.2 ⟨j, d, hflow⟩))
        refine ⟨fun hk => ?_, ?_⟩
        · obtain ⟨slot, pack⟩ := run_keeps slot hk
          rw [runs]
          exact ⟨(flow_of_pack pack p).trans hflow, slot⟩
        · have coil (c : Coil) (a : Activity) (n : Nat) (js : List Job)
              (e : r = ⟨(s.begun p i).runTimed p c a n, js⟩) : timed r (x.coils.put true c) a n := by
            obtain ⟨-, -, coils, activity, timer⟩ := timed_spec slot c a n (p := p)
            rw [e]
            exact ⟨coils, activity, timer⟩
          have move (g : GroupNo) (d : CleatDir) (e : r = (s.begun p i).runMove p g d) : moves r g d := by
            intro hm
            rw [e]
            exact moves_spec g d hm
          cases k with
          | uncleat g => exact move g .release runs
          | cleat g => exact move g .engage runs
          | lift => exact ⟨coil .liftUp _ _ _ runs, congrArg Res.jobs runs⟩
          | lower => exact ⟨coil .liftDown _ _ _ runs, congrArg Res.jobs runs⟩
          | lockStow => exact coil .stowLock _ _ _ runs
          | unlockStow => exact coil .stowUnlock _ _ _ runs
          | travel =>
            obtain ⟨clear, chopped, overloaded⟩ := travels_spec hs h one hd
            rw [← runs] at clear chopped overloaded
            refine ⟨clear, chopped, fun ht hl hn => ?_⟩
            obtain ⟨fail, rest⟩ := overloaded ht hl hn
            exact ⟨fails fail, rest⟩
  · exact ⟨congrArg Res.st ((deliver_stages h hp hg).trans (evaluate_stages h (by simp [hp]) (.inl rfl)).symm),
      congrArg Res.jobs ((deliver_stages h hp hg).trans (evaluate_stages h (by simp [hp]) (.inl rfl)).symm)⟩
  · intro r
    refine ⟨fun hp he hd => ?_, fun hp ha he => ?_⟩
    · have run : r = _ := watch_completes h hp he hd
      rw [run]
      exact completeStep_spec h one he
    · have run : r = _ := watch_fails h hp ha he
      obtain ⟨fail, stop⟩ := sequenceFail_failed hs h one
      rw [run]
      exact ⟨fails fail, stop⟩

end Sys2Proof.Machine
end

section
/-! The switches of the cleats, in a move and outside one, and the end of a move (R23, R25 to R28, R33, R36, R80). -/

namespace Sys2Proof.Machine

open State (WorksOn)

variable {s t u : State} {p q : PanelNo} {i j : SlotNo} {o : Order} {k : CleatNo} {b : Bool} {m : Move} {g : GroupNo} {d : CleatDir}

/-! ### Work on one panel's record -/

/-- `t` is `s` but for the record of one panel, its live order apart, and the latches. -/
def State.Touched (s : State) (p : PanelNo) (t : State) : Prop :=
  ∃ y l, t = { s.setPanel p y with latches := l } ∧ y.live = (s.panel p).live

namespace State.Touched

theorem refl (s : State) (p : PanelNo) : s.Touched p s := ⟨s.panel p, s.latches, by rw [setPanel_self], rfl⟩

theorem panel_ne (h : s.Touched p t) (hq : q ≠ p) : t.panel q = s.panel q := by
  obtain ⟨y, l, rfl, -⟩ := h
  exact setPanel_panel_ne _ _ (Ne.symm hq)

theorem live (h : s.Touched p t) (q : PanelNo) : (t.panel q).live = (s.panel q).live := by
  by_cases e : q = p
  · subst e
    obtain ⟨y, l, rfl, live⟩ := h
    exact (congrArg Panel.live (setPanel_panel_self s q y)).trans live
  · rw [h.panel_ne e]

theorem slots (h : s.Touched p t) : t.slots = s.slots := by
  obtain ⟨y, l, rfl, -⟩ := h
  rfl

theorem packs (h : s.Touched p t) : t.packA = s.packA ∧ t.packB = s.packB := by
  obtain ⟨y, l, rfl, -⟩ := h
  exact ⟨rfl, rfl⟩

theorem layout (h : s.Touched p t) : t.layout = s.layout := by
  obtain ⟨y, l, rfl, -⟩ := h
  rfl

theorem linked (h : s.Touched p t) (hs : s.Linked) : t.Linked := by
  have live := h.live
  obtain ⟨y, l, rfl, -⟩ := h
  exact hs.of_same { live := live } fun _ => .inl rfl

theorem jog (h : s.Touched p t) : t.jog = s.jog := by
  obtain ⟨y, l, rfl, -⟩ := h
  rfl

theorem served (h : s.Touched p t) (q : PanelNo) : t.served q = s.served q := served_congr (h.live q) h.slots

theorem trans (a : s.Touched p t) (b : t.Touched p u) : s.Touched p u := by
  obtain ⟨y, l, rfl, hy⟩ := a
  obtain ⟨z, n, rfl, hz⟩ := b
  refine ⟨z, n, ?_, ?_⟩
  · simp [State.setPanel]
  · exact hz.trans ((congrArg Panel.live (setPanel_panel_self s p y)).trans hy)

theorem modPanel {f : Panel → Panel} (h : (f (s.panel p)).live = (s.panel p).live) : s.Touched p (s.modPanel p f) :=
  ⟨f (s.panel p), s.latches, rfl, h⟩

theorem setLatch (s : State) (p : PanelNo) (e : EventLatch) : s.Touched p (s.setLatch e) :=
  ⟨s.panel p, (s.setLatch e).latches, by rw [setPanel_self, ← setLatch_eq], rfl⟩

theorem warn (s : State) (p : PanelNo) (w : PanelWarning) : s.Touched p (s.warn p w) :=
  (Touched.modPanel (s := s) rfl).trans (.setLatch _ p .warning)

end State.Touched

/-! ### The switch of a cleat -/

/-- The unit with a cleat's switch at a new level. -/
def State.felt (s : State) (p : PanelNo) (k : CleatNo) (b : Bool) : State :=
  s.modCleat p k fun c => { c with made := b }

theorem felt_eq (s : State) (p : PanelNo) (k : CleatNo) (b : Bool) : s.felt p k b =
    s.modPanel p fun x => { x with cleats := x.cleats.set k { (s.panel p).cleats[k] with made := b } } := by
  unfold State.felt State.modCleat
  exact modPanel_congr rfl

theorem touched_felt (s : State) (p : PanelNo) (k : CleatNo) (b : Bool) : s.Touched p (s.felt p k b) := by
  unfold State.felt State.modCleat
  exact .modPanel rfl

theorem felt_panel (s : State) (p : PanelNo) (k : CleatNo) (b : Bool) : (s.felt p k b).panel p =
    { s.panel p with cleats := (s.panel p).cleats.set k { (s.panel p).cleats[k] with made := b } } := modPanel_panel_self ..

section
variable {held : Nat} (hh : 20 ≤ held) (hb : (s.panel p).cleats[k].made ≠ b)
include hh hb

theorem exec_cleatSwitch_eq : exec (.cleatSwitchChange p k b held) s = .next (
    if !s.cleatConfigured p k then s.felt p k b
    else
      match s.unit with
      | .start .powerOn => (s.felt p k b).modCleat p k fun c => { c with state := cleatStateOf b }
      | .start (.restart _) => s.felt p k b
      | _ => (((s.felt p k b).cleatChanged p k b).now [.watch p, .jogTest]).settle) := by
  change execCleatSwitchChange p k b held s = _
  unfold execCleatSwitchChange
  rw [if_neg fun h => ?_]
  · rfl
  · obtain h | h := Bool.or_eq_true_iff.1 h
    · exact Nat.not_le.2 (of_decide_eq_true h) hh
    · exact hb (eq_of_beq h)

theorem exec_cleatSwitch (hc : s.cleatConfigured p k = true) (hu : s.inStart = false) :
    exec (.cleatSwitchChange p k b held) s =
      .next (((s.felt p k b).cleatChanged p k b).now [.watch p, .jogTest]).settle := by
  rw [exec_cleatSwitch_eq hh hb, if_neg (by simp [hc])]
  unfold State.inStart at hu
  split
  · rename_i h; rw [h] at hu; cases hu
  · rename_i h; rw [h] at hu; cases hu
  · rfl

end

/-! ### A change outside a move -/

theorem cleatChanged_outside (h : ∀ m, (s.panel p).move = some m → k ∉ m.participants) (b : Bool) :
    s.cleatChanged p k b = .ok (s.cleatOutside p k b) := by
  unfold State.cleatChanged
  split
  · rfl
  · rename_i m hm
    exact if_pos (by simpa using h m hm)

theorem cleatOutside_lost (h : (s.panel p).cleats[k].state = .engaged ∧ b = false ∨
      (s.panel p).cleats[k].state = .released ∧ b = true) :
    s.cleatOutside p k b = (s.modCleat p k fun c => { c with state := .unknown }).warn p .cleatLost := by
  unfold State.cleatOutside
  obtain ⟨hs, rfl⟩ | ⟨hs, rfl⟩ := h
  · rw [hs]
  · rw [hs]

theorem cleatOutside_kept (h : ¬ ((s.panel p).cleats[k].state = .engaged ∧ b = false ∨
      (s.panel p).cleats[k].state = .released ∧ b = true)) : s.cleatOutside p k b = s := by
  unfold State.cleatOutside
  split
  · rename_i e; exact absurd (.inl ⟨e, rfl⟩) h
  · rename_i e; exact absurd (.inr ⟨e, rfl⟩) h
  · rfl

/-! ### A change in a move -/

theorem cleatChanged_confirms (hm : (s.panel p).move = some m) (hk : k ∈ m.participants) (hc : k ∉ m.confirmed) :
    s.cleatChanged p k m.dir.level = s.confirmCleat p k m := by
  unfold State.cleatChanged
  rw [hm]
  dsimp only
  rw [if_neg (by simpa using hk), if_neg (by simpa using hc), if_pos rfl]

theorem cleatChanged_unconfirms (hm : (s.panel p).move = some m) (hk : k ∈ m.participants) (hc : k ∈ m.confirmed)
    (hb : b ≠ m.dir.level) : s.cleatChanged p k b = .ok (s.unconfirmCleat p k m) := by
  unfold State.cleatChanged
  rw [hm]
  dsimp only
  rw [if_neg (by simpa using hk), if_pos (by simpa using hc), if_neg hb]

/-- The unit with a participant confirmed (R25). -/
def State.confirmed (s : State) (p : PanelNo) (k : CleatNo) (m : Move) : State :=
  ((s.modCleat p k fun c => c.confirm m.dir (s.now - m.start)).modPanel p fun x =>
    { x with move := some { m with confirmed := k :: m.confirmed } }).sluggishIf p (s.now - m.start)

theorem confirmCleat_eq (s : State) (p : PanelNo) (k : CleatNo) (m : Move) : s.confirmCleat p k m =
    if Move.allConfirmed { m with confirmed := k :: m.confirmed } then (s.confirmed p k m).finishMove p
    else .ok (s.confirmed p k m) := rfl

theorem touched_confirmed (s : State) (p : PanelNo) (k : CleatNo) (m : Move) : s.Touched p (s.confirmed p k m) := by
  have marked : s.Touched p ((s.modCleat p k fun c => c.confirm m.dir (s.now - m.start)).modPanel p fun x =>
      { x with move := some { m with confirmed := k :: m.confirmed } }) :=
    (State.Touched.modPanel (s := s) rfl).trans (.modPanel rfl)
  unfold State.confirmed State.sluggishIf
  split
  · exact marked.trans (.warn ..)
  · exact marked

theorem confirmed_panel (s : State) (p : PanelNo) (k : CleatNo) (m : Move) : ∃ ws, (s.confirmed p k m).panel p =
    { s.panel p with
      cleats := (s.panel p).cleats.set k ((s.panel p).cleats[k].confirm m.dir (s.now - m.start))
      move := some { m with confirmed := k :: m.confirmed }, warnings := ws } := by
  have marked : ((s.modCleat p k fun c => c.confirm m.dir (s.now - m.start)).modPanel p fun x =>
      { x with move := some { m with confirmed := k :: m.confirmed } }).panel p = { s.panel p with
        cleats := (s.panel p).cleats.set k ((s.panel p).cleats[k].confirm m.dir (s.now - m.start))
        move := some { m with confirmed := k :: m.confirmed } } := by
    unfold State.modCleat
    rw [modPanel_modPanel, modPanel_panel_self]
    rfl
  unfold State.confirmed State.sluggishIf
  split
  · obtain ⟨ws, e⟩ := warn_panel ((s.modCleat p k fun c => c.confirm m.dir (s.now - m.start)).modPanel p fun x =>
      { x with move := some { m with confirmed := k :: m.confirmed } }) p p .cleatSluggish
    exact ⟨ws, by rw [e, marked]⟩
  · exact ⟨_, marked⟩

theorem confirmed_sluggish (h : s.params.tuning.sluggish < s.now - m.start) :
    .cleatSluggish ∈ ((s.confirmed p k m).panel p).warnings := by
  unfold State.confirmed State.sluggishIf
  rw [if_pos (by exact h)]
  exact warn_mem ..

theorem allConfirmed_iff {m : Move} {k : CleatNo} : Move.allConfirmed { m with confirmed := k :: m.confirmed } = true ↔
    ∀ l ∈ m.participants, l = k ∨ l ∈ m.confirmed := by
  simp [Move.allConfirmed, Move.unconfirmed, List.filter_eq_nil_iff, or_iff_not_imp_left]

/-- The end of a move that no jog owns (R28). -/
theorem finishMove_unowned (hm : (s.panel p).move = some m) (hj : m.byJog = false ∨ s.jog = none) : s.finishMove p =
    ⟨s.modPanel p fun x => x.moveless m, [.moveEnd p]⟩ := by
  have cleared : s.clearMove p = s.modPanel p fun x => x.moveless m := by rw [clearMove_eq, hm]
  have over_ : (if m.byJog && m.valve then (s.modPanel p fun x => x.moveless m).endJogOn p
      else .ok (s.modPanel p fun x => x.moveless m)) = .ok (s.modPanel p fun x => x.moveless m) := by
    obtain hj | hj := hj
    · rw [hj]; rfl
    · rw [endJogOn_none (by rw [modPanel_jog]; exact hj)]
      exact ite_self _
  unfold State.finishMove
  rw [hm]
  dsimp only
  rw [cleared, over_]
  rfl

/-- What the confirmation of a participant leaves, no jog owning its move. -/
theorem confirmCleat_spec (hj : m.byJog = false ∨ s.jog = none) (p : PanelNo) (k : CleatNo) : ∃ ws,
    let r := s.confirmCleat p k m
    let cleats := (s.panel p).cleats.set k ((s.panel p).cleats[k].confirm m.dir (s.now - m.start))
    s.Touched p r.st ∧ (s.params.tuning.sluggish < s.now - m.start → .cleatSluggish ∈ ws) ∧
    ((∀ l ∈ m.participants, l = k ∨ l ∈ m.confirmed) → r.jobs = [.moveEnd p] ∧ r.st.panel p =
      { (s.panel p).moveless m with cleats := cleats, warnings := ws }) ∧
    (¬ (∀ l ∈ m.participants, l = k ∨ l ∈ m.confirmed) → r.jobs = [] ∧ r.st.panel p =
      { s.panel p with cleats := cleats, move := some { m with confirmed := k :: m.confirmed }, warnings := ws }) := by
  obtain ⟨ws, record⟩ := confirmed_panel s p k m
  have touched := touched_confirmed s p k m
  have sluggish : s.params.tuning.sluggish < s.now - m.start → .cleatSluggish ∈ ws := fun h => by
    have warned := confirmed_sluggish (p := p) (k := k) h
    rw [record] at warned
    exact warned
  have finish := finishMove_unowned (s := s.confirmed p k m) (p := p) (m := { m with confirmed := k :: m.confirmed })
    (by rw [record]) (hj.imp id touched.jog.trans)
  refine ⟨ws, ?_⟩
  intro r cleats
  by_cases whole : ∀ l ∈ m.participants, l = k ∨ l ∈ m.confirmed
  · have run : r = _ := ((confirmCleat_eq s p k m).trans (if_pos (allConfirmed_iff.2 whole))).trans finish
    rw [run]
    refine ⟨?_, sluggish, fun _ => ⟨rfl, ?_⟩, fun h => absurd whole h⟩
    · have ended := State.Touched.modPanel (s := s.confirmed p k m) (p := p)
        (f := fun x => x.moveless { m with confirmed := k :: m.confirmed }) rfl
      exact touched.trans ended
    · rw [modPanel_panel_self, record]
      rfl
  · have run : r = _ := (confirmCleat_eq s p k m).trans (if_neg (mt allConfirmed_iff.1 whole))
    rw [run]
    exact ⟨touched, sluggish, fun h => absurd h whole, fun _ => ⟨rfl, record⟩⟩

/-! ### What is done at once, and afterwards -/

/-- Neither the watch nor the test of the jog has anything to do. -/
theorem now_idle {r : Res} (hw : runJob (.watch p) r.st = .ok r.st) (hj : r.st.jog = none) :
    r.now [.watch p, .jogTest] = r := by
  have watched : r.bind (runJob (.watch p)) = r := by
    unfold Res.bind
    rw [hw]
    simp [Res.ok]
  have tested : r.bind (runJob .jogTest) = r := by
    unfold Res.bind
    rw [runJob_jogTest hj]
    simp [Res.ok]
  change (r.bind (runJob (.watch p))).bind (runJob .jogTest) = r
  rw [watched, tested]

/-- A step that does not end itself, and whose hard preconditions hold, is left alone by the watch. -/
theorem watch_idle {r : StepKind} (h : s.served p = some (i, o, r)) (he : r.endsItself = false) (ha : s.hard p o r = true) :
    runJob (.watch p) s = .ok s := by
  change s.watch p = _
  unfold State.watch
  rw [h]
  dsimp only
  rw [he, ha]
  split
  · rfl
  · rfl
  · rfl
  · rfl

theorem runJob_watch_unserved (h : s.served p = none) : runJob (.watch p) s = .ok s := watch_unserved h

theorem runJob_moveEnd_unserved (h : s.served p = none) : runJob (.moveEnd p) s = .ok s := moveEnded_unserved h

/-- On a panel that serves no order a cleat's change is all that happens. -/
theorem cleatChange_settles {r : Res} (ht : s.Touched p r.st) (hs : s.served p = none) (hj : s.jog = none)
    (jobs : r.jobs = [] ∨ r.jobs = [.moveEnd p]) : (r.now [.watch p, .jogTest]).settle = r.st := by
  have unserved := (ht.served p).trans hs
  rw [now_idle (runJob_watch_unserved unserved) (ht.jog.trans hj)]
  refine settle_idle (js := r.jobs) fun x hx => ?_
  obtain e | e := jobs
  · rw [e] at hx; exact absurd hx List.not_mem_nil
  · rw [e] at hx
    obtain rfl := List.mem_singleton.1 hx
    exact runJob_moveEnd_unserved unserved

theorem set_cleat_self (v : Vector Cleat 12) (k : CleatNo) (c : Cleat) : (v.set k c)[k] = c := by simp

theorem set_cleat_ne (v : Vector Cleat 12) {k l : CleatNo} (h : l ≠ k) (c : Cleat) : (v.set k c)[l] = v[l] := by
  have : k.val ≠ l.val := fun e => h (Fin.ext e.symm)
  simp [this]

/-! ### The end of a move, for a RUNNING cleat step -/

theorem foldConfirm_cleats (d : CleatDir) (l : CleatNo) : ∀ (ks : List CleatNo) (x : Panel),
    (ks.foldl (fun x k => x.modCleat k fun c => c.confirm d 0) x).cleats[l].state =
      if l ∈ ks then d.confirmed else x.cleats[l].state
  | [], x => by simp
  | k :: ks, x => by
    rw [List.foldl_cons, foldConfirm_cleats d l ks]
    by_cases e : l = k
    · subst e
      have here : (x.modCleat l fun c => c.confirm d 0).cleats[l].state = d.confirmed := by
        unfold Panel.modCleat Panel.setCleat
        rw [set_cleat_self]
        rfl
      rw [here]
      simp
    · have there : (x.modCleat k fun c => c.confirm d 0).cleats[l] = x.cleats[l] := set_cleat_ne _ e _
      rw [there]
      simp [e]

/-- The states in which a move leaves a cleat of its group done (R69). -/
theorem stepDone_cleats {o : Order} (h : ∀ k ∈ s.groupCleats p g, (s.panel p).cleats[k].state = d.confirmed ∨
    (s.panel p).cleats[k].state = .bypassed) : s.stepDone p o (d.step g) := by
  cases d with
  | release => exact h
  | engage => exact h

/-- A move that needs no valve leaves its step's condition holding (R24, R69). -/
theorem startMove_done (h : s.atLevel p g d = s.participants p g) (a n : Nat) (x : Bool) (o : Order) :
    (s.startMove p g d a n x).stepDone p o (d.step g) := by
  have run : s.startMove p g d a n x =
      s.modPanel p fun x => (s.atLevel p g d).foldl (fun x k => x.modCleat k fun c => c.confirm d 0) x :=
    if_pos (atLevel_full.2 h)
  rw [run]
  refine stepDone_cleats fun k hk => ?_
  have member : k ∈ s.groupCleats p g := hk
  rw [modPanel_panel_self, foldConfirm_cleats, h]
  by_cases hb : (s.panel p).cleats[k].state = .bypassed
  · have out : k ∉ s.participants p g := fun inside => by
      have free := (List.mem_filter.1 inside).2
      rw [hb] at free
      exact absurd free (by decide)
    rw [if_neg out]
    exact .inr hb
  · have inside : k ∈ s.participants p g := List.mem_filter.2 ⟨member, by simpa using hb⟩
    rw [if_pos inside]
    exact .inl rfl

theorem moveEnded_running (h : s.served p = some (i, o, d.step g)) (hp : o.phase = some .running)
    (hm : (s.panel p).move = none) : runJob (.moveEnd p) s =
      if s.completion p o (d.step g) then s.completeStep p i (d.step g) else s.runMove p g d := by
  change s.moveEnded p = _
  unfold State.moveEnded
  rw [h]
  dsimp only
  rw [if_pos (by simp [hp, hm])]
  cases d with
  | release => rfl
  | engage => rfl

theorem moveEnded_other (h : s.served p = some (i, o, d.step g)) (hp : o.phase ≠ some .running ∨ (s.panel p).move.isSome = true) :
    runJob (.moveEnd p) s = .ok s := by
  change s.moveEnded p = _
  unfold State.moveEnded
  rw [h]
  refine if_neg fun both => ?_
  obtain ⟨running, free⟩ := Bool.and_eq_true_iff.1 both
  obtain hp | hp := hp
  · exact hp (of_decide_eq_true running)
  · rw [Option.isNone_iff_eq_none.1 free] at hp
    cases hp

/-- The end of a cleat step (R80, R85). -/
theorem completeCleat_spec (h : s.served p = some (i, o, d.step g)) (one : s.placedOnce p) :
    let r := s.completeStep p i (d.step g)
    r.st.slot i = some { o with phase := none, reasons := {} } ∧ r.st.flow p = .none ∧
      r.jobs.getLast? = some (.report p .completed) ∧
      r.st.panel p = { s.panel p with purpose := none, plan := none } := by
  intro r
  have unfolded : r = (((s.setPhase p i none {} none).modPanel p fun x => { x with plan := none }).dropFlow p).add
      [.report p .completed] := by cases d <;> rfl
  rw [unfolded]
  dsimp only [Res.add]
  refine ⟨?_, ?_, by rw [List.getLast?_append]; rfl, ?_⟩
  · rw [slot_of_slots (dropFlow_slots _ _), modPanel_slot, setPhase_slot (served_slot h)]
  · refine flow_dropFlow ((placedOnce_of_pack fun l => ?_).2 one)
    rw [modPanel_pack, setPhase_pack]
  · rw [dropFlow_panel, modPanel_panel_self, setPhase_panel]

end Sys2Proof.Machine
end

section
/-! The switches of the cleats and the end of a move: the statement (R23, R25 to R28, R33, R36, R80). -/

namespace Sys2Proof.Machine

open State (WorksOn)

variable {s t u : State} {p q : PanelNo} {i j : SlotNo} {o : Order} {k : CleatNo} {b : Bool} {m : Move} {g : GroupNo} {d : CleatDir}

/-! ### On a panel that serves no order -/

theorem unconfirmCleat_eq (s : State) (p : PanelNo) (k : CleatNo) (m : Move) : s.unconfirmCleat p k m = s.modPanel p fun x =>
    { x with cleats := x.cleats.set k { x.cleats[k] with state := .unknown }
             move := some { m with confirmed := m.confirmed.filter (· != k) } } := by
  unfold State.unconfirmCleat State.modCleat
  rw [modPanel_modPanel]
  rfl

/-- What a switch change of a cleat leaves, whatever the move: work on the panel's record, in which no other cleat moves. -/
theorem cleatChanged_touches (hj : s.jog = none) (p : PanelNo) (k : CleatNo) (b : Bool) :
    s.Touched p (s.cleatChanged p k b).st ∧ ((s.cleatChanged p k b).jobs = [] ∨ (s.cleatChanged p k b).jobs = [.moveEnd p]) ∧
    ∃ c, ((s.cleatChanged p k b).st.panel p).cleats = (s.panel p).cleats.set k c := by
  have still : s.Touched p s ∧ (([] : List Job) = [] ∨ ([] : List Job) = [.moveEnd p]) ∧
      ∃ c, (s.panel p).cleats = (s.panel p).cleats.set k c :=
    ⟨.refl s p, .inl rfl, (s.panel p).cleats[k], (Vector.set_getElem_self ..).symm⟩
  have outside : s.Touched p (s.cleatOutside p k b) ∧ (([] : List Job) = [] ∨ ([] : List Job) = [.moveEnd p]) ∧
      ∃ c, ((s.cleatOutside p k b).panel p).cleats = (s.panel p).cleats.set k c := by
    by_cases lost : (s.panel p).cleats[k].state = .engaged ∧ b = false ∨ (s.panel p).cleats[k].state = .released ∧ b = true
    · rw [cleatOutside_lost lost]
      have marked : s.Touched p (s.modCleat p k fun c => { c with state := .unknown }) := .modPanel rfl
      obtain ⟨ws, e⟩ := warn_panel (s.modCleat p k fun c => { c with state := .unknown }) p p .cleatLost
      refine ⟨marked.trans (.warn ..), .inl rfl, { (s.panel p).cleats[k] with state := .unknown }, ?_⟩
      rw [e, State.modCleat, modPanel_panel_self]
      rfl
    · rw [cleatOutside_kept lost]
      exact still
  cases hm : (s.panel p).move with
  | none =>
    rw [cleatChanged_outside (by simp [hm])]
    exact outside
  | some m =>
    by_cases hk : k ∈ m.participants
    · by_cases hc : k ∈ m.confirmed
      · by_cases hb : b = m.dir.level
        · have idle : s.cleatChanged p k b = .ok s := by
            unfold State.cleatChanged
            rw [hm]
            dsimp only
            rw [if_neg (by simpa using hk), if_pos (by simpa using hc), if_pos hb]
          rw [idle]
          exact still
        · rw [cleatChanged_unconfirms hm hk hc hb, Res.ok_st, unconfirmCleat_eq]
          exact ⟨.modPanel rfl, .inl rfl, _, by rw [modPanel_panel_self]⟩
      · by_cases hb : b = m.dir.level
        · subst hb
          rw [cleatChanged_confirms hm hk hc]
          obtain ⟨ws, touched, -, whole, part⟩ := confirmCleat_spec (m := m) (.inr hj) p k
          by_cases all : ∀ l ∈ m.participants, l = k ∨ l ∈ m.confirmed
          · obtain ⟨jobs, panel⟩ := whole all
            exact ⟨touched, .inr jobs, _, by rw [panel]⟩
          · obtain ⟨jobs, panel⟩ := part all
            exact ⟨touched, .inl jobs, _, by rw [panel]⟩
        · have idle : s.cleatChanged p k b = .ok s := by
            unfold State.cleatChanged
            rw [hm]
            dsimp only
            rw [if_neg (by simpa using hk), if_neg (by simpa using hc), if_neg hb]
          rw [idle]
          exact still
    · rw [cleatChanged_outside fun m' hm' => by obtain rfl := Option.some.inj (hm.symm.trans hm'); exact hk]
      exact outside

/-- A switch change of a cleat, outside a move and in one. -/
theorem cleatChange_unserved (hj : s.jog = none) (hs : s.served p = none) (hu : s.inStart = false) :
    let x := s.panel p
    let r := x.cleats[k]
    let t := (((s.felt p k b).cleatChanged p k b).now [.watch p, .jogTest]).settle
    let lost : Prop := r.state = .engaged ∧ b = false ∨ r.state = .released ∧ b = true
    let outside : Prop := ∀ m, x.move = some m → k ∉ m.participants
    let others (y : Panel) : Prop := ∀ l : CleatNo, l ≠ k → y.cleats[l] = x.cleats[l]
    others (t.panel p) ∧ t.slots = s.slots ∧ (∀ q, q ≠ p → t.panel q = s.panel q) ∧
      (outside → (t.panel p).move = x.move ∧
        (lost → (t.panel p).cleats[k] = { r with made := b, state := .unknown } ∧
          .cleatLost ∈ (t.panel p).warnings ∧ .warning ∈ t.latches) ∧
        (¬ lost → (t.panel p).cleats[k] = { r with made := b } ∧ (t.panel p).warnings = x.warnings)) ∧
      (∀ m, x.move = some m → k ∈ m.participants → k ∉ m.confirmed → b = m.dir.level →
        let u := min ((s.now - m.start) / 10) 65535
        (t.panel p).cleats[k] = ⟨m.dir.confirmed, b, u, max r.greatest u⟩ ∧
        (s.params.tuning.sluggish < s.now - m.start → .cleatSluggish ∈ (t.panel p).warnings) ∧
        ((∀ l ∈ m.participants, l = k ∨ l ∈ m.confirmed) → (t.panel p).move = none ∧
          (t.panel p).coils = x.coils.put false (m.dir.coil m.group)) ∧
        ((∃ l ∈ m.participants, l ≠ k ∧ l ∉ m.confirmed) →
          (t.panel p).move = some { m with confirmed := k :: m.confirmed } ∧ (t.panel p).coils = x.coils)) ∧
      (∀ m, x.move = some m → k ∈ m.participants → k ∈ m.confirmed → b ≠ m.dir.level →
        (t.panel p).cleats[k] = { r with made := b, state := .unknown } ∧
        (t.panel p).move = some { m with confirmed := m.confirmed.filter (· != k) }) := by
  intro x r t lost outside others
  have felt := touched_felt s p k b
  have record := felt_panel s p k b
  have start : (s.felt p k b).inStart = false := hu
  have now : (s.felt p k b).now = s.now := rfl
  have params : (s.felt p k b).params = s.params := rfl
  have jog : (s.felt p k b).jog = none := felt.jog.trans hj
  have result : t = (((s.felt p k b).cleatChanged p k b).now [.watch p, .jogTest]).settle := rfl
  clear_value t
  generalize hv : s.felt p k b = v at *
  have made : (v.panel p).cleats[k] = { r with made := b } := by rw [record]; exact set_cleat_self _ _ _
  have move : (v.panel p).move = x.move := by rw [record]
  have coils : (v.panel p).coils = x.coils := by rw [record]
  have warnings : (v.panel p).warnings = x.warnings := by rw [record]
  obtain ⟨touched, jobs, c, cleats⟩ := cleatChanged_touches jog p k b
  have ends : t = (v.cleatChanged p k b).st := result.trans <| cleatChange_settles touched ((felt.served p).trans hs) jog jobs
  have whole := felt.trans touched
  rw [← ends] at whole cleats
  refine ⟨fun l hl => ?_, whole.slots, fun q hq => whole.panel_ne hq, fun out => ?_, fun m hm hk hc hb => ?_,
    fun m hm hk hc hb => ?_⟩
  · rw [cleats, set_cleat_ne _ hl, record]
    exact set_cleat_ne _ hl _
  · have run : t = _ := ends.trans (congrArg Res.st (cleatChanged_outside (fun m hm => out m (move.symm.trans hm)) b))
    by_cases hl : lost
    · have left : t = _ := run.trans (cleatOutside_lost (by rw [made]; exact hl))
      have marked : (v.modCleat p k fun c => { c with state := .unknown }).panel p =
          { v.panel p with cleats := (v.panel p).cleats.set k { (v.panel p).cleats[k] with state := .unknown } } :=
        modPanel_panel_self ..
      obtain ⟨ws, e⟩ := warn_panel (v.modCleat p k fun c => { c with state := .unknown }) p p .cleatLost
      rw [← left, marked] at e
      refine ⟨?_, fun _ => ⟨?_, ?_, ?_⟩, fun h => absurd hl h⟩
      · rw [e]; exact move
      · rw [e]; exact (set_cleat_self _ _ _).trans (by rw [made])
      · rw [left]; exact warn_mem ..
      · rw [left]
        exact (setLatch_mem _ _ _).2 (.inr ⟨rfl, fun h => by
          have up : v.inStart = true := h.1
          rw [start] at up
          cases up⟩)
    · have left : t = v := run.trans (cleatOutside_kept (by rw [made]; exact hl))
      rw [left]
      exact ⟨move, fun h => absurd h hl, fun _ => ⟨made, warnings⟩⟩
  · intro u
    subst hb
    have run : t = _ := ends.trans (congrArg Res.st (cleatChanged_confirms (move.trans hm) hk hc))
    obtain ⟨ws, -, sluggish, all, part⟩ := confirmCleat_spec (s := v) (m := m) (.inr jog) p k
    rw [← run] at all part
    rw [now, params] at sluggish
    have confirmed : (v.panel p).cleats[k].confirm m.dir (v.now - m.start) =
        ⟨m.dir.confirmed, m.dir.level, u, max r.greatest u⟩ := by
      rw [made, now]
      rfl
    by_cases every : ∀ l ∈ m.participants, l = k ∨ l ∈ m.confirmed
    · have panel := (all every).2
      rw [confirmed] at panel
      rw [panel]
      refine ⟨set_cleat_self _ _ _, sluggish, fun _ => ⟨rfl, ?_⟩, fun ⟨l, hl, hn⟩ => absurd (every l hl) (not_or.2 hn)⟩
      exact congrArg (fun c : Coils => c.put false (m.dir.coil m.group)) coils
    · have panel := (part every).2
      rw [confirmed] at panel
      rw [panel]
      exact ⟨set_cleat_self _ _ _, sluggish, fun h => absurd h every, fun _ => ⟨rfl, coils⟩⟩
  · have run : t = _ := ends.trans (congrArg Res.st (cleatChanged_unconfirms (move.trans hm) hk hc hb))
    rw [run, Res.ok_st, unconfirmCleat_eq, modPanel_panel_self]
    exact ⟨(set_cleat_self _ _ _).trans (by rw [made]), rfl⟩

/-! ### On a panel whose step is RUNNING -/

/-- A released cleat that is lost fails the travel of its panel (R33, R72). -/
theorem cleatLost_fails (hs : s.Linked) (hj : s.jog = none) (hc : s.cleatConfigured p k = true)
    (h : s.served p = some (i, o, .travel)) (hp : o.phase = some .running)
    (out : ∀ m, (s.panel p).move = some m → k ∉ m.participants) (hr : (s.panel p).cleats[k].state = .released) :
    ∃ o', (((s.felt p k true).cleatChanged p k true).now [.watch p, .jogTest]).settle.slot i = some o' ∧
      o'.state = .failed .sequence ∧
      ((((s.felt p k true).cleatChanged p k true).now [.watch p, .jogTest]).settle.panel p).live = none ∧
      .cleatLost ∈ ((((s.felt p k true).cleatChanged p k true).now [.watch p, .jogTest]).settle.panel p).warnings ∧
      .sequenceStop ∈ ((((s.felt p k true).cleatChanged p k true).now [.watch p, .jogTest]).settle.panel p).warnings := by
  have record := felt_panel s p k true
  have felt := touched_felt s p k true
  generalize s.felt p k true = v at *
  have made : (v.panel p).cleats[k] = { (s.panel p).cleats[k] with made := true } := by rw [record]; exact set_cleat_self _ _ _
  have move : (v.panel p).move = (s.panel p).move := by rw [record]
  rw [cleatChanged_outside (fun m hm => out m (move.symm.trans hm)),
    cleatOutside_lost (.inr ⟨by rw [made]; exact hr, rfl⟩)]
  have marked : v.Touched p (v.modCleat p k fun c => { c with state := .unknown }) := .modPanel rfl
  have touched := marked.trans (.warn _ p .cleatLost)
  have unknown : (((v.modCleat p k fun c => { c with state := .unknown }).warn p .cleatLost).panel p).cleats[k].state =
      .unknown := by
    obtain ⟨ws, e⟩ := warn_panel (v.modCleat p k fun c => { c with state := .unknown }) p p .cleatLost
    rw [e]
    exact congrArg Cleat.state ((modCleat_cleats v p k k _).trans (if_pos rfl))
  have lost : .cleatLost ∈ (((v.modCleat p k fun c => { c with state := .unknown }).warn p .cleatLost).panel p).warnings :=
    warn_mem ..
  generalize (v.modCleat p k fun c => { c with state := .unknown }).warn p .cleatLost = u at *
  have whole := felt.trans touched
  have linked := whole.linked hs
  have served := (whole.served p).trans h
  have barred : ¬ u.stepAllowed p o .travel := by
    rintro ⟨uncleated, -⟩
    have member : k ∈ u.panelCleats p := List.mem_filter.2 ⟨mem_allCleats k, by
      unfold State.cleatConfigured State.configured State.hatchConfigured at hc ⊢
      rw [whole.layout]
      exact hc⟩
    obtain e | e := uncleated k member
    · rw [unknown] at e; cases e
    · rw [unknown] at e; cases e
  have fails := watch_fails served (.inl hp) barred fun e => by cases e
  have run : Changes Leave.all u (u.sequenceFail p).st := (worksOn_sequenceFail u p).run
  have jog : (u.sequenceFail p).st.jog = none :=
    (Changes.jog run).elim (fun e => e.trans (whole.jog.trans hj)) fun e => e
  have once : (Res.ok u).now [.watch p, .jogTest] = u.sequenceFail p := by
    change ((Res.ok u).bind (runJob (.watch p))).bind (runJob .jogTest) = _
    have watched : (Res.ok u).bind (runJob (.watch p)) = u.sequenceFail p := fails
    rw [watched]
    unfold Res.bind
    rw [runJob_jogTest jog]
    simp [Res.ok]
  rw [once]
  obtain ⟨o', slot, state, -, live, stop⟩ := sequenceFail_settle linked served
  have later : Changes Leave.work _ _ := changes_settle (u.sequenceFail p)
  exact ⟨o', slot, state, live, (Changes.panel later p).warnings _ ((Changes.panel run p).warnings _ lost), stop⟩

/-- The last confirmation of a RUNNING cleat step's move ends the move (R28). -/
theorem lastConfirmed (h : s.served p = some (i, o, d.step g)) (hj : s.jog = none)
    (hseat : d = .engage → (s.panel p).seat = .seated) (hm : (s.panel p).move = some m) (hd : m.dir = d)
    (hown : m.byJog = false) (hk : k ∈ m.participants) (hc : k ∉ m.confirmed) (hb : b = d.level)
    (all : ∀ l ∈ m.participants, l = k ∨ l ∈ m.confirmed) :
    let r := (s.felt p k b).cleatChanged p k b
    (r.now [.watch p, .jogTest]).settle = (Res.mk r.st [.moveEnd p]).settle ∧
      r.st.served p = some (i, o, d.step g) ∧ r.st.slots = s.slots ∧ r.st.packA = s.packA ∧ r.st.packB = s.packB ∧
      (r.st.panel p).move = none ∧ (r.st.panel p).coils = (s.panel p).coils.put false (d.coil m.group) ∧
      (r.st.panel p).cleats[k].state = d.confirmed ∧
      (∀ l : CleatNo, l ≠ k → (r.st.panel p).cleats[l] = (s.panel p).cleats[l]) ∧ ∀ q, q ≠ p → r.st.panel q = s.panel q := by
  intro r
  subst hd hb
  have record := felt_panel s p k m.dir.level
  have felt := touched_felt s p k m.dir.level
  have run : r = _ := cleatChanged_confirms (s := s.felt p k m.dir.level) (by rw [record]; exact hm) hk hc
  obtain ⟨ws, touched, -, whole, -⟩ := confirmCleat_spec (s := s.felt p k m.dir.level) (m := m) (.inl hown) p k
  rw [← run] at touched whole
  obtain ⟨jobs, panel⟩ := whole all
  clear_value r
  rw [record] at panel
  generalize s.felt p k m.dir.level = v at *
  have touched := felt.trans touched
  have served := (touched.served p).trans h
  have watched : runJob (.watch p) r.st = .ok r.st := by
    cases hd : m.dir with
    | release => rw [hd] at served; exact watch_idle served rfl rfl
    | engage =>
      rw [hd] at served
      have seat : (r.st.panel p).seat = (s.panel p).seat := by rw [panel]; rfl
      have seated : r.st.hard p o (CleatDir.engage.step g) = true := by
        change ((r.st.panel p).seat == .seated) = true
        rw [seat, hseat hd]
        rfl
      exact watch_idle served rfl seated
  rw [now_idle watched (touched.jog.trans hj)]
  refine ⟨?_, served, touched.slots, touched.packs.1, touched.packs.2, ?_, ?_, ?_, fun l hl => ?_, fun q hq => touched.panel_ne hq⟩
  · rw [← jobs]
  · rw [panel]; rfl
  · rw [panel]; rfl
  · rw [panel]; exact congrArg Cleat.state (set_cleat_self _ _ _)
  · rw [panel]
    exact (set_cleat_ne _ hl _).trans (set_cleat_ne _ hl _)

/-- The end of a move, for the cleat step that waits for it (R28, R80). -/
theorem moveEnd_spec (h : s.served p = some (i, o, d.step g)) (one : s.placedOnce p) (hp : o.phase = some .running)
    (hm : (s.panel p).move = none) :
    let r := runJob (.moveEnd p) s
    let x := s.panel p
    (s.stepDone p o (d.step g) → r.st.slot i = some { o with phase := none, reasons := {} } ∧ r.st.flow p = .none ∧
      r.jobs.getLast? = some (.report p .completed) ∧ (r.st.panel p).coils = x.coils ∧
      (r.st.panel p).cleats = x.cleats) ∧
    (¬ s.stepDone p o (d.step g) →
      r.st.slots = s.slots ∧ r.st.packA = s.packA ∧ r.st.packB = s.packB ∧
      (s.atLevel p g d = s.participants p g → r.jobs = [.moveEnd p] ∧ (r.st.panel p).coils = x.coils ∧
        r.st.stepDone p o (d.step g)) ∧
      (s.atLevel p g d ≠ s.participants p g → r.jobs = [] ∧
        (r.st.panel p).coils = (if s.enabled then x.coils.put true (d.coil g) else x.coils) ∧
        ∃ m, (r.st.panel p).move = some m ∧ m.group = g ∧ m.dir = d ∧ m.byJog = false ∧
          m.dwell = some (s.now + s.params.tuning.cleatDwell) ∧
          m.window = s.now + s.params.tuning.confirmationWindow)) := by
  intro r x
  have run : r = _ := moveEnded_running h hp hm
  refine ⟨fun hd => ?_, fun hd => ?_⟩
  · have ends := run.trans (if_pos (stepDone_iff.1 hd))
    obtain ⟨slot, flow, last, panel⟩ := completeCleat_spec h one
    rw [← ends] at slot flow last panel
    exact ⟨slot, flow, last, by rw [panel], by rw [panel]⟩
  · have moves := run.trans (if_neg (mt stepDone_iff.2 hd))
    rw [moves]
    refine ⟨runMove_slots .., runMove_pack s p g d .a, runMove_pack s p g d .b, fun full => ?_, fun part => ?_⟩
    · obtain ⟨jobs, coils⟩ := runMove_full hm full
      have started : (s.runMove p g d).st = s.startMove p g d s.params.tuning.cleatDwell
          s.params.tuning.confirmationWindow false := by
        unfold State.runMove
        rw [if_neg (by simp [hm])]
      exact ⟨jobs, coils, by rw [started]; exact startMove_done full _ _ _ o⟩
    · obtain ⟨cl, e⟩ := runMove_part hm part
      have idle : (s.runMove p g d).jobs = [] := by
        have started : (s.runMove p g d).jobs = if ((s.runMove p g d).st.panel p).move.isNone then [.moveEnd p] else [] := by
          unfold State.runMove
          rw [if_neg (by simp [hm])]
        rw [started, e]
        rfl
      rw [e]
      exact ⟨idle, rfl, _, rfl, rfl, rfl, rfl, rfl, rfl⟩

/-- Settles O52: a change outside a move and each change in one on the record they leave, and the end of a move by what the
step's condition then is. -/
theorem cleatSwitchesAreTaken : Obligations.CleatSwitchesAreTaken := by
  refine ⟨?_, ?_⟩
  · intro s p k b held x r c lost outside others
    refine ⟨fun h => ?_, fun hh hb => ⟨fun hc => ?_, fun hc hu => ?_, fun d hc hu => ?_, fun hc hu hj => ⟨fun hs => ?_, ?_, ?_⟩⟩⟩
    · change execCleatSwitchChange p k b held s = _
      unfold execCleatSwitchChange
      rw [if_pos]
      obtain h | h := h
      · exact Bool.or_eq_true_iff.2 (.inl (decide_eq_true h))
      · exact Bool.or_eq_true_iff.2 (.inr (beq_iff_eq.2 h))
    · have run := exec_cleatSwitch_eq hh hb
      rw [hc] at run
      exact run.trans (congrArg Host.Outcome.next (felt_eq s p k b))
    · have run := exec_cleatSwitch_eq hh hb
      rw [hc, hu] at run
      refine run.trans (congrArg Host.Outcome.next ?_)
      dsimp only [Bool.not_true]
      rw [if_neg (by decide), felt_eq, State.modCleat, modPanel_modPanel]
      refine modPanel_congr ?_
      simp [Panel.modCleat, Panel.setCleat, cleatStateOf, r, x]
    · have run := exec_cleatSwitch_eq hh hb
      rw [hc, hu] at run
      exact run.trans (congrArg Host.Outcome.next (felt_eq s p k b))
    · exact ⟨_, exec_cleatSwitch hh hb hc hu, cleatChange_unserved hj hs hu⟩
    · intro i o hs h hp out hr hbt
      subst hbt
      obtain ⟨o', rest⟩ := cleatLost_fails (linked_iff.1 hs) hj hc h hp out hr
      exact ⟨_, o', exec_cleatSwitch hh hb hc hu, rest⟩
    · intro i o g d m h hp hseat hm hd hown hk hconf hbl all u
      have felt := felt_eq s p k b
      obtain ⟨run, rest⟩ := lastConfirmed h hj hseat hm hd hown hk hconf hbl all
      have state : u = ((s.felt p k b).cleatChanged p k b).st := by rw [felt]
      rw [state]
      exact ⟨(exec_cleatSwitch hh hb hc hu).trans (congrArg Host.Outcome.next run), rest⟩
  · intro s p i o g d h hf r x
    refine ⟨fun hp hm => moveEnd_spec h ((onePlace_of_flowLaws hf).placedOnce p) hp hm, fun hn => ?_⟩
    have run : r = _ := moveEnded_other h hn
    rw [run]
    exact ⟨rfl, rfl⟩

end Sys2Proof.Machine
end

section
/-! CREATE_ORDER and HATCH_ORDER: the orders they make, and their admission (R38 to R46, R145). -/

namespace Sys2Proof.Machine

open State (WorksOn)

variable {s t u : State} {p q : PanelNo} {i j : SlotNo} {o : Order} {n : StationNo} {k : OrderKind} {c : OrderClass}
  {h : Option StepKind} {target : Option Int} {link : Option Nat}

/-! ### The record of a new order -/

theorem createOrder_records (s : State) (n : StationNo) (p : PanelNo) (k : OrderKind) (target : Option Int) (c : OrderClass)
    (h : Option StepKind) (link : Option Nat) :
    let o := s.newOrder n p k target c h link
    (s.createOrder n p k target c h link).records = { s.records with
      idCounter := nextId o.id, created := s.created + 1, slots := s.records.slots.set s.slotForNew (some o.lasting) } := by
  intro o
  rw [createOrder_eq]
  dsimp only
  refine (records_of_lasting (lasting_modPanel fun _ => ?_)).trans ?_
  · rfl
  have slots : (s.slots.set s.slotForNew (some o)).map (Option.map Order.lasting) =
      (s.slots.map (Option.map Order.lasting)).set s.slotForNew (some o.lasting) := by
    rw [Vector.map_set]
    rfl
  exact congrArg (fun v => { s.records with idCounter := nextId o.id, created := s.created + 1, slots := v }) slots

theorem createOrder_own (s : State) (n : StationNo) (p : PanelNo) (k : OrderKind) (target : Option Int) (c : OrderClass)
    (h : Option StepKind) (link : Option Nat) : (s.createOrder n p k target c h link).slot s.slotForNew =
      some (s.newOrder n p k target c h link) := by rw [createOrder_slot, if_pos rfl]

theorem createOrder_live (s : State) (n : StationNo) (p : PanelNo) (k : OrderKind) (target : Option Int) (c : OrderClass)
    (h : Option StepKind) (link : Option Nat) : ((s.createOrder n p k target c h link).panel p).live =
      some (s.newOrder n p k target c h link).id := by rw [createOrder_panel, if_pos rfl]

/-- What a new order's admission goes by (R45). -/
theorem createOrder_kept (s : State) (n : StationNo) (p : PanelNo) (k : OrderKind) (target : Option Int) (c : OrderClass)
    (h : Option StepKind) (link : Option Nat) :
    (s.createOrder n p k target c h link).admissionState = s.admissionState ∧
    (s.createOrder n p k target c h link).txQueue = s.txQueue ∧
    (s.createOrder n p k target c h link).stations = s.stations ∧
    (s.createOrder n p k target c h link).layout = s.layout ∧ (s.createOrder n p k target c h link).now = s.now ∧
    (s.createOrder n p k target c h link).params = s.params := by
  rw [createOrder_eq]
  exact ⟨rfl, rfl, rfl, rfl, rfl, rfl⟩

theorem targetOf_eq (s : State) (p : PanelNo) (k : OrderKind) (n : Int) : s.targetOf p k n = (match k with
    | .openHatch => some (s.openCount p)
    | .close | .home => some 0
    | .moveTo => some (max 0 (min n (s.openCount p)))
    | .secure | .release => none) := by cases k <;> rfl

theorem targetClamped_iff {m : Int} : s.targetClamped p k m = true ↔ k = .moveTo ∧ s.targetOf p k m ≠ some m := by
  unfold State.targetClamped
  cases k with
  | moveTo => simp [State.targetOf]
  | openHatch => simp
  | close => simp
  | home => simp
  | secure => simp
  | release => simp

/-! ### Its link -/

theorem linkOf_live {pred : Byte} (ho : s.orderNamed pred = some (i, o)) (hl : o.state.live = true) :
    s.linkOf pred = some o.id := by
  simp [State.linkOf, ho, hl]

theorem linkOf_none {pred : Byte} (h : ∀ i o, s.orderNamed pred = some (i, o) → o.state.live = false) : s.linkOf pred = none := by
  unfold State.linkOf
  cases ho : s.orderNamed pred with
  | none => rfl
  | some io => simp [h io.1 io.2 ho]

/-! ### Its admission -/

theorem admissionState_eq (hu : s.unit = .run) : s.admissionState =
    if s.loopOpen = true ∨ s.supplyLow = true then .paused (if s.loopOpen then .estop else .supply) else .active := by
  unfold State.admissionState
  rw [if_neg (by simp [hu])]
  cases s.loopOpen <;> cases s.supplyLow <;> rfl

/-- An order as it enters its first state (R45). -/
def Order.enters (o : Order) (st : OrderState) (f : Option PausedFrom) : Order :=
  { o with state := st, step := 1, pausedFrom := f }

theorem admitted_paused {r : PauseReason} (ho : s.slot i = some o) (ha : s.admissionState = .paused r) : s.admitted i =
    .ok (s.updateOrder i fun o => o.enters (.paused r) (some .active)) := by
  simp only [State.admitted, ho, ha]
  rfl

theorem admitted_active (ho : s.slot i = some o) (ha : s.admissionState = .active) : s.admitted i =
    ⟨s.updateOrder i fun o => o.enters .active none, [.evaluate o.panel true]⟩ := by
  simp only [State.admitted, ho, ha]
  rfl

theorem updateOrder_admission (s : State) (i : SlotNo) (f : Order → Order) :
    (s.updateOrder i f).admissionState = s.admissionState := by
  cases ho : s.slot i with
  | none => simp only [State.updateOrder, ho]
  | some o => rw [updateOrder_eq ho]; rfl

theorem lasting_admitted_order (s : State) (i : SlotNo) : (s.admitted i).st.lasting = s.lasting := by
  unfold State.admitted
  split
  · rfl
  · exact lasting_updateOrder fun _ => rfl

/-! ### What becomes of an order that is admitted -/

/-- A link that an order does not have is not made for it. -/
theorem Changes.pred_none {L : Leave} (h : Changes L s t) (ho : s.slot i = some o) (hp : o.pred = none) :
    ∀ o', t.slot i = some o' → o'.pred = none := by
  induction h with
  | refl => exact fun o' h => Option.some.inj (ho.symm.trans h) ▸ hp
  | tail _ h ih =>
    intro o' ho'
    obtain ⟨x, hx, same⟩ := Change.slot_from h ho'
    obtain rfl | moved := same
    · exact ih _ hx
    · exact moved.pred.elim (fun e => e.trans (ih _ hx)) id

/-- An order at its admission. -/
structure Order.Fresh (o : Order) : Prop where
  state : o.state = .active
  step : o.step = 1
  phase : o.phase = none
  reasons : o.reasons = {}
  pausedFrom : o.pausedFrom = none
  finishedAt : o.finishedAt = none
  retention : o.retention = none
  pred : o.pred = none

/-- The order as it was admitted, from what has become of it. -/
def Order.asAdmitted (o : Order) : Order :=
  { o with state := .active, step := 1, phase := none, reasons := {}, pausedFrom := none, finishedAt := none, retention := none }

theorem Order.Fresh.asAdmitted {o o' : Order} (h : o.Fresh) (hl : o'.lasting = o.lasting) (hp : o'.pred = none) :
    o = o'.asAdmitted := by
  obtain ⟨hid, hissuer, hpanel, hkind, htarget, hcls, hhold, hcreated⟩ := Order.lasting_fields hl
  obtain ⟨h1, h2, h3, h4, h5, h6, h7, h8⟩ := h
  cases o
  cases o'
  simp_all [Order.asAdmitted]

/-- The states an admitted order may have reached, with the codes that report them. -/
def Order.reported (o : Order) (st : Byte) : Prop :=
  o.state = .active ∧ st = 2 ∨ o.state = .atHold ∧ st = 3 ∨ o.state = .done ∧ st = 5 ∨ ∃ f, o.state = .failed f ∧ st = 7

/-- An admitted order after the work that follows. -/
theorem admitted_settles {r : Res} (ho : r.st.slot i = some o) (hf : o.Fresh) : ∃ o', r.settle.slot i = some o' ∧
    o'.lasting = o.lasting ∧ o'.pred = none ∧ r.st.slot i = some o'.asAdmitted ∧ o'.reported (r.settle.stateByte i) := by
  obtain ⟨o', ho', moved⟩ := settle_movedOn r ho hf.state hf.pausedFrom
  have pred := Changes.pred_none (changes_settle r) ho hf.pred o' ho'
  refine ⟨o', ho', moved.lasting, pred, ho.trans (congrArg some (hf.asAdmitted moved.lasting pred)), ?_⟩
  rw [stateByte_of ho']
  obtain e | e | e | ⟨f, e⟩ := moved.state
  · exact .inl ⟨e, by rw [e]; rfl⟩
  · exact .inr (.inl ⟨e, by rw [e]; rfl⟩)
  · exact .inr (.inr (.inl ⟨e, by rw [e]; rfl⟩))
  · exact .inr (.inr (.inr ⟨f, e, by rw [e]; rfl⟩))

end Sys2Proof.Machine
end

section
/-! CREATE_ORDER and HATCH_ORDER: the statements (R43 to R46). -/

namespace Sys2Proof.Machine

open State (WorksOn)

variable {s t u : State} {p q : PanelNo} {i j : SlotNo} {o : Order} {n : StationNo} {k : OrderKind} {c : OrderClass}
  {h : Option StepKind} {tag panel hold pred : Byte} {kb : BitVec 3} {cb : BitVec 1} {target : Half}

/-! ### CREATE_ORDER -/

theorem createRefusal_of (hc : s.configured p = true) (ha : s.authority n (hatchOf p) = true) (hf : (s.panel p).faults = [])
    (hl : (s.panel p).live = none) (hseat : k = .secure ∨ k = .release → (s.panel p).seat = .seated)
    (hpos : k = .openHatch ∨ k = .moveTo → (s.panel p).certain = true) (hpred : s.predOk pred = true) :
    s.createRefusal n p k pred = none := by
  have seat : (k.needsSeat && (s.panel p).seat != .seated) = false := by
    cases k with
    | secure => simp [hseat (.inl rfl)]
    | release => simp [hseat (.inr rfl)]
    | openHatch => rfl
    | close => rfl
    | moveTo => rfl
    | home => rfl
  have certain : (k.needsCertain && !(s.panel p).certain) = false := by
    cases k with
    | openHatch => simp [hpos (.inl rfl)]
    | moveTo => simp [hpos (.inr rfl)]
    | secure => rfl
    | release => rfl
    | close => rfl
    | home => rfl
  unfold State.createRefusal
  rw [if_neg (by simp [hc]), if_neg (by simp [ha]), if_neg (by simp [hf]), if_neg (by simp [hl]), if_neg (by simp [seat]),
    if_neg (by simp [certain]), if_neg (by simp [hpred])]

/-- The unit with the order of a CREATE_ORDER made. -/
def State.madeOrder (s : State) (n : StationNo) (p : PanelNo) (k : OrderKind) (c : OrderClass) (h : Option StepKind)
    (target : Half) (link : Option Nat) : State :=
  (s.taken n).createOrder n p k (s.targetOf p k target.toInt) c h link

/-- The order of a CREATE_ORDER. -/
def State.orderMade (s : State) (n : StationNo) (p : PanelNo) (k : OrderKind) (c : OrderClass) (h : Option StepKind)
    (target : Half) (link : Option Nat) : Order :=
  (s.taken n).newOrder n p k (s.targetOf p k target.toInt) c h link

theorem exec_createOrder (hr : s.ready n) (hu : s.unit = .run) (hp : panelArg panel = some p)
    (hw : wishArg kb cb hold = some (k, c, h)) (hc : s.createRefusal n p k pred = none) :
    exec (.createOrder n tag panel kb cb hold pred target) s =
      .next ((((s.madeOrder n p k c h target (s.linkOf pred)).enter s.slotForNew (s.linkOf pred)).settle).replied n tag .accepted
        [byteOf (bit (s.targetClamped p k target.toInt) 1),
          (s.madeOrder n p k c h target (s.linkOf pred)).idByte s.slotForNew,
          ((s.madeOrder n p k c h target (s.linkOf pred)).enter s.slotForNew (s.linkOf pred)).settle.stateByte s.slotForNew]) := by
  refine request_eq_replied (owner := ownerCreateOrder n panel kb cb hold pred target) hr ?_
  have unit : ¬ (s.taken n).unit ≠ .run := not_not_intro hu
  have refusal : (s.taken n).createRefusal n p k pred = none := hc
  unfold ownerCreateOrder
  rw [if_neg unit, hp, hw]
  dsimp only
  rw [refusal]
  rfl

theorem clampedByte (s : State) (p : PanelNo) (k : OrderKind) (m : Int) :
    byteOf (bit (s.targetClamped p k m) 1) = if k = .moveTo ∧ s.targetOf p k m ≠ some m then 1 else 0 := by
  by_cases h : k = .moveTo ∧ s.targetOf p k m ≠ some m
  · rw [if_pos h, targetClamped_iff.2 h]; rfl
  · rw [if_neg h, Bool.eq_false_iff.2 (mt targetClamped_iff.1 h)]; rfl

section
variable (s p n k c h target) (link : Option Nat)

theorem madeOrder_slot : (s.madeOrder n p k c h target link).slot s.slotForNew = some (s.orderMade n p k c h target link) :=
  createOrder_own ..

theorem madeOrder_slot_ne (hj : j ≠ s.slotForNew) : (s.madeOrder n p k c h target link).slot j = s.slot j :=
  (createOrder_slot (s.taken n) n p k _ c h link j).trans (if_neg (Ne.symm hj))

theorem madeOrder_live : ((s.madeOrder n p k c h target link).panel p).live = some (s.orderMade n p k c h target link).id :=
  createOrder_live ..

theorem madeOrder_records : (s.madeOrder n p k c h target link).records = { s.records with
    idCounter := nextId (s.orderMade n p k c h target link).id, created := s.created + 1
    slots := s.records.slots.set s.slotForNew (some (s.orderMade n p k c h target link).lasting) } := by
  have made := createOrder_records (s.taken n) n p k (s.targetOf p k target.toInt) c h link
  rw [records_taken] at made
  exact made

theorem madeOrder_idByte :
    (s.madeOrder n p k c h target link).idByte s.slotForNew = byteOf (s.orderMade n p k c h target link).id := by
  unfold State.idByte
  rw [madeOrder_slot]

theorem madeOrder_admission : (s.madeOrder n p k c h target link).admissionState = s.admissionState :=
  (createOrder_kept (s.taken n) n p k _ c h link).1

theorem madeOrder_txQueue : (s.madeOrder n p k c h target link).txQueue = s.txQueue :=
  (createOrder_kept (s.taken n) n p k _ c h link).2.1

/-- The watch that starts with the new order's admission starts as the unit stood before the request (R145). -/
theorem watched_madeOrder (hw : (s.madeOrder n p k c h target link).watched n t) : s.watched n t := by
  obtain ⟨-, -, stations, layout, now, params⟩ := createOrder_kept (s.taken n) n p k (s.targetOf p k target.toInt) c h link
  refine watched_of_station hw ?_ ⟨now, params⟩ ?_ ⟨rfl, rfl, rfl⟩
  · unfold State.stationKind State.madeOrder
    rw [layout]
    rfl
  · have same : (s.madeOrder n p k c h target link).station n = (s.taken n).station n := by
      unfold State.station State.madeOrder
      rw [stations]
    rw [same]
    exact station_of_taken s n n

end

/-- What stays of a new order and of the unit through its admission and the work that follows. -/
theorem created {e : State} {link : Option Nat} (last : e.lasting = (s.madeOrder n p k c h target link).lasting)
    (slot : e.slot s.slotForNew = some o) (hl : o.lasting = (s.orderMade n p k c h target link).lasting) (tag st : Byte) :
    let t := e.replied n tag .accepted [if k = .moveTo ∧ o.target ≠ some target.toInt then 1 else 0, byteOf o.id, st]
    t.slot s.slotForNew = some o ∧ o.id = (s.setSlot s.slotForNew none).freshId 24 s.idCounter ∧ o.issuer = n ∧
      o.panel = p ∧ o.kind = k ∧ o.cls = c ∧ o.hold = h ∧ o.created = s.created ∧ o.target = s.targetOf p k target.toInt ∧
      t.records = { s.records with
        idCounter := nextId o.id, created := s.created + 1, slots := s.records.slots.set s.slotForNew (some o.lasting) } ∧
      t.txQueue = s.txQueue ++ [replyTo n tag .accepted
        [if k = .moveTo ∧ o.target ≠ some target.toInt then 1 else 0, byteOf o.id, st]] := by
  intro t
  obtain ⟨hid, hissuer, hpanel, hkind, htarget, hcls, hhold, hcreated⟩ := Order.lasting_fields hl
  have records := (records_of_lasting last).trans (madeOrder_records s p n k c h target link)
  rw [← hid, ← hl] at records
  have same : e.lasting.txQueue = (s.madeOrder n p k c h target link).lasting.txQueue := congrArg State.txQueue last
  have queue : e.txQueue = s.txQueue := Eq.trans same (madeOrder_txQueue s p n k c h target link)
  refine ⟨slot, hid, hissuer, hpanel, hkind, hcls, hhold, hcreated, htarget, (records_replied ..).trans records, ?_⟩
  exact congrArg (· ++ [replyTo n tag .accepted
    [if k = .moveTo ∧ o.target ≠ some target.toInt then 1 else 0, byteOf o.id, st]]) queue

/-- The reply to a CREATE_ORDER, from what has become of the order. -/
theorem exec_created (hr : s.ready n) (hu : s.unit = .run) (hp : panelArg panel = some p)
    (hw : wishArg kb cb hold = some (k, c, h)) (hc : s.createRefusal n p k pred = none)
    (hl : o.lasting = (s.orderMade n p k c h target (s.linkOf pred)).lasting) {e : State}
    (he : ((s.madeOrder n p k c h target (s.linkOf pred)).enter s.slotForNew (s.linkOf pred)).settle = e) :
    exec (.createOrder n tag panel kb cb hold pred target) s = .next (e.replied n tag .accepted
      [if k = .moveTo ∧ o.target ≠ some target.toInt then 1 else 0, byteOf o.id, e.stateByte s.slotForNew]) := by
  obtain ⟨hid, -, -, -, htarget, -⟩ := Order.lasting_fields hl
  have target' : o.target = s.targetOf p k target.toInt := htarget
  rw [exec_createOrder hr hu hp hw hc, madeOrder_idByte, clampedByte, he, target', hid]

/-- Settles O17: the record that is made, and its admission by the loop and the supply. -/
theorem createOrderMakesTheOrder : Obligations.CreateOrderMakesTheOrder := by
  intro s n tag panel kb cb hold pred target p k c h hr hu hp hw hconf hauth hfault hlive hseat hpos hpred
  have refusal := createRefusal_of (n := n) (k := k) (pred := pred) hconf hauth hfault hlive hseat hpos hpred
  have slot := madeOrder_slot s p n k c h target
  have others (l : Option Nat) (j : SlotNo) (hj : j ≠ s.slotForNew) := madeOrder_slot_ne s p n k c h target l hj
  have live := madeOrder_live s p n k c h target
  have admission (l : Option Nat) := (madeOrder_admission s p n k c h target l).trans (admissionState_eq hu)
  by_cases waits : ∃ i q, s.orderNamed pred = some (i, q) ∧ q.state.live = true
  · obtain ⟨m, q, named, live'⟩ := waits
    have link := linkOf_live named live'
    have ends : ((s.madeOrder n p k c h target (s.linkOf pred)).enter s.slotForNew (s.linkOf pred)).settle =
        s.madeOrder n p k c h target (some q.id) := by
      rw [link]
      exact settle_ok _
    have run := exec_created (tag := tag) (target := target) hr hu hp hw refusal rfl ends
    have own := slot (some q.id)
    have others' := others (some q.id)
    have live'' := live (some q.id)
    have made : (s.orderMade n p k c h target (some q.id)).state = .pending ∧
        (s.orderMade n p k c h target (some q.id)).pred = some q.id := ⟨rfl, rfl⟩
    obtain ⟨h1, h2, h3, h4, h5, h6, h7, h8, h9, h10, h11⟩ := created (tag := tag) (st := byteOf (OrderState.code .pending))
      rfl own rfl
    rw [link, stateByte_of own, made.1] at run
    generalize s.madeOrder n p k c h target (some q.id) = w at *
    generalize s.orderMade n p k c h target (some q.id) = o at *
    refine ⟨_, _, _, run, h1, h2, h3, h4, h5, h6, h7, h8, h9.trans (targetOf_eq ..), h10, h11, fun i q' named' _ => ?_, fun free => ?_⟩
    · obtain rfl : q = q' := congrArg Prod.snd (Option.some.inj (named.symm.trans named'))
      exact ⟨made.1, made.2, live'', rfl, others'⟩
    · rw [free m q named] at live'
      cases live'
  · have free : ∀ i q, s.orderNamed pred = some (i, q) → q.state.live = false := fun i q hq =>
      Bool.eq_false_iff.2 fun hl => waits ⟨i, q, hq, hl⟩
    have link := linkOf_none free
    have made := slot none
    have others' := others none
    have live' := live none
    have unlinked : (s.orderMade n p k c h target none).pred = none := rfl
    have panel : (s.orderMade n p k c h target none).panel = p := rfl
    have issuer : (s.orderMade n p k c h target none).issuer = n := rfl
    have id : (s.orderMade n p k c h target none).id = (s.setSlot s.slotForNew none).freshId 24 s.idCounter := rfl
    by_cases off : s.loopOpen = true ∨ s.supplyLow = true
    · have paused := admitted_paused made ((admission none).trans (if_pos off))
      generalize hc : (if s.loopOpen = true then PauseReason.estop else PauseReason.supply) = cause at *
      have ends : ((s.madeOrder n p k c h target (s.linkOf pred)).enter s.slotForNew (s.linkOf pred)).settle =
          (s.madeOrder n p k c h target none).updateOrder s.slotForNew fun o => o.enters (.paused cause) (some .active) := by
        rw [link]
        exact (congrArg Res.settle paused).trans (settle_ok _)
      have last : ((s.madeOrder n p k c h target none).updateOrder s.slotForNew fun o =>
          o.enters (.paused cause) (some .active)).lasting = (s.madeOrder n p k c h target none).lasting :=
        lasting_updateOrder fun _ => rfl
      have own := updateOrder_slot_self made fun o => o.enters (.paused cause) (some .active)
      have kept (j : SlotNo) (hj : j ≠ s.slotForNew) := (updateOrder_slot_ne hj fun o =>
        o.enters (.paused cause) (some .active)).trans (others' j hj)
      have held : (((s.madeOrder n p k c h target none).updateOrder s.slotForNew fun o =>
          o.enters (.paused cause) (some .active)).panel p).live = some (s.orderMade n p k c h target none).id := by
        rw [updateOrder_panel]
        exact live'
      have run := exec_created (tag := tag) (target := target)
        (o := (s.orderMade n p k c h target none).enters (.paused cause) (some .active)) hr hu hp hw refusal
        (by rw [link]; rfl) ends
      obtain ⟨h1, h2, h3, h4, h5, h6, h7, h8, h9, h10, h11⟩ :=
        created (tag := tag) (st := byteOf (OrderState.code (.paused cause))) last own rfl
      rw [stateByte_of own] at run
      generalize (s.madeOrder n p k c h target none).updateOrder s.slotForNew (fun o =>
        o.enters (.paused cause) (some .active)) = w at *
      generalize s.orderMade n p k c h target none = o at *
      refine ⟨_, _, _, run, h1, h2, h3, h4, h5, h6, h7, h8, h9.trans (targetOf_eq ..), h10, h11,
        fun i q named hl => absurd hl (by simp [free i q named]), fun _ =>
        ⟨unlinked, fun _ => ⟨rfl, rfl, rfl, rfl, held, kept⟩, fun closed good => ?_⟩⟩
      rw [closed, good] at off
      cases off with
      | inl h => cases h
      | inr h => cases h
    · have active := admitted_active made ((admission none).trans (if_neg off))
      have own := updateOrder_slot_self made fun o => o.enters .active none
      have new : ((s.orderMade n p k c h target none).enters .active none).Fresh := ⟨rfl, rfl, rfl, rfl, rfl, rfl, rfl, rfl⟩
      have held : (((s.madeOrder n p k c h target none).updateOrder s.slotForNew fun o =>
          o.enters .active none).panel p).live = some (s.orderMade n p k c h target none).id := by
        rw [updateOrder_panel]
        exact live'
      have watched := watched_madeOrder s p n k c h target none
        (updateOrder_watched (n := n) made (f := fun o => o.enters .active none) rfl rfl)
      have jobs := congrArg Res.jobs active
      have entered : ((s.madeOrder n p k c h target none).admitted s.slotForNew).st =
          (s.madeOrder n p k c h target none).updateOrder s.slotForNew fun o => o.enters .active none := congrArg Res.st active
      rw [← entered] at own held watched
      have last : ((s.madeOrder n p k c h target none).admitted s.slotForNew).settle.lasting =
          (s.madeOrder n p k c h target none).lasting := (lasting_settle _).trans (lasting_admitted_order ..)
      have ends : ((s.madeOrder n p k c h target (s.linkOf pred)).enter s.slotForNew (s.linkOf pred)).settle =
          ((s.madeOrder n p k c h target none).admitted s.slotForNew).settle := by
        rw [link]
        rfl
      obtain ⟨o, stands, same, pred', begun, reported⟩ := admitted_settles own new
      have run := exec_created (tag := tag) (target := target) (o := o) hr hu hp hw refusal (by rw [link]; exact same) ends
      obtain ⟨h1, h2, h3, h4, h5, h6, h7, h8, h9, h10, h11⟩ := created (tag := tag)
        (st := ((s.madeOrder n p k c h target none).admitted s.slotForNew).settle.stateByte s.slotForNew) last stands same
      rw [panel] at jobs
      rw [id, ← h2] at held
      refine ⟨_, _, _, run, h1, h2, h3, h4, h5, h6, h7, h8, h9.trans (targetOf_eq ..), h10, h11,
        fun i q named hl => absurd hl (by simp [free i q named]), fun _ =>
        ⟨pred', fun closed => absurd closed off, fun _ _ => ⟨rfl, jobs, held, watched, begun, reported⟩⟩⟩

end Sys2Proof.Machine
end

section
/-! HATCH_ORDER: the statement (R46). -/

namespace Sys2Proof.Machine

open State (WorksOn)

variable {s t u : State} {p q : PanelNo} {i j : SlotNo} {a b o : Order} {n : StationNo} {h : HatchNo} {k : OrderKind}
    {c : OrderClass}
  {hs : Option StepKind} {tag hatch hold pred : Byte} {kb : BitVec 3} {cb : BitVec 1} {target : Half}

/-! ### The two records -/

section
variable (s n h k c hs target) (link : Option Nat)

/-- The unit with the order of the port panel made. -/
def State.madePort : State := s.madeOrder n (portOf h) k c hs target link

/-- The unit with the orders of both panels made. -/
def State.madeBoth : State :=
  (s.madePort n h k c hs target link).createOrder n (starboardOf h) k (s.targetOf (starboardOf h) k target.toInt) c hs link

/-- The orders of the two panels. -/
def State.portOrder : Order := s.orderMade n (portOf h) k c hs target link
def State.starboardOrder : Order :=
  (s.madePort n h k c hs target link).newOrder n (starboardOf h) k (s.targetOf (starboardOf h) k target.toInt) c hs link

/-- The slot of the starboard panel's order. -/
def State.starboardSlot : SlotNo := (s.madePort n h k c hs target link).slotForNew

variable {s n h k c hs target link}

theorem linked_madePort (hl : s.Linked) (hu : s.unit = .run) (hc : s.createRefusal n (portOf h) k pred = none) :
    (s.madePort n h k c hs target link).Linked := by
  obtain ⟨configured, -, -, live⟩ := createRefusal_none hc
  have taken : (s.taken n).Linked := hl.of_same {} fun _ => .inl rfl
  exact linked_createOrder taken hu configured live

theorem starboardSlot_ne (hl : s.Linked) (hu : s.unit = .run) (hc : s.createRefusal n (portOf h) k pred = none) :
    s.slotForNew ≠ s.starboardSlot n h k c hs target link := by
  intro e
  have own := madeOrder_slot s (portOf h) n k c hs target link
  rw [e] at own
  have dead : true = false := slotForNew_not_live (linked_madePort hl hu hc) own
  cases dead

theorem madeBoth_slot (j : SlotNo) : (s.madeBoth n h k c hs target link).slot j =
    if s.starboardSlot n h k c hs target link = j then some (s.starboardOrder n h k c hs target link)
    else (s.madePort n h k c hs target link).slot j := createOrder_slot ..

theorem madeBoth_port (hl : s.Linked) (hu : s.unit = .run) (hc : s.createRefusal n (portOf h) k pred = none) :
    (s.madeBoth n h k c hs target link).slot s.slotForNew = some (s.portOrder n h k c hs target link) := by
  rw [madeBoth_slot, if_neg (Ne.symm (starboardSlot_ne hl hu hc))]
  exact madeOrder_slot ..

theorem madeBoth_starboard : (s.madeBoth n h k c hs target link).slot (s.starboardSlot n h k c hs target link) =
    some (s.starboardOrder n h k c hs target link) := createOrder_own ..

theorem madeBoth_slot_ne (hi : j ≠ s.slotForNew) (hj : j ≠ s.starboardSlot n h k c hs target link) :
    (s.madeBoth n h k c hs target link).slot j = s.slot j := by
  rw [madeBoth_slot, if_neg (Ne.symm hj)]
  exact madeOrder_slot_ne _ _ _ _ _ _ _ _ hi

theorem madeBoth_ids (hl : s.Linked) (hu : s.unit = .run) (hc : s.createRefusal n (portOf h) k pred = none) :
    (s.portOrder n h k c hs target link).id ≠ (s.starboardOrder n h k c hs target link).id := fun e => by
  obtain ⟨-, unique⟩ := newOrder_id (linked_madePort (c := c) (hs := hs) (target := target) (link := link) hl hu hc) n
    (starboardOf h) k (s.targetOf (starboardOf h) k target.toInt) c hs link
  exact starboardSlot_ne hl hu hc (unique _ _ (madeOrder_slot ..) e)

theorem madeBoth_live : ((s.madeBoth n h k c hs target link).panel (portOf h)).live =
      some (s.portOrder n h k c hs target link).id ∧
    ((s.madeBoth n h k c hs target link).panel (starboardOf h)).live = some (s.starboardOrder n h k c hs target link).id := by
  refine ⟨?_, createOrder_live ..⟩
  unfold State.madeBoth
  rw [createOrder_panel, if_neg (Ne.symm (portOf_ne_starboardOf h))]
  exact madeOrder_live ..

theorem starboardOrder_fields : (s.starboardOrder n h k c hs target link).id =
      ((s.madePort n h k c hs target link).setSlot (s.starboardSlot n h k c hs target link) none).freshId 24
        (nextId (s.portOrder n h k c hs target link).id) ∧
    (s.starboardOrder n h k c hs target link).created = s.created + 1 := by
  have made : (s.madePort n h k c hs target link).idCounter = nextId (s.portOrder n h k c hs target link).id ∧
      (s.madePort n h k c hs target link).created = s.created + 1 := by
    unfold State.madePort State.madeOrder
    rw [createOrder_eq]
    exact ⟨rfl, rfl⟩
  refine ⟨?_, made.2⟩
  rw [← made.1]
  rfl

theorem madeBoth_records : (s.madeBoth n h k c hs target link).records = { s.records with
    idCounter := nextId (s.starboardOrder n h k c hs target link).id, created := s.created + 2
    slots := (s.records.slots.set s.slotForNew (some (s.portOrder n h k c hs target link).lasting)).set
      (s.starboardSlot n h k c hs target link) (some (s.starboardOrder n h k c hs target link).lasting) } := by
  have port := madeOrder_records s (portOf h) n k c hs target link
  have both := createOrder_records (s.madePort n h k c hs target link) n (starboardOf h) k
    (s.targetOf (starboardOf h) k target.toInt) c hs link
  obtain ⟨-, created⟩ := starboardOrder_fields (s := s) (n := n) (h := h) (k := k) (c := c) (hs := hs) (target := target)
    (link := link)
  change (s.madePort n h k c hs target link).created = s.created + 1 at created
  unfold State.madeBoth
  rw [both, created]
  unfold State.madePort at *
  rw [port]
  rfl

theorem madeBoth_kept : (s.madeBoth n h k c hs target link).admissionState = s.admissionState ∧
    (s.madeBoth n h k c hs target link).txQueue = s.txQueue := by
  obtain ⟨admission, queue, -⟩ := createOrder_kept (s.madePort n h k c hs target link) n (starboardOf h) k
    (s.targetOf (starboardOf h) k target.toInt) c hs link
  exact ⟨admission.trans (madeOrder_admission s (portOf h) n k c hs target link),
    queue.trans (madeOrder_txQueue s (portOf h) n k c hs target link)⟩

theorem watched_madeBoth (hw : (s.madeBoth n h k c hs target link).watched n t) : s.watched n t := by
  obtain ⟨-, -, stations, layout, now, params⟩ := createOrder_kept (s.madePort n h k c hs target link) n (starboardOf h) k
    (s.targetOf (starboardOf h) k target.toInt) c hs link
  have first : (s.madePort n h k c hs target link).watched n t := by
    have same : (s.madeBoth n h k c hs target link).station n = (s.madePort n h k c hs target link).station n := by
      unfold State.station State.madeBoth
      rw [stations]
    refine watched_of_station hw ?_ ⟨now, params⟩ ?_ ⟨rfl, rfl, rfl⟩
    · unfold State.stationKind State.madeBoth
      rw [layout]
    · rw [same]
      exact ⟨rfl, rfl, rfl⟩
  exact watched_madeOrder s (portOf h) n k c hs target link first

end

/-- A watch that a second change of the orders leaves running is the one the first has left. -/
theorem watched_trans (hu : s.watched n u) (ht : u.watched n t) (hk : u.stationKind n = s.stationKind n) : s.watched n t := by
  intro kind
  obtain ⟨on, fresh, kept⟩ := hu kind
  obtain ⟨on', -, kept'⟩ := ht (hk.trans kind)
  obtain ⟨reference, deadline⟩ := kept' on
  refine ⟨on', fun off => ?_, fun was => ?_⟩
  · rw [reference, deadline]; exact fresh off
  · rw [reference, deadline]; exact kept was

/-! ### The reply -/

theorem exec_hatchOrder (hr : s.ready n) (hu : s.unit = .run) (ha : hatchArg hatch = some h)
    (hw : wishArg kb cb hold = some (k, c, hs)) (hp : s.createRefusal n (portOf h) k pred = none)
    (hst : s.createRefusal n (starboardOf h) k pred = none) {e : State} {link : Option Nat} (hlink : s.linkOf pred = link)
    (he : (((s.madeBoth n h k c hs target link).enter s.slotForNew link).bind fun u =>
      u.enter (s.starboardSlot n h k c hs target link) link).settle = e) :
    exec (.hatchOrder n tag hatch kb cb hold pred target) s = .next (e.replied n tag .accepted
      [byteOf (bit (s.targetClamped (portOf h) k target.toInt || s.targetClamped (starboardOf h) k target.toInt) 1),
        (s.madeBoth n h k c hs target link).idByte s.slotForNew, e.stateByte s.slotForNew,
        (s.madeBoth n h k c hs target link).idByte (s.starboardSlot n h k c hs target link),
        e.stateByte (s.starboardSlot n h k c hs target link)]) := by
  subst hlink he
  refine request_eq_replied (owner := ownerHatchOrder n hatch kb cb hold pred target) hr ?_
  have unit : ¬ (s.taken n).unit ≠ .run := not_not_intro hu
  have port : (s.taken n).createRefusal n (portOf h) k pred = none := hp
  have starboard : (s.taken n).createRefusal n (starboardOf h) k pred = none := hst
  unfold ownerHatchOrder
  rw [if_neg unit, ha, hw]
  dsimp only
  rw [port, starboard]
  rfl

theorem clampedBytes (s : State) (p q : PanelNo) (k : OrderKind) (m : Int) :
    byteOf (bit (s.targetClamped p k m || s.targetClamped q k m) 1) =
      if k = .moveTo ∧ (s.targetOf p k m ≠ some m ∨ s.targetOf q k m ≠ some m) then 1 else 0 := by
  have either : (s.targetClamped p k m || s.targetClamped q k m) = true ↔
      k = .moveTo ∧ (s.targetOf p k m ≠ some m ∨ s.targetOf q k m ≠ some m) := by
    rw [Bool.or_eq_true, targetClamped_iff, targetClamped_iff, and_or_left]
  by_cases h : k = .moveTo ∧ (s.targetOf p k m ≠ some m ∨ s.targetOf q k m ≠ some m)
  · rw [if_pos h, either.2 h]; rfl
  · rw [if_neg h, Bool.eq_false_iff.2 (mt either.1 h)]; rfl

/-! ### The statement's terms -/

/-- What stays of the two orders and of the unit through their admission and the work that follows. -/
theorem createdBoth {e : State} {link : Option Nat} (last : e.lasting = (s.madeBoth n h k c hs target link).lasting)
    (ha : e.slot s.slotForNew = some a) (hb : e.slot (s.starboardSlot n h k c hs target link) = some b)
    (la : a.lasting = (s.portOrder n h k c hs target link).lasting)
    (lb : b.lasting = (s.starboardOrder n h k c hs target link).lasting) (tag : Byte) (bytes : List Byte) :
    let t := e.replied n tag .accepted bytes
    (t.slot s.slotForNew = some a ∧ t.slot (s.starboardSlot n h k c hs target link) = some b) ∧
      (a.id = (s.setSlot s.slotForNew none).freshId 24 s.idCounter ∧
        b.id = ((s.madePort n h k c hs target link).setSlot (s.starboardSlot n h k c hs target link) none).freshId 24
          (nextId a.id)) ∧
      (a.created = s.created ∧ b.created = s.created + 1) ∧
      (a.panel = portOf h ∧ b.panel = starboardOf h ∧ a.issuer = n ∧ b.issuer = n ∧ a.kind = k ∧ b.kind = k ∧ a.cls = c ∧
        b.cls = c ∧ a.hold = hs ∧ b.hold = hs) ∧
      (∀ o ∈ [a, b], o.target = s.targetOf o.panel k target.toInt) ∧
      t.records = { s.records with
        idCounter := nextId b.id, created := s.created + 2
        slots := (s.records.slots.set s.slotForNew (some a.lasting)).set (s.starboardSlot n h k c hs target link)
          (some b.lasting) } ∧
      t.txQueue = s.txQueue ++ [replyTo n tag .accepted bytes] := by
  intro t
  obtain ⟨ida, issuera, panela, kinda, targeta, clsa, holda, createda⟩ := Order.lasting_fields la
  obtain ⟨idb, issuerb, panelb, kindb, targetb, clsb, holdb, createdb⟩ := Order.lasting_fields lb
  obtain ⟨fid, fcreated⟩ := starboardOrder_fields (s := s) (n := n) (h := h) (k := k) (c := c) (hs := hs) (target := target)
    (link := link)
  have records := (records_of_lasting last).trans madeBoth_records
  rw [← idb, ← la, ← lb] at records
  have same : e.lasting.txQueue = (s.madeBoth n h k c hs target link).lasting.txQueue := congrArg State.txQueue last
  obtain ⟨-, made⟩ := madeBoth_kept (s := s) (n := n) (h := h) (k := k) (c := c) (hs := hs) (target := target) (link := link)
  have queue : e.txQueue = s.txQueue := Eq.trans same made
  have whole := (records_replied e n tag .accepted bytes).trans records
  generalize s.madeBoth n h k c hs target link = v at *
  refine ⟨⟨ha, hb⟩, ⟨ida, ?_⟩, ⟨createda, createdb.trans fcreated⟩,
    ⟨panela, panelb, issuera, issuerb, kinda, kindb, clsa, clsb, holda, holdb⟩, fun o ho => ?_, whole,
    congrArg (· ++ [replyTo n tag .accepted bytes]) queue⟩
  · rw [idb, ida, fid]
  · obtain rfl | ho := List.mem_cons.1 ho
    · rw [panela]; exact targeta
    · obtain rfl := List.mem_singleton.1 ho
      rw [panelb]; exact targetb

/-- The bytes of the reply, from what has become of the two orders. -/
def hatchReply (k : OrderKind) (target : Half) (a b : Order) (sa sb : Byte) : List Byte :=
  [if k = .moveTo ∧ (a.target ≠ some target.toInt ∨ b.target ≠ some target.toInt) then 1 else 0,
    byteOf a.id, sa, byteOf b.id, sb]

theorem exec_hatched (hl : s.Linked) (hr : s.ready n) (hu : s.unit = .run) (ha : hatchArg hatch = some h)
    (hw : wishArg kb cb hold = some (k, c, hs)) (hp : s.createRefusal n (portOf h) k pred = none)
    (hst : s.createRefusal n (starboardOf h) k pred = none) {e : State} {link : Option Nat} (hlink : s.linkOf pred = link)
    (he : (((s.madeBoth n h k c hs target link).enter s.slotForNew link).bind fun u =>
      u.enter (s.starboardSlot n h k c hs target link) link).settle = e)
    (la : a.lasting = (s.portOrder n h k c hs target link).lasting)
    (lb : b.lasting = (s.starboardOrder n h k c hs target link).lasting) :
    exec (.hatchOrder n tag hatch kb cb hold pred target) s = .next (e.replied n tag .accepted (hatchReply k target a b
      (e.stateByte s.slotForNew) (e.stateByte (s.starboardSlot n h k c hs target link)))) := by
  obtain ⟨ida, -, -, -, targeta, -⟩ := Order.lasting_fields la
  obtain ⟨idb, -, -, -, targetb, -⟩ := Order.lasting_fields lb
  have ta : a.target = s.targetOf (portOf h) k target.toInt := targeta
  have tb : b.target = s.targetOf (starboardOf h) k target.toInt := targetb
  have bytea : (s.madeBoth n h k c hs target link).idByte s.slotForNew = byteOf a.id := by
    unfold State.idByte
    rw [madeBoth_port hl hu hp, ida]
  have byteb : (s.madeBoth n h k c hs target link).idByte (s.starboardSlot n h k c hs target link) = byteOf b.id := by
    unfold State.idByte
    rw [madeBoth_starboard, idb]
  rw [exec_hatchOrder hr hu ha hw hp hst hlink he, clampedBytes, bytea, byteb, ← ta, ← tb]
  rfl

/-- Both orders enter a state that leaves no work. -/
theorem bothPaused {r : PauseReason} {link : Option Nat} (hlink : link = none) (hl : s.Linked) (hu : s.unit = .run)
    (hp : s.createRefusal n (portOf h) k pred = none)
    (hr : s.admissionState = .paused r) : ∃ e,
    ((((s.madeBoth n h k c hs target link).enter s.slotForNew link).bind fun u =>
      u.enter (s.starboardSlot n h k c hs target link) link).settle = e) ∧
    e.lasting = (s.madeBoth n h k c hs target link).lasting ∧
    e.slot s.slotForNew = some ((s.portOrder n h k c hs target link).enters (.paused r) (some .active)) ∧
    e.slot (s.starboardSlot n h k c hs target link) =
      some ((s.starboardOrder n h k c hs target link).enters (.paused r) (some .active)) ∧
    (∀ m, m ≠ s.slotForNew → m ≠ s.starboardSlot n h k c hs target link → e.slot m = s.slot m) ∧
    ∀ p, e.panel p = (s.madeBoth n h k c hs target link).panel p := by
  subst hlink
  have apart := starboardSlot_ne (c := c) (hs := hs) (target := target) (link := none) hl hu hp
  have port := madeBoth_port (c := c) (hs := hs) (target := target) (link := none) hl hu hp
  have starboard := madeBoth_starboard (s := s) (n := n) (h := h) (k := k) (c := c) (hs := hs) (target := target) (link := none)
  have others (m : SlotNo) (h1 : m ≠ s.slotForNew) (h2 : m ≠ s.starboardSlot n h k c hs target none) :=
    madeBoth_slot_ne h1 h2
  have kept := (madeBoth_kept (s := s) (n := n) (h := h) (k := k) (c := c) (hs := hs) (target := target) (link := none)).1
  generalize s.madeBoth n h k c hs target none = v at *
  generalize s.starboardSlot n h k c hs target none = j at *
  have first := admitted_paused port (kept.trans hr)
  have starboard' := (updateOrder_slot_ne (Ne.symm apart) fun o => o.enters (.paused r) (some .active)).trans starboard
  have second := admitted_paused starboard' (((updateOrder_admission ..).trans kept).trans hr)
  have ends : ((v.enter s.slotForNew none).bind fun u => u.enter j none).settle =
      (v.updateOrder s.slotForNew fun o => o.enters (.paused r) (some .active)).updateOrder j fun o =>
        o.enters (.paused r) (some .active) := by
    change ((v.admitted s.slotForNew).bind fun u => u.admitted j).settle = _
    rw [first]
    unfold Res.bind
    dsimp only
    rw [Res.ok_st, second]
    exact settle_ok _
  have firstLasting : (v.updateOrder s.slotForNew fun o => o.enters (.paused r) (some .active)).lasting = v.lasting :=
    lasting_updateOrder fun _ => rfl
  refine ⟨_, ends, ?_, ?_, updateOrder_slot_self starboard' _, fun m h1 h2 => ?_, fun p => ?_⟩
  · rw [← firstLasting]
    exact lasting_updateOrder fun _ => rfl
  · exact (updateOrder_slot_ne apart _).trans (updateOrder_slot_self port _)
  · exact (updateOrder_slot_ne h2 _).trans ((updateOrder_slot_ne h1 _).trans (others m h1 h2))
  · rw [updateOrder_panel, updateOrder_panel]

/-- Both orders are admitted, and stand to be evaluated, port first. -/
theorem bothAdmitted {link : Option Nat} (hlink : link = none) (hl : s.Linked) (hu : s.unit = .run)
    (hp : s.createRefusal n (portOf h) k pred = none)
    (hr : s.admissionState = .active) :
    let r := ((s.madeBoth n h k c hs target link).admitted s.slotForNew).bind fun u =>
      u.admitted (s.starboardSlot n h k c hs target link)
    r.jobs = [.evaluate (portOf h) true, .evaluate (starboardOf h) true] ∧
    r.st.lasting = (s.madeBoth n h k c hs target link).lasting ∧
    r.st.slot s.slotForNew = some ((s.portOrder n h k c hs target link).enters .active none) ∧
    r.st.slot (s.starboardSlot n h k c hs target link) = some ((s.starboardOrder n h k c hs target link).enters .active none) ∧
    (∀ p, r.st.panel p = (s.madeBoth n h k c hs target link).panel p) ∧ s.watched n r.st := by
  subst hlink
  intro r
  have apart := starboardSlot_ne (c := c) (hs := hs) (target := target) (link := none) hl hu hp
  have port := madeBoth_port (c := c) (hs := hs) (target := target) (link := none) hl hu hp
  have starboard := madeBoth_starboard (s := s) (n := n) (h := h) (k := k) (c := c) (hs := hs) (target := target) (link := none)
  have kept := (madeBoth_kept (s := s) (n := n) (h := h) (k := k) (c := c) (hs := hs) (target := target) (link := none)).1
  have watch {t : State} := watched_madeBoth (s := s) (t := t) (n := n) (h := h) (k := k) (c := c) (hs := hs) (target := target)
    (link := none)
  have panels : (s.portOrder n h k c hs target none).panel = portOf h ∧
      (s.starboardOrder n h k c hs target none).panel = starboardOf h ∧
      (s.portOrder n h k c hs target none).issuer = n ∧ (s.starboardOrder n h k c hs target none).issuer = n :=
    ⟨rfl, rfl, rfl, rfl⟩
  have whole : r = ((s.madeBoth n h k c hs target none).admitted s.slotForNew).bind fun u =>
      u.admitted (s.starboardSlot n h k c hs target none) := rfl
  clear_value r
  generalize s.madeBoth n h k c hs target none = v at *
  generalize s.starboardSlot n h k c hs target none = j at *
  generalize s.portOrder n h k c hs target none = x at *
  generalize s.starboardOrder n h k c hs target none = y at *
  obtain ⟨portPanel, starboardPanel, portIssuer, starboardIssuer⟩ := panels
  have first := admitted_active port (kept.trans hr)
  have starboard' := (updateOrder_slot_ne (Ne.symm apart) fun o => o.enters .active none).trans starboard
  have second := admitted_active starboard' (((updateOrder_admission ..).trans kept).trans hr)
  have begun : r = ⟨(v.updateOrder s.slotForNew fun o => o.enters .active none).updateOrder j fun o => o.enters .active none,
      [.evaluate x.panel true, .evaluate y.panel true]⟩ := by
    rw [whole, first]
    unfold Res.bind
    dsimp only
    rw [second]
    rfl
  rw [begun]
  have firstLasting : (v.updateOrder s.slotForNew fun o => o.enters .active none).lasting = v.lasting :=
    lasting_updateOrder fun _ => rfl
  refine ⟨?_, ?_, ?_, updateOrder_slot_self starboard' _, fun p => ?_, watch (watched_trans (updateOrder_watched port ?_ rfl)
    (updateOrder_watched starboard' ?_ rfl) ?_)⟩
  · rw [portPanel, starboardPanel]
  · rw [← firstLasting]
    exact lasting_updateOrder fun _ => rfl
  · exact (updateOrder_slot_ne apart _).trans (updateOrder_slot_self port _)
  · rw [updateOrder_panel, updateOrder_panel]
  · exact portIssuer
  · exact starboardIssuer
  · rw [updateOrder_eq port]
    rfl

/-- Settles O18: both records are made before either order is admitted, and each is then moved on by its own sequencer. -/
theorem hatchOrderMakesBothOrders : Obligations.HatchOrderMakesBothOrders := by
  intro s n tag hatch kb cb hold pred target h k c hs hr hu hl ha hw hp hst made first both i j
  have hl := linked_iff.1 hl
  have portSlot := madeBoth_port (c := c) (hs := hs) (target := target) (link := s.linkOf pred) hl hu hp
  have starboardSlot := madeBoth_starboard (s := s) (n := n) (h := h) (k := k) (c := c) (hs := hs) (target := target)
    (link := s.linkOf pred)
  have others (m : SlotNo) := madeBoth_slot_ne (s := s) (j := m) (n := n) (h := h) (k := k) (c := c) (hs := hs)
    (target := target) (link := s.linkOf pred)
  have apart := starboardSlot_ne (c := c) (hs := hs) (target := target) (link := s.linkOf pred) hl hu hp
  have ids := madeBoth_ids (c := c) (hs := hs) (target := target) (link := s.linkOf pred) hl hu hp
  obtain ⟨portLive, starboardLive⟩ := madeBoth_live (s := s) (n := n) (h := h) (k := k) (c := c) (hs := hs)
    (target := target) (link := s.linkOf pred)
  have bothIs : both = s.madeBoth n h k c hs target (s.linkOf pred) := rfl
  have links : (s.portOrder n h k c hs target (s.linkOf pred)).pred = s.linkOf pred ∧
      (s.starboardOrder n h k c hs target (s.linkOf pred)).pred = s.linkOf pred := ⟨rfl, rfl⟩
  have states : (s.portOrder n h k c hs target (s.linkOf pred)).state = .pending ∧
      (s.starboardOrder n h k c hs target (s.linkOf pred)).state = .pending := ⟨rfl, rfl⟩
  have panels : (s.portOrder n h k c hs target (s.linkOf pred)).panel = portOf h ∧
      (s.starboardOrder n h k c hs target (s.linkOf pred)).panel = starboardOf h := ⟨rfl, rfl⟩
  clear_value both
  subst bothIs
  by_cases waits : ∃ m q, s.orderNamed pred = some (m, q) ∧ q.state.live = true
  · obtain ⟨m, q, named, live⟩ := waits
    have link := linkOf_live named live
    have ends : (((s.madeBoth n h k c hs target (s.linkOf pred)).enter s.slotForNew (s.linkOf pred)).bind fun u =>
        u.enter (s.starboardSlot n h k c hs target (s.linkOf pred)) (s.linkOf pred)).settle =
        s.madeBoth n h k c hs target (s.linkOf pred) := by
      generalize s.madeBoth n h k c hs target (s.linkOf pred) = v
      generalize s.starboardSlot n h k c hs target (s.linkOf pred) = j
      rw [link]
      exact settle_ok _
    have run := exec_hatched (tag := tag) hl hr hu ha hw hp hst rfl ends rfl rfl
    rw [stateByte_of portSlot, stateByte_of starboardSlot] at run
    obtain ⟨⟨h1, h2⟩, ⟨h3, h4⟩, ⟨h5, h6⟩, ⟨h7, h8, h9, h10, h11, h12, h13, h14, h15, h16⟩, h17, h18, h19⟩ :=
      createdBoth rfl portSlot starboardSlot rfl rfl tag (hatchReply k target (s.portOrder n h k c hs target (s.linkOf pred))
        (s.starboardOrder n h k c hs target (s.linkOf pred))
        (byteOf (OrderState.code (s.portOrder n h k c hs target (s.linkOf pred)).state))
        (byteOf (OrderState.code (s.starboardOrder n h k c hs target (s.linkOf pred)).state)))
    generalize s.madeBoth n h k c hs target (s.linkOf pred) = v at *
    generalize s.portOrder n h k c hs target (s.linkOf pred) = a at *
    generalize s.starboardOrder n h k c hs target (s.linkOf pred) = b at *
    refine ⟨_, a, b, _, _, run, h1, h2, apart, ids, h3, h4, h5, h6, h7, h8, h9, h10, h11, h12, h13, h14, h15, h16,
      fun o ho => (h17 o ho).trans (targetOf_eq ..), h18, h19, fun m' q' named' _ => ?_, fun free => ?_⟩
    · obtain rfl : q = q' := congrArg Prod.snd (Option.some.inj (named.symm.trans named'))
      refine ⟨fun o ho => ?_, ?_, ?_, others⟩
      · obtain rfl | ho := List.mem_cons.1 ho
        · refine ⟨states.1, links.1.trans link, ?_⟩
          rw [panels.1]
          exact portLive
        · obtain rfl := List.mem_singleton.1 ho
          refine ⟨states.2, links.2.trans link, ?_⟩
          rw [panels.2]
          exact starboardLive
      · rw [states.1]; rfl
      · rw [states.2]; rfl
    · rw [free m q named] at live
      cases live
  · have free : ∀ i q, s.orderNamed pred = some (i, q) → q.state.live = false := fun i q hq =>
      Bool.eq_false_iff.2 fun hl => waits ⟨i, q, hq, hl⟩
    have link := linkOf_none free
    have noLink : (s.portOrder n h k c hs target (s.linkOf pred)).pred = none ∧
        (s.starboardOrder n h k c hs target (s.linkOf pred)).pred = none := ⟨links.1.trans link, links.2.trans link⟩
    by_cases off : s.loopOpen = true ∨ s.supplyLow = true
    · obtain ⟨e, ends, last, ea, eb, others, kept⟩ := bothPaused (c := c) (hs := hs) (target := target) link hl hu hp
        ((admissionState_eq hu).trans (if_pos off))
      rw [← kept] at portLive starboardLive
      generalize hc : (if s.loopOpen = true then PauseReason.estop else PauseReason.supply) = cause at *
      have run := exec_hatched (tag := tag)
          (a := (s.portOrder n h k c hs target (s.linkOf pred)).enters (.paused cause) (some .active))
        (b := (s.starboardOrder n h k c hs target (s.linkOf pred)).enters (.paused cause) (some .active))
        hl hr hu ha hw hp hst rfl ends rfl rfl
      rw [stateByte_of ea, stateByte_of eb] at run
      obtain ⟨⟨h1, h2⟩, ⟨h3, h4⟩, ⟨h5, h6⟩, ⟨h7, h8, h9, h10, h11, h12, h13, h14, h15, h16⟩, h17, h18, h19⟩ :=
        createdBoth last ea eb rfl rfl tag (hatchReply k target
          ((s.portOrder n h k c hs target (s.linkOf pred)).enters (.paused cause) (some .active))
          ((s.starboardOrder n h k c hs target (s.linkOf pred)).enters (.paused cause) (some .active))
          (byteOf (OrderState.code (.paused cause))) (byteOf (OrderState.code (.paused cause))))
      generalize s.portOrder n h k c hs target (s.linkOf pred) = a at *
      generalize s.starboardOrder n h k c hs target (s.linkOf pred) = b at *
      refine ⟨_, _, _, _, _, run, h1, h2, apart, ids, h3, h4, h5, h6, h7, h8, h9, h10, h11, h12, h13, h14, h15, h16,
        fun o ho => (h17 o ho).trans (targetOf_eq ..), h18, h19, fun m q named hl => absurd hl (by simp [free m q named]),
        fun _ => ⟨noLink.1, noLink.2, fun _ => ⟨fun o ho => ?_, rfl, rfl, others⟩, fun closed good => ?_⟩⟩
      · obtain rfl | ho := List.mem_cons.1 ho
        · refine ⟨rfl, rfl, rfl, ?_⟩
          rw [h7]
          exact portLive
        · obtain rfl := List.mem_singleton.1 ho
          refine ⟨rfl, rfl, rfl, ?_⟩
          rw [h8]
          exact starboardLive
      · rw [closed, good] at off
        exact absurd off (by decide)
    · obtain ⟨jobs, entered, ea, eb, kept, watch⟩ := bothAdmitted (c := c) (hs := hs) (target := target) link hl hu hp
        ((admissionState_eq hu).trans (if_neg off))
      have newPort : ((s.portOrder n h k c hs target (s.linkOf pred)).enters .active none).Fresh :=
        ⟨rfl, rfl, rfl, rfl, rfl, rfl, rfl, noLink.1⟩
      have newStarboard : ((s.starboardOrder n h k c hs target (s.linkOf pred)).enters .active none).Fresh :=
        ⟨rfl, rfl, rfl, rfl, rfl, rfl, rfl, noLink.2⟩
      obtain ⟨a, sa, la, pa, ba, ra⟩ := admitted_settles ea newPort
      obtain ⟨b, sb, lb, pb, bb, rb⟩ := admitted_settles eb newStarboard
      have ida : a.id = (s.portOrder n h k c hs target (s.linkOf pred)).id := (Order.lasting_fields la).1
      have idb : b.id = (s.starboardOrder n h k c hs target (s.linkOf pred)).id := (Order.lasting_fields lb).1
      have last := (lasting_settle _).trans entered
      have ends : (((s.madeBoth n h k c hs target (s.linkOf pred)).enter s.slotForNew (s.linkOf pred)).bind fun u =>
          u.enter (s.starboardSlot n h k c hs target (s.linkOf pred)) (s.linkOf pred)).settle =
          (((s.madeBoth n h k c hs target (s.linkOf pred)).admitted s.slotForNew).bind fun u =>
            u.admitted (s.starboardSlot n h k c hs target (s.linkOf pred))).settle := by
        generalize s.madeBoth n h k c hs target (s.linkOf pred) = v
        generalize s.starboardSlot n h k c hs target (s.linkOf pred) = j
        rw [link]
        rfl
      have run := exec_hatched (tag := tag) (a := a) (b := b) hl hr hu ha hw hp hst rfl ends la lb
      obtain ⟨⟨h1, h2⟩, ⟨h3, h4⟩, ⟨h5, h6⟩, ⟨h7, h8, h9, h10, h11, h12, h13, h14, h15, h16⟩, h17, h18, h19⟩ :=
        createdBoth last sa sb la lb tag (hatchReply k target a b _ _)
      refine ⟨_, a, b, _, _, run, h1, h2, apart, (by rwa [ida, idb]), h3, h4, h5, h6, h7, h8, h9, h10, h11, h12, h13, h14, h15, h16,
        fun o ho => (h17 o ho).trans (targetOf_eq ..), h18, h19, fun m q named hl => absurd hl (by simp [free m q named]),
        fun _ => ⟨pa, pb, fun open' => absurd open' off, fun _ _ => ?_⟩⟩
      rw [← kept, ← ida, ← h7] at portLive
      rw [← kept, ← idb, ← h8] at starboardLive
      refine ⟨rfl, jobs, watch, fun m o hm => ?_, fun o st ho => ?_⟩
      · obtain e | hm := List.mem_cons.1 hm
        · cases e
          exact ⟨portLive, ba⟩
        · cases List.mem_singleton.1 hm
          exact ⟨starboardLive, bb⟩
      · obtain e | ho := List.mem_cons.1 ho
        · cases e
          exact ra
        · cases List.mem_singleton.1 ho
          exact rb

end Sys2Proof.Machine
end

section
/-! AMEND: what it stores, whatever it selects (R48 to R52). -/

namespace Sys2Proof.Machine

variable {s t u : State} {i j : SlotNo} {o q q' : Order} {n : StationNo} {tag id hold cls : Byte} {target : Half}
  {mask : BitVec 4} {h : Option StepKind} {c : OrderClass}

/-! ### An order and the replies, by what lasts of them -/

/-- `t`, with the reply queue of `s`, holds in a slot an order with the lasting fields of `q`. -/
def State.Stores (s t : State) (i : SlotNo) (q : Order) : Prop :=
  t.txQueue = s.txQueue ∧ ∃ o, t.slot i = some o ∧ o.lasting = q.lasting

theorem stores_lasting (hu : s.Stores u i q) (h : t.lasting = u.lasting) : s.Stores t i q := by
  obtain ⟨queue, o, ho, same⟩ := hu
  have kept := lasting_slot h i
  rw [ho] at kept
  obtain ⟨o', ho', same'⟩ := Option.map_eq_some_iff.1 kept
  have queue' : t.lasting.txQueue = u.lasting.txQueue := congrArg State.txQueue h
  exact ⟨queue'.trans queue, o', ho', same'.trans same⟩

theorem stores_modOrder (hu : s.Stores u i q) {f : Order → Order} (hf : ∀ o, o.lasting = q.lasting → (f o).lasting = q'.lasting) :
    s.Stores (u.modOrder i f) i q' := by
  obtain ⟨queue, o, ho, same⟩ := hu
  exact ⟨queue, f o, by rw [modOrder_slot_self, ho]; rfl, hf o same⟩

/-! ### The selections one by one -/

theorem lasting_retarget (s : State) (p : PanelNo) : (s.retarget p).st.lasting = s.lasting := by
  have replanned (t : Int) : (s.replan p t).st.lasting = s.lasting := lasting_modPanel fun _ => rfl
  unfold State.retarget
  repeat' split
  all_goals simp only [Res.ok_st, Res.lasting_add, lasting_setPhase, lasting_dropFlow]
  split
  · exact replanned _
  · simp only [Res.ok_st, lasting_setPhase, lasting_stopTravel]

theorem stores_amendTarget (hu : s.Stores u i q) (o : Order) (n : Int) :
    s.Stores (u.amendTarget i o n) i { q with target := some n } := by
  have stored : s.Stores (u.modOrder i fun o => { o with target := some n }) i { q with target := some n } :=
    stores_modOrder hu fun o e => by
      obtain ⟨e1, e2, e3, e4, e5, e6, e7, e8⟩ := Order.lasting_fields e
      simp [Order.lasting, e1, e2, e3, e4, e6, e7, e8]
  refine stores_lasting stored ((lasting_settle _).trans ?_)
  exact lasting_retarget ..

theorem stores_amendHold (hu : s.Stores u i q) (h : Option StepKind) :
    s.Stores (u.modOrder i fun o => { o with hold := h }) i { q with hold := h } :=
  stores_modOrder hu fun o e => by
    obtain ⟨e1, e2, e3, e4, e5, e6, e7, e8⟩ := Order.lasting_fields e
    simp [Order.lasting, e1, e2, e3, e4, e5, e6, e8]

theorem amendClass_of (hi : s.slot i = some o) (c : OrderClass) : s.amendClass i c =
    if o.cls ≠ c ∧ o.state = .active ∧ o.phase = some .flowWait then
      (s.modOrder i fun o => { o with cls := c }).rekey o.panel c
    else .ok (s.modOrder i fun o => { o with cls := c }) := by
  unfold State.amendClass
  rw [hi]

theorem stores_amendClass (hu : s.Stores u i q) (c : OrderClass) :
    s.Stores (u.amendClass i c).settle i { q with cls := c } := by
  have stored : s.Stores (u.modOrder i fun o => { o with cls := c }) i { q with cls := c } :=
    stores_modOrder hu fun o e => by
      obtain ⟨e1, e2, e3, e4, e5, e6, e7, e8⟩ := Order.lasting_fields e
      simp [Order.lasting, e1, e2, e3, e4, e5, e7, e8]
  refine stores_lasting stored ((lasting_settle _).trans ?_)
  obtain ⟨-, o, ho, -⟩ := hu
  rw [amendClass_of ho]
  split
  · exact lasting_rekey ..
  · rfl

theorem stores_clearPredecessor (hu : s.Stores u i q) : s.Stores (u.clearPredecessor i).settle i q := by
  refine stores_lasting hu ((lasting_settle _).trans ?_)
  unfold State.clearPredecessor
  repeat' split
  · rfl
  · rfl
  · exact lasting_unlink ..

theorem unlink_pred (ho : s.slot i = some o) : ∃ o', (s.unlink i).st.slot i = some o' ∧ o'.pred = none := by
  have cleared : (s.modOrder i fun o => { o with pred := none }).slot i = some { o with pred := none } := by
    rw [modOrder_slot_self, ho]
    rfl
  unfold State.unlink
  rw [ho]
  dsimp only
  split
  · unfold State.admitted
    rw [cleared]
    exact ⟨_, updateOrder_slot_self cleared _, rfl⟩
  · split
    · exact ⟨_, by rw [Res.ok_st, modOrder_slot_self, cleared]; rfl, rfl⟩
    · exact ⟨_, cleared, rfl⟩

theorem clearPredecessor_unlinked (ho : s.slot i = some o) : ∃ o', (s.clearPredecessor i).st.slot i = some o' ∧ o'.pred = none := by
  unfold State.clearPredecessor
  rw [ho]
  dsimp only
  split
  · rename_i unlinked
    exact ⟨o, ho, Option.isNone_iff_eq_none.1 unlinked⟩
  · exact unlink_pred ho

theorem clearPredecessor_pred (ho : s.slot i = some o) (hq : (s.clearPredecessor i).settle.slot i = some q) : q.pred = none := by
  obtain ⟨o', ho', unlinked⟩ := clearPredecessor_unlinked ho
  exact Changes.pred_none (changes_settle _) ho' unlinked q hq

/-! ### All of them -/

/-- The order with what an AMEND selects. -/
def Order.amended (o : Order) (mask : BitVec 4) (n : Int) (h : Option StepKind) (c : OrderClass) : Order :=
  { o with
    target := if mask.getLsbD 0 then some n else o.target
    hold := if mask.getLsbD 1 then h else o.hold
    cls := if mask.getLsbD 2 then c else o.cls }

/-- The unit after the selections of an AMEND. -/
def State.amended (s : State) (i : SlotNo) (o : Order) (mask : BitVec 4) (n : Int) (h : Option StepKind) (c : OrderClass) : State :=
  s.amend i o (if mask.getLsbD 0 then some n else none) (if mask.getLsbD 1 then some h else none)
    (if mask.getLsbD 2 then some c else none) (mask.getLsbD 3)

/-- AMEND as its four selections, one after another. -/
theorem amend_eq (s : State) (i : SlotNo) (o : Order) (n : Option Int) (h : Option (Option StepKind)) (c : Option OrderClass)
    (clear : Bool) : s.amend i o n h c clear =
      let targeted := n.elim s fun n => s.amendTarget i o n
      let held := h.elim targeted fun h => targeted.modOrder i fun o => { o with hold := h }
      let classed := c.elim held fun c => (held.amendClass i c).settle
      if clear then (classed.clearPredecessor i).settle else classed := by
  unfold State.amend
  cases n <;> cases h <;> cases c <;> rfl

/-- A selection that is made where its bit is set. -/
theorem stores_selected {α : Type} {b : Bool} {a : α} {f : α → State} (hu : s.Stores u i q) (hf : s.Stores (f a) i q') :
    s.Stores ((if b = true then some a else none).elim u f) i (if b = true then q' else q) := by
  cases b
  · exact hu
  · exact hf

theorem amended_stores (ho : s.slot i = some o) (mask : BitVec 4) (n : Int) (h : Option StepKind) (c : OrderClass) :
    s.Stores (s.amended i o mask n h c) i (o.amended mask n h c) ∧
      (mask.getLsbD 3 = true → ∀ o', (s.amended i o mask n h c).slot i = some o' → o'.pred = none) := by
  unfold State.amended Order.amended
  rw [amend_eq]
  have targeted := stores_selected (b := mask.getLsbD 0) (a := n) (f := fun n => s.amendTarget i o n)
    (⟨rfl, o, ho, rfl⟩ : s.Stores s i o) (stores_amendTarget ⟨rfl, o, ho, rfl⟩ o n)
  dsimp only
  generalize Option.elim (if mask.getLsbD 0 = true then some n else none) s _ = v at *
  have held := stores_selected (b := mask.getLsbD 1) (a := h) (f := fun h => v.modOrder i fun o => { o with hold := h })
    targeted (stores_amendHold targeted h)
  generalize Option.elim (if mask.getLsbD 1 = true then some h else none) v _ = w at *
  have classed := stores_selected (b := mask.getLsbD 2) (a := c) (f := fun c => (w.amendClass i c).settle) held
    (stores_amendClass held c)
  generalize Option.elim (if mask.getLsbD 2 = true then some c else none) w _ = x at *
  have stored : s.Stores x i (o.amended mask n h c) := by
    convert classed using 1
    unfold Order.amended
    split_ifs <;> rfl
  by_cases clear : mask.getLsbD 3 = true
  · rw [if_pos clear]
    have kept := stores_clearPredecessor stored
    obtain ⟨-, o', ho', -⟩ := stored
    exact ⟨kept, fun _ _ => clearPredecessor_pred ho'⟩
  · rw [if_neg clear]
    exact ⟨stored, fun hc => absurd hc clear⟩

/-! ### The request -/

/-- The selections of an AMEND that are made have values. -/
structure Amends (o : Order) (mask : BitVec 4) (hold cls : Byte) (h : Option StepKind) (c : OrderClass) : Prop where
  some : mask ≠ 0
  target : mask.getLsbD 0 = true → o.kind = .moveTo
  hold : mask.getLsbD 1 = true → holdArg hold = .some h ∧ ∀ k, h = .some k → k ∈ stepList o.kind
  cls : mask.getLsbD 2 = true → classArg cls.toNat = .some c

theorem amendHold_of (ha : Amends o mask hold cls h c) :
    amendHold o.kind mask hold = some (if mask.getLsbD 1 then some h else none) := by
  unfold amendHold
  by_cases b : mask.getLsbD 1 = true
  · obtain ⟨value, listed⟩ := ha.hold b
    rw [if_pos b, if_pos b, value]
    cases h with
    | none => rfl
    | some k => exact if_pos (List.contains_iff_mem.2 (listed k rfl))
  · rw [if_neg b, if_neg b]

theorem amendClassArg_of (ha : Amends o mask hold cls h c) :
    amendClassArg mask cls = some (if mask.getLsbD 2 then some c else none) := by
  unfold amendClassArg
  by_cases b : mask.getLsbD 2 = true
  · rw [if_pos b, if_pos b, ha.cls b]
    rfl
  · rw [if_neg b, if_neg b]

/-- The CLAMPED flag of the reply. -/
theorem clampByte (hs : Amends o mask hold cls h c) :
    byteOf (bit (mask.getLsbD 0 && s.targetClamped o.panel o.kind target.toInt) 1) =
      if mask.getLsbD 0 = true ∧ max 0 (min target.toInt (s.openCount o.panel)) ≠ target.toInt then 1 else 0 := by
  have either : (mask.getLsbD 0 && s.targetClamped o.panel o.kind target.toInt) = true ↔
      mask.getLsbD 0 = true ∧ max 0 (min target.toInt (s.openCount o.panel)) ≠ target.toInt := by
    unfold State.targetClamped State.limitTarget
    rw [Bool.and_eq_true]
    exact and_congr_right fun b => by simp [hs.target b]
  by_cases b : mask.getLsbD 0 = true ∧ max 0 (min target.toInt (s.openCount o.panel)) ≠ target.toInt
  · rw [if_pos b, either.2 b]; rfl
  · rw [if_neg b, Bool.eq_false_iff.2 (mt either.1 b)]; rfl

section
variable (hr : s.ready n) (hu : s.unit.working = true) (ho : s.orderNamed id = some (i, o)) (hn : o.issuer = n)
  (ha : s.authority n (hatchOf o.panel) = true) (hl : o.state.live = true)
include hr hu ho hn ha hl

theorem exec_amend (hs : Amends o mask hold cls h c) : exec (.amend n tag id mask hold cls target) s =
    .next (((s.taken n).amended i o mask (s.limitTarget o.panel target.toInt) h c).replied n tag .accepted
      [byteOf (bit (mask.getLsbD 0 && s.targetClamped o.panel o.kind target.toInt) 1),
        ((s.taken n).amended i o mask (s.limitTarget o.panel target.toInt) h c).stateByte i]) := by
  refine request_eq_replied (owner := ownerAmend n id mask hold cls target) hr ?_
  have unit : (s.taken n).unit.working = true := hu
  have may : (s.taken n).issuerWithAuthority n o = true := by
    have control : (s.taken n).mayControl n o = true := ha
    unfold State.issuerWithAuthority
    rw [hn, control]
    simp
  have listed : ¬ (mask.toNat = 0 ∨ mask.getLsbD 0 = true ∧ o.kind ≠ .moveTo) := by
    rintro (e | ⟨e, k⟩)
    · exact hs.some (BitVec.eq_of_toNat_eq e)
    · exact k (hs.target e)
  unfold ownerAmend
  rw [unit]
  refine (onOrder_of (s := s.taken n) ho may hl).trans ?_
  rw [if_neg listed, amendHold_of hs, amendClassArg_of hs]
  rfl

theorem amend_stores (hs : Amends o mask hold cls h c) :
    let q := max 0 (min target.toInt (s.openCount o.panel))
    ∃ t o', exec (.amend n tag id mask hold cls target) s = .next t ∧ t.slot i = some o' ∧
        o'.target = (if mask.getLsbD 0 then some q else o.target) ∧ o'.hold = (if mask.getLsbD 1 then h else o.hold) ∧
        o'.cls = (if mask.getLsbD 2 then c else o.cls) ∧ (mask.getLsbD 3 = true → o'.pred = none) ∧ o'.id = o.id ∧
        o'.issuer = o.issuer ∧ o'.panel = o.panel ∧ o'.kind = o.kind ∧ t.txQueue = s.txQueue ++ [replyTo n tag .accepted
          [if mask.getLsbD 0 = true ∧ q ≠ target.toInt then 1 else 0, byteOf o'.state.code]] := by
  intro q
  have slot : (s.taken n).slot i = some o := orderNamed_slot ho
  have run := exec_amend (tag := tag) (target := target) hr hu ho hn ha hl hs
  obtain ⟨⟨queue, o', ho', same⟩, unlinked⟩ := amended_stores slot mask (s.limitTarget o.panel target.toInt) h c
  obtain ⟨e1, e2, e3, e4, e5, e6, e7, -⟩ := Order.lasting_fields same
  rw [clampByte hs, stateByte_of ho'] at run
  generalize (s.taken n).amended i o mask (s.limitTarget o.panel target.toInt) h c = w at *
  exact ⟨_, o', run, ho', e5, e7, e6, fun b => unlinked b o' ho', e1, e2, e3, e4,
    congrArg (· ++ [replyTo n tag .accepted [_, _]]) queue⟩

/-- An AMEND of one selection other than TARGET. -/
theorem exec_amend_one (hs : Amends o mask hold cls h c) (ht : mask.getLsbD 0 = false)
    (he : (s.taken n).amended i o mask (s.limitTarget o.panel target.toInt) h c = t) :
    exec (.amend n tag id mask hold cls target) s = .next (t.replied n tag .accepted [0, t.stateByte i]) := by
  rw [exec_amend hr hu ho hn ha hl hs, he, ht]
  rfl

/-- An AMEND of the target. -/
theorem exec_amend_target (hk : o.kind = .moveTo) : exec (.amend n tag id 1 hold cls target) s =
    let q := max 0 (min target.toInt (s.openCount o.panel))
    let e := (s.taken n).amendTarget i o q
    .next (e.replied n tag .accepted [if q ≠ target.toInt then 1 else 0, e.stateByte i]) := by
  have chosen : Amends o 1 hold cls none .normal :=
    ⟨by decide, fun _ => hk, fun b => absurd b (by decide), fun b => absurd b (by decide)⟩
  have bit0 : (1 : BitVec 4).getLsbD 0 = true := rfl
  rw [exec_amend hr hu ho hn ha hl chosen, clampByte chosen]
  simp only [bit0, true_and]
  rfl

end

end Sys2Proof.Machine
end

section
/-! AMEND: the statement (R48 to R52, R83, R103, R128). -/

namespace Sys2Proof.Machine

variable {s t u : State} {p : PanelNo} {i j : SlotNo} {o q : Order} {n : StationNo} {tag id hold cls : Byte} {target : Half}
  {k : StepKind} {l : PackId} {v w : Waiter} {c : OrderClass} {m : Int}

/-! ### A re-key -/

theorem flow_of_waiting (one : s.onePlace) (hw : w ∈ (s.pack l).waiting) : s.flow w.panel = .waiting l w.demand := by
  have noGrant (j : PackId) : (s.pack j).grantOf w.panel = none := grantOf_eq_none.2 fun g hg e => by
    have kept := dropPanel_grants one hw j
    have : g ∈ ((s.pack j).dropPanel w.panel).grants := by rw [kept]; exact hg
    exact (mem_dropPanel.1 (List.mem_append_left _ (List.mem_map_of_mem this))).2 e
  have own := waiterOf_of_mem one hw
  have here : w.panel ∈ (s.pack l).panels := List.mem_append_right _ (List.mem_map_of_mem hw)
  obtain ⟨-, noWaiter⟩ := not_mem_panels.1 (one.placedOnce w.panel l here)
  have ga := noGrant .a
  have gb := noGrant .b
  unfold State.flow
  cases l
  · change s.packA.grantOf w.panel = none at ga
    change s.packB.grantOf w.panel = none at gb
    change s.packA.waiterOf w.panel = some w at own
    rw [ga, gb, own]
  · change s.packA.grantOf w.panel = none at ga
    change s.packB.grantOf w.panel = none at gb
    change s.packB.waiterOf w.panel = some w at own
    change s.packA.waiterOf w.panel = none at noWaiter
    rw [ga, gb, noWaiter, own]

theorem insertWaiter_eq (w : Waiter) : ∀ ws : List Waiter, insertWaiter w ws =
    ws.takeWhile (fun v => !w.ahead v) ++ w :: ws.dropWhile fun v => !w.ahead v
  | [] => rfl
  | v :: ws => by
    unfold insertWaiter
    by_cases h : w.ahead v = true
    · simp [h]
    · rw [if_neg h, insertWaiter_eq w ws]
      simp [h]

theorem rekeyed_eq (v : Waiter) (c : OrderClass) (ws : List Waiter) :
    rekeyed v c ws = insertWaiter { v with cls := c } (ws.filter fun w => w.panel != v.panel) := by
  have yields : (fun w : Waiter => decide (c = .rain ∧ w.cls = .normal ∨ c = w.cls ∧ w.arb < v.arb)) =
      fun w => ({ v with cls := c } : Waiter).ahead w := by
    funext w
    rw [Bool.eq_iff_iff, ahead_iff, decide_eq_true_iff]
    rfl
  have others : (fun w : Waiter => decide (w.panel ≠ v.panel)) = fun w => w.panel != v.panel := by
    funext w
    rw [Bool.eq_iff_iff, decide_eq_true_iff, bne_iff_ne]
  rw [insertWaiter_eq, ← others]
  unfold rekeyed
  dsimp only
  simp only [congrFun yields]

/-- A re-key leaves the entry in its new place, and a grant pass. -/
theorem rekey_eq (one : s.onePlace) (hv : v ∈ (s.pack l).waiting) (c : OrderClass) : s.rekey v.panel c =
    ⟨s.setPack { s.pack l with waiting := rekeyed v c (s.pack l).waiting } l, [.pass l]⟩ := by
  have grants := dropPanel_grants one hv l
  unfold State.rekey
  rw [flow_of_waiting one hv]
  dsimp only
  rw [waiterOf_of_mem one hv]
  unfold State.modPack
  dsimp only
  rw [rekeyed_eq]
  unfold Pack.insert
  rw [grants]
  rfl

/-! ### A new target -/

theorem served_step_modOrder (hi : s.slot i = some o) {f : Order → Order} (hid : (f o).id = o.id)
    (hst : (f o).state = o.state) (hkind : (f o).kind = o.kind) (hstep : (f o).step = o.step) (p : PanelNo) :
    ((s.modOrder i f).served p).map (·.2.2) = (s.served p).map (·.2.2) := by
  unfold State.served
  rw [modOrder_eq hi, liveOrder_setSlot hi hid]
  cases hl : s.liveOrder p with
  | none => rfl
  | some x =>
    obtain ⟨j, a⟩ := x
    by_cases e : j = i
    · obtain rfl : o = a := Option.some.inj (hi.symm.trans (e ▸ (liveOrder_some hl).1))
      simp only [Option.map_some, e, if_true, hst, hkind, hstep]
      split
      · rw [Option.map_map, Option.map_map]
        rfl
      · rfl
    · simp only [Option.map_some, e, if_false]

theorem retarget_other (h : (s.served p).map (·.2.2) ≠ some .travel) : s.retarget p = .ok s := by
  unfold State.retarget
  split
  · rename_i travels
    rw [travels] at h
    exact absurd rfl h
  · rfl

theorem ahead_iff_sign {pl : Plan} {m : Int} : s.ahead p m pl = true ↔
    (s.params.tuning.positionTolerance : Int) < pl.dir.sign * (m - (s.panel p).count) := by
  have tol : s.tol = (s.params.tuning.positionTolerance : Int) := rfl
  unfold State.ahead
  rw [Bool.and_eq_true, decide_eq_true_iff, decide_eq_true_iff, tol]
  generalize m - (s.panel p).count = d
  generalize s.params.tuning.positionTolerance = b
  cases pl.dir with
  | outward =>
    have sign : Dir.outward.sign = 1 := rfl
    rw [sign, Int.sign_eq_one_iff_pos, one_mul, gt_iff_lt, lt_abs]
    omega
  | inward =>
    have sign : Dir.inward.sign = -1 := rfl
    rw [sign, Int.sign_eq_neg_one_iff_neg, gt_iff_lt, lt_abs]
    omega

section
variable (h : s.served p = some (i, o, .travel)) (aim : o.target = some m)

include h aim in
theorem retarget_running {pl : Plan} (hp : o.phase = some .running) (plan : (s.panel p).plan = some pl) : s.retarget p =
    if s.ahead p m pl then s.replan p m else .ok ((s.stopTravel p).setPhase p i (some .braking) {} (some .reverse)) := by
  simp only [State.retarget, h, hp, plan, aim, Option.getD_some]

include h in
theorem retarget_braking (hp : o.phase = some .braking) : s.retarget p =
    if (s.panel p).purpose = some .complete then .ok (s.setPhase p i (some .braking) {} (some .reverse))
    else ⟨s, [.retest p]⟩ := by
  simp only [State.retarget, h, hp]

include h in
theorem retarget_waits (hp : o.phase = some .flowWait ∨ o.phase = some .interlockWait) : s.retarget p =
    ((s.setPhase p i none {} none).dropFlow p).add [.evaluate p true] := by
  obtain hp | hp := hp
  · simp only [State.retarget, h, hp]
  · simp only [State.retarget, h, hp]
end

/-- A travel that its new target stops: it brakes with purpose REVERSE, and its grant is kept (R103). -/
theorem reversed (hi : s.slot i = some o) (hm : (s.panel p).mode = .driven) :
    let t := (s.stopTravel p).setPhase p i (some .braking) {} (some .reverse)
    t.slot i = some { o with phase := some .braking, reasons := {} } ∧ t.panel p = { s.panel p with
      coils := (s.panel p).coils.travelOff, mode := .coasting, activity := .braking
      brakeTimer := some (s.now + s.params.tuning.brakingWindow), stall := .stopped, holdoff := none
      purpose := some .reverse } ∧ t.packA = s.packA ∧ t.packB = s.packB := by
  intro t
  have slot : (s.stopTravel p).slot i = some o := by rw [stopTravel_eq, modPanel_slot]; exact hi
  refine ⟨setPhase_slot slot .., ?_, ?_⟩
  · rw [setPhase_panel, stopTravel_panel]
    unfold Panel.stopped
    rw [if_pos hm]
  · have packs : (s.stopTravel p).packA = s.packA ∧ (s.stopTravel p).packB = s.packB := by
      rw [stopTravel_eq]
      exact ⟨rfl, rfl⟩
    exact packs

/-- A waiting travel gives up its request and is evaluated afresh (R49). -/
theorem retarget_fresh (h : s.served p = some (i, o, .travel)) (hp : o.phase = some .flowWait ∨ o.phase = some .interlockWait)
    (one : s.onePlace) : (s.retarget p).st.slot i = some { o with phase := none, reasons := {} } ∧
      (s.retarget p).st.flow p = .none ∧ ((s.retarget p).st.panel p).coils = (s.panel p).coils ∧
      (s.retarget p).jobs.getLast? = some (.evaluate p true) := by
  rw [retarget_waits h hp]
  refine ⟨?_, ?_, ?_, ?_⟩
  · rw [Res.add_st, slot_of_slots (dropFlow_slots ..)]
    exact setPhase_slot (served_slot h) ..
  · exact flow_dropFlow (s := s.setPhase p i none {} none) (one.placedOnce p)
  · rw [Res.add_st, dropFlow_panel, setPhase_panel]
  · exact List.getLast?_concat

/-- In SERVICE an order that waits on another no more is PAUSED (R52). -/
theorem clearPredecessor_service (hi : s.slot i = some o) (hs : s.unit = .service) (hp : o.state = .pending)
    (link : o.pred.isSome = true) : (s.clearPredecessor i).settle = (s.modOrder i fun o => { o with pred := none }).updateOrder i
      (fun o => o.enters (.paused .service) (some .active)) ∧ (s.clearPredecessor i).settle.lasting = s.lasting := by
  have stored : (s.modOrder i fun o => { o with pred := none }).slot i = some { o with pred := none } := by
    rw [modOrder_slot_self, hi]
    rfl
  have linked : ¬ o.pred.isNone = true := by
    cases e : o.pred with
    | none => rw [e] at link; cases link
    | some id => exact fun h => by cases h
  have state : (s.modOrder i fun o => { o with pred := none }).admissionState = .paused .service := by
    have unit : (s.modOrder i fun o => { o with pred := none }).unit = .service := hs
    unfold State.admissionState
    rw [unit]
    rfl
  have cleared : s.clearPredecessor i = (s.modOrder i fun o => { o with pred := none }).admitted i := by
    unfold State.clearPredecessor State.unlink
    rw [hi]
    dsimp only
    rw [if_neg linked, if_pos hp]
  have admitted := admitted_paused stored state
  refine ⟨?_, (lasting_settle _).trans ?_⟩
  · rw [cleared, admitted]
    exact settle_ok _
  · rw [cleared, lasting_admitted_order]
    exact lasting_modOrder fun _ => rfl

theorem modOrder_stores (hi : s.slot i = some o) (f : Order → Order) : (s.modOrder i f).slot i = some (f o) := by
  rw [modOrder_slot_self, hi]
  rfl

/-- Settles O19: whatever is selected is stored, and a new target or class of the step that is current is taken at once. -/
theorem amendStoresTheSelection : Obligations.AmendStoresTheSelection := by
  intro s n tag id hold cls target i o hr hu ho hn ha hl
  have slot : s.slot i = some o := orderNamed_slot ho
  have slot' : (s.taken n).slot i = some o := slot
  refine ⟨fun hk => ?_, fun hk => ?_, fun h hh listed => ?_, fun c hc => ?_, fun c hc => ?_, fun mask h c some ht hh hc => ?_, ?_,
    fun hs hp link => ?_⟩
  · have chosen : Amends o 1 hold cls none .normal :=
      ⟨by decide, fun _ => hk, fun b => absurd b (by decide), fun b => absurd b (by decide)⟩
    obtain ⟨t, o', run, ho', e1, e2, e3, -, e4, e5, -⟩ := amend_stores (tag := tag) (target := target) hr hu ho hn ha hl chosen
    exact ⟨t, o', run, ho', e1, e2, e3, e4, e5.trans hn⟩
  · intro p x tol m o2 u r y answered stays
    have run := exec_amend_target (tag := tag) (hold := hold) (cls := cls) (target := target) hr hu ho hn ha hl hk
    refine ⟨run, fun other => ?_, fun travels => ?_⟩
    · have same : r = .ok u := retarget_other ((served_step_modOrder slot' rfl rfl rfl rfl p).trans_ne other)
      have work : r.settle = u := by rw [same]; exact settle_ok u
      exact run.trans (congrArg (fun v => Host.Outcome.next (answered v)) work)
    · have stored : u.slot i = some o2 := modOrder_stores slot' _
      have aimed : u.served p = some (i, o2, .travel) := served_modOrder travels rfl rfl rfl rfl
      have packs : u.packA = s.packA ∧ u.packB = s.packB := ⟨rfl, rfl⟩
      have planOf : u.planFor p m = s.planFor p m := rfl
      refine ⟨fun pl running plan => ?_, fun braking completes => ?_, fun braking other => ?_, fun laws waits => ?_⟩
      · have known : r = if u.ahead p m pl then u.replan p m
            else .ok ((u.stopTravel p).setPhase p i (some .braking) {} (some .reverse)) := retarget_running aimed rfl running plan
        have sign : u.ahead p m pl = true ↔ tol < pl.dir.sign * (m - x.count) := ahead_iff_sign
        refine ⟨fun on => ?_, fun short driven => ?_⟩
        · rw [known, if_pos (sign.2 on)]
          exact ⟨rfl, rfl⟩
        · have stops : r = .ok ((u.stopTravel p).setPhase p i (some .braking) {} (some .reverse)) :=
            known.trans (if_neg fun e => absurd (sign.1 e) (not_lt.2 short))
          obtain ⟨e1, e2, e3, e4⟩ := reversed stored driven
          have panel : y = _ := (congrArg (fun r : Res => r.st.panel p) stops).trans e2
          rw [stops, panel]
          exact ⟨rfl, e1, rfl, rfl, rfl, rfl, rfl, rfl, rfl, (congrArg (·.st.packA) stops).trans e3,
            (congrArg (·.st.packB) stops).trans e4⟩
      · have known : r = .ok (u.setPhase p i (some .braking) {} (some .reverse)) :=
          (retarget_braking aimed braking).trans (if_pos completes)
        have panel : y = { x with purpose := some .reverse } :=
          (congrArg (fun r : Res => r.st.panel p) known).trans (setPhase_panel ..)
        rw [known, panel]
        exact ⟨rfl, rfl, setPhase_slot stored .., rfl, rfl, rfl, congrArg (·.st.packA) known, congrArg (·.st.packB) known⟩
      · have known : r = ⟨u, [.retest p]⟩ := (retarget_braking aimed braking).trans (if_neg other)
        rw [known]
        exact ⟨rfl, rfl⟩
      · exact retarget_fresh aimed waits (onePlace_of_flowLaws laws : s.onePlace)
  · have chosen : Amends o 2 hold cls h .normal :=
      ⟨by decide, fun b => absurd b (by decide), fun _ => ⟨hh, listed⟩, fun b => absurd b (by decide)⟩
    have run := exec_amend_one (tag := tag) (target := target) hr hu ho hn ha hl chosen rfl
      (rfl : _ = (s.taken n).modOrder i fun o => { o with hold := h })
    rw [stateByte_of (modOrder_stores slot' _)] at run
    exact run
  · have chosen : Amends o 4 hold cls none c :=
      ⟨by decide, fun b => absurd b (by decide), fun b => absurd b (by decide), fun _ => hc⟩
    obtain ⟨t, o', run, ho', e1, e2, e3, -, e4, -⟩ := amend_stores (tag := tag) (target := target) hr hu ho hn ha hl chosen
    exact ⟨t, o', run, ho', e3, e1, e2, e4⟩
  · have chosen : Amends o 4 hold cls none c :=
      ⟨by decide, fun b => absurd b (by decide), fun b => absurd b (by decide), fun _ => hc⟩
    intro u
    have stored := modOrder_stores slot' fun o => { o with cls := c }
    refine ⟨fun idle => ?_, fun l v laws active waits new hv hp => ?_⟩
    · have kept : ¬ (o.cls ≠ c ∧ o.state = .active ∧ o.phase = some .flowWait) := by
        rintro ⟨e1, e2, e3⟩
        exact idle.elim e1 fun e => e.elim (fun e => e e2) fun e => e e3
      have work : ((s.taken n).amendClass i c).settle = u := by
        rw [amendClass_of slot', if_neg kept]
        exact settle_ok _
      have run := exec_amend_one (tag := tag) (target := target) hr hu ho hn ha hl chosen rfl work
      rw [stateByte_of stored] at run
      exact run
    · have work : ((s.taken n).amendClass i c).settle =
          (Res.mk (u.setPack { s.pack l with waiting := rekeyed v c (s.pack l).waiting } l) [.pass l]).settle := by
        have packs (k : PackId) : u.pack k = s.pack k := by cases k <;> rfl
        have one : u.onePlace := (onePlace_of_flowLaws laws : s.onePlace)
        have re := rekey_eq one (v := v) (l := l) (by rw [packs]; exact hv) c
        rw [packs, hp] at re
        rw [amendClass_of slot', if_pos ⟨new, active, waits⟩]
        exact congrArg Res.settle re
      exact exec_amend_one (tag := tag) (target := target) hr hu ho hn ha hl chosen rfl work
  · exact amend_stores (tag := tag) (target := target) hr hu ho hn ha hl ⟨some, ht, hh, hc⟩
  · have chosen : Amends o 8 hold cls none .normal :=
      ⟨by decide, fun b => absurd b (by decide), fun b => absurd b (by decide), fun b => absurd b (by decide)⟩
    obtain ⟨t, o', run, ho', e1, e2, e3, e0, e4, -⟩ := amend_stores (tag := tag) (target := target) hr hu ho hn ha hl chosen
    exact ⟨t, o', run, ho', e0 rfl, e1, e2, e3, e4⟩
  · have chosen : Amends o 8 hold cls none .normal :=
      ⟨by decide, fun b => absurd b (by decide), fun b => absurd b (by decide), fun b => absurd b (by decide)⟩
    have unit : (s.taken n).unit = .service := hs
    obtain ⟨work, last⟩ := clearPredecessor_service slot' unit hp link
    have run := exec_amend_one (tag := tag) (target := target) hr hu ho hn ha hl chosen rfl work
    rw [work] at last
    have stored := modOrder_stores slot' fun o => { o with pred := none }
    have own := updateOrder_slot_self stored fun o => o.enters (.paused .service) (some .active)
    have panels := (updateOrder_panels stored fun o => o.enters (.paused .service) (some .active)).1
    have others (j : SlotNo) (hj : j ≠ i) := (updateOrder_slot_ne (s := (s.taken n).modOrder i fun o => { o with pred := none }) hj
      fun o => o.enters (.paused .service) (some .active)).trans ((modOrder_slot ..).trans (if_neg (Ne.symm hj)))
    rw [stateByte_of own] at run
    generalize ((s.taken n).modOrder i fun o => { o with pred := none }).updateOrder i
      (fun o => o.enters (.paused .service) (some .active)) = w at *
    exact ⟨_, run, own, others, panels, records_of_taken last, txQueue_of_taken last⟩

end Sys2Proof.Machine
end

section
/-! RAIN_CLOSE: what it does with one panel (R151 to R153). -/

namespace Sys2Proof.Machine

variable {s t u v : State} {p : PanelNo} {i j : SlotNo} {o q : Order} {n : StationNo} {r : Rain}

/-! ### The lines of the table -/

theorem statusCode_secured : s.statusCode p = 3 ↔ s.status p = .secured := by
  rw [statusCode_eq]
  cases s.status p <;> decide

theorem rainAction_skip (h : s.isLocal (hatchOf p) = true ∨ (s.panel p).faults ≠ []) : s.rainAction p = .skip := by
  unfold State.rainAction
  rw [if_pos (by simpa using h)]

section
variable (hl : s.isLocal (hatchOf p) = false) (hf : (s.panel p).faults = [])
include hl hf

theorem rainAction_lift (ho : s.liveOrder p = some (i, o)) (hk : o.kind.closes = true) : s.rainAction p = .lift i := by
  unfold State.rainAction
  rw [if_neg (by simp [hl, hf]), ho]
  exact if_pos hk

theorem rainAction_supersede (ho : s.liveOrder p = some (i, o)) (hk : o.kind.closes = false) : s.rainAction p = .supersede i := by
  unfold State.rainAction
  rw [if_neg (by simp [hl, hf]), ho]
  exact if_neg (by rw [hk]; decide)

theorem rainAction_leave (ho : s.liveOrder p = none) (hs : s.statusCode p = 3) : s.rainAction p = .none := by
  unfold State.rainAction
  rw [if_neg (by simp [hl, hf]), ho]
  exact if_pos (statusCode_secured.1 hs)

theorem rainAction_give (ho : s.liveOrder p = none) (hs : s.statusCode p ≠ 3) : s.rainAction p = .create := by
  unfold State.rainAction
  rw [if_neg (by simp [hl, hf]), ho]
  exact if_neg (mt statusCode_secured.2 hs)
end

/-! ### Raising a live order -/

theorem rekey_slots (s : State) (p : PanelNo) (c : OrderClass) : (s.rekey p c).st.slots = s.slots := by
  unfold State.rekey
  split
  · rename_i k _ _
    split
    · cases k <;> rfl
    · rfl
  · rfl

theorem amendClass_slot (ho : s.slot i = some o) (c : OrderClass) : (s.amendClass i c).st.slot i = some { o with cls := c } := by
  have stored := modOrder_stores ho fun o => { o with cls := c }
  rw [amendClass_of ho]
  split
  · rw [slot_of_slots (rekey_slots ..)]
    exact stored
  · exact stored

theorem changes_clearPredecessor (ho : s.slot i = some o) (hl : o.state.live = true) :
    Changes Leave.all s (s.clearPredecessor i).st := by
  unfold State.clearPredecessor
  rw [ho]
  dsimp only
  split
  · exact .refl
  · refine changes_unlink fun q hq => .inr ⟨?_, trivial⟩
    obtain rfl := Option.some.inj (ho.symm.trans hq)
    exact hl

theorem changes_work (r : Res) : Changes Leave.all r.st r.settle :=
  (changes_settle r).mono ⟨fun _ _ => trivial, fun _ _ _ => trivial, fun _ _ _ => trivial, fun _ => trivial⟩

/-- Everything that follows the new class is a change of a live order's work. -/
theorem changes_raiseOrder (ho : s.slot i = some o) (hl : o.state.live = true) :
    Changes Leave.all (s.modOrder i fun o => { o with cls := .rain }) (s.raiseOrder i).settle := by
  have classed : Changes Leave.all (s.modOrder i fun o => { o with cls := .rain }) (s.amendClass i .rain).st := by
    rw [amendClass_of ho]
    split
    · exact changes_rekey _
    · exact .refl
  exact (classed.trans (changes_clearPredecessor (amendClass_slot ho .rain) hl)).trans (changes_work (s.raiseOrder i))

theorem raiseOrder_stores (ho : s.slot i = some o) (hl : o.state.live = true) : ∃ q, (s.raiseOrder i).settle.slot i = some q ∧
    q.lasting = { o with cls := .rain }.lasting ∧ q.pred = none := by
  have stored := modOrder_stores ho fun o => { o with cls := .rain }
  have kept := lasting_slot (changes_raiseOrder ho hl).lasting i
  rw [stored] at kept
  obtain ⟨q, hq, same⟩ := Option.map_eq_some_iff.1 kept
  obtain ⟨q', hq', unlinked⟩ := clearPredecessor_unlinked (amendClass_slot ho .rain)
  exact ⟨q, hq, same, Changes.pred_none (changes_settle (s.raiseOrder i)) hq' unlinked q hq⟩

theorem setSlot_slot_same (s : State) (i : SlotNo) : s.setSlot i (s.slot i) = s := by
  unfold State.setSlot State.slot
  simp

/-- The predecessor of a raised order that neither waits nor was paused while it waited is no more than forgotten. -/
theorem clearPredecessor_plain (ho : s.slot i = some o) (hp : o.state ≠ .pending) (hw : o.pausedFrom ≠ some .pending) :
    s.clearPredecessor i = .ok (s.setSlot i (some { o with pred := none })) := by
  unfold State.clearPredecessor
  rw [ho]
  dsimp only
  split
  · rename_i unlinked
    have same : { o with pred := none } = o := by rw [← Option.isNone_iff_eq_none.1 unlinked]
    rw [same]
    rw [← ho, setSlot_slot_same]
  · unfold State.unlink
    rw [ho]
    dsimp only
    rw [if_neg hp, if_neg (fun h => hw h.2), modOrder_eq ho]

theorem clearPredecessor_paused (ho : s.slot i = some o) (hp : o.state.isPaused = true) (hw : o.pausedFrom = some .pending)
    (hl : o.pred.isSome = true) : s.clearPredecessor i =
      .ok (s.setSlot i (some { o with pred := none, pausedFrom := some .active, step := 1 })) := by
  have waits : ¬ o.state = .pending := fun e => by rw [e] at hp; cases hp
  have live : o.state.live = true := by cases e : o.state <;> simp_all [OrderState.isPaused, OrderState.live]
  have linked : ¬ o.pred.isNone = true := by
    cases e : o.pred with
    | none => rw [e] at hl; cases hl
    | some id => exact fun h => by cases h
  unfold State.clearPredecessor State.unlink
  rw [ho]
  dsimp only
  rw [if_neg linked, if_neg waits, if_pos ⟨live, hw⟩, modOrder_eq ho, modOrder_eq (setSlot_slot_self ..), setSlot_setSlot]

theorem amendClass_plain (ho : s.slot i = some o) {c : OrderClass} (h : o.phase ≠ some .flowWait ∨ o.state ≠ .active ∨ o.cls = c) :
    s.amendClass i c = .ok (s.setSlot i (some { o with cls := c })) := by
  rw [amendClass_of ho, if_neg, modOrder_eq ho]
  rintro ⟨h1, h2, h3⟩
  exact h.elim (fun e => e h3) fun h => h.elim (fun e => e h2) h1

theorem raiseOrder_plain (ho : s.slot i = some o) (hp : o.state ≠ .pending) (hw : o.pausedFrom ≠ some .pending)
    (h : o.phase ≠ some .flowWait ∨ o.state ≠ .active ∨ o.cls = .rain) :
    (s.raiseOrder i).settle = s.setSlot i (some { o with cls := .rain, pred := none }) := by
  have plain : s.raiseOrder i = .ok (s.setSlot i (some { o with cls := .rain, pred := none })) := by
    unfold State.raiseOrder
    rw [amendClass_plain ho h]
    unfold Res.bind
    dsimp only
    rw [Res.ok_st, clearPredecessor_plain (o := { o with cls := .rain }) (setSlot_slot_self ..) hp hw, setSlot_setSlot]
    rfl
  rw [plain, settle_ok]

theorem raiseOrder_paused (ho : s.slot i = some o) (hp : o.state.isPaused = true) (hw : o.pausedFrom = some .pending)
    (hl : o.pred.isSome = true) : (s.raiseOrder i).settle =
      s.setSlot i (some { o with cls := .rain, pred := none, pausedFrom := some .active, step := 1 }) := by
  have idle : o.state ≠ .active := fun e => by rw [e] at hp; cases hp
  have plain : s.raiseOrder i =
      .ok (s.setSlot i (some { o with cls := .rain, pred := none, pausedFrom := some .active, step := 1 })) := by
    unfold State.raiseOrder
    rw [amendClass_plain ho (.inr (.inl idle))]
    unfold Res.bind
    dsimp only
    rw [Res.ok_st, clearPredecessor_paused (o := { o with cls := .rain }) (setSlot_slot_self ..) hp hw hl, setSlot_setSlot]
    rfl
  rw [plain, settle_ok]

theorem raiseOrder_rekeyed {l : PackId} {v : Waiter} (ho : s.slot i = some o) (one : s.onePlace) (ha : o.state = .active)
    (hf : o.phase = some .flowWait) (hw : o.pausedFrom = none) (hc : o.cls ≠ .rain) (hv : v ∈ (s.pack l).waiting)
    (hp : v.panel = o.panel) : s.raiseOrder i = ⟨(s.setSlot i (some { o with cls := .rain, pred := none })).setPack
      { s.pack l with waiting := rekeyed v .rain (s.pack l).waiting } l, [.pass l]⟩ := by
  have packs (k : PackId) : (s.setSlot i (some { o with cls := .rain })).pack k = s.pack k := by cases k <;> rfl
  have stored := setSlot_slot_self s i (some { o with cls := .rain })
  have one' : (s.setSlot i (some { o with cls := .rain })).onePlace := one
  have re := rekey_eq one' (v := v) (l := l) (by rw [packs]; exact hv) .rain
  rw [packs, hp] at re
  have classed : s.amendClass i .rain = ⟨(s.setSlot i (some { o with cls := .rain })).setPack
      { s.pack l with waiting := rekeyed v .rain (s.pack l).waiting } l, [.pass l]⟩ := by
    rw [amendClass_of ho, if_pos ⟨hc, ha, hf⟩, modOrder_eq ho]
    exact re
  have own : ((s.setSlot i (some { o with cls := .rain })).setPack
      { s.pack l with waiting := rekeyed v .rain (s.pack l).waiting } l).slot i = some { o with cls := .rain } := by
    cases l <;> exact stored
  unfold State.raiseOrder
  rw [classed]
  unfold Res.bind
  dsimp only
  rw [clearPredecessor_plain own (by rw [ha]; decide) (by rw [hw]; decide)]
  have swap (x : Pack) (a b : Option Order) : ((s.setSlot i a).setPack x l).setSlot i b = (s.setSlot i b).setPack x l := by
    rw [← setSlot_setSlot s i a b]
    cases l <;> rfl
  rw [swap]
  rfl

/-! ### Giving an order -/

theorem slotForNew_free (h : s.slot j = none) : s.slot s.slotForNew = none := by
  unfold State.slotForNew
  cases e : allSlots.find? fun i => (s.slot i).isNone with
  | none => exact absurd (List.find?_eq_none.1 e j (List.mem_finRange j)) (by simp [h])
  | some k =>
    have found := List.find?_some e
    exact Option.isNone_iff_eq_none.1 found

/-- The record of the order that RAIN_CLOSE gives to a panel. -/
structure Order.RainFor (o : Order) (n : StationNo) (p : PanelNo) (created : Nat) : Prop where
  created : o.created = created
  panel : o.panel = p
  kind : o.kind = .close
  cls : o.cls = .rain
  issuer : o.issuer = n
  target : o.target = some 0
  hold : o.hold = none
  pred : o.pred = none

theorem Order.RainFor.moved {c : Nat} (h : o.RainFor n p c) (hl : q.lasting = o.lasting) (hp : q.pred = none) :
    q.RainFor n p c := by
  obtain ⟨-, e1, e2, e3, e4, e5, e6, e7⟩ := Order.lasting_fields hl
  obtain ⟨h1, h2, h3, h4, h5, h6, h7, -⟩ := h
  exact ⟨e7.trans h1, e2.trans h2, e3.trans h3, e5.trans h4, e1.trans h5, e4.trans h6, e6.trans h7, hp⟩

/-- The unit with the order for a panel made. -/
def State.rainMade (s : State) (n : StationNo) (p : PanelNo) : State := s.createOrder n p .close (some 0) .rain none none

/-- The order that is made. -/
def State.rainNew (s : State) (n : StationNo) (p : PanelNo) : Order := s.newOrder n p .close (some 0) .rain none none

theorem rainMade_slot (s : State) (n : StationNo) (p : PanelNo) (j : SlotNo) : (s.rainMade n p).slot j =
    if s.slotForNew = j then some (s.rainNew n p) else s.slot j := createOrder_slot ..

theorem rainNew_for (s : State) (n : StationNo) (p : PanelNo) : (s.rainNew n p).RainFor n p s.created :=
  ⟨rfl, rfl, rfl, rfl, rfl, rfl, rfl, rfl⟩

/-- What follows the making of the order: its admission and the work that it leaves. -/
theorem changes_rainOrder (s : State) (n : StationNo) (p : PanelNo) : Changes Leave.all (s.rainMade n p) (s.rainOrder n p).st := by
  refine changes_admitted fun o ho => .inl ?_
  rw [rainMade_slot, if_pos rfl] at ho
  obtain rfl := Option.some.inj ho
  rfl

theorem given_of_changes (h : Changes Leave.all (s.rainMade n p) t) :
    ∃ o, t.slot s.slotForNew = some o ∧ o.RainFor n p s.created := by
  have own : (s.rainMade n p).slot s.slotForNew = some (s.rainNew n p) := by rw [rainMade_slot, if_pos rfl]
  have kept := lasting_slot h.lasting s.slotForNew
  rw [own] at kept
  obtain ⟨o, ho, same⟩ := Option.map_eq_some_iff.1 kept
  exact ⟨o, ho, (rainNew_for s n p).moved same (Changes.pred_none h own rfl o ho)⟩

/-! ### The table of R151 -/

theorem take_lift (h : r.st.rainAction p = .lift i) : r.take n p =
    { r with st := (r.st.raiseOrder i).settle, raised := r.raised + 1 } := by
  unfold Rain.take
  rw [h]

theorem take_create (h : r.st.rainAction p = .create) : r.take n p =
    { r with st := (r.st.rainOrder n p).settle, created := r.created + 1 } := by
  unfold Rain.take
  rw [h]

/-- The unit with the live order of the panel superseded. -/
def State.superseded (s : State) (i : SlotNo) : State := (s.endOrder i (.cancelled .superseded)).st

theorem take_supersede (h : r.st.rainAction p = .supersede i) : ∃ js, r.take n p =
    { r with st := (Res.mk ((r.st.superseded i).rainOrder n p).st js).settle, created := r.created + 1 } := by
  unfold Rain.take
  rw [h]
  exact ⟨_, rfl⟩

theorem superseded_lasting (s : State) (i : SlotNo) : (s.superseded i).lasting = s.lasting := lasting_endOrder ..

theorem changes_superseded (s : State) (i : SlotNo) : Changes Leave.all s (s.superseded i) :=
  changes_endOrder rfl fun _ _ _ => .inl trivial

theorem take_given (h : r.st.rainAction p = .create) : Changes Leave.all (r.st.rainMade n p) (r.take n p).st := by
  rw [take_create h]
  exact (changes_rainOrder ..).trans (changes_work _)

theorem take_replaced (h : r.st.rainAction p = .supersede i) :
    Changes Leave.all ((r.st.superseded i).rainMade n p) (r.take n p).st := by
  obtain ⟨js, run⟩ := take_supersede (n := n) h
  rw [run]
  exact (changes_rainOrder ..).trans (changes_work (Res.mk ((r.st.superseded i).rainOrder n p).st js))

/-- A superseded order stands in its slot when a slot was FREE. -/
theorem superseded_kept (h : r.st.rainAction p = .supersede i) (ho : r.st.slot i = some o) (hl : o.state.live = true)
    (free : r.st.slot j = none) : ∃ q, (r.take n p).st.slot i = some q ∧ q.id = o.id ∧ q.state = .cancelled .superseded ∧
      q.finishedAt = some r.st.now := by
  obtain ⟨b, ended⟩ := endOrder_slot (st := .cancelled .superseded) ho hl rfl
  have ended : (r.st.superseded i).slot i = _ := ended
  have still : (r.st.superseded i).slot j = none := by
    cases e : (r.st.superseded i).slot j with
    | none => rfl
    | some x =>
      obtain ⟨y, hy, -⟩ := (changes_superseded r.st i).slot_from e
      rw [free] at hy
      cases hy
  have apart : (r.st.superseded i).slotForNew ≠ i := fun e => by
    have new := slotForNew_free still
    rw [e, ended] at new
    cases new
  have made := rainMade_slot (r.st.superseded i) n p i
  rw [if_neg apart, ended] at made
  exact ⟨_, (take_replaced h).finished made rfl, rfl, rfl, rfl⟩

end Sys2Proof.Machine
end

section
/-! RAIN_CLOSE: the statement (R151 to R153). -/

namespace Sys2Proof.Machine

variable {s t u : State} {p q : PanelNo} {i j : SlotNo} {o a b : Order} {n : StationNo} {r : Rain} {D : List PanelNo} {L : Leave}

/-! ### The lines of the table, read back -/

theorem rainAction_skips (h : s.rainAction p = .skip) : s.isLocal (hatchOf p) = true ∨ (s.panel p).faults ≠ [] := by
  by_contra hn
  obtain ⟨hl, hf⟩ := not_or.1 hn
  unfold State.rainAction at h
  rw [if_neg (by simpa using hn)] at h
  split at h
  · split at h <;> cases h
  · split at h <;> cases h

theorem rainAction_none (h : s.rainAction p = .none) : s.liveOrder p = none ∧ s.statusCode p = 3 := by
  unfold State.rainAction at h
  split at h
  · cases h
  · split at h
    · split at h <;> cases h
    · rename_i none'
      split at h
      · rename_i secured
        exact ⟨none', statusCode_secured.2 secured⟩
      · cases h

theorem rainAction_closes (h : s.rainAction p = .lift i) (ho : s.liveOrder p = some (i, o)) : o.kind.closes = true := by
  unfold State.rainAction at h
  rw [ho] at h
  split at h
  · cases h
  · dsimp only at h
    split at h
    · assumption
    · cases h

/-! ### What RAIN_CLOSE leaves alone -/

/-- What lasts, the order table apart. -/
def State.grounds (s : State) : State :=
  { s.lasting with slots := s.slots.map fun _ => none, idCounter := 1, created := 0 }

theorem grounds_of_lasting (h : t.lasting = s.lasting) : t.grounds = s.grounds := by
  have slots (v : State) : v.lasting.slots.map (fun _ => (none : Option Order)) = v.slots.map fun _ => none := by
    unfold State.lasting
    simp
  unfold State.grounds
  rw [← slots t, ← slots s, h]

theorem grounds_setSlot (s : State) (i : SlotNo) (o : Option Order) : (s.setSlot i o).grounds = s.grounds := by
  unfold State.grounds State.setSlot
  have slots : (s.slots.set i o).map (fun _ => (none : Option Order)) = s.slots.map fun _ => none := by
    apply Vector.ext
    intro k hk
    simp only [Vector.getElem_map]
  exact congrArg (fun v => { s.lasting with slots := v, idCounter := 1, created := 0 }) slots

theorem grounds_rainMade (s : State) (n : StationNo) (p : PanelNo) : (s.rainMade n p).grounds = s.grounds := by
  have last : ((s.setSlot s.slotForNew (some (s.rainNew n p))).modPanel p fun x => { x with live := some (s.rainNew n p).id }).lasting =
      (s.setSlot s.slotForNew (some (s.rainNew n p))).lasting := lasting_modPanel fun _ => rfl
  have same := (grounds_of_lasting last).trans (grounds_setSlot ..)
  unfold State.rainMade
  rw [createOrder_eq]
  exact same

theorem lasting_raiseOrder (ho : s.slot i = some o) :
    (s.raiseOrder i).settle.lasting = (s.modOrder i fun o => { o with cls := .rain }).lasting := by
  have cleared (v : State) : (v.clearPredecessor i).st.lasting = v.lasting := by
    unfold State.clearPredecessor
    repeat' split
    · rfl
    · rfl
    · exact lasting_unlink ..
  have classed : (s.amendClass i .rain).st.lasting = (s.modOrder i fun o => { o with cls := .rain }).lasting := by
    rw [amendClass_of ho]
    split
    · exact lasting_rekey ..
    · rfl
  exact (lasting_settle (s.raiseOrder i)).trans ((cleared (s.amendClass i .rain).st).trans classed)

theorem take_grounds (n : StationNo) (r : Rain) (p : PanelNo) : (r.take n p).st.grounds = r.st.grounds := by
  cases h : r.st.rainAction p with
  | none => unfold Rain.take; rw [h]
  | skip => unfold Rain.take; rw [h]
  | lift i =>
    rw [take_lift h]
    obtain ⟨o, ho⟩ := rainAction_order (.inl h)
    have slot := (liveOrder_some ho).1
    refine (grounds_of_lasting (lasting_raiseOrder slot)).trans ?_
    rw [modOrder_eq slot]
    exact grounds_setSlot ..
  | supersede i =>
    exact (grounds_of_lasting (take_replaced h).lasting).trans ((grounds_rainMade ..).trans
      (grounds_of_lasting (superseded_lasting ..)))
  | create => exact (grounds_of_lasting (take_given h).lasting).trans (grounds_rainMade ..)

theorem grounds_isLocal (h : t.grounds = s.grounds) (k : HatchNo) : t.isLocal k = s.isLocal k := by
  have layout : t.layout = s.layout := (congrArg State.layout h :)
  have selector : t.selector = s.selector := (congrArg State.selector h :)
  have due : t.selectorDue = s.selectorDue := (congrArg State.selectorDue h :)
  have now : t.now = s.now := (congrArg State.now h :)
  unfold State.isLocal State.hasSelector State.hatchConfigured
  rw [layout, selector, due, now]

theorem grounds_statusCode (h : t.grounds = s.grounds) (hp : t.panel p = s.panel p) : t.statusCode p = s.statusCode p := by
  have layout : t.layout = s.layout := (congrArg State.layout h :)
  have params : t.params = s.params := (congrArg State.params h :)
  have cleats : t.panelCleats p = s.panelCleats p := by
    unfold State.panelCleats State.cleatConfigured State.configured State.hatchConfigured
    rw [layout]
  unfold State.statusCode
  rw [openCount_congr layout, cleats, params, hp]

/-! ### Raised and given orders -/

/-- Every live order of the panel closes it, in class RAIN, and waits on none. -/
def State.rainedAt (s : State) (p : PanelNo) : Prop :=
  ∀ i o, s.slot i = some o → o.state.live = true → o.panel = p → o.kind.closes = true ∧ o.cls = .rain ∧ o.pred = none

theorem Change.rainedAt (h : Change L s t) (hs : s.rainedAt p) : t.rainedAt p := by
  intro i x hx hl hp
  obtain ⟨o, ho, rfl | moved⟩ := h.slot_from hx
  · exact hs i x ho hl hp
  · obtain ⟨-, -, e2, e3, -, e5, -, -⟩ := Order.lasting_fields moved.lasting
    obtain ⟨closes, rain, unlinked⟩ := hs i o ho moved.live (e2 ▸ hp)
    exact ⟨e3 ▸ closes, e5.trans rain, moved.pred.elim (fun e => e.trans unlinked) id⟩

theorem Changes.rainedAt (h : Changes L s t) (hs : s.rainedAt p) : t.rainedAt p := by
  induction h with
  | refl => exact hs
  | tail _ h ih => exact h.rainedAt ih

/-- A live order has come from a live one. -/
theorem Changes.live_from (h : Changes L s t) (hx : t.slot i = some a) (hl : a.state.live = true) :
    ∃ o, s.slot i = some o ∧ o.state.live = true ∧ a.lasting = o.lasting := by
  induction h generalizing a with
  | refl => exact ⟨a, hx, hl, rfl⟩
  | tail _ h ih =>
    obtain ⟨o, ho, same⟩ := Change.slot_from h hx
    obtain ⟨x, hx, live, kept⟩ := ih ho (Order.Moves.live' same hl)
    exact ⟨x, hx, live, (Order.Moves.lasting' same).trans kept⟩

theorem live_unique (hs : s.Linked) (ha : s.slot i = some a) (hb : s.slot j = some b) (la : a.state.live = true)
    (lb : b.state.live = true) (hp : a.panel = b.panel) : i = j := by
  have fa := hs.field i a ha la
  have fb := hs.field j b hb lb
  rw [hp, fb] at fa
  exact hs.ids i j a b ha hb (Option.some.inj fa).symm

theorem rainedAt_of_idle (hs : s.Linked) (h : (s.panel p).live = none) : s.rainedAt p := by
  intro i o ho hl hp
  have own := hs.field i o ho hl
  rw [hp, h] at own
  cases own

theorem rainedAt_rainMade (hs : s.rainedAt p) : (s.rainMade n q).rainedAt p := by
  intro i o ho hl hp
  rw [rainMade_slot] at ho
  split at ho
  · obtain rfl := Option.some.inj ho
    exact ⟨rfl, rfl, rfl⟩
  · exact hs i o ho hl hp

theorem rainedAt_modOrder (hs : s.rainedAt p) : (s.modOrder i fun o => { o with cls := .rain }).rainedAt p := by
  intro j x hx hl hp
  rw [modOrder_slot] at hx
  split at hx
  · obtain ⟨o, ho, rfl⟩ := Option.map_eq_some_iff.1 hx
    obtain ⟨closes, -, unlinked⟩ := hs _ o ho hl hp
    exact ⟨closes, rfl, unlinked⟩
  · exact hs j x hx hl hp

theorem take_lifted (hs : r.st.Linked) (h : r.st.rainAction p = .lift i) : ∃ o, r.st.slot i = some o ∧ o.state.live = true ∧
    o.panel = p ∧ o.kind.closes = true ∧
    Changes Leave.all (r.st.modOrder i fun o => { o with cls := .rain }) (r.take n p).st := by
  obtain ⟨o, ho⟩ := rainAction_order (.inl h)
  obtain ⟨slot, hp, live⟩ := live_of_liveOrder hs ho
  refine ⟨o, slot, live, hp, rainAction_closes h ho, ?_⟩
  rw [take_lift h]
  exact changes_raiseOrder slot live

theorem take_rainedAt (hs : r.st.Linked) (h : r.st.rainedAt q) : (r.take n p).st.rainedAt q := by
  cases e : r.st.rainAction p with
  | none => unfold Rain.take; rw [e]; exact h
  | skip => unfold Rain.take; rw [e]; exact h
  | lift i =>
    obtain ⟨-, -, -, -, -, run⟩ := take_lifted (n := n) hs e
    exact run.rainedAt (rainedAt_modOrder h)
  | supersede i => exact (take_replaced e).rainedAt (rainedAt_rainMade ((changes_superseded r.st i).rainedAt h))
  | create => exact (take_given e).rainedAt (rainedAt_rainMade h)

/-- What the panel that is taken is left with. -/
theorem take_rains (hs : r.st.Linked) (stand : r.st.faultedStand) (hl : r.st.isLocal (hatchOf p) = false) :
    (r.take n p).st.rainedAt p := by
  cases e : r.st.rainAction p with
  | none =>
    obtain ⟨idle, -⟩ := rainAction_none e
    unfold Rain.take
    rw [e]
    exact rainedAt_of_idle hs ((liveOrder_eq_none hs).1 idle)
  | skip =>
    have faulted : (r.st.panel p).faults ≠ [] :=
      (rainAction_skips e).resolve_left (by rw [hl]; decide)
    unfold Rain.take
    rw [e]
    obtain ⟨-, -, out⟩ := stand
    obtain ⟨-, idle, -⟩ := out p faulted
    exact rainedAt_of_idle hs idle
  | lift i =>
    obtain ⟨o, ho, live, hp, closes, run⟩ := take_lifted (n := n) hs e
    intro k x hx hlx hpx
    obtain ⟨y, hy, ly, same⟩ := run.live_from hx hlx
    obtain ⟨-, -, samePanel, sameKind, -, sameClass, -⟩ := Order.lasting_fields same
    rw [modOrder_slot] at hy
    have here : k = i := by
      split at hy
      · rename_i e
        exact e.symm
      · exact live_unique hs hy ho ly live ((samePanel.symm.trans hpx).trans hp.symm)
    subst here
    obtain ⟨z, hz, lastz, unlinked⟩ := raiseOrder_stores ho live
    rw [take_lift e] at hx
    obtain rfl := Option.some.inj (hz.symm.trans hx)
    rw [if_pos rfl, ho] at hy
    obtain rfl := Option.some.inj hy
    exact ⟨sameKind ▸ closes, sameClass, unlinked⟩
  | supersede i =>
    obtain ⟨o, ho⟩ := rainAction_order (.inr e)
    obtain ⟨slot, hp, live⟩ := live_of_liveOrder hs ho
    have idle : ((r.st.superseded i).panel p).live = none := hp ▸ endOrder_live slot live
    exact (take_replaced e).rainedAt (rainedAt_rainMade (rainedAt_of_idle ((changes_superseded r.st i).linked hs) idle))
  | create =>
    exact (take_given e).rainedAt (rainedAt_rainMade (rainedAt_of_idle hs ((liveOrder_eq_none hs).1 (rainAction_create e))))

/-! ### One panel after another -/

/-- Of a state of which the table is known to be sound. -/
def rainKnown : Known := { Known.bare (.rainClose 0 0) with sound := True }

theorem rainKnown_holds (s : State) : s.Holds rainKnown := ⟨Nat.zero_le _, fun i o h _ => by cases h⟩

/-- RAIN_CLOSE has taken the panels of `D`. -/
structure Rain.Took (s : State) (r : Rain) (D : List PanelNo) : Prop where
  rains : s.Rains rainKnown r.st
  grounds : r.st.grounds = s.grounds
  rained : ∀ p ∈ D, s.isLocal (hatchOf p) = false → r.st.rainedAt p

theorem Rain.Took.take (h : r.Took s D) (hs : s.Linked) (stand : s.faultedStand) (hu : s.unit = .run)
    (hc : s.configured p = true) (hk : s.stationKind n ≠ some .pendant) : (r.take n p).Took s (D ++ [p]) := by
  have linked : r.st.Linked := Acts.linked h.rains.acts trivial hs
  have stand' : r.st.faultedStand := Acts.faultedStand h.rains.acts trivial hs stand
  refine ⟨rains_take h.rains (fun _ => hs) (fun _ => rainKnown_holds s) hu hc hk, (take_grounds ..).trans h.grounds,
    fun q hq hl => ?_⟩
  obtain hq | hq := List.mem_append.1 hq
  · exact take_rainedAt linked (h.rained q hq hl)
  · obtain rfl := List.mem_singleton.1 hq
    exact take_rains linked stand' ((grounds_isLocal h.grounds _).trans hl)

theorem Rain.Took.fold (hs : s.Linked) (stand : s.faultedStand) (hu : s.unit = .run) (hk : s.stationKind n ≠ some .pendant) :
    ∀ (ps : List PanelNo) (D : List PanelNo) (r : Rain), (∀ p ∈ ps, s.configured p = true) → r.Took s D →
      (ps.foldl (Rain.take n) r).Took s (D ++ ps)
  | [], D, r, _, h => by rwa [List.append_nil]
  | p :: ps, D, r, hc, h => by
    have next := Rain.Took.fold hs stand hu hk ps (D ++ [p]) (r.take n p) (fun q hq => hc q (.tail _ hq))
      (h.take hs stand hu (hc p (.head _)) hk)
    rwa [List.append_assoc] at next

/-! ### An empty order table -/

/-- The panel is given an order, on an empty table. -/
def State.rainMay (s : State) (p : PanelNo) : Bool :=
  !s.isLocal (hatchOf p) && (s.panel p).faults.isEmpty && decide (s.statusCode p ≠ 3)

/-- The panel is skipped. -/
def State.rainSkips (s : State) (p : PanelNo) : Bool := s.isLocal (hatchOf p) || !(s.panel p).faults.isEmpty

/-- The slots that hold an order. -/
def State.heldSlots (s : State) : Finset SlotNo := Finset.univ.filter fun i => (s.slot i).isSome = true

/-- RAIN_CLOSE has taken the panels of `D`, on an empty order table. -/
structure Rain.Gave (s : State) (n : StationNo) (r : Rain) (D : List PanelNo) : Prop where
  linked : r.st.Linked
  grounds : r.st.grounds = s.grounds
  ahead : ∀ p ∉ D, r.st.panel p = s.panel p
  given : ∀ p ∈ D, s.rainMay p = true → ∃ i o c, r.st.slot i = some o ∧ o.RainFor n p c
  source : ∀ i o, r.st.slot i = some o → o.panel ∈ D ∧ s.isLocal (hatchOf o.panel) = false
  few : r.st.heldSlots.card ≤ D.length
  created : r.created = (D.filter s.rainMay).length
  raised : r.raised = 0
  skipped : r.skipped = (D.filter s.rainSkips).length

theorem heldSlots_lasting (h : t.lasting = s.lasting) : t.heldSlots = s.heldSlots := by
  unfold State.heldSlots
  congr 1
  funext i
  have same := congrArg Option.isSome (lasting_slot h i)
  rw [Option.isSome_map, Option.isSome_map] at same
  rw [same]

theorem heldSlots_rainMade (s : State) (n : StationNo) (p : PanelNo) :
    (s.rainMade n p).heldSlots.card ≤ s.heldSlots.card + 1 := by
  have within : (s.rainMade n p).heldSlots ⊆ insert s.slotForNew s.heldSlots := by
    intro i hi
    unfold State.heldSlots at *
    rw [Finset.mem_filter, rainMade_slot] at hi
    rw [Finset.mem_insert, Finset.mem_filter]
    split at hi
    · rename_i e
      exact .inl e.symm
    · exact .inr hi
  exact (Finset.card_le_card within).trans (Finset.card_insert_le ..)

theorem slotForNew_of_few (h : s.heldSlots.card < 24) : s.slot s.slotForNew = none := by
  by_contra hn
  have all : s.heldSlots = Finset.univ := by
    refine Finset.filter_true_of_mem fun i _ => ?_
    cases e : s.slot i with
    | some o => rfl
    | none => exact absurd (slotForNew_free e) hn
  rw [all] at h
  exact absurd h (by decide)

end Sys2Proof.Machine
end

section
/-! RAIN_CLOSE: the empty table, and the statement. -/

namespace Sys2Proof.Machine

variable {s t u : State} {p q : PanelNo} {i j : SlotNo} {o a b : Order} {n : StationNo} {r : Rain} {D : List PanelNo} {tag : Byte}

theorem admitted_panel (s : State) (i : SlotNo) (q : PanelNo) : (s.admitted i).st.panel q = s.panel q := by
  unfold State.admitted
  split
  · rfl
  · exact updateOrder_panel ..

theorem Rain.Gave.idle (h : r.Gave s n D) (empty : ∀ p, (s.panel p).live = none) (hp : p ∉ D) : r.st.liveOrder p = none := by
  rw [liveOrder_eq_none h.linked, h.ahead p hp]
  exact empty p

/-- A panel that is given no order, on an empty table. -/
theorem Rain.Gave.passes (h : r.Gave s n D) (may : s.rainMay p = false) (hr : (r.take n p).st = r.st)
    (created : (r.take n p).created = r.created) (raised : (r.take n p).raised = r.raised)
    (skipped : (r.take n p).skipped = r.skipped + if s.rainSkips p then 1 else 0) : (r.take n p).Gave s n (D ++ [p]) where
  linked := hr ▸ h.linked
  grounds := (congrArg State.grounds hr).trans h.grounds
  ahead := fun q hq => by
    rw [hr]
    exact h.ahead q fun hd => hq (List.mem_append_left _ hd)
  given := fun q hq hm => by
    rw [hr]
    obtain hq | hq := List.mem_append.1 hq
    · exact h.given q hq hm
    · rw [List.mem_singleton.1 hq, may] at hm
      cases hm
  source := fun i o ho => by
    rw [hr] at ho
    obtain ⟨hd, hl⟩ := h.source i o ho
    exact ⟨List.mem_append_left _ hd, hl⟩
  few := by
    rw [hr, List.length_append]
    exact h.few.trans (Nat.le_add_right ..)
  created := by rw [created, h.created, List.filter_append, List.filter_cons_of_neg (by simp [may])]; simp
  raised := raised.trans h.raised
  skipped := by
    rw [skipped, h.skipped, List.filter_append, List.length_append]
    cases e : s.rainSkips p <;> simp [e]

/-- A panel that is given an order, on an empty table. -/
theorem Rain.Gave.gives (h : r.Gave s n D) (empty : ∀ p, (s.panel p).live = none) (hu : r.st.unit = .run) (hp : p ∉ D)
    (hc : r.st.configured p = true) (small : D.length < 24) (may : s.rainMay p = true) (e : r.st.rainAction p = .create) :
    (r.take n p).Gave s n (D ++ [p]) := by
  have live : (r.st.panel p).live = none := by rw [h.ahead p hp]; exact empty p
  have free := slotForNew_of_few (h.few.trans_lt small)
  have run := take_given (n := n) e
  have made : (r.st.rainMade n p).Linked := linked_createOrder h.linked hu hc live
  have own : s.isLocal (hatchOf p) = false ∧ s.rainSkips p = false := by
    unfold State.rainMay at may
    unfold State.rainSkips
    simp only [Bool.and_eq_true, Bool.not_eq_true', List.isEmpty_iff] at may
    obtain ⟨⟨hl, hf⟩, -⟩ := may
    exact ⟨hl, by simp [hl, hf]⟩
  have kept (k : SlotNo) (x : Order) (hx : r.st.slot k = some x) : ∃ y, (r.take n p).st.slot k = some y ∧ y.lasting = x.lasting ∧
      (x.pred = none → y.pred = none) := by
    have there : (r.st.rainMade n p).slot k = some x := by
      rw [rainMade_slot, if_neg fun e => ?_]
      · exact hx
      · rw [e, hx] at free
        cases free
    have same := lasting_slot run.lasting k
    rw [there] at same
    obtain ⟨y, hy, last⟩ := Option.map_eq_some_iff.1 same
    exact ⟨y, hy, last, fun unlinked => Changes.pred_none run there unlinked y hy⟩
  refine ⟨run.linked made, (take_grounds ..).trans h.grounds, fun q hq => ?_, fun q hq hm => ?_, fun k x hx => ?_, ?_, ?_, ?_, ?_⟩
  · obtain ⟨hd, hne⟩ := not_or.1 (mt List.mem_append.2 hq)
    have apart : p ≠ q := fun e => hne (List.mem_singleton.2 e.symm)
    have entered : ((r.st.rainOrder n p).st.panel q) = r.st.panel q := by
      unfold State.rainOrder
      rw [admitted_panel, createOrder_panel, if_neg apart]
    have idle : ((r.st.rainOrder n p).st.panel q).live = none := by rw [entered, h.ahead q hd]; exact empty q
    have begun := (changes_rainOrder r.st n p).linked made
    have unit : (r.st.rainOrder n p).st.unit = .run := by
      have same := (grounds_of_lasting (changes_rainOrder r.st n p).lasting).trans (grounds_rainMade r.st n p)
      exact (congrArg State.unit same :).trans hu
    rw [take_create e]
    refine (settle_panel_eq begun idle fun j hj => ?_).trans (entered.trans (h.ahead q hd))
    obtain ⟨service, -⟩ := begun.jog j hj
    rw [unit] at service
    cases service
  · obtain hq | hq := List.mem_append.1 hq
    · obtain ⟨k, x, c, hx, rain⟩ := h.given q hq hm
      obtain ⟨y, hy, last, unlinked⟩ := kept k x hx
      exact ⟨k, y, c, hy, rain.moved last (unlinked rain.pred)⟩
    · obtain rfl := List.mem_singleton.1 hq
      obtain ⟨x, hx, rain⟩ := given_of_changes run
      exact ⟨_, x, _, hx, rain⟩
  · obtain ⟨y, hy, last⟩ := run.slot_from hx
    obtain ⟨-, -, samePanel, -⟩ := Order.lasting_fields last
    rw [rainMade_slot] at hy
    split at hy
    · obtain rfl := Option.some.inj hy
      rw [samePanel]
      exact ⟨List.mem_append_right _ (List.mem_singleton.2 rfl), own.1⟩
    · obtain ⟨hd, hl⟩ := h.source k y hy
      rw [samePanel]
      exact ⟨List.mem_append_left _ hd, hl⟩
  · rw [heldSlots_lasting run.lasting, List.length_append]
    exact (heldSlots_rainMade ..).trans (Nat.add_le_add_right h.few 1)
  · rw [take_create e, List.filter_append, List.filter_cons_of_pos may, List.length_append, ← h.created]
    rfl
  · rw [take_create e]
    exact h.raised
  · rw [take_create e, List.filter_append, List.filter_cons_of_neg (by simp [own.2]), List.length_append, ← h.skipped]
    rfl

theorem Rain.Gave.take (h : r.Gave s n D) (empty : ∀ p, (s.panel p).live = none) (hu : s.unit = .run) (hp : p ∉ D)
    (hc : s.configured p = true) (small : D.length < 24) : (r.take n p).Gave s n (D ++ [p]) := by
  have panel := h.ahead p hp
  have isLocal : r.st.isLocal (hatchOf p) = s.isLocal (hatchOf p) := grounds_isLocal h.grounds _
  have code : r.st.statusCode p = s.statusCode p := grounds_statusCode h.grounds panel
  have idle := h.idle empty hp
  by_cases bars : s.isLocal (hatchOf p) = true ∨ (s.panel p).faults ≠ []
  · have e : r.st.rainAction p = .skip := rainAction_skip (by rw [isLocal, panel]; exact bars)
    have skips : s.rainSkips p = true := by
      unfold State.rainSkips
      simpa using bars
    have may : s.rainMay p = false := by
      unfold State.rainMay
      obtain hl | hf := bars
      · simp [hl]
      · simp [hf]
    exact h.passes may (by unfold Rain.take; rw [e]) (by unfold Rain.take; rw [e]) (by unfold Rain.take; rw [e])
      (by unfold Rain.take; rw [e, skips]; rfl)
  · obtain ⟨hl, hf⟩ := not_or.1 bars
    have hl : s.isLocal (hatchOf p) = false := by simpa using hl
    have hf : (s.panel p).faults = [] := not_not.1 hf
    have skips : s.rainSkips p = false := by
      unfold State.rainSkips
      simp [hl, hf]
    by_cases secured : s.statusCode p = 3
    · have e : r.st.rainAction p = .none := rainAction_leave (isLocal.trans hl) (panel ▸ hf) idle (code.trans secured)
      have may : s.rainMay p = false := by
        unfold State.rainMay
        simp [secured]
      exact h.passes may (by unfold Rain.take; rw [e]) (by unfold Rain.take; rw [e]) (by unfold Rain.take; rw [e])
        (by unfold Rain.take; rw [e, skips]; rfl)
    · have e : r.st.rainAction p = .create := rainAction_give (isLocal.trans hl) (panel ▸ hf) idle (code.trans_ne secured)
      have may : s.rainMay p = true := by
        unfold State.rainMay
        simp [hl, hf, secured]
      have unit : r.st.unit = s.unit := (congrArg State.unit h.grounds :)
      have layout : r.st.layout = s.layout := (congrArg State.layout h.grounds :)
      exact h.gives empty (unit.trans hu) hp ((configured_congr layout p).trans hc) small may e

theorem Rain.Gave.fold (empty : ∀ p, (s.panel p).live = none) (hu : s.unit = .run) :
    ∀ (ps D : List PanelNo) (r : Rain), (∀ p ∈ ps, s.configured p = true) → (D ++ ps).Nodup → (D ++ ps).length ≤ 24 →
      r.Gave s n D → (ps.foldl (Rain.take n) r).Gave s n (D ++ ps)
  | [], D, r, _, _, _, h => by rwa [List.append_nil]
  | p :: ps, D, r, hc, once, small, h => by
    have new : p ∉ D := fun hd => List.disjoint_of_nodup_append once hd List.mem_cons_self
    have len : D.length < 24 := by
      rw [List.length_append, List.length_cons] at small
      omega
    rw [← List.singleton_append, ← List.append_assoc] at once small ⊢
    exact Rain.Gave.fold empty hu ps (D ++ [p]) (r.take n p) (fun q hq => hc q (.tail _ hq)) once small
      (h.take empty hu new (hc p (.head _)) len)

/-! ### The request -/

/-- The unit and the counts when RAIN_CLOSE has taken every panel. -/
def State.rainClosed (s : State) (n : StationNo) : Rain :=
  (allPanels.filter s.configured).foldl (Rain.take n) ⟨s.taken n, 0, 0, 0⟩

theorem exec_rainClose (hr : s.ready n) (hu : s.unit = .run) (hk : s.isKind n [.bridge, .cargoControl] = true) :
    exec (.rainClose n tag) s = .next ((s.rainClosed n).st.replied n tag .accepted
      [0, byteOf (s.rainClosed n).created, byteOf (s.rainClosed n).raised, byteOf (s.rainClosed n).skipped]) := by
  have answer : ownerRainClose n (s.taken n) = accept (s.rainClosed n).st false
      [byteOf (s.rainClosed n).created, byteOf (s.rainClosed n).raised, byteOf (s.rainClosed n).skipped] := by
    have unit : ¬ (s.taken n).unit ≠ .run := not_not_intro hu
    have kind : (s.taken n).isKind n [.bridge, .cargoControl] = true := hk
    unfold ownerRainClose
    rw [if_neg unit, if_neg (by simp [kind])]
    rfl
  exact request_accept hr answer tag

theorem rainClosed_took (hs : s.linked) (stand : s.faultedStand) (hu : s.unit = .run)
    (hk : s.isKind n [.bridge, .cargoControl] = true) :
    (s.rainClosed n).Took (s.taken n) (allPanels.filter s.configured) := by
  have linked : (s.taken n).Linked := linked_taken hs
  have kind : (s.taken n).stationKind n ≠ some .pendant := by
    obtain ⟨k, hm, hk⟩ := isKind_mem.1 hk
    intro e
    have same : s.stationKind n = some .pendant := e
    rw [hk] at same
    obtain rfl := Option.some.inj same
    exact absurd hm (by decide)
  exact Rain.Took.fold linked stand hu kind _ [] _ (fun p hp => (List.mem_filter.1 hp).2)
    ⟨.refl, rfl, fun p hp => absurd hp List.not_mem_nil⟩

theorem rainClosed_gave (hs : s.linked) (hu : s.unit = .run) (empty : ∀ i, s.slot i = none) :
    (s.rainClosed n).Gave (s.taken n) n (allPanels.filter s.configured) := by
  have linked : (s.taken n).Linked := linked_taken hs
  have idle (p : PanelNo) : ((s.taken n).panel p).live = none :=
    live_none_of_idle linked (fun i o ho => by
      have free : (s.taken n).slot i = none := empty i
      rw [free] at ho
      cases ho) p
  have none' : (s.taken n).heldSlots = ∅ := by
    refine Finset.filter_false_of_mem fun i _ => ?_
    have free : (s.taken n).slot i = none := empty i
    simp [free]
  refine Rain.Gave.fold (s := s.taken n) idle hu (allPanels.filter s.configured) [] ⟨s.taken n, 0, 0, 0⟩
      (fun p hp => (List.mem_filter.1 hp).2)
    (allPanels_nodup.filter _) ((List.length_filter_le _ allPanels).trans (by decide)) ?_
  refine ⟨linked, rfl, fun _ _ => rfl, fun p hp => absurd hp List.not_mem_nil, fun i o ho => ?_, by simp [none'], rfl, rfl, rfl⟩
  have free : (s.taken n).slot i = none := empty i
  rw [free] at ho
  cases ho

theorem filter_configured (f : PanelNo → Bool) :
    ((allPanels.filter s.configured).filter f).length = (allPanels.filter fun p => s.configured p && f p).length := by
  rw [List.filter_filter]
  congr 2
  funext p
  exact Bool.and_comm ..

theorem rainMay_taken : (fun p => s.configured p && (s.taken n).rainMay p) = fun p =>
    s.configured p && !s.isLocal (hatchOf p) && (s.panel p).faults.isEmpty && decide (s.statusCode p ≠ 3) := by
  funext p
  have own : (s.taken n).rainMay p = (!s.isLocal (hatchOf p) && (s.panel p).faults.isEmpty && decide (s.statusCode p ≠ 3)) := rfl
  rw [own, ← Bool.and_assoc, ← Bool.and_assoc]

/-- Settles O31: the table of R151 line by line; over all panels, each panel that is taken stays as it was left. -/
theorem rainCloseClosesEveryPanel : Obligations.RainCloseClosesEveryPanel := by
  refine ⟨fun s n tag hr hu hk => ?_, fun s n p c r k => ?_⟩
  · intro w t
    have run : exec (.rainClose n tag) s = .next t := exec_rainClose hr hu hk
    refine ⟨run, fun hs stand i o ho live open' => ?_, fun hs _ empty => ?_⟩
    · have took := rainClosed_took (n := n) hs stand hu hk
      have linked : w.st.Linked := Acts.linked took.rains.acts trivial (linked_taken hs)
      have configured : s.configured o.panel = true :=
        (configured_congr took.rains.layout o.panel).symm.trans (linked.configured i o ho live)
      exact took.rained o.panel (List.mem_filter.2 ⟨List.mem_finRange _, configured⟩) open' i o ho live rfl
    · have gave := rainClosed_gave (n := n) hs hu empty
      refine ⟨fun p hc hl hf hp => ?_, fun i o ho => ?_, ?_⟩
      · have may : (s.taken n).rainMay p = true := by
          have hl : (s.taken n).isLocal (hatchOf p) = false := hl
          have hf : ((s.taken n).panel p).faults = [] := hf
          have hp : (s.taken n).statusCode p ≠ 3 := hp
          unfold State.rainMay
          simp [hl, hf, hp]
        obtain ⟨i, o, c, ho, rain⟩ := gave.given p (List.mem_filter.2 ⟨List.mem_finRange _, hc⟩) may
        exact ⟨i, o, ho, rain.panel, rain.kind, rain.cls, rain.issuer, rain.target, rain.hold⟩
      · obtain ⟨hd, hl⟩ := gave.source i o ho
        exact ⟨(List.mem_filter.1 hd).2, hl⟩
      · have queue : w.st.txQueue = s.txQueue := (congrArg State.txQueue gave.grounds :)
        have created : w.created = _ := gave.created.trans (filter_configured (s.taken n).rainMay)
        have raised : w.raised = 0 := gave.raised
        have skipped : w.skipped = _ := gave.skipped.trans (filter_configured (s.taken n).rainSkips)
        have replied : t.txQueue = w.st.txQueue ++ [replyTo n tag .accepted [0, byteOf w.created, byteOf w.raised,
          byteOf w.skipped]] := rfl
        rw [replied, queue, created, raised, skipped, rainMay_taken]
        rfl
  · intro w counts gives
    refine ⟨fun bars => ?_, fun hl hf => ⟨fun i o ho live closes => ?_, fun i o ho live closes => ?_, fun i o j ho live closes free => ?_,
      fun idle => ⟨fun secured => ?_, fun other => ?_⟩⟩⟩
    · have e : w = ⟨s, c, r, k + 1⟩ := by
        change Rain.take n ⟨s, c, r, k⟩ p = _
        unfold Rain.take
        rw [rainAction_skip bars]
      exact ⟨⟨congrArg Rain.created e, congrArg Rain.raised e, congrArg Rain.skipped e⟩, congrArg Rain.st e⟩
    · have slot := (liveOrder_some ho).1
      have e : w = ⟨(s.raiseOrder i).settle, c, r + 1, k⟩ := take_lift (rainAction_lift hl hf ho closes)
      have st : w.st = (s.raiseOrder i).settle := congrArg Rain.st e
      rw [st]
      obtain ⟨q, hq, last, unlinked⟩ := raiseOrder_stores slot live
      obtain ⟨e1, e2, -, e4, -, e6, e7, -⟩ := Order.lasting_fields last
      refine ⟨⟨congrArg Rain.created e, congrArg Rain.raised e, congrArg Rain.skipped e⟩, ⟨q, hq, e6, unlinked, e7, e1, e2, e4⟩, raiseOrder_plain slot, fun l v laws ha hph hw hc hv hp => ?_,
        raiseOrder_paused slot⟩
      exact congrArg Res.settle (raiseOrder_rekeyed slot (onePlace_of_flowLaws laws) ha hph hw hc hv hp)
    · have slot := (liveOrder_some ho).1
      have e : (Rain.mk s c r k).st.rainAction p = .supersede i := rainAction_supersede hl hf ho closes
      obtain ⟨js, run⟩ := take_supersede (n := n) e
      have changes := take_replaced (n := n) e
      obtain ⟨o', ho', rain⟩ := given_of_changes changes
      have created : (s.superseded i).created = s.created := lasting_created (superseded_lasting s i)
      have w' : w = _ := run
      refine ⟨⟨⟨congrArg Rain.created w', congrArg Rain.raised w', congrArg Rain.skipped w'⟩, _, o', ho', rain.created.trans created,
        rain.panel, rain.kind, rain.cls, rain.issuer, rain.target, rain.hold, rain.pred⟩, fun hs => ?_⟩
      have latched : .orderCancelled ∈ (s.superseded i).latches := endOrder_latched (st := .cancelled .superseded) slot live hs
      have made : .orderCancelled ∈ ((s.superseded i).rainMade n p).latches := by
        unfold State.rainMade
        rw [createOrder_eq]
        exact latched
      exact Changes.latches changes made
    · exact superseded_kept (r := ⟨s, c, r, k⟩) (rainAction_supersede hl hf ho closes) (liveOrder_some ho).1 live free
    · have e : w = ⟨s, c, r, k⟩ := by
        change Rain.take n ⟨s, c, r, k⟩ p = _
        unfold Rain.take
        rw [rainAction_leave hl hf idle secured]
      exact ⟨⟨congrArg Rain.created e, congrArg Rain.raised e, congrArg Rain.skipped e⟩, congrArg Rain.st e⟩
    · have e : (Rain.mk s c r k).st.rainAction p = .create := rainAction_give hl hf idle other
      obtain ⟨o', ho', rain⟩ := given_of_changes (take_given (n := n) e)
      have w' : w = _ := take_create e
      exact ⟨⟨congrArg Rain.created w', congrArg Rain.raised w', congrArg Rain.skipped w'⟩, _, o', ho', rain.created,
        rain.panel, rain.kind, rain.cls, rain.issuer, rain.target, rain.hold, rain.pred⟩

end Sys2Proof.Machine
end

section
/-! The laws of the coils and of the flow, one panel at a time: what owns a coil, what a begun step and a jog give a panel, and
what of a panel's record the laws depend on. -/

namespace Sys2Proof.Machine

variable {s t u : State} {p q : PanelNo} {i j : SlotNo} {o : Order} {k : StepKind} {X Y : PanelNo → Prop}

/-! ### The begun step of a panel -/

/-- The kind and the phase of the step that the panel's sequencer has begun. -/
def State.phaseAt (s : State) (p : PanelNo) : Option (StepKind × Phase) :=
  (s.served p).bind fun x => x.2.1.phase.map fun ph => (x.2.2, ph)

theorem phaseAt_of_served (h : s.served p = some (i, o, k)) : s.phaseAt p = o.phase.map fun ph => (k, ph) := by
  simp [State.phaseAt, h]

theorem phaseAt_unserved (h : s.served p = none) : s.phaseAt p = none := by simp [State.phaseAt, h]

theorem phaseAt_some {ph : Phase} : s.phaseAt p = some (k, ph) ↔ ∃ i o, s.served p = some (i, o, k) ∧ o.phase = some ph := by
  constructor
  · intro h
    cases hs : s.served p with
    | none => rw [phaseAt_unserved hs] at h; cases h
    | some x =>
      obtain ⟨i, o, r⟩ := x
      rw [phaseAt_of_served hs] at h
      obtain ⟨ph', hph, e⟩ := Option.map_eq_some_iff.1 h
      obtain ⟨rfl, rfl⟩ := Prod.mk.inj e
      exact ⟨i, o, rfl, hph⟩
  · rintro ⟨i, o, hs, hph⟩
    rw [phaseAt_of_served hs, hph]
    rfl

theorem stepRuns_iff : s.stepRuns p k ↔ s.phaseAt p = some (k, .running) := phaseAt_some.symm

theorem begun_iff : (∃ i o q, s.served p = some (i, o, q) ∧ o.phase ≠ none) ↔ s.phaseAt p ≠ none := by
  constructor
  · rintro ⟨i, o, q, hs, hph⟩
    rw [phaseAt_of_served hs]
    simpa using hph
  · intro h
    obtain ⟨⟨k, ph⟩, hx⟩ := Option.ne_none_iff_exists'.1 h
    obtain ⟨i, o, hs, hph⟩ := phaseAt_some.1 hx
    exact ⟨i, o, k, hs, by simp [hph]⟩

/-- The begun step of the panel and the jog that is on it go on. -/
structure State.GoesOn (q : PanelNo) (s t : State) : Prop where
  phase : s.phaseAt q ≠ none → t.phaseAt q = s.phaseAt q
  jog : ∀ j, s.jog = some j → j.panel = q → t.jog = some j

namespace State.GoesOn

theorem refl (q : PanelNo) (s : State) : s.GoesOn q s := ⟨fun _ => rfl, fun _ h _ => h⟩

theorem trans (a : s.GoesOn q t) (b : t.GoesOn q u) : s.GoesOn q u where
  phase := fun h => (b.phase (by rwa [a.phase h])).trans (a.phase h)
  jog := fun j hj hq => b.jog j (a.jog j hj hq) hq

theorem stepRuns (h : s.GoesOn q t) (hr : s.stepRuns q k) : t.stepRuns q k := by
  rw [stepRuns_iff] at hr ⊢
  rw [h.phase (by simp [hr]), hr]

theorem jogRuns {c : Coil} (h : s.GoesOn q t) : s.jogRuns q c → t.jogRuns q c := by
  rintro ⟨j, hj, hq, hc⟩
  exact ⟨j, h.jog j hj hq, hq, hc⟩

end State.GoesOn

/-! ### The coils of a panel -/

/-- The coil of a step of kind `k` is on, or its travel runs. -/
def Panel.works (x : Panel) : StepKind → Prop
  | .lift => x.coils.liftUp = true
  | .lower => x.coils.liftDown = true
  | .travel => x.driving
  | .cleat g => x.coils.get (.cleatEng g) = true
  | .uncleat _ | .lockStow | .unlockStow => False

/-- No coil of which the laws speak is on. -/
def Panel.resting (x : Panel) : Prop := ∀ k, ¬ x.works k

theorem Panel.resting_of_off {x : Panel} (hc : x.coils = {}) (hm : x.mode ≠ .driven) : x.resting := by
  intro k
  cases k <;> simp [Panel.works, Panel.driving, hc, hm]

/-- What is on in `y` was on in `x`, under the same travel or move. -/
structure Panel.Bears (x y : Panel) : Prop where
  works : ∀ k, y.works k → x.works k
  mode : y.driving → x.mode = .driven → y.mode = .driven
  move : ∀ g, y.works (.cleat g) → ∀ m, x.move = some m →
    ∃ m', y.move = some m' ∧ m'.group = m.group ∧ m'.dir = m.dir ∧ m'.byJog = m.byJog

/-- Besides, the switches and the cleats by which the laws go stand as they stood. -/
structure Panel.Rests (x y : Panel) : Prop extends Panel.Bears x y where
  seat : y.seat = x.seat
  stow : y.sw.stowLocked = x.sw.stowLocked
  cleats : ∀ c : CleatNo, x.cleats[c].state.doneUncleat = true → y.cleats[c].state.doneUncleat = true

theorem Panel.Bears.of_same {x y : Panel} (hc : y.coils = x.coils) (hm : y.mode = x.mode) (hv : y.move = x.move) :
    x.Bears y where
  works := fun k => by cases k <;> simp [Panel.works, Panel.driving, hc, hm]
  mode := fun _ h => hm.trans h
  move := fun _ _ m h => ⟨m, hv.trans h, rfl, rfl, rfl⟩

theorem Panel.Rests.of_same {x y : Panel} (hc : y.coils = x.coils) (hm : y.mode = x.mode) (hv : y.move = x.move)
    (hs : y.seat = x.seat) (ht : y.sw.stowLocked = x.sw.stowLocked) (hk : y.cleats = x.cleats) : x.Rests y :=
  ⟨.of_same hc hm hv, hs, ht, fun c h => by rwa [hk]⟩

theorem Panel.Rests.refl (x : Panel) : x.Rests x := .of_same rfl rfl rfl rfl rfl rfl

theorem Panel.Bears.trans {x y z : Panel} (a : x.Bears y) (b : y.Bears z) : x.Bears z where
  works := fun k h => a.works k (b.works k h)
  mode := fun h hm => b.mode h (a.mode (b.works .travel h) hm)
  move := fun g h m hm => by
    obtain ⟨m', hm', e1, e2, e3⟩ := a.move g (b.works _ h) m hm
    obtain ⟨m'', hm'', f1, f2, f3⟩ := b.move g h m' hm'
    exact ⟨m'', hm'', f1.trans e1, f2.trans e2, f3.trans e3⟩

theorem Panel.Rests.trans {x y z : Panel} (a : x.Rests y) (b : y.Rests z) : x.Rests z :=
  ⟨a.toBears.trans b.toBears, b.seat.trans a.seat, b.stow.trans a.stow, fun c h => b.cleats c (a.cleats c h)⟩

theorem Panel.Rests.of_unassigned {x y : Panel} (h : y.unassigned = x.unassigned) : x.Rests y :=
  .of_same (congrArg Panel.coils h :) (congrArg Panel.mode h :) (congrArg Panel.move h :) (congrArg Panel.seat h :)
    (congrArg (fun z : Panel => z.sw.stowLocked) h :) (congrArg Panel.cleats h :)

theorem Panel.Bears.resting {x y : Panel} (h : x.Bears y) (hx : x.resting) : y.resting := fun k hk => hx k (h.works k hk)

/-! ### The laws of the coils, panel by panel -/

/-- A RUNNING step of kind `k` or a jog of its coil is what a coil of that kind belongs to. -/
def State.owns (s : State) (p : PanelNo) : StepKind → Prop
  | .lift => s.stepRuns p .lift ∨ s.jogRuns p .liftUp
  | .lower => s.stepRuns p .lower ∨ s.jogRuns p .liftDown
  | .travel => (s.panel p).mode = .driven ∧ (s.stepRuns p .travel ∨ s.jogRuns p .travelOut ∨ s.jogRuns p .travelIn)
  | .cleat g => ∃ m, (s.panel p).move = some m ∧ m.group = g ∧ m.dir = .engage ∧
      if m.byJog then s.jogRuns p (.cleatEng g) else s.stepRuns p (.cleat g)
  | .uncleat _ | .lockStow | .unlockStow => True

/-- Every coil of the panel has its owner. -/
def State.ownedAt (s : State) (p : PanelNo) : Prop := ∀ k, (s.panel p).works k → s.owns p k

theorem coilsOwned_iff : s.coilsOwned ↔ ∀ p, s.ownedAt p := by
  refine forall_congr' fun p => ⟨fun ⟨h1, h2, h3, h4⟩ k hk => ?_, fun h => ⟨h .lift, h .lower, h .travel, fun g => h (.cleat g)⟩⟩
  cases k with
  | lift => exact h1 hk
  | lower => exact h2 hk
  | travel => exact h3 hk
  | cleat g => exact h4 g hk
  | _ => exact hk.elim

/-- What the laws of R72 ask of the panel while a coil of kind `k` is on. -/
def State.meets (s : State) (p : PanelNo) : StepKind → Prop
  | .lift => s.uncleated p
  | .travel => s.uncleated p ∧ (s.panel p).seat = .lifted ∧ (s.panel p).sw.stowLocked = false
  | .cleat _ => (s.panel p).seat = .seated
  | .lower | .uncleat _ | .lockStow | .unlockStow => True

/-- The laws of R72 at the panel. -/
def State.panelLawAt (s : State) (p : PanelNo) : Prop := ∀ k, (s.panel p).works k → s.meets p k

theorem panelLaws_iff : s.panelLaws ↔ ∀ p, s.panelLawAt p := by
  refine forall_congr' fun p => ⟨fun ⟨h1, h2, h3⟩ k hk => ?_, fun h => ⟨fun hd => hd.elim (h .lift) fun hd => (h .travel hd).1,
    fun hd => (h .travel hd).2, fun g => h (.cleat g)⟩⟩
  cases k with
  | lift => exact h1 (.inl hk)
  | travel => exact ⟨h1 (.inr hk), h2 hk⟩
  | cleat g => exact h3 g hk
  | lower => trivial
  | _ => exact hk.elim

/-- The laws of R74 at the panel. -/
def State.lapLawAt (s : State) (p : PanelNo) : Prop :=
  ((s.panel p).works .lift → s.isLap p = false →
    (s.panel (partner p)).seat = .lifted ∧ ¬ (s.panel (partner p)).works .lower) ∧
  ((s.panel p).works .lower → s.isLap p = true →
    (s.panel (partner p)).seat = .seated ∧ ¬ (s.panel (partner p)).works .lift)

theorem lapLaws_iff : s.lapLaws ↔ ∀ p, s.lapLawAt p := by
  simp only [State.lapLaws, State.lapLawAt, Panel.works, Bool.not_eq_true]

/-- The laws of the coils, but for those of R72 at the panels of `X` and those of R74 at the panels of `Y`. -/
structure State.obeysBut (X Y : PanelNo → Prop) (s : State) : Prop where
  owned : ∀ p, s.ownedAt p
  law : ∀ p, ¬ X p → s.panelLawAt p
  lap : ∀ p, ¬ Y p → s.lapLawAt p

/-- Nothing is exempt. -/
def nowhere : PanelNo → Prop := fun _ => False

theorem coilsObey_iff : s.coilsObey ↔ s.obeysBut nowhere nowhere := by
  rw [State.coilsObey, coilsOwned_iff, panelLaws_iff, lapLaws_iff]
  exact ⟨fun ⟨h1, h2, h3⟩ => ⟨h1, fun p _ => h2 p, fun p _ => h3 p⟩, fun h => ⟨h.owned, fun p => h.law p id, fun p => h.lap p id⟩⟩

theorem State.obeysBut.mono {X' Y' : PanelNo → Prop} (h : s.obeysBut X Y) (hX : ∀ p, X p → X' p) (hY : ∀ p, Y p → Y' p) :
    s.obeysBut X' Y' := ⟨h.owned, fun p hp => h.law p fun hx => hp (hX p hx), fun p hp => h.lap p fun hy => hp (hY p hy)⟩

/-! ### What the laws depend on -/

theorem panelCleats_congr (h : t.layout = s.layout) (p : PanelNo) : t.panelCleats p = s.panelCleats p := by
  unfold State.panelCleats State.cleatConfigured
  simp only [configured_congr h, h]

theorem isLap_congr (h : t.layout = s.layout) (p : PanelNo) : t.isLap p = s.isLap p := by
  unfold State.isLap
  rw [h]

theorem uncleated_kept (hl : t.layout = s.layout)
    (h : ∀ c : CleatNo, (s.panel p).cleats[c].state.doneUncleat = true → (t.panel p).cleats[c].state.doneUncleat = true)
    (hs : s.uncleated p) : t.uncleated p := by
  intro c hc
  rw [panelCleats_congr hl] at hc
  exact doneUncleat_iff.1 (h c (doneUncleat_iff.2 (hs c hc)))

theorem meets_kept (hl : t.layout = s.layout) (h : (s.panel p).Rests (t.panel p)) (hs : s.meets p k) : t.meets p k := by
  cases k with
  | lift => exact uncleated_kept hl h.cleats hs
  | travel => exact ⟨uncleated_kept hl h.cleats hs.1, h.seat.trans hs.2.1, h.stow.trans hs.2.2⟩
  | cleat g => exact h.seat.trans hs
  | _ => trivial

/-- A coil that stays on keeps its owner. -/
theorem owns_kept (h : (s.panel p).Bears (t.panel p)) (hg : s.GoesOn p t) (hk : (t.panel p).works k) (hs : s.owns p k) :
    t.owns p k := by
  cases k with
  | lift => exact hs.imp hg.stepRuns hg.jogRuns
  | lower => exact hs.imp hg.stepRuns hg.jogRuns
  | travel => exact ⟨h.mode hk hs.1, hs.2.imp hg.stepRuns (Or.imp hg.jogRuns hg.jogRuns)⟩
  | cleat g =>
    obtain ⟨m, hm, e1, e2, e3⟩ := hs
    obtain ⟨m', hm', f1, f2, f3⟩ := h.move g hk m hm
    refine ⟨m', hm', f1.trans e1, f2.trans e2, ?_⟩
    rw [f3]
    split
    · rename_i e
      rw [if_pos e] at e3
      exact hg.jogRuns e3
    · rename_i e
      rw [if_neg e] at e3
      exact hg.stepRuns e3
  | _ => trivial

theorem ownedAt_kept (h : (t.panel p).resting ∨ (s.panel p).Bears (t.panel p) ∧ s.GoesOn p t) (hs : s.ownedAt p) :
    t.ownedAt p := by
  intro k hk
  obtain h | ⟨hb, hg⟩ := h
  · exact absurd hk (h k)
  · exact owns_kept hb hg hk (hs k (hb.works k hk))

theorem panelLawAt_kept (hl : t.layout = s.layout) (h : (t.panel p).resting ∨ (s.panel p).Rests (t.panel p))
    (hs : s.panelLawAt p) : t.panelLawAt p := by
  intro k hk
  obtain h | h := h
  · exact absurd hk (h k)
  · exact meets_kept hl h (hs k (h.works k hk))

theorem lapLawAt_kept (hl : t.layout = s.layout) (hw : ∀ q k, k = .lift ∨ k = .lower → (t.panel q).works k → (s.panel q).works k)
    (seat : (t.panel (partner p)).seat = (s.panel (partner p)).seat) (hs : s.lapLawAt p) : t.lapLawAt p := by
  refine ⟨fun hk e => ?_, fun hk e => ?_⟩
  · obtain ⟨h1, h2⟩ := hs.1 (hw p _ (.inl rfl) hk) (by rwa [isLap_congr hl] at e)
    exact ⟨seat.trans h1, fun h => h2 (hw _ _ (.inr rfl) h)⟩
  · obtain ⟨h1, h2⟩ := hs.2 (hw p _ (.inr rfl) hk) (by rwa [isLap_congr hl] at e)
    exact ⟨seat.trans h1, fun h => h2 (hw _ _ (.inl rfl) h)⟩

/-- The laws stay where each panel rests, or keeps what they depend on with its begun step and its jog. -/
theorem obeysBut_of_each (hl : t.layout = s.layout) (seat : ∀ q, (t.panel q).seat = (s.panel q).seat)
    (each : ∀ q, (t.panel q).resting ∨ (s.panel q).Bears (t.panel q) ∧ s.GoesOn q t)
    (law : ∀ q, ¬ X q → (t.panel q).resting ∨ (s.panel q).Rests (t.panel q)) (hs : s.obeysBut X Y) : t.obeysBut X Y where
  owned := fun q => ownedAt_kept (each q) (hs.owned q)
  law := fun q hq => panelLawAt_kept hl (law q hq) (hs.law q hq)
  lap := fun q hq => lapLawAt_kept hl
    (fun r k _ hk => (each r).elim (fun h => absurd hk (h k)) fun h => h.1.works k hk) (seat _) (hs.lap q hq)

/-- The step of the panel's CLEAT order, if it is RUNNING, may go on (R72). -/
def State.mayEngage (s : State) (p : PanelNo) : Prop := ∀ g, s.stepRuns p (.cleat g) → (s.panel p).seat = .seated

/-! ### The laws of the flow, panel by panel -/

/-- How often the packs name the panel. -/
def State.named (s : State) (p : PanelNo) : Nat := (s.packA.panels ++ s.packB.panels).count p

/-- The laws of R124 at the panel. -/
structure State.flowAt (s : State) (p : PanelNo) : Prop where
  once : s.named p ≤ 1
  grants : ∀ k, ∀ g ∈ (s.pack k).grants, g.panel = p → if g.jog then ∃ j, s.jog = some j ∧ j.panel = p else s.phaseAt p ≠ none
  waiting : ∀ k, ∀ w ∈ (s.pack k).waiting, w.panel = p → s.phaseAt p ≠ none

theorem flowLaws_iff : s.flowLaws ↔ (∀ k, (s.pack k).granted ≤ s.capacity k) ∧ ∀ p, s.flowAt p := by
  constructor
  · rintro ⟨h1, h2, h3, h4⟩
    refine ⟨h1, fun p => ⟨List.nodup_iff_count_le_one.1 h2 p, fun k g hg e => ?_, fun k w hw e => ?_⟩⟩
    · subst e
      have := h3 k g hg
      rwa [begun_iff] at this
    · subst e
      exact begun_iff.1 (h4 k w hw)
  · rintro ⟨h1, h2⟩
    refine ⟨h1, List.nodup_iff_count_le_one.2 fun p => (h2 p).once, fun k g hg => ?_, fun k w hw => ?_⟩
    · rw [begun_iff]
      exact (h2 g.panel).grants k g hg rfl
    · exact begun_iff.2 ((h2 w.panel).waiting k w hw rfl)

/-- What a pack holds of a panel. -/
def Pack.of (x : Pack) (p : PanelNo) : List Grant × List Waiter :=
  (x.grants.filter fun g => g.panel == p, x.waiting.filter fun w => w.panel == p)

theorem count_map_panel {α : Type} (f : α → PanelNo) (xs : List α) (p : PanelNo) :
    (xs.map f).count p = (xs.filter fun x => f x == p).length := by
  rw [List.count, List.countP_map, List.countP_eq_length_filter]
  rfl

theorem Pack.count_panels (x : Pack) (p : PanelNo) : x.panels.count p = (x.of p).1.length + (x.of p).2.length := by
  rw [Pack.panels, List.count_append, count_map_panel, count_map_panel]
  rfl

theorem named_eq (s : State) (p : PanelNo) : s.named p = (s.pack .a).panels.count p + (s.pack .b).panels.count p :=
  List.count_append

theorem named_congr (h : ∀ k, (t.pack k).of p = (s.pack k).of p) : t.named p = s.named p := by
  simp only [named_eq, Pack.count_panels, h]

theorem mem_of_grants {x : Pack} {g : Grant} : g ∈ (x.of p).1 ↔ g ∈ x.grants ∧ g.panel = p := by simp [Pack.of]
theorem mem_of_waiting {x : Pack} {w : Waiter} : w ∈ (x.of p).2 ↔ w ∈ x.waiting ∧ w.panel = p := by simp [Pack.of]

/-- What the packs hold of a panel stays justified while its begun step and its jog go on. -/
theorem flowAt_kept (same : ∀ k, (t.pack k).of p = (s.pack k).of p) (phase : s.phaseAt p ≠ none → t.phaseAt p ≠ none)
    (jog : ∀ j, s.jog = some j → j.panel = p → t.jog = some j) (hs : s.flowAt p) : t.flowAt p where
  once := (named_congr same).trans_le hs.once
  grants := fun k g hg e => by
    have old := (mem_of_grants.1 (same k ▸ mem_of_grants.2 ⟨hg, e⟩)).1
    have here := hs.grants k g old e
    split
    · rename_i hj
      rw [if_pos hj] at here
      obtain ⟨j, hj, e⟩ := here
      exact ⟨j, jog j hj e, e⟩
    · rename_i hj
      rw [if_neg hj] at here
      exact phase here
  waiting := fun k w hw e => phase (hs.waiting k w (mem_of_waiting.1 (same k ▸ mem_of_waiting.2 ⟨hw, e⟩)).1 e)

theorem flowAt_of_flowless (h : t.flowless p) : t.flowAt p where
  once := by
    rw [named_eq, List.count_eq_zero.2 (h .a), List.count_eq_zero.2 (h .b)]
    exact Nat.zero_le _
  grants := fun k g hg e => absurd (List.mem_append_left _ (e ▸ List.mem_map_of_mem hg)) (h k)
  waiting := fun k w hw e => absurd (List.mem_append_right _ (e ▸ List.mem_map_of_mem hw)) (h k)

theorem State.flowLaws.placedOnce (h : s.flowLaws) (p : PanelNo) : s.placedOnce p := (onePlace_of_flowLaws h).placedOnce p

/-- A panel without a begun step and without a jog has no flow. -/
theorem State.flowAt.flowless (h : s.flowAt p) (hp : s.phaseAt p = none) (hj : ∀ j, s.jog = some j → j.panel ≠ p) :
    s.flowless p := by
  intro k hk
  obtain hk | hk := List.mem_append.1 hk
  · obtain ⟨g, hg, e⟩ := List.mem_map.1 hk
    have here := h.grants k g hg e
    split at here
    · obtain ⟨j, hj', e'⟩ := here
      exact hj j hj' e'
    · exact here hp
  · obtain ⟨w, hw, e⟩ := List.mem_map.1 hk
    exact h.waiting k w hw e hp

theorem granted_le_of_sublist {x y : Pack} (h : y.grants.Sublist x.grants) : y.granted ≤ x.granted :=
  (h.map _).sum_le_sum fun _ _ => Nat.zero_le _

end Sys2Proof.Machine
end

section
/-! What work on one panel leaves of the others for the laws of the coils and of the flow (`State.Only`): their records but for an
order that ends, their grants and requests, and a jog on them. -/

namespace Sys2Proof.Machine

variable {s t u : State} {p q : PanelNo} {i j : SlotNo} {o : Order} {k : StepKind}

/-- `t` differs from `s` at the panel `p` only, but for orders that have ended. -/
structure State.Only (p : PanelNo) (s t : State) : Prop where
  body : ∀ q, p ≠ q → (t.panel q).unassigned = (s.panel q).unassigned
  packs : ∀ k, (t.pack k).dropPanel p = (s.pack k).dropPanel p
  grants : ∀ k, (t.pack k).grants.Sublist (s.pack k).grants
  jog : t.jog = s.jog ∨ t.jog = none ∧ ∃ j, s.jog = some j ∧ j.panel = p

namespace State.Only

theorem refl (p : PanelNo) (s : State) : Only p s s := ⟨fun _ _ => rfl, fun _ => rfl, fun _ => .refl _, .inl rfl⟩

theorem trans (a : Only p s t) (b : Only p t u) : Only p s u where
  body := fun q hq => (b.body q hq).trans (a.body q hq)
  packs := fun k => (b.packs k).trans (a.packs k)
  grants := fun k => (b.grants k).trans (a.grants k)
  jog := by
    obtain e | ⟨e, j, hj, hp⟩ := b.jog
    · rw [e]; exact a.jog
    · obtain e' | ⟨e', -⟩ := a.jog
      · exact .inr ⟨e, j, e' ▸ hj, hp⟩
      · rw [e'] at hj; cases hj

/-- The panels but `p`, the packs and the jog are left. -/
theorem of_same (body : ∀ q, p ≠ q → t.panel q = s.panel q) (packs : ∀ k, t.pack k = s.pack k) (jog : t.jog = s.jog) :
    Only p s t where
  body := fun q hq => by rw [body q hq]
  packs := fun k => by rw [packs k]
  grants := fun k => by rw [packs k]
  jog := .inl jog

theorem modPanel (f : Panel → Panel) : Only p s (s.modPanel p f) :=
  of_same (fun _ h => modPanel_panel_ne _ _ h) (modPanel_pack s p f) rfl

theorem of_calms (h : s.Calms p t) : Only p s t := by
  obtain ⟨y, rfl, -⟩ := h
  exact of_same (fun q h => setPanel_panel_ne _ _ h) (fun k => by cases k <;> rfl) rfl

theorem setPhase (i : SlotNo) (ph : Option Phase) (r : Reasons) (v : Option Purpose) : Only p s (s.setPhase p i ph r v) :=
  of_same (fun q h => by unfold State.setPhase; rw [modPanel_panel_ne _ _ h]; rfl) (setPhase_pack s p i ph r v) rfl

theorem modOrder (f : Order → Order) : Only p s (s.modOrder i f) := of_same (fun _ _ => rfl) (fun k => by cases k <;> rfl) rfl

theorem updateOrder (f : Order → Order) : Only p s (s.updateOrder i f) :=
  of_same (fun _ _ => updateOrder_panel ..) (pack_eq_of (updateOrder_packs ..).1 (updateOrder_packs ..).2) (by simp)

theorem latch (e : EventLatch) : Only p s (s.setLatch e) :=
  of_same (fun _ _ => setLatch_panel ..) (setLatch_pack s e) (setLatch_jog s e)

theorem warn (w : PanelWarning) : Only p s (s.warn p w) := (modPanel _).trans (latch .warning)

theorem pack {x : PackId} {f : Pack → Pack} (hd : (f (s.pack x)).dropPanel p = (s.pack x).dropPanel p)
    (hg : (f (s.pack x)).grants.Sublist (s.pack x).grants) : Only p s (s.modPack x f) where
  body := fun q _ => by rw [modPack_panel]
  packs := fun k => by
    by_cases e : x = k
    · subst e; rwa [modPack_pack_self]
    · rw [State.modPack, setPack_pack_ne _ _ e]
  grants := fun k => by
    by_cases e : x = k
    · subst e; rwa [modPack_pack_self]
    · rw [State.modPack, setPack_pack_ne _ _ e]
  jog := .inl (modPack_jog ..)

end State.Only

theorem dropPanel_dropPanel (x : Pack) (p : PanelNo) : (x.dropPanel p).dropPanel p = x.dropPanel p := by
  simp [Pack.dropPanel]

theorem dropPanel_grants_sublist (x : Pack) (p : PanelNo) : (x.dropPanel p).grants.Sublist x.grants := List.filter_sublist

theorem filter_insertWaiter (w : Waiter) : ∀ ws : List Waiter,
    (insertWaiter w ws).filter (fun v => v.panel != w.panel) = ws.filter fun v => v.panel != w.panel
  | [] => by simp [insertWaiter]
  | v :: ws => by
    unfold insertWaiter
    split
    · simp
    · rw [List.filter_cons, List.filter_cons, filter_insertWaiter w ws]

theorem dropPanel_insert (x : Pack) (w : Waiter) : (x.insert w).dropPanel w.panel = x.dropPanel w.panel := by
  unfold Pack.dropPanel Pack.insert
  rw [filter_insertWaiter]

open State (Only)

theorem only_dropFlow (s : State) (p : PanelNo) : Only p s (s.dropFlow p).st := by
  have dropped (k : PackId) : Only p s (s.modPack k fun x => x.dropPanel p) :=
    .pack (dropPanel_dropPanel _ _) (dropPanel_grants_sublist _ _)
  unfold State.dropFlow
  split
  · exact .refl p s
  · exact dropped _
  · exact dropped _

theorem only_insert (k : PackId) (w : Waiter) (h : w.panel = p) : Only p s (s.modPack k fun x => x.insert w) := by
  subst h
  exact .pack (dropPanel_insert _ _) (.refl _)

theorem only_interrupt (s : State) (p : PanelNo) : Only p s (s.interrupt p).st := by
  unfold State.interrupt
  split
  · exact .refl p s
  · rename_i i o k _
    have calm : s.Calms p (if o.phase = some .running then s.stopStep p k else s) := by
      split
      · exact calms_stopStep k
      · exact .refl s p
    exact (((Only.of_calms calm).trans (.setPhase i none {} none)).trans (.modPanel _)).trans (only_dropFlow _ p)

theorem only_endJog {g : Jog} (hj : s.jog = some g) : Only g.panel s s.endJog.st := by
  rw [endJog_of hj]
  refine .trans (t := s.jogStopped g) ?_ (only_dropFlow _ _)
  have calm := calms_jogCoilsOff (s := { s with jog := none }) g
  unfold State.jogStopped
  refine .trans ?_ (.modPanel _)
  obtain ⟨y, e, -⟩ := calm
  rw [e]
  exact ⟨fun q hq => by rw [setPanel_panel_ne _ _ hq]; rfl, fun k => by cases k <;> rfl, fun k => by cases k <;> exact .refl _,
    .inr ⟨rfl, g, hj, rfl⟩⟩

theorem only_energise (c : Coil) : Only p s (s.energise p c) := by
  rw [energise_eq]
  exact .modPanel _

theorem only_startMove (g : GroupNo) (d : CleatDir) (a b : Nat) (x : Bool) : Only p s (s.startMove p g d a b x) := by
  unfold State.startMove
  dsimp only
  split
  · exact .modPanel _
  · exact ((Only.modPanel _).trans (.modPanel _)).trans (only_energise _)

theorem only_driveTravel (d : Dir) (fast jog : Bool) : Only p s (s.driveTravel p d fast jog) := by
  rw [driveTravel_eq]
  exact .modPanel _

theorem only_reference (n : Int) : Only p s (s.reference p n) := by
  unfold State.reference
  dsimp only
  split
  · exact .modPanel _
  · exact (Only.modPanel _).trans (.warn _)

end Sys2Proof.Machine
end

section
/-! What keeps the laws of the flow and of the coils (`State.Upholds`): a change of records of which they do not speak, and work on
one panel. -/

namespace Sys2Proof.Machine

open State (WorksOn Only)

variable {s t u : State} {p q : PanelNo} {i j : SlotNo} {o : Order} {k : StepKind} {X Y : PanelNo → Prop}

/-- The laws of R124, R72 and R74 hold in `t` if they hold in `s`, those of the coils also with the same exemptions. -/
structure State.Upholds (s t : State) : Prop where
  linked : s.Linked → t.Linked
  flow : s.Linked → s.flowLaws → t.flowLaws
  coils : s.Linked → ∀ X Y, s.obeysBut X Y → t.obeysBut X Y

namespace State.Upholds

theorem refl (s : State) : s.Upholds s := ⟨id, fun _ h => h, fun _ _ _ h => h⟩

theorem of_eq (h : s = t) : s.Upholds t := h ▸ refl s

/-- The laws are asked for in a sound table only. -/
theorem given (h : s.Linked → s.Upholds t) : s.Upholds t :=
  ⟨fun hs => (h hs).linked hs, fun hs => (h hs).flow hs, fun hs => (h hs).coils hs⟩

theorem trans (a : s.Upholds t) (b : t.Upholds u) : s.Upholds u where
  linked := fun h => b.linked (a.linked h)
  flow := fun h hf => b.flow (a.linked h) (a.flow h hf)
  coils := fun h X Y hc => b.coils (a.linked h) X Y (a.coils h X Y hc)

end State.Upholds

open State (Upholds)

/-! ### The begun steps -/

/-- The begun steps go on if their orders stand as they did, but for their targets, holds, classes and issuers. -/
theorem phaseAt_of_slots (hs : s.Linked) (ht : t.Linked)
    (h : ∀ i o, s.slot i = some o → o.state = .active → s.phaseAt o.panel ≠ none →
    ∃ o', t.slot i = some o' ∧ o'.panel = o.panel ∧ o'.state = .active ∧ o'.kind = o.kind ∧ o'.step = o.step ∧
      o'.phase = o.phase) (q : PanelNo) (hq : s.phaseAt q ≠ none) : t.phaseAt q = s.phaseAt q := by
  obtain ⟨⟨k, ph⟩, hx⟩ := Option.ne_none_iff_exists'.1 hq
  obtain ⟨i, o, hv, hph⟩ := phaseAt_some.1 hx
  obtain ⟨ho, hp, ha, hk⟩ := (served_iff hs).1 hv
  obtain ⟨o', ho', e1, e2, e3, e4, e5⟩ := h i o ho ha (by rwa [hp])
  rw [hx, phaseAt_some]
  refine ⟨i, o', (served_iff ht).2 ⟨ho', e1.trans hp, e2, ?_⟩, e5.trans hph⟩
  rw [e3, e4]
  exact hk

theorem phaseAt_congr (h : t.served p = s.served p) : t.phaseAt p = s.phaseAt p := by
  unfold State.phaseAt
  rw [h]

/-- Work on one panel lets the begun steps of the others go on. -/
theorem WorksOn.goesOn (w : WorksOn p s t) (b : Only p s t) (hs : s.Linked) (hq : p ≠ q) : s.GoesOn q t where
  phase := fun h => by
    obtain ⟨i, o, k, hv, -⟩ := begun_iff.2 h
    rw [phaseAt_of_served hv, phaseAt_of_served (WorksOn.served w hs hq hv)]
  jog := fun j hj e => by
    obtain h | ⟨-, j', hj', e'⟩ := b.jog
    · exact h.trans hj
    · obtain rfl : j = j' := Option.some.inj (hj.symm.trans hj')
      exact absurd (e'.symm.trans e) hq

/-- A command of which nothing is known but that it is taken in a sound state. -/
def sure : Known := { Known.bare .replyTransmitted with sound := True }

theorem linked_of_acts (h : Acts sure s t) (hs : s.Linked) : t.Linked := h.linked trivial hs

/-! ### What has no bearing on the laws -/

theorem Pack.of_congr {x y : Pack} (h : y.grants = x.grants ∧ y.waiting = x.waiting) : y.of p = x.of p := by
  unfold Pack.of
  rw [h.1, h.2]

/-- Records change of which the laws do not speak. -/
theorem State.Upholds.of_alike (linked : s.Linked → t.Linked) (layout : t.layout = s.layout)
    (room : ∀ k, t.capacity k = s.capacity k)
    (panels : ∀ q, (s.panel q).Rests (t.panel q)) (steps : s.Linked → ∀ q, s.phaseAt q ≠ none → t.phaseAt q = s.phaseAt q)
    (jog : t.jog = s.jog) (packs : ∀ k, (t.pack k).grants = (s.pack k).grants ∧ (t.pack k).waiting = (s.pack k).waiting) :
    s.Upholds t where
  linked := linked
  flow := fun hs hf => by
    obtain ⟨sum, each⟩ := flowLaws_iff.1 hf
    refine flowLaws_iff.2 ⟨fun k => ?_, fun q => flowAt_kept (fun k => Pack.of_congr (packs k))
      (fun h => by rwa [steps hs q h]) (fun j hj _ => jog.trans hj) (each q)⟩
    rw [room, Pack.granted, (packs k).1]
    exact sum k
  coils := fun hs X Y => obeysBut_of_each layout (fun q => (panels q).seat)
    (fun q => .inr ⟨(panels q).toBears, steps hs q, fun j hj _ => jog.trans hj⟩) fun q _ => .inr (panels q)

theorem capacity_congr (h : t.params = s.params) (k : PackId) : t.capacity k = s.capacity k := by
  cases k <;> simp only [State.capacity, h]

/-- The order table, the packs and the jog stay, and the panels keep what the laws depend on. -/
theorem State.Upholds.of_same (linked : s.Linked → t.Linked) (panels : ∀ q, (s.panel q).Rests (t.panel q))
    (served : ∀ q, t.served q = s.served q) (layout : t.layout = s.layout := by rfl) (params : t.params = s.params := by rfl)
    (jog : t.jog = s.jog := by rfl)
    (packs : ∀ k, (t.pack k).grants = (s.pack k).grants ∧ (t.pack k).waiting = (s.pack k).waiting := by
      intro k; cases k <;> exact ⟨rfl, rfl⟩) : s.Upholds t :=
  .of_alike linked layout (capacity_congr params) panels (fun _ q _ => phaseAt_congr (served q)) jog packs

theorem State.Framed.upholds (h : s.Framed t) : s.Upholds t :=
  .of_same h.linked (fun q => by rw [h.panel]; exact .refl _)
    (fun q => served_congr (by rw [h.panel]) h.slots) h.layout h.params h.jog h.flow

theorem upholds_modPanel {f : Panel → Panel} (linked : s.Linked → (s.modPanel p f).Linked)
    (hl : (f (s.panel p)).live = (s.panel p).live) (h : (s.panel p).Rests (f (s.panel p))) : s.Upholds (s.modPanel p f) := by
  refine .of_same linked (fun q => ?_) (fun q => served_modPanel hl)
  rw [modPanel_panel]
  split
  · rename_i e
    subst e
    exact h
  · exact .refl _

/-- A change of the panel's record that energises nothing. -/
theorem upholds_quieter {f : Panel → Panel} (hq : (s.panel p).Quieter (s.openCount p) (f (s.panel p)))
    (h : (s.panel p).Rests (f (s.panel p))) : s.Upholds (s.modPanel p f) :=
  upholds_modPanel (Changes.linked (L := Leave.all) (.single (.quiet p f hq))) hq.live h

/-- A change of what a panel shows, of which the laws do not speak. -/
theorem upholds_feed {f : Panel → Panel} (hf : (s.panel p).Fed (s.openCount p) (f (s.panel p)))
    (h : (s.panel p).Rests (f (s.panel p))) : s.Upholds (s.modPanel p f) :=
  upholds_modPanel (linked_of_acts (.single (.feed p f hf))) hf.live h

theorem upholds_latch (e : EventLatch) : s.Upholds (s.setLatch e) := by
  have linked := linked_of_acts (s := s) (acts_latch e)
  rw [setLatch_eq] at linked ⊢
  exact .of_same linked (fun _ => .refl _) fun _ => rfl

theorem upholds_latchIf (b : Bool) (e : EventLatch) : s.Upholds (s.latchIf b e) := by
  unfold State.latchIf
  split
  · exact upholds_latch e
  · exact .refl s

theorem upholds_warn (w : PanelWarning) : s.Upholds (s.warn p w) :=
  (upholds_quieter (.of_warn _ _ w) (.of_same rfl rfl rfl rfl rfl rfl)).trans (upholds_latch .warning)

/-! ### Work on one panel -/

theorem Pack.of_of_dropPanel {x y : Pack} (h : y.dropPanel p = x.dropPanel p) (hq : p ≠ q) : y.of q = x.of q := by
  have both (z : Pack) : (z.dropPanel p).of q = z.of q := by
    unfold Pack.of Pack.dropPanel
    simp only [List.filter_filter]
    refine Prod.ext (List.filter_congr fun g _ => ?_) (List.filter_congr fun w _ => ?_)
    · by_cases e : g.panel = q <;> simp [e, Ne.symm hq]
    · by_cases e : w.panel = q <;> simp [e, Ne.symm hq]
  rw [← both y, ← both x, h]

/-- Work on the panel `p` upholds the laws if it leaves `p` lawful. -/
theorem State.Upholds.of_work (w : WorksOn p s t) (b : Only p s t) (flow : s.Linked → s.flowLaws → t.flowAt p)
    (coils : s.Linked → s.ownedAt p → (t.panel p).resting ∨ (s.panel p).Rests (t.panel p) ∧ s.GoesOn p t) : s.Upholds t := by
  have last := w.run.lasting
  have seat (q : PanelNo) : (t.panel q).seat = (s.panel q).seat := (congrArg Panel.seat (lasting_panel last q) :)
  have away (q : PanelNo) (hq : p ≠ q) : (s.panel q).Rests (t.panel q) := .of_unassigned (b.body q hq)
  refine ⟨Changes.linked w.run, fun hs hf => ?_, fun hs X Y hc => ?_⟩
  · obtain ⟨sum, each⟩ := flowLaws_iff.1 hf
    refine flowLaws_iff.2 ⟨fun k => ?_, fun q => ?_⟩
    · rw [capacity_lasting last]
      exact (granted_le_of_sublist (b.grants k)).trans (sum k)
    · by_cases e : p = q
      · subst e
        exact flow hs hf
      · have goes := WorksOn.goesOn w b hs e
        exact flowAt_kept (fun k => Pack.of_of_dropPanel (b.packs k) e) (fun h => by rwa [goes.phase h]) goes.jog (each q)
  · have here := coils hs (hc.owned p)
    refine obeysBut_of_each (lasting_layout last) seat (fun q => ?_) (fun q _ => ?_) hc
    · by_cases e : p = q
      · subst e
        exact here.imp_right fun h => ⟨h.1.toBears, h.2⟩
      · exact .inr ⟨(away q e).toBears, WorksOn.goesOn w b hs e⟩
    · by_cases e : p = q
      · subst e
        exact here.imp_right And.left
      · exact .inr (away q e)

/-- Of a panel whose step is begun the step alone owns coils. -/
theorem works_served (hs : s.Linked) (hv : s.served p = some (i, o, k)) (hown : s.ownedAt p) {k' : StepKind}
    (hw : (s.panel p).works k') : k' = k ∧ o.phase = some .running := by
  have noJog : s.jog = none := jog_none_of_served hs hv
  have notJog (c : Coil) : ¬ s.jogRuns p c := fun ⟨j, hj, _⟩ => by rw [noJog] at hj; cases hj
  have step (k' : StepKind) (h : s.stepRuns p k') : k' = k ∧ o.phase = some .running := by
    obtain ⟨i', o', hv', hr⟩ := h
    obtain ⟨-, rfl, rfl⟩ : i = i' ∧ o = o' ∧ k = k' := by simpa using hv.symm.trans hv'
    exact ⟨rfl, hr⟩
  have owner := hown k' hw
  cases k' with
  | lift => exact step _ (owner.resolve_right (notJog _))
  | lower => exact step _ (owner.resolve_right (notJog _))
  | travel => exact step _ (owner.2.resolve_right fun h => h.elim (notJog _) (notJog _))
  | cleat g =>
    obtain ⟨m, -, -, -, h⟩ := owner
    split at h
    · exact absurd h (notJog _)
    · exact step _ h
  | _ => exact hw.elim

/-- A panel whose step is not RUNNING rests. -/
theorem resting_of_served (hs : s.Linked) (hv : s.served p = some (i, o, k)) (hr : o.phase ≠ some .running) (hown : s.ownedAt p) :
    (s.panel p).resting := fun _ hw => hr (works_served hs hv hown hw).2

/-- A panel without an owner of its coils rests. -/
theorem resting_of_unowned (hv : ∀ k, ¬ s.stepRuns p k) (hj : ∀ c, ¬ s.jogRuns p c) (hown : s.ownedAt p) :
    (s.panel p).resting := by
  intro k hw
  have owner := hown k hw
  cases k with
  | lift => exact owner.elim (hv _) (hj _)
  | lower => exact owner.elim (hv _) (hj _)
  | travel => exact owner.2.elim (hv _) fun h => h.elim (hj _) (hj _)
  | cleat g =>
    obtain ⟨m, -, -, -, h⟩ := owner
    split at h
    · exact hj _ h
    · exact hv _ h
  | _ => exact hw.elim

end Sys2Proof.Machine
end

section
/-! The operations on orders and the stopping of a panel uphold the laws: an interrupted step owns nothing any more, and an order
that nobody serves moves nothing (R59 to R64, R86, R166, R197). -/

namespace Sys2Proof.Machine

open State (WorksOn Only Upholds)

variable {s t u : State} {p q : PanelNo} {i j : SlotNo} {o : Order} {k : StepKind}

/-! ### A panel comes to a stop -/

theorem Panel.works_of_quieter {x y : Panel} {top : Int} (h : x.Quieter top y) (hw : y.works k) : x.works k := by
  cases k with
  | lift => exact h.coils .liftUp hw
  | lower => exact h.coils .liftDown hw
  | travel => exact hw.imp (h.coils .travelOut) fun hw => hw.imp (h.coils .travelIn) h.mode
  | cleat g => exact h.coils (.cleatEng g) hw
  | _ => exact hw

theorem works_of_calms (h : s.Calms p t) (hw : (t.panel q).works k) : (s.panel q).works k := by
  obtain ⟨y, rfl, hy⟩ := h
  rw [setPanel_panel] at hw
  split at hw
  · rename_i e
    subst e
    exact Panel.works_of_quieter hy hw
  · exact hw

theorem Panel.resting_congr {x y : Panel} (hc : y.coils = x.coils) (hm : y.mode = x.mode) (hx : x.resting) : y.resting := by
  intro k hw
  refine hx k ?_
  unfold Panel.works Panel.driving at *
  rwa [hc, hm] at hw

/-- After the end of a travel its coils are off, and it runs no more (R11). -/
theorem stopTravel_unworked (h : (s.panel p).works .travel → (s.panel p).mode = .driven) :
    ¬ ((s.stopTravel p).panel p).works .travel := by
  unfold State.stopTravel
  split
  · simp [Panel.works, Panel.driving, Coils.travelOff]
  · rename_i hm
    exact fun hw => hm (h hw)

theorem stepCoilsOff_unworked (h : k = .lift ∨ k = .lower) : ¬ ((s.stepCoilsOff p).panel p).works k := by
  rw [stepCoilsOff_panel]
  obtain rfl | rfl := h <;> simp [Panel.works]

/-- The valve of a move that goes off is that of its group (R27). -/
theorem valve_unworked {x : Panel} {y : Coils} {m : Move} {g : GroupNo} (hg : m.group = g) (hd : m.dir = .engage)
    (hc : x.coils = y.put false (m.dir.coil m.group)) : ¬ x.works (.cleat g) := by
  subst hg
  simp [Panel.works, hc, hd, CleatDir.coil, Coils.get_put]

theorem cutMove_coils {m : Move} (hm : (s.panel p).move = some m) :
    ((s.cutMove p).panel p).coils = (s.panel p).coils.put false (m.dir.coil m.group) := by
  rw [cutMove_eq, modPanel_panel_self]
  simp only [Panel.cut, hm]
  rw [setStates_eq]
  rfl

theorem valveOff_coils {m : Move} (hm : (s.panel p).move = some m) :
    ((s.valveOff p).panel p).coils = (s.panel p).coils.put false (m.dir.coil m.group) := by
  simp only [State.valveOff, hm, modPanel_panel_self]

/-- A RUNNING step that stops leaves the panel at rest (R86). -/
theorem stopStep_resting (hs : s.Linked) (hv : s.served p = some (i, o, k)) (hown : s.ownedAt p) :
    ((s.stopStep p k).panel p).resting := by
  intro k' hw
  have before := works_of_calms (calms_stopStep k) hw
  obtain ⟨rfl, -⟩ := works_served hs hv hown before
  cases k' with
  | lift => exact stepCoilsOff_unworked (.inl rfl) hw
  | lower => exact stepCoilsOff_unworked (.inr rfl) hw
  | travel => exact stopTravel_unworked (fun h => (hown .travel h).1) hw
  | cleat g =>
    obtain ⟨m, hm, hg, hd, e⟩ := hown _ before
    have own : m.byJog = false := by
      by_contra h
      rw [if_pos (by simpa using h)] at e
      obtain ⟨j, hj, -⟩ := e
      rw [jog_none_of_served hs hv] at hj
      cases hj
    refine valve_unworked (y := (s.panel p).coils) hg hd ?_ hw
    simp only [State.stopStep, hm, own]
    exact cutMove_coils hm
  | _ => exact before

/-- The end of a jog leaves its panel at rest (R197). -/
theorem jogStopped_resting (hs : s.Linked) {g : Jog} (hj : s.jog = some g) (hown : s.ownedAt g.panel) :
    ((s.jogStopped g).panel g.panel).resting := by
  have unserved : s.served g.panel = none := by
    cases h : s.served g.panel with
    | none => rfl
    | some x => rw [jog_none_of_served hs h] at hj; cases hj
  have notStep (k : StepKind) : ¬ s.stepRuns g.panel k := fun ⟨_, _, h, _⟩ => by rw [unserved] at h; cases h
  have jogs {c : Coil} (h : s.jogRuns g.panel c) : g.coil = c := by
    obtain ⟨j, hj', -, hc⟩ := h
    obtain rfl : g = j := Option.some.inj (hj.symm.trans hj')
    exact hc
  have rest : (((({ s with jog := none } : State).jogCoilsOff g).panel g.panel)).resting := by
    intro k hw
    have before : (s.panel g.panel).works k := works_of_calms (s := { s with jog := none }) (calms_jogCoilsOff g) hw
    have owner := hown k before
    cases k with
    | lift =>
      have e := jogs (owner.resolve_left (notStep _))
      simp [State.jogCoilsOff, e, State.deEnergise, Panel.works, Coils.put] at hw
    | lower =>
      have e := jogs (owner.resolve_left (notStep _))
      simp [State.jogCoilsOff, e, State.deEnergise, Panel.works, Coils.put] at hw
    | travel =>
      have stops : ({ s with jog := none } : State).jogCoilsOff g = ({ s with jog := none } : State).stopTravel g.panel := by
        obtain h | h := owner.2.resolve_left (notStep _)
        · simp only [State.jogCoilsOff, jogs h]
        · simp only [State.jogCoilsOff, jogs h]
      rw [stops] at hw
      exact stopTravel_unworked (s := { s with jog := none }) (fun _ => owner.1) hw
    | cleat c =>
      obtain ⟨m, hm, hg, hd, e⟩ := owner
      have e : g.coil = .cleatEng c := by
        split at e
        · exact jogs e
        · exact absurd e (notStep _)
      refine valve_unworked (y := (s.panel g.panel).coils) hg hd ?_ hw
      simp only [State.jogCoilsOff, e]
      exact valveOff_coils (s := { s with jog := none }) hm
    | _ => exact before
  unfold State.jogStopped
  rw [modPanel_panel_self]
  exact Panel.resting_congr rfl rfl rest

theorem panelOff_resting (s : State) (p : PanelNo) : ((s.panelOff p).panel p).resting :=
  Panel.resting_of_off (panelOff_coils s p) (panelOff_mode s p)

/-! ### Steps and jogs that end -/

theorem upholds_interrupt (s : State) (p : PanelNo) : s.Upholds (s.interrupt p).st := by
  cases hv : s.served p with
  | none => rw [interrupt_unserved hv]; exact .refl s
  | some x =>
    obtain ⟨i, o, k⟩ := x
    refine .of_work (worksOn_interrupt s p) (only_interrupt s p) (fun hs hf => ?_) fun hs hown => .inl ?_
    · exact flowAt_of_flowless fun k => by
        rw [interrupt_pack hv (hf.placedOnce p)]
        exact not_mem_dropPanel _ _
    · have rest : ((if o.phase = some .running then s.stopStep p k else s).panel p).resting := by
        split
        · exact stopStep_resting hs hv hown
        · rename_i hr
          exact resting_of_served hs hv hr hown
      simp only [State.interrupt, hv, Res.add_st]
      rw [dropFlow_panel, modPanel_panel_self, setPhase_panel]
      exact Panel.resting_congr rfl rfl rest

theorem upholds_endJog (s : State) : s.Upholds s.endJog.st := by
  cases hj : s.jog with
  | none => simp only [State.endJog, hj]; exact .refl s
  | some g =>
    refine .of_work (worksOn_endJog hj) (only_endJog hj) (fun hs hf => ?_) fun hs hown => .inl ?_
    · exact flowAt_of_flowless fun k => by
        rw [endJog_pack hj (hf.placedOnce _)]
        exact not_mem_dropPanel _ _
    · rw [endJog_panel hj]
      exact jogStopped_resting hs hj hown

theorem upholds_endJogOn (s : State) (p : PanelNo) : s.Upholds (s.endJogOn p).st := by
  unfold State.endJogOn
  split
  · exact .refl s
  · split
    · exact upholds_endJog s
    · exact .refl s

theorem flowAt_of_calms (h : s.Calms p t) (hs : s.flowAt q) : t.flowAt q := by
  have served := h.served q
  refine flowAt_kept (fun k => by rw [h.pack]) (fun hq => by rwa [phaseAt_congr served]) (fun j hj _ => ?_) hs
  obtain ⟨y, rfl, -⟩ := h
  exact hj

/-- A change of one panel's record that leaves the panel at rest. -/
theorem upholds_calms (h : s.Calms p t) (rest : s.Linked → s.ownedAt p → (t.panel p).resting) : s.Upholds t :=
  .of_work (.of_calms h) (.of_calms h) (fun _ hf => flowAt_of_calms h ((flowLaws_iff.1 hf).2 p)) fun hs ho => .inl (rest hs ho)

theorem upholds_panelOff (s : State) (p : PanelNo) : s.Upholds (s.panelOff p) :=
  upholds_calms calms_panelOff fun _ _ => panelOff_resting s p

/-! ### Orders -/

/-- Orders change of which no step is begun. -/
theorem State.Upholds.of_orders (linked : s.Linked → t.Linked) (layout : t.layout = s.layout) (params : t.params = s.params)
    (panels : ∀ q, (t.panel q).unassigned = (s.panel q).unassigned) (jog : t.jog = s.jog)
    (packs : ∀ k, t.pack k = s.pack k)
        (orders : s.Linked → ∀ i o, s.slot i = some o → o.state = .active → s.phaseAt o.panel ≠ none →
      ∃ o', t.slot i = some o' ∧ o'.panel = o.panel ∧ o'.state = .active ∧ o'.kind = o.kind ∧ o'.step = o.step ∧
        o'.phase = o.phase) : s.Upholds t :=
  .of_alike linked layout (capacity_congr params) (fun q => .of_unassigned (panels q))
    (fun hs => phaseAt_of_slots hs (linked hs) (orders hs)) jog fun k => by rw [packs k]; exact ⟨rfl, rfl⟩

theorem updateOrder_same (s : State) (i : SlotNo) (f : Order → Order) : (s.updateOrder i f).layout = s.layout ∧
    (s.updateOrder i f).params = s.params ∧ (s.updateOrder i f).jog = s.jog ∧ ∀ k, (s.updateOrder i f).pack k = s.pack k := by
  refine ⟨?_, ?_, by simp, pack_eq_of (updateOrder_packs ..).1 (updateOrder_packs ..).2⟩
  · cases hi : s.slot i with
    | none => simp [State.updateOrder, hi]
    | some o => rw [updateOrder_eq hi]; rfl
  · cases hi : s.slot i with
    | none => simp [State.updateOrder, hi]
    | some o => rw [updateOrder_eq hi]; rfl

/-- An order of which no step is begun changes. -/
theorem upholds_updateOrder {f : Order → Order} (linked : s.Linked → (s.updateOrder i f).Linked)
    (idle : s.Linked → ∀ o, s.slot i = some o → o.state = .active → s.phaseAt o.panel = none) : s.Upholds (s.updateOrder i f) := by
  obtain ⟨layout, params, jog, packs⟩ := updateOrder_same s i f
  refine .of_orders linked layout params (fun q => by rw [updateOrder_panel]) jog packs fun hs j o ho ha hph =>
      ⟨o, ?_, rfl, ha, rfl, rfl, rfl⟩
  rw [updateOrder_slot, if_neg]
  · exact ho
  · rintro rfl
    exact hph (idle hs o ho ha)

/-- An order's fields change but for its panel, state, kind, step and phase. -/
theorem upholds_modOrder {f : Order → Order} (linked : s.Linked → (s.modOrder i f).Linked)
    (same : s.Linked → ∀ o, s.slot i = some o → o.state = .active → s.phaseAt o.panel ≠ none →
      (f o).panel = o.panel ∧ (f o).state = o.state ∧ (f o).kind = o.kind ∧ (f o).step = o.step ∧ (f o).phase = o.phase) :
    s.Upholds (s.modOrder i f) := by
  refine .of_orders linked rfl rfl (fun _ => rfl) rfl (fun k => by cases k <;> rfl) fun hs j o ho ha hph => ?_
  rw [modOrder_slot]
  split
  · rename_i e
    subst e
    obtain ⟨h1, h2, h3, h4, h5⟩ := same hs o ho ha hph
    exact ⟨f o, by rw [ho]; rfl, h1, h2.trans ha, h3, h4, h5⟩
  · exact ⟨o, ho, rfl, ha, rfl, rfl, rfl⟩

theorem upholds_finishOrder {st : OrderState} {m : Nat} (hst : st.live = false) (hl : ∀ o, s.slot i = some o → o.state.live = true)
    (idle : s.Linked → ∀ o, s.slot i = some o → o.state = .active → s.phaseAt o.panel = none) : s.Upholds
        (s.finishOrder i st m) := by
  have ended := ended_finishOrder s i m hst
  have linked : s.Linked → (s.finishOrder i st m).Linked := by
    cases ho : s.slot i with
    | none => simp only [State.finishOrder, ho]; exact id
    | some o => exact Changes.linked (changes_finishOrder (L := Leave.all) ho (hl o ho) hst fun _ _ => .inl trivial)
  have last : (s.finishOrder i st m).layout = s.layout ∧ (s.finishOrder i st m).params = s.params := by
    cases ho : s.slot i with
    | none => simp only [State.finishOrder, ho]; exact ⟨trivial, trivial⟩
    | some o =>
      have last := (changes_finishOrder (L := Leave.all) (t := m) ho (hl o ho) hst fun _ _ => .inl trivial).lasting
      exact ⟨lasting_layout last, lasting_params last⟩
  refine .of_orders linked last.1 last.2 (fun q => ?_) ended.jog (pack_eq_of ended.packs.1 ended.packs.2)
    fun hs j o ho ha hph => ⟨o, ?_, rfl, ha, rfl, rfl, rfl⟩
  · obtain ⟨l, v, pl, e⟩ := ended.panel q
    rw [e]
    rfl
  · rw [finishOrder_slot]
    · exact ho
    · rintro rfl
      exact hph (idle hs o ho ha)

end Sys2Proof.Machine
end

section
/-! The operations of the order table and the fault table uphold the laws (R43 to R64, R166). -/

namespace Sys2Proof.Machine

open State (WorksOn Only Upholds)

variable {s t u : State} {p q : PanelNo} {i j : SlotNo} {o : Order} {k : StepKind}

/-! ### The ends of orders -/

theorem upholds_cancelWaiting {m : Nat} : ∀ (ds : List SlotNo) (s : State), ds.Nodup →
    (∀ i ∈ ds, ∃ o, s.slot i = some o ∧ o.waiting = true) →
    s.Upholds (ds.foldl (fun s i => s.finishOrder i (.cancelled .predecessor) m) s)
  | [], s, _, _ => .refl s
  | i :: ds, s, hn, h => by
    obtain ⟨hni, hn⟩ := List.nodup_cons.1 hn
    obtain ⟨o, hi, hw⟩ := h i List.mem_cons_self
    have only {q : Order} (hq : s.slot i = some q) : o = q := Option.some.inj (hi.symm.trans hq)
    refine (upholds_finishOrder rfl (fun q hq => only hq ▸ Order.waiting_live hw) fun hs q hq ha => ?_).trans
      (upholds_cancelWaiting ds _ hn fun j hj => ?_)
    · obtain rfl := only hq
      rw [not_waiting_of_active (hs.consistent i o hi) ha] at hw
      cases hw
    · have hij : i ≠ j := fun e => hni (e ▸ hj)
      rw [finishOrder_slot hij]
      exact h j (List.mem_cons_of_mem _ hj)

theorem upholds_cascade (m : Nat) : ∀ (n : Nat) (ids : List Nat) (s : State), s.Upholds (State.cascade m n ids s)
  | 0, _, s => .refl s
  | n + 1, ids, s => by
    unfold State.cascade
    dsimp only
    split
    · exact .refl s
    · refine (upholds_cancelWaiting _ s (allSlots_nodup.filter _) fun i hi => ?_).trans (upholds_cascade m n _ _)
      obtain ⟨o, ho, id, -, hw⟩ := mem_dependents.1 hi
      exact ⟨o, ho, waiting_of_waitsOn hw⟩

/-- An interrupted panel has no begun step. -/
theorem interrupt_phaseAt (s : State) (p : PanelNo) : (s.interrupt p).st.phaseAt p = none := by
  cases hv : s.served p with
  | none => rw [interrupt_unserved hv]; exact phaseAt_unserved hv
  | some x =>
    obtain ⟨i, o, k⟩ := x
    have calm : s.Calms p (if o.phase = some .running then s.stopStep p k else s) := by
      split
      · exact calms_stopStep k
      · exact .refl s p
    simp only [State.interrupt, hv, Res.add_st]
    generalize (if o.phase = some .running then s.stopStep p k else s) = u at *
    have phased := served_setPhase ((calm.served p).trans hv) p none {} none
    have served : ((((u.setPhase p i none {} none).modPanel p fun x => { x with plan := none }).dropFlow p).st).served p =
        some (i, { o with phase := none, reasons := {} }, k) := by
      refine Eq.trans (served_congr ?_ (dropFlow_slots ..)) ((served_modPanel rfl).trans phased)
      rw [dropFlow_panel]
    rw [phaseAt_of_served served]
    rfl

theorem interrupt_order {q : Order} (hi : s.slot i = some o) (h : (s.interrupt p).st.slot i = some q) :
    q.panel = o.panel ∧ q.state = o.state := by
  obtain e | ⟨e, -⟩ := interrupt_slot (q := p) hi
  · obtain rfl : o = q := Option.some.inj (e.symm.trans h)
    exact ⟨rfl, rfl⟩
  · obtain rfl := Option.some.inj (e.symm.trans h)
    exact ⟨rfl, rfl⟩

theorem upholds_endOrder (s : State) (i : SlotNo) {st : OrderState} (hst : st.live = false) : s.Upholds (s.endOrder i st).st := by
  cases ho : s.slot i with
  | none => simp only [State.endOrder, ho]; exact .refl s
  | some o =>
    by_cases hl : o.state.live = true
    · rw [endOrder_eq ho hl]
      dsimp only
      refine .trans ?_ (upholds_cascade _ _ _ _)
      split
      · refine (upholds_interrupt s o.panel).trans (upholds_finishOrder hst (fun q hq => ?_) fun _ q hq _ => ?_)
        · rw [(interrupt_order ho hq).2]
          exact hl
        · rw [(interrupt_order ho hq).1]
          exact interrupt_phaseAt s o.panel
      · rename_i ha
        refine upholds_finishOrder hst (fun q hq => ?_) fun _ q hq h => ?_
        · obtain rfl : o = q := Option.some.inj (ho.symm.trans hq)
          exact hl
        · obtain rfl : o = q := Option.some.inj (ho.symm.trans hq)
          exact absurd h ha
    · simp only [State.endOrder, ho, hl]
      exact .refl s

theorem upholds_failLive (s : State) (p : PanelNo) (r : FailReason) : s.Upholds (s.failLive p r).st := by
  unfold State.failLive
  split
  · exact .refl s
  · exact upholds_endOrder s _ rfl

/-- An order whose step is interrupted, or that nobody serves, is paused (R59). -/
theorem upholds_paused {r : PauseReason} {f : PausedFrom} (ho : s.slot i = some o) (hl : o.state.live = true)
    (idle : o.state = .active → s.phaseAt o.panel = none) : s.Upholds (s.updateOrder i fun o =>
      { o with state := .paused r, pausedFrom := some f, phase := none, reasons := {} }) := by
  have run : Changes Leave.all s (s.updateOrder i fun o =>
      { o with state := .paused r, pausedFrom := some f, phase := none, reasons := {} }) := by
    refine .single (.update i o _ ho ⟨rfl, hl, .inl rfl, fun ⟨h1, h2, h3, h4, _⟩ => ?_, .inl trivial⟩ rfl ?_)
    · exact ⟨h1, h2, ⟨fun _ => h3.1 hl, fun _ => rfl⟩, ⟨fun _ => h4.1 hl, fun _ => rfl⟩, by simp [OrderState.isPaused]⟩
    · simp [OrderState.working]
  refine upholds_updateOrder (Changes.linked run) fun _ q hq => ?_
  obtain rfl : o = q := Option.some.inj (ho.symm.trans hq)
  exact idle

theorem upholds_pauseOrder (s : State) (i : SlotNo) (r : PauseReason) : s.Upholds (s.pauseOrder i r).st := by
  unfold State.pauseOrder
  cases ho : s.slot i with
  | none => exact .refl s
  | some o =>
    dsimp only
    cases hf : o.state.pausedFrom with
    | none => exact .refl s
    | some f =>
      dsimp only
      rw [Res.map_st]
      have hl := OrderState.pausedFrom_live hf
      split
      · refine (upholds_interrupt s o.panel).trans ?_
        obtain ⟨q, hq⟩ : ∃ q, (s.interrupt o.panel).st.slot i = some q := by
          obtain e | ⟨e, -⟩ := interrupt_slot (q := o.panel) ho
          · exact ⟨_, e⟩
          · exact ⟨_, e⟩
        obtain ⟨panel, state⟩ := interrupt_order ho hq
        refine upholds_paused hq (by rwa [state]) fun _ => ?_
        rw [panel]
        exact interrupt_phaseAt s o.panel
      · rename_i ha
        exact upholds_paused ho hl fun h => absurd h ha

theorem upholds_pauseIf (s : State) (f : Order → Bool) (r : PauseReason) (p : PanelNo) : s.Upholds (s.pauseIf f r p).st := by
  unfold State.pauseIf
  split
  · exact .refl s
  · split
    · exact upholds_pauseOrder s _ r
    · exact .refl s

/-- An order that holds no begun step enters DONE (R61). -/
theorem upholds_completeOrder (hl : ∀ o, s.slot i = some o → o.state.live = true)
    (idle : s.Linked → ∀ o, s.slot i = some o → o.state = .active → s.phaseAt o.panel = none) :
    s.Upholds (s.completeOrder i).st := by
  unfold State.completeOrder
  split
  · exact .refl s
  · exact upholds_finishOrder rfl hl idle

/-! ### Admission and release -/

/-- An order that is not ACTIVE is admitted (R45). -/
theorem upholds_admitted (hl : ∀ o, s.slot i = some o → o.state.live = true ∧ o.state ≠ .active) : s.Upholds (s.admitted i).st := by
  have linked : s.Linked → (s.admitted i).st.Linked :=
    Changes.linked (L := Leave.all) (changes_admitted fun o ho => .inr ⟨(hl o ho).1, trivial⟩)
  unfold State.admitted at linked ⊢
  cases ho : s.slot i with
  | none => exact .refl s
  | some o =>
    simp only [ho] at linked ⊢
    exact upholds_updateOrder linked fun _ q hq ha => absurd ha (hl q hq).2

theorem upholds_enter {link : Option Nat} (hl : ∀ o, s.slot i = some o → o.state.live = true ∧ o.state ≠ .active) :
    s.Upholds (s.enter i link).st := by
  unfold State.enter
  split
  · exact .refl s
  · exact upholds_admitted hl

theorem linked_amend {f : Order → Order} (hf : ∀ o, f o =
    { o with target := (f o).target, hold := (f o).hold, cls := (f o).cls, pred := (f o).pred }) (hs : s.Linked) :
    (s.modOrder i f).Linked := linked_of_acts (.single (.amend i f (fun _ h => by obtain ⟨_, h, -⟩ := h; cases h) hf)) hs

/-- A target, a hold, a class or a link is stored. -/
theorem upholds_amend {f : Order → Order} (hf : ∀ o, f o =
    { o with target := (f o).target, hold := (f o).hold, cls := (f o).cls, pred := (f o).pred }) :
    s.Upholds (s.modOrder i f) := by
  refine upholds_modOrder (linked_amend hf) fun _ o _ _ _ => ?_
  rw [hf o]
  exact ⟨rfl, rfl, rfl, rfl, rfl⟩

/-- An order that was paused while it waited returns to step 1 of its list when it is resumed (R62). -/
theorem upholds_unheld (ho : s.slot i = some o) (hl : o.state.live = true) (hp : o.pausedFrom = some .pending) :
    s.Upholds (s.modOrder i fun o => { o with pausedFrom := some .active, step := 1 }) := by
  have run : Changes Leave.all s (s.modOrder i fun o => { o with pausedFrom := some .active, step := 1 }) :=
    .single (.touch i o _ ho ⟨rfl, hl, .inl rfl, fun ⟨h1, h2, h3, h4, h5⟩ => ⟨h1, h2, h3, h4, by simpa [hp] using h5⟩,
      .inl trivial⟩ rfl)
  refine upholds_modOrder (Changes.linked run) fun hs q hq ha => ?_
  obtain rfl : o = q := Option.some.inj (ho.symm.trans hq)
  obtain ⟨-, -, -, -, h⟩ := hs.consistent i o ho
  rw [ha, hp] at h
  cases h.2 rfl

theorem upholds_unlink (s : State) (i : SlotNo) : s.Upholds (s.unlink i).st := by
  cases ho : s.slot i with
  | none => simp only [State.unlink, ho]; exact .refl s
  | some o =>
    have first : s.Upholds (s.modOrder i fun o => { o with pred := none }) := upholds_amend fun _ => rfl
    have slot : (s.modOrder i fun o => { o with pred := none }).slot i = some { o with pred := none } := by
      rw [modOrder_slot_self, ho]
      rfl
    simp only [State.unlink, ho]
    split
    · rename_i hp
      refine first.trans (upholds_admitted fun q hq => ?_)
      obtain rfl := Option.some.inj (slot.symm.trans hq)
      rw [hp]
      exact ⟨rfl, by decide⟩
    · split
      · rename_i hw
        exact first.trans (upholds_unheld slot hw.1 hw.2)
      · exact first

theorem upholds_releaseDependent (s : State) (i : SlotNo) (id : Nat) : s.Upholds (s.releaseDependent i id).st := by
  unfold State.releaseDependent
  split
  · split
    · exact upholds_unlink s i
    · exact .refl s
  · exact .refl s

/-- An order is made for a panel of which the table names none (R38 to R41). -/
theorem upholds_createOrder (n : StationNo) (kind : OrderKind) (target : Option Int) (cls : OrderClass) (hold : Option StepKind)
    (link : Option Nat) (linked : s.Linked → (s.createOrder n p kind target cls hold link).Linked) :
    s.Upholds (s.createOrder n p kind target cls hold link) := by
  refine .of_orders linked ?_ ?_ (fun q => ?_) ?_ (fun k => ?_) fun hs j o ho ha _ => ⟨o, ?_, rfl, ha, rfl, rfl, rfl⟩
  · rw [createOrder_eq]; rfl
  · rw [createOrder_eq]; rfl
  · rw [createOrder_panel]
    split
    · rename_i e
      subst e
      rfl
    · rfl
  · rw [createOrder_eq]; rfl
  · rw [createOrder_eq]; cases k <;> rfl
  · rw [createOrder_slot, if_neg]
    · exact ho
    · rintro rfl
      have dead := slotForNew_not_live hs ho
      rw [ha] at dead
      cases dead

/-! ### Faults -/

theorem upholds_fault (p : PanelNo) (f : PanelFault) :
    s.Upholds (s.modPanel p fun x => { x with faults := joinSet allPanelFaults f x.faults }) :=
  upholds_modPanel (Changes.linked (L := Leave.all) (.single (.fault p f trivial))) rfl (.of_same rfl rfl rfl rfl rfl rfl)

theorem upholds_raise (s : State) (p : PanelNo) (f : PanelFault) : s.Upholds (s.raise p f).st := by
  unfold State.raise
  split
  · exact .refl s
  · dsimp only [Res.add_st, Res.map_st, Res.bind_st]
    exact ((((upholds_fault p f).trans (upholds_panelOff _ p)).trans (upholds_failLive _ p _)).trans
      (upholds_endJogOn _ p)).trans (upholds_latch _)

theorem upholds_each {α : Type} {xs : List α} {f : α → State → Res} {r : Res} (h : s.Upholds r.st)
    (hf : ∀ a (t : State), t.Upholds (f a t).st) : s.Upholds (Res.each xs f r).st :=
  Res.each_ind (P := fun t => s.Upholds t) (fun a _ h => h.trans (hf a _)) _ _ h

theorem upholds_fold {α : Type} {f : State → α → State} (hf : ∀ a (t : State), t.Upholds (f t a)) :
    ∀ (xs : List α) (s : State), s.Upholds (xs.foldl f s)
  | [], s => .refl s
  | a :: xs, s => (hf a s).trans (upholds_fold hf xs (f s a))

theorem upholds_raiseAll (s : State) (ps : List PanelNo) (f : PanelFault) : s.Upholds (s.raiseAll ps f).st :=
  upholds_each (.refl s) fun p t => upholds_raise t p f

end Sys2Proof.Machine
end

section
/-! A panel whose step stands still (`State.Poised`): none of its coils is on, and its flow is as it was when the work on it began.
What a sequencer may do with such a step upholds the laws (R70, R72, R73, R77, R85). -/

namespace Sys2Proof.Machine

open State (WorksOn Only Upholds)

variable {s t u : State} {p q : PanelNo} {i j : SlotNo} {o : Order} {k : StepKind}

/-- A request joins a list of which no pack has named the panel. -/
theorem flowAt_insert {w : Waiter} (less : u.flowless w.panel) (l : PackId) (begun : u.phaseAt w.panel ≠ none) :
    (u.modPack l fun x => x.insert w).flowAt w.panel := by
  have joined : (u.modPack l fun x => x.insert w).pack l = (u.pack l).insert w := modPack_pack_self ..
  have other : (u.modPack l fun x => x.insert w).pack (otherPack l) = u.pack (otherPack l) := setPack_pack_other ..
  have phase : (u.modPack l fun x => x.insert w).phaseAt w.panel ≠ none := by
    rwa [phaseAt_congr (served_modPack ..)]
  refine ⟨?_, fun l' g hg e => ?_, fun _ _ _ _ => phase⟩
  · have one : ((u.pack l).insert w).panels.count w.panel = 1 := by
      rw [(insert_panels _ w).count_eq, List.count_cons_self, List.count_eq_zero.2 (less l)]
    have zero : (u.pack (otherPack l)).panels.count w.panel = 0 := List.count_eq_zero.2 (less _)
    rw [named_eq]
    cases l
    · rw [joined, one]
      exact (congrArg (1 + ·) ((congrArg (fun x : Pack => x.panels.count w.panel) other).trans zero)).le
    · rw [joined, one]
      exact (congrArg (· + 1) ((congrArg (fun x : Pack => x.panels.count w.panel) other).trans zero)).le
  · have old : g ∈ (u.pack l').grants := by
      by_cases e' : l = l'
      · subst e'
        rwa [joined] at hg
      · rwa [State.modPack, setPack_pack_ne _ _ e'] at hg
    exact absurd (List.mem_append_left _ (e ▸ List.mem_map_of_mem old)) (less l')

/-- The work on the panel `p`, begun at `s`, has come to `u`, where the step of kind `k` of the order in slot `i` stands still. -/
structure State.Poised (p : PanelNo) (i : SlotNo) (k : StepKind) (s u : State) : Prop where
  work : WorksOn p s u
  only : Only p s u
  packs : ∀ l, u.pack l = s.pack l
  served : ∃ o, u.served p = some (i, o, k)
  rest : s.Linked → s.ownedAt p → (u.panel p).resting

namespace State.Poised

theorem serves (h : Poised p i k s u) : u.serves p i := by
  obtain ⟨o, h⟩ := h.served
  exact ⟨o, k, h⟩

/-- A step that is not RUNNING stands still. -/
theorem of_served (hv : s.served p = some (i, o, k)) (hr : o.phase ≠ some .running) : Poised p i k s s :=
  ⟨.refl p s, .refl p s, fun _ => rfl, ⟨o, hv⟩, fun hs ho => resting_of_served hs hv hr ho⟩

/-- A step whose panel has come to rest stands still. -/
theorem of_calms (hv : s.served p = some (i, o, k)) (calm : s.Calms p u)
    (rest : s.Linked → s.ownedAt p → (u.panel p).resting) : Poised p i k s u :=
  ⟨.of_calms calm, .of_calms calm, calm.pack, ⟨o, (calm.served p).trans hv⟩, rest⟩

theorem modPanel (h : Poised p i k s u) {f : Panel → Panel} (w : WorksOn p u (u.modPanel p f))
    (live : (f (u.panel p)).live = (u.panel p).live) (coils : (f (u.panel p)).coils = (u.panel p).coils)
    (mode : (f (u.panel p)).mode = (u.panel p).mode) : Poised p i k s (u.modPanel p f) where
  work := h.work.trans w
  only := h.only.trans (.modPanel f)
  packs := fun l => (modPanel_pack ..).trans (h.packs l)
  served := by
    obtain ⟨o, h⟩ := h.served
    exact ⟨o, (served_modPanel live).trans h⟩
  rest := fun hs ho => by
    rw [modPanel_panel_self]
    exact Panel.resting_congr coils mode (h.rest hs ho)

theorem latch (h : Poised p i k s u) {e : EventLatch} (he : 4 ≤ e.code) : Poised p i k s (u.setLatch e) where
  work := h.work.trans (.latch he)
  only := h.only.trans (.latch e)
  packs := fun l => (setLatch_pack ..).trans (h.packs l)
  served := by
    obtain ⟨o, h⟩ := h.served
    exact ⟨o, (served_congr (by simp) (by simp)).trans h⟩
  rest := fun hs ho => by
    rw [setLatch_panel]
    exact h.rest hs ho

theorem warn (h : Poised p i k s u) (w : PanelWarning) : Poised p i k s (u.warn p w) :=
  (h.modPanel (.of_change (changes_quiet fun x => .of_warn _ x w)) rfl rfl rfl).latch (by decide)

theorem setPhase (h : Poised p i k s u) (ph : Option Phase) (r : Reasons) (v : Option Purpose) :
    Poised p i k s (u.setPhase p i ph r v) where
  work := h.work.trans (worksOn_phased h.serves ph r v)
  only := h.only.trans (.setPhase i ph r v)
  packs := fun l => (setPhase_pack ..).trans (h.packs l)
  served := by
    obtain ⟨o, h⟩ := h.served
    exact ⟨_, served_setPhase h ..⟩
  rest := fun hs ho => by
    rw [setPhase_panel]
    exact Panel.resting_congr rfl rfl (h.rest hs ho)

theorem setPhase_phaseAt (h : Poised p i k s u) (ph : Option Phase) (r : Reasons) (v : Option Purpose) :
    (u.setPhase p i ph r v).phaseAt p = ph.map fun x => (k, x) := by
  obtain ⟨o, h⟩ := h.served
  rw [phaseAt_of_served (served_setPhase h ..)]

theorem dropPlan (h : Poised p i k s u) : Poised p i k s (u.modPanel p fun x => { x with plan := none }) :=
  h.modPanel worksOn_dropPlan rfl rfl rfl

/-- While a step stands still no jog is in progress (R195). -/
theorem noJog (h : Poised p i k s u) (hs : s.Linked) : s.jog = none := by
  cases hj : s.jog with
  | none => rfl
  | some j =>
    obtain ⟨o, hv⟩ := h.served
    have service := (lasting_unit h.work.run.lasting).trans (hs.jog j hj).1
    have idle := (Changes.linked h.work.run hs).serviced service i o (served_slot hv)
    rw [served_active hv] at idle
    cases idle

theorem placedOnce (h : Poised p i k s u) (hf : s.flowLaws) : u.placedOnce p :=
  (placedOnce_of_pack h.packs).2 (hf.placedOnce p)

/-- The step goes on standing still, in a phase. -/
theorem upholds (h : Poised p i k s u) (begun : u.phaseAt p ≠ none) : s.Upholds u :=
  .of_work h.work h.only
    (fun hs hf => flowAt_kept (fun l => by rw [h.packs]) (fun _ => begun)
      (fun j hj _ => by rw [h.noJog hs] at hj; cases hj) ((flowLaws_iff.1 hf).2 p))
    fun hs ho => .inl (h.rest hs ho)

/-- The step's flow is dropped. -/
theorem upholds_dropFlow (h : Poised p i k s u) : s.Upholds (u.dropFlow p).st :=
  .of_work (h.work.trans (.dropFlow u p p)) (h.only.trans (only_dropFlow u p))
    (fun _ hf => flowAt_of_flowless (flowless_iff.2 (flow_dropFlow (h.placedOnce hf))))
    fun hs ho => .inl (by rw [dropFlow_panel]; exact h.rest hs ho)

/-- The step ends without a phase, and its flow is dropped. -/
theorem upholds_left (h : Poised p i k s u) (ph : Option Phase) (r : Reasons) :
    s.Upholds (((u.setPhase p i ph r none).modPanel p fun x => { x with plan := none }).dropFlow p).st :=
  (h.setPhase ph r none).dropPlan.upholds_dropFlow

theorem upholds_skip (h : Poised p i k s u) : s.Upholds (u.skip p i).st := h.upholds_left none {}

theorem upholds_toWait (h : Poised p i k s u) (r : Reasons) : s.Upholds (u.toWait p i r).st := h.upholds_left _ r

/-- The step is interrupted. -/
theorem upholds_interrupt (h : Poised p i k s u) : s.Upholds (u.interrupt p).st := by
  obtain ⟨o, hv⟩ := h.served
  refine .of_work (h.work.trans (worksOn_interrupt u p)) (h.only.trans (only_interrupt u p)) (fun _ hf => ?_)
    fun hs ho => .inl ?_
  · exact flowAt_of_flowless fun l => by
      rw [interrupt_pack hv (h.placedOnce hf)]
      exact not_mem_dropPanel _ _
  · have calm : u.Calms p (if o.phase = some .running then u.stopStep p k else u) := by
      split
      · exact calms_stopStep k
      · exact .refl u p
    simp only [State.interrupt, hv, Res.add_st]
    rw [dropFlow_panel, modPanel_panel_self, setPhase_panel]
    exact Panel.resting_congr rfl rfl fun k' hw => h.rest hs ho k' (works_of_calms calm hw)

end State.Poised

/-- The interruption of a step is what the end of its order depends on. -/
theorem upholds_endServed {st : OrderState} (hv : u.served p = some (i, o, k)) (hp : o.panel = p) (hst : st.live = false)
    (h : s.Upholds (u.interrupt p).st) : s.Upholds (u.endOrder i st).st := by
  have ho := served_slot hv
  have ha := served_active hv
  have hl : o.state.live = true := by rw [ha]; rfl
  rw [endOrder_eq ho hl]
  dsimp only
  rw [if_pos ha, hp]
  refine (h.trans (upholds_finishOrder hst (fun q hq => ?_) fun _ q hq _ => ?_)).trans (upholds_cascade _ _ _ _)
  · rw [(interrupt_order ho hq).2]
    exact hl
  · rw [(interrupt_order ho hq).1, hp]
    exact interrupt_phaseAt u p

namespace State.Poised

theorem upholds_failLive (h : Poised p i k s u) (r : FailReason) : s.Upholds (u.failLive p r).st := by
  obtain ⟨o, hv⟩ := h.served
  refine .given fun hs => ?_
  obtain ⟨hlive, -⟩ := served_some hv
  unfold State.failLive
  rw [hlive]
  exact upholds_endServed hv (live_of_liveOrder (Changes.linked h.work.run hs) hlive).2.1 rfl h.upholds_interrupt

theorem upholds_sequenceFail (h : Poised p i k s u) : s.Upholds (u.sequenceFail p).st := (h.warn _).upholds_failLive _

/-- The step's request joins a list (R127). -/
theorem upholds_insert (h : Poised p i k s u) (begun : u.phaseAt p ≠ none) (free : u.flow p = .none) (l : PackId) {w : Waiter}
    (hw : w.panel = p) : s.Upholds (u.modPack l fun x => x.insert w) := by
  subst hw
  refine .of_work (h.work.trans (.pack fun _ => rfl)) (h.only.trans (only_insert l w rfl))
    (fun _ _ => flowAt_insert (flowless_iff.2 free) l begun) fun hs ho => .inl ?_
  rw [modPack_panel]
  exact h.rest hs ho

/-- The step asks for flow (R77). -/
theorem upholds_request (h : Poised p i k s u) (o : Order) : s.Upholds (u.request p i o k).st := by
  have asks := (h.setPhase (some .flowWait) {} none).dropPlan
  have phase : ((u.setPhase p i (some .flowWait) {} none).modPanel p fun x => { x with plan := none }).phaseAt p ≠ none := by
    rw [phaseAt_congr (served_modPanel rfl), h.setPhase_phaseAt]
    exact Option.some_ne_none _
  unfold State.request
  dsimp only
  split
  · exact h.upholds_failLive _
  · split
    · exact h.upholds_failLive _
    · split
      · rename_i free
        exact asks.upholds_insert phase free _ rfl
      · exact asks.upholds phase

end State.Poised

end Sys2Proof.Machine
end

section
/-! A step enters RUNNING (R78): its coil comes on where the laws of R72 and R74 allow it. -/

namespace Sys2Proof.Machine

open State (WorksOn Only Upholds Poised)

variable {s t u : State} {p q : PanelNo} {i j : SlotNo} {o : Order} {k : StepKind} {X Y : PanelNo → Prop}

/-! ### Chops -/

theorem upholds_chopped (s : State) (p : PanelNo) :
    s.Upholds (s.modPanel p fun x => x.chopped s.now s.params.tuning.chopHoldoff) := by
  refine upholds_modPanel (Changes.linked (changes_chopped (L := Leave.all) fun _ _ => trivial)) rfl
    ⟨⟨fun k hw => ?_, fun _ h => h, fun _ _ m h => ⟨m, h, rfl, rfl, rfl⟩⟩, rfl, rfl, fun _ h => h⟩
  cases k with
  | travel => exact .inr (.inr (by simpa [Panel.works, Panel.driving, Panel.chopped] using hw))
  | _ => exact hw

theorem upholds_chopPanel (s : State) (p : PanelNo) : s.Upholds (s.chopPanel p).st := by
  rw [chopPanel_eq]
  refine (upholds_chopped s p).trans ?_
  generalize s.modPanel p (fun x => x.chopped s.now s.params.tuning.chopHoldoff) = u
  unfold State.afterChop
  dsimp only
  split
  · refine (upholds_warn .travelTrip).trans (.trans (upholds_quieter ?_ ?_) (upholds_raise _ p _))
    · exact .of_same rfl rfl rfl rfl id rfl rfl rfl rfl
    · exact .of_same rfl rfl rfl rfl rfl rfl
  · exact upholds_warn .travelTrip

theorem upholds_chopIfTripped (s : State) (p : PanelNo) : s.Upholds (s.chopIfTripped p).st := by
  unfold State.chopIfTripped
  split
  · exact upholds_chopPanel s p
  · exact .refl s

/-! ### A coil comes on -/

/-- The kind of step to which a coil belongs, of those the laws speak of. -/
def Coil.workOf : Coil → Option StepKind
  | .liftUp => some .lift
  | .liftDown => some .lower
  | .travelOut | .travelIn => some .travel
  | .cleatEng g => some (.cleat g)
  | _ => none

theorem Panel.works_energised {x : Panel} {on : Bool} {c : Coil} (h : (x.energised on c).works k) :
    x.works k ∨ Coil.workOf c = some k := by
  cases on with
  | false => exact .inl h
  | true =>
    have get (e : Coil) (he : (x.coils.put true c).get e = true) : x.coils.get e = true ∨ c = e := by
      rw [Coils.get_put] at he
      split at he
      · exact .inr ‹_›
      · exact .inl he
    cases k with
    | lift => exact (get .liftUp h).imp_right fun e => by rw [e]; rfl
    | lower => exact (get .liftDown h).imp_right fun e => by rw [e]; rfl
    | cleat g => exact (get (.cleatEng g) h).imp_right fun e => by rw [e]; rfl
    | travel =>
      obtain h | h | h := h
      · exact (get .travelOut h).imp .inl fun e => by rw [e]; rfl
      · exact (get .travelIn h).imp (fun h => .inr (.inl h)) fun e => by rw [e]; rfl
      · exact .inl (.inr (.inr h))
    | _ => exact h.elim

theorem partner_partner (p : PanelNo) : partner (partner p) = p := by revert p; decide

theorem hatchOf_partner (p : PanelNo) : hatchOf (partner p) = hatchOf p := by revert p; decide

theorem isPort_partner (p : PanelNo) : isPort (partner p) = !isPort p := by revert p; decide

theorem isLap_partner (s : State) (p : PanelNo) : s.isLap (partner p) = !s.isLap p := by
  have side (h h' : HatchNo) (e : h = h') : s.layout.lapSide[h] = s.layout.lapSide[h'] := by rw [e]
  unfold State.isLap
  rw [isPort_partner, side _ _ (hatchOf_partner p)]
  exact Bool.bne_not ..

/-- The laws of R74 allow the panel a coil of kind `k`. -/
structure State.clear (s : State) (p : PanelNo) (k : StepKind) : Prop where
  lift : k = .lift → s.isLap p = false → (s.panel (partner p)).seat = .lifted ∧ ¬ (s.panel (partner p)).works .lower
  lower : k = .lower → s.isLap p = true → (s.panel (partner p)).seat = .seated ∧ ¬ (s.panel (partner p)).works .lift

theorem clear_of_lapHolds (h : s.lapHolds p k = false) : s.clear p k := by
  constructor
  · rintro rfl e
    simp only [State.lapHolds, e, Bool.not_false, Bool.true_and, Bool.or_eq_false_iff, bne_eq_false_iff_eq] at h
    exact ⟨h.1, by simp [Panel.works, h.2]⟩
  · rintro rfl e
    simp only [State.lapHolds, e, Bool.true_and, Bool.or_eq_false_iff, bne_eq_false_iff_eq] at h
    exact ⟨h.1, by simp [Panel.works, h.2]⟩

/-- Where a coil of kind `k` comes on at one panel, the laws stay if that coil has its owner and they allow it. -/
theorem obeysBut_of_run (hl : t.layout = s.layout) (seat : ∀ q, (t.panel q).seat = (s.panel q).seat)
    (away : ∀ q, p ≠ q → (s.panel q).Rests (t.panel q) ∧ s.GoesOn q t) (sole : ∀ k', (t.panel p).works k' → k' = k)
    (owns : (t.panel p).works k → t.owns p k) (meets : (t.panel p).works k → t.meets p k) (clear : s.clear p k)
    (hs : s.obeysBut X Y) : t.obeysBut X Y where
  owned := fun q => by
    by_cases e : p = q
    · subst e
      intro k' hw
      obtain rfl := sole k' hw
      exact owns hw
    · exact ownedAt_kept (.inr ⟨(away q e).1.toBears, (away q e).2⟩) (hs.owned q)
  law := fun q hq => by
    by_cases e : p = q
    · subst e
      intro k' hw
      obtain rfl := sole k' hw
      exact meets hw
    · exact panelLawAt_kept hl (.inr (away q e).1) (hs.law q hq)
  lap := fun q hq => by
    by_cases e : p = q
    · subst e
      have still := (away (partner p) (Ne.symm (partner_ne p))).1
      refine ⟨fun hw e => ?_, fun hw e => ?_⟩
      · obtain ⟨h1, h2⟩ := clear.lift (sole _ hw).symm (by rwa [isLap_congr hl] at e)
        exact ⟨(seat _).trans h1, fun h => h2 (still.works _ h)⟩
      · obtain ⟨h1, h2⟩ := clear.lower (sole _ hw).symm (by rwa [isLap_congr hl] at e)
        exact ⟨(seat _).trans h1, fun h => h2 (still.works _ h)⟩
    · have still := (away q e).1
      refine ⟨fun hw lap => ?_, fun hw lap => ?_⟩
      · rw [isLap_congr hl] at lap
        obtain ⟨h1, h2⟩ := (hs.lap q hq).1 (still.works _ hw) lap
        refine ⟨(seat _).trans h1, fun h => ?_⟩
        by_cases e' : p = partner q
        · subst e'
          have other := (clear.lower (sole _ h).symm (by rw [isLap_partner, lap]; rfl)).2
          rw [partner_partner] at other
          exact other (still.works _ hw)
        · exact h2 ((away _ e').1.works _ h)
      · rw [isLap_congr hl] at lap
        obtain ⟨h1, h2⟩ := (hs.lap q hq).2 (still.works _ hw) lap
        refine ⟨(seat _).trans h1, fun h => ?_⟩
        by_cases e' : p = partner q
        · subst e'
          have other := (clear.lift (sole _ h).symm (by rw [isLap_partner, lap]; rfl)).2
          rw [partner_partner] at other
          exact other (still.works _ hw)
        · exact h2 ((away _ e').1.works _ h)

/-- The work on a panel has begun the step of kind `k` there, whose coil may be on. -/
theorem State.Upholds.of_run (w : WorksOn p s t) (b : Only p s t) (packs : ∀ l, t.pack l = s.pack l)
    (noJog : s.Linked → s.jog = none) (begun : t.phaseAt p ≠ none)
    (sole : s.Linked → s.ownedAt p → ∀ k', (t.panel p).works k' → k' = k)
    (owns : s.Linked → s.ownedAt p → (t.panel p).works k → t.owns p k) (meets : (t.panel p).works k → t.meets p k)
    (clear : s.clear p k) : s.Upholds t where
  linked := Changes.linked w.run
  flow := fun hs hf => by
    obtain ⟨sum, each⟩ := flowLaws_iff.1 hf
    refine flowLaws_iff.2 ⟨fun l => ?_, fun q => ?_⟩
    · rw [capacity_lasting w.run.lasting, packs]
      exact sum l
    · refine flowAt_kept (fun l => by rw [packs]) (fun h => ?_) (fun j hj _ => by rw [noJog hs] at hj; cases hj) (each q)
      by_cases e : p = q
      · subst e
        exact begun
      · rwa [(WorksOn.goesOn w b hs e).phase h]
  coils := fun hs X Y hc => obeysBut_of_run (lasting_layout w.run.lasting)
    (fun q => (congrArg Panel.seat (lasting_panel w.run.lasting q) :))
    (fun q hq => ⟨.of_unassigned (b.body q hq), WorksOn.goesOn w b hs hq⟩) (sole hs (hc.owned p)) (owns hs (hc.owned p))
    meets clear hc

end Sys2Proof.Machine
end

section
/-! The kinds of steps that enter RUNNING (R78, R80, R84, R102), and the stages of an evaluation (R70). -/

namespace Sys2Proof.Machine

open State (WorksOn Only Upholds Poised)

variable {s t u v : State} {p q : PanelNo} {i j : SlotNo} {o : Order} {k : StepKind}

theorem clear_of_only (b : Only p s u) (hl : u.layout = s.layout) (h : u.clear p k) : s.clear p k := by
  have same := b.body (partner p) (Ne.symm (partner_ne p))
  have seat : (u.panel (partner p)).seat = (s.panel (partner p)).seat := (congrArg Panel.seat same :)
  have works (r : StepKind) : (s.panel (partner p)).works r → (u.panel (partner p)).works r :=
    (Panel.Rests.of_unassigned same.symm).works r
  refine ⟨fun hk e => ?_, fun hk e => ?_⟩
  · obtain ⟨h1, h2⟩ := h.lift hk (by rwa [isLap_congr hl])
    exact ⟨seat.symm.trans h1, fun h => h2 (works _ h)⟩
  · obtain ⟨h1, h2⟩ := h.lower hk (by rwa [isLap_congr hl])
    exact ⟨seat.symm.trans h1, fun h => h2 (works _ h)⟩

theorem runTimed_panel (s : State) (p : PanelNo) (c : Coil) (a : Activity) (n : Nat) : (s.runTimed p c a n).panel p =
    { (s.panel p).energised s.enabled c with activity := a, stepTimer := some (s.now + n) } := by
  unfold State.runTimed
  rw [modPanel_panel_self, energise_eq, modPanel_panel_self]

theorem only_runTimed (c : Coil) (a : Activity) (n : Nat) : Only p s (s.runTimed p c a n) :=
  (only_energise c).trans (.modPanel _)

theorem runTimed_rest (s : State) (p : PanelNo) (c : Coil) (a : Activity) (n : Nat) :
    (∀ l, (s.runTimed p c a n).pack l = s.pack l) ∧ (s.runTimed p c a n).served p = s.served p := by
  unfold State.runTimed
  rw [energise_eq]
  exact ⟨fun l => (modPanel_pack ..).trans (modPanel_pack ..), (served_modPanel rfl).trans (served_modPanel rfl)⟩

/-- The steps with a timer: LIFT, LOWER and those of the stow (R78, R84). -/
theorem upholds_timed (h : Poised p i k s v) (runs : v.stepRuns p k) {c : Coil} (hc : ∀ r, Coil.workOf c = some r → r = k)
    (hk : k ≠ .travel ∧ ∀ g, k ≠ .cleat g) (a : Activity) (n : Nat) (meets : v.meets p k) (clear : s.clear p k) :
    s.Upholds (v.runTimed p c a n) := by
  obtain ⟨packs, served⟩ := runTimed_rest v p c a n
  have phase : (v.runTimed p c a n).phaseAt p = v.phaseAt p := phaseAt_congr served
  have runs' : (v.runTimed p c a n).stepRuns p k := by
    rw [stepRuns_iff, phase]
    exact stepRuns_iff.1 runs
  refine .of_run (k := k) (h.work.trans (worksOn_runTimed c a n)) (h.only.trans (only_runTimed c a n))
    (fun l => (packs l).trans (h.packs l)) h.noJog (by rw [stepRuns_iff.1 runs']; exact Option.some_ne_none _)
    (fun hs ho r hw => ?_) (fun _ _ _ => ?_) (fun _ => ?_) clear
  · rw [runTimed_panel] at hw
    obtain hw | e := Panel.works_energised (x := v.panel p) (on := v.enabled) (c := c) (k := r) hw
    · exact absurd hw (h.rest hs ho r)
    · exact hc r e
  · cases k with
    | lift => exact .inl runs'
    | lower => exact .inl runs'
    | travel => exact absurd rfl hk.1
    | cleat g => exact absurd rfl (hk.2 g)
    | _ => trivial
  · cases k with
    | lift =>
      refine uncleated_kept ?_ (fun e he => ?_) meets
      · unfold State.runTimed
        rw [energise_eq]
        rfl
      · rw [runTimed_panel]
        exact he
    | travel => exact absurd rfl hk.1
    | cleat g => exact absurd rfl (hk.2 g)
    | _ => trivial

theorem Panel.works_setTravelling {x : Panel} {d : Dir} {fast jog on : Bool} {n : Nat}
    (h : (x.setTravelling d fast jog on n).works k) : x.works k ∨ k = .travel := by
  have direction : Coil.workOf d.coil = some .travel := by cases d <;> rfl
  have started (h : (x.started d fast jog n).works k) : x.works k ∨ k = .travel := by
    cases k with
    | travel => exact .inr rfl
    | _ => exact .inl h
  have driven (h : (((x.started d fast jog n).energised on .brakeRelease).energised on d.coil).works k) :
      x.works k ∨ k = .travel := by
    obtain h | e := Panel.works_energised h
    · obtain h | e := Panel.works_energised h
      · exact started h
      · cases e
    · rw [direction] at e
      exact .inr (Option.some.inj e).symm
  unfold Panel.setTravelling at h
  cases fast with
  | false => exact driven h
  | true =>
    obtain h | e := Panel.works_energised h
    · exact driven h
    · cases e

theorem driveTravel_panel (s : State) (p : PanelNo) (d : Dir) (fast jog : Bool) : (s.driveTravel p d fast jog).panel p =
    (s.panel p).setTravelling d fast jog s.enabled (s.now + s.params.tuning.stallPeriod) := by
  rw [driveTravel_eq, modPanel_panel_self]

theorem Panel.setTravelling_kept (x : Panel) (d : Dir) (fast jog on : Bool) (n : Nat) :
    (x.setTravelling d fast jog on n).sw = x.sw ∧ (x.setTravelling d fast jog on n).cleats = x.cleats ∧
      (x.setTravelling d fast jog on n).live = x.live ∧ (x.setTravelling d fast jog on n).move = x.move := by
  cases fast <;> exact ⟨rfl, rfl, rfl, rfl⟩

theorem driveTravel_rest (s : State) (p : PanelNo) (d : Dir) (fast jog : Bool) :
    (∀ l, (s.driveTravel p d fast jog).pack l = s.pack l) ∧ (∀ q, (s.driveTravel p d fast jog).served q = s.served q) ∧
      (s.driveTravel p d fast jog).layout = s.layout ∧ (s.driveTravel p d fast jog).jog = s.jog := by
  rw [driveTravel_eq]
  exact ⟨fun l => modPanel_pack .., fun q => served_modPanel (Panel.setTravelling_kept ..).2.2.1, rfl, rfl⟩

theorem meets_travel (h : v.meets p .travel) (d : Dir) (fast jog : Bool) : (v.driveTravel p d fast jog).meets p .travel := by
  obtain ⟨-, -, layout, -⟩ := driveTravel_rest v p d fast jog
  obtain ⟨sw, cleats, -, -⟩ := Panel.setTravelling_kept (v.panel p) d fast jog v.enabled (v.now + v.params.tuning.stallPeriod)
  refine ⟨uncleated_kept layout (fun c hc => ?_) h.1, ?_, ?_⟩
  · rw [driveTravel_panel, cleats]
    exact hc
  · rw [driveTravel_panel, Panel.seat, sw]
    exact h.2.1
  · rw [driveTravel_panel, sw]
    exact h.2.2

/-- A TRAVEL step (R78, R102). -/
theorem upholds_drive (h : Poised p i .travel s v) (runs : v.stepRuns p .travel) (d : Dir) (fast : Bool)
    (meets : v.meets p .travel) : s.Upholds (v.driveTravel p d fast false) := by
  obtain ⟨packs, served, layout, jog⟩ := driveTravel_rest v p d fast false
  have runs' : (v.driveTravel p d fast false).stepRuns p .travel := by
    rw [stepRuns_iff, phaseAt_congr (served p)]
    exact stepRuns_iff.1 runs
  refine .of_run (k := .travel) (h.work.trans (worksOn_driveTravel d fast false)) (h.only.trans (only_driveTravel d fast false))
    (fun l => (packs l).trans (h.packs l)) h.noJog (by rw [stepRuns_iff.1 runs']; exact Option.some_ne_none _)
    (fun hs ho r hw => ?_) (fun _ _ _ => ?_) (fun _ => meets_travel meets d fast false) ⟨nofun, nofun⟩
  · rw [driveTravel_panel] at hw
    exact (Panel.works_setTravelling hw).resolve_left (h.rest hs ho r)
  · refine ⟨?_, .inl runs'⟩
    rw [driveTravel_panel]
    exact (Panel.setTravelling_mode ..).1

end Sys2Proof.Machine
end

section
/-! The cleat step and the TRAVEL step enter RUNNING (R80, R102), and the stages of an evaluation (R70, R78). -/

namespace Sys2Proof.Machine

open State (WorksOn Only Upholds Poised)

variable {s t u v : State} {p q : PanelNo} {i j : SlotNo} {o : Order} {k : StepKind} {g : GroupNo} {d : CleatDir}

/-! ### A cleat step -/

theorem Panel.works_congr {x y : Panel} (hc : y.coils = x.coils) (hm : y.mode = x.mode) (h : y.works k) : x.works k := by
  unfold Panel.works Panel.driving at *
  rwa [hc, hm] at h

theorem startMove_seat (s : State) (p : PanelNo) (g : GroupNo) (d : CleatDir) (a b : Nat) (x : Bool) :
    ((s.startMove p g d a b x).panel p).seat = (s.panel p).seat := by
  by_cases h : s.atLevel p g d = s.participants p g
  · obtain ⟨cl, e⟩ := startMove_full h a b x
    rw [e]; rfl
  · obtain ⟨cl, e⟩ := startMove_part h a b x
    rw [e]; rfl

/-- The start of a move energises the valve of its group alone, under the move. -/
theorem startMove_works {a b : Nat} {x : Bool} (h : ((s.startMove p g d a b x).panel p).works k) :
    (s.panel p).works k ∨
      Coil.workOf (d.coil g) = some k ∧ ((s.startMove p g d a b x).panel p).move = some (s.newMove p g d a b x) := by
  by_cases full : s.atLevel p g d = s.participants p g
  · obtain ⟨cl, e⟩ := startMove_full full a b x
    rw [e] at h
    exact .inl (Panel.works_congr rfl rfl h)
  · obtain ⟨cl, e⟩ := startMove_part full a b x
    rw [e] at h ⊢
    refine (Panel.works_energised (x := s.panel p) (on := s.enabled) (c := d.coil g) ?_).imp_right fun h => ⟨h, rfl⟩
    refine Panel.works_congr ?_ ?_ h <;> unfold Panel.energised <;> split <;> rfl

theorem workOf_cleat (h : Coil.workOf (d.coil g) = some k) : d = .engage ∧ k = d.step g := by
  cases d with
  | engage => exact ⟨rfl, (Option.some.inj h).symm⟩
  | release => cases h

namespace State.Poised

/-- A step that goes on standing still. -/
theorem kept (h : Poised p i k s u) (w : WorksOn p u t) (b : Only p u t) (packs : ∀ l, t.pack l = u.pack l)
    (served : t.served p = u.served p) (coils : (t.panel p).coils = (u.panel p).coils)
    (mode : (t.panel p).mode = (u.panel p).mode) : Poised p i k s t where
  work := h.work.trans w
  only := h.only.trans b
  packs := fun l => (packs l).trans (h.packs l)
  served := by
    obtain ⟨o, h⟩ := h.served
    exact ⟨o, served.trans h⟩
  rest := fun hs ho => Panel.resting_congr coils mode (h.rest hs ho)

theorem begun (runs : v.stepRuns p k) : v.phaseAt p ≠ none := by
  rw [stepRuns_iff.1 runs]
  exact Option.some_ne_none _

theorem upholds_startMove (h : Poised p i (d.step g) s v) (runs : v.stepRuns p (d.step g))
    (seated : d = .engage → (v.panel p).seat = .seated) (a b : Nat) : s.Upholds (v.startMove p g d a b false) := by
  have runs' : (v.startMove p g d a b false).stepRuns p (d.step g) := by
    rw [stepRuns_iff, phaseAt_congr (startMove_served ..)]
    exact stepRuns_iff.1 runs
  refine .of_run (k := d.step g) (h.work.trans (worksOn_startMove g d a b false)) (h.only.trans (only_startMove g d a b false))
    (fun l => (startMove_pack ..).trans (h.packs l)) h.noJog (begun runs') (fun hs ho r hw => ?_) (fun hs ho hw => ?_)
    (fun _ => ?_) (by cases d <;> exact ⟨nofun, nofun⟩)
  · obtain hw | ⟨e, -⟩ := startMove_works hw
    · exact absurd hw (h.rest hs ho r)
    · exact (workOf_cleat e).2
  · obtain hw | ⟨e, hm⟩ := startMove_works hw
    · exact absurd hw (h.rest hs ho _)
    · obtain ⟨rfl, -⟩ := workOf_cleat e
      exact ⟨_, hm, rfl, rfl, runs'⟩
  · cases d with
    | engage => exact (startMove_seat ..).trans (seated rfl)
    | release => trivial

theorem upholds_runMove (h : Poised p i (d.step g) s v) (runs : v.stepRuns p (d.step g))
    (seated : d = .engage → (v.panel p).seat = .seated) : s.Upholds (v.runMove p g d).st := by
  unfold State.runMove
  split
  · exact h.upholds (begun runs)
  · exact h.upholds_startMove runs seated _ _

/-! ### A TRAVEL step -/

theorem upholds_runTravel (h : Poised p i .travel s v) (runs : v.stepRuns p .travel) (meets : v.meets p .travel) (o : Order) :
    s.Upholds (v.runTravel p o).st := by
  have homed := h.modPanel (f := fun x => { x with chopMark := false, count := if x.certain then x.count else 4095 })
    (.of_change (changes_quiet fun x => .of_count rfl rfl rfl rfl
      (fun _ _ ⟨h1, h2, h⟩ => ⟨by dsimp only; split <;> omega, by dsimp only; split <;> omega, h⟩) rfl rfl rfl rfl)) rfl rfl rfl
  unfold State.runTravel
  dsimp only
  generalize hw : (v.modPanel p fun x => { x with chopMark := false, count := if x.certain then x.count else 4095 }) = w at *
  have planned := homed.modPanel (f := fun x => { x with plan := some (w.planFor p (o.target.getD 0)) })
    (.of_change (changes_quiet fun _ => .of_same rfl rfl rfl rfl id rfl rfl rfl rfl)) rfl rfl rfl
  refine .trans (upholds_drive planned ?_ _ _ ?_) (upholds_chopIfTripped _ p)
  · rw [stepRuns_iff, phaseAt_congr (served_modPanel rfl), ← hw, phaseAt_congr (served_modPanel rfl)]
    exact stepRuns_iff.1 runs
  · refine meets_kept (s := v) ?_ ?_ meets
    · subst hw; rfl
    · rw [modPanel_panel_self, ← hw, modPanel_panel_self]
      exact .of_same rfl rfl rfl rfl rfl rfl

/-! ### The stages -/

/-- A step that its hard preconditions and its interlock conditions allow enters RUNNING. -/
theorem upholds_run (h : Poised p i k s u) (o : Order) (hard : u.hard p o k = true) (free : (u.reasons p o k).any = false) :
    s.Upholds (u.run p i o k).st := by
  have now := h.setPhase (some .running) {} none
  have runs : (u.setPhase p i (some .running) {} none).stepRuns p k := by
    rw [stepRuns_iff, h.setPhase_phaseAt]
    rfl
  have meets : (u.setPhase p i (some .running) {} none).meets p k := by
    refine meets_kept (s := u) rfl ?_ ?_
    · rw [setPhase_panel]
      exact .of_same rfl rfl rfl rfl rfl rfl
    · have allowed := stepAllowed_iff.2 hard
      cases k with
      | travel => exact ⟨allowed.1, allowed.2.1, allowed.2.2.1⟩
      | _ => exact allowed
  have clear : s.clear p k := by
    refine clear_of_only h.only (lasting_layout h.work.run.lasting) (clear_of_lapHolds ?_)
    cases k with
    | lift => exact (Bool.or_eq_false_iff.1 (by simpa [State.reasons, Reasons.any] using free)).1
    | lower => simpa [State.reasons, Reasons.any] using free
    | _ => rfl
  unfold State.run
  generalize u.setPhase p i (some .running) {} none = v at *
  cases k with
  | uncleat g => exact now.upholds_runMove (d := .release) runs nofun
  | cleat g => exact now.upholds_runMove (d := .engage) runs fun _ => meets
  | travel => exact now.upholds_runTravel runs meets o
  | lift => exact upholds_timed (c := .liftUp) now runs (fun r e => (Option.some.inj e).symm) ⟨nofun, nofun⟩ _ _ meets clear
  | lower => exact upholds_timed (c := .liftDown) now runs (fun r e => (Option.some.inj e).symm) ⟨nofun, nofun⟩ _ _ meets clear
  | lockStow => exact upholds_timed (c := .stowLock) now runs nofun ⟨nofun, nofun⟩ _ _ meets clear
  | unlockStow => exact upholds_timed (c := .stowUnlock) now runs nofun ⟨nofun, nofun⟩ _ _ meets clear

theorem reference (h : Poised p i k s u) {n : Int} (hn : n = 0 ∨ n = u.openCount p) : Poised p i k s (u.reference p n) := by
  have record := reference_panel u p n
  rw [Panel.referenced_eq] at record
  refine h.kept (worksOn_reference hn) (only_reference n) (fun l => ?_) ?_ (by rw [record]) (by rw [record])
  · unfold State.reference State.warn
    dsimp only
    split
    · exact modPanel_pack ..
    · rw [setLatch_pack, modPanel_pack, modPanel_pack]
  · exact served_congr (by rw [record]) (reference_slots ..)

theorem standingReference (h : Poised p i k s u) (o : Order) : Poised p i k s (u.standingReference p o k) := by
  unfold State.standingReference
  split
  · split
    · rename_i n _ made
      exact h.reference ((endSwitch_iff.1 made).imp And.left And.left)
    · exact h
  · exact h

/-- A step that stands still is evaluated. -/
theorem upholds_stages (h : Poised p i k s u) (o : Order) : s.Upholds (u.stages p i o k).st := by
  have h := h.standingReference o
  unfold State.stages
  generalize u.standingReference p o k = v at *
  dsimp only
  split
  · exact h.upholds_skip
  · split
    · exact h.upholds_sequenceFail
    · split
      · exact h.upholds_toWait _
      · split
        · exact h.upholds_run o (by simpa using ‹¬ (!v.hard p o k) = true›) (by simpa using ‹¬ (v.reasons p o k).any = true›)
        · exact h.upholds_request o

end State.Poised

end Sys2Proof.Machine
end

section
/-! The pieces of work of a panel's sequencer uphold the laws (R61, R70 to R86, R99, R103). -/

namespace Sys2Proof.Machine

open State (WorksOn Only Upholds Poised)

variable {s t u v : State} {p q : PanelNo} {i j : SlotNo} {o : Order} {k : StepKind} {g : GroupNo} {d : CleatDir}

/-! ### Evaluation -/

theorem upholds_evaluate (s : State) (p : PanelNo) (w : Bool) : s.Upholds (s.evaluate p w).st := by
  unfold State.evaluate
  cases hv : s.served p with
  | none => exact .refl s
  | some x =>
    obtain ⟨i, o, k⟩ := x
    dsimp only
    split
    · exact .refl s
    · rename_i hr
      have still := Poised.of_served hv hr
      split
      · refine (still.setPhase (some .braking) {} (some .evaluate)).upholds ?_
        rw [still.setPhase_phaseAt]
        exact Option.some_ne_none _
      · exact still.upholds_stages o

theorem upholds_deliver (s : State) (p : PanelNo) : s.Upholds (s.deliver p).st := by
  unfold State.deliver
  cases hv : s.served p with
  | none => exact .refl s
  | some x =>
    obtain ⟨i, o, k⟩ := x
    dsimp only
    split
    · rename_i hw
      refine (Poised.of_served hv ?_).upholds_stages o
      simp only [Bool.and_eq_true, decide_eq_true_eq] at hw
      rw [hw.1]
      decide
    · exact .refl s

/-! ### The end of a step -/

namespace State.Poised

theorem calm (h : Poised p i k s u) (c : u.Calms p t) : Poised p i k s t where
  work := h.work.trans (.of_calms c)
  only := h.only.trans (.of_calms c)
  packs := fun l => (c.pack l).trans (h.packs l)
  served := by
    obtain ⟨o, h⟩ := h.served
    exact ⟨o, (c.served p).trans h⟩
  rest := fun hs ho r hw => h.rest hs ho r (works_of_calms c hw)

/-- A step that has been stopped stands still (R86). -/
theorem stopped (hv : s.served p = some (i, o, k)) : Poised p i k s (s.stopStep p k) :=
  .of_calms hv (calms_stopStep k) fun hs ho => stopStep_resting hs hv ho

theorem upholds_setPhase (h : Poised p i k s u) (ph : Phase) (r : Reasons) (v : Option Purpose) :
    s.Upholds (u.setPhase p i (some ph) r v) := by
  refine (h.setPhase (some ph) r v).upholds ?_
  rw [h.setPhase_phaseAt]
  exact Option.some_ne_none _

theorem upholds_completeStep (h : Poised p i k s u) : s.Upholds (u.completeStep p i k).st := by
  have off := h.calm (calms_stepCoilsOff (p := p))
  unfold State.completeStep
  dsimp only [Res.add_st]
  split
  iterate 4 exact off.upholds_left none {}
  exact h.upholds_left none {}

end State.Poised

/-- A RUNNING step of the jacks or of the stow ends (R79). -/
theorem upholds_completeStep (hv : s.served p = some (i, o, k)) (hk : k.endsItself = true) :
    s.Upholds (s.completeStep p i k).st := by
  have still := Poised.stopped hv
  cases k with
  | lift => exact still.upholds_left none {}
  | lower => exact still.upholds_left none {}
  | lockStow => exact still.upholds_left none {}
  | unlockStow => exact still.upholds_left none {}
  | _ => cases hk

/-- An order comes to stand AT_HOLD (R61). -/
theorem linked_held (hv : s.served p = some (i, o, k)) (hs : s.Linked) :
    (s.updateOrder i fun o => { o with state := .atHold, phase := none, reasons := {} }).Linked := by
  have ha := served_active hv
  have hl : o.state.live = true := by rw [ha]; rfl
  refine Changes.linked (L := Leave.all)
      (.single (.update i o _ (served_slot hv) ⟨rfl, hl, .inl rfl, fun ⟨h1, h2, h3, h4, h5⟩ => ?_,
    .inr (.inl ⟨ha, le_rfl, .inl rfl, .inr (.inl rfl)⟩)⟩ rfl fun _ => .inl (by rw [ha]; rfl))) hs
  exact ⟨h1, h2, ⟨fun _ => h3.1 hl, fun _ => rfl⟩, ⟨fun _ => h4.1 hl, fun _ => rfl⟩, by simpa [ha, OrderState.isPaused] using h5⟩

/-- The order whose step has no phase moves on (R61). -/
theorem upholds_reportStep (s : State) (p : PanelNo) (e : StepEnd) : s.Upholds (s.reportStep p e).st := by
  have linked : s.Linked → (s.reportStep p e).st.Linked := Changes.linked (L := Leave.all) (changes_reportStep e)
  unfold State.reportStep at linked ⊢
  cases hv : s.served p with
  | none => exact .refl s
  | some x =>
    obtain ⟨i, o, k⟩ := x
    have ho := served_slot hv
    rw [hv] at linked
    dsimp only at linked ⊢
    split
    · exact .refl s
    · rename_i hph
      rw [if_neg hph] at linked
      have idle (hs : s.Linked) (q : Order) (hq : s.slot i = some q) : s.phaseAt q.panel = none := by
        obtain rfl : o = q := Option.some.inj (ho.symm.trans hq)
        rw [(live_of_liveOrder hs (served_some hv).1).2.1, phaseAt_of_served hv, Option.not_isSome_iff_eq_none.1 hph]
        rfl
      split
      · exact (upholds_updateOrder (linked_held hv) fun hs q hq _ => idle hs q hq).trans (upholds_latch _)
      · rename_i he
        rw [if_neg he] at linked
        split
        · rename_i hlt
          rw [if_pos hlt] at linked
          exact upholds_modOrder linked fun hs q hq _ h => absurd (idle hs q hq) h
        · refine upholds_completeOrder (fun q hq => ?_) fun hs q hq _ => idle hs q hq
          obtain rfl : o = q := Option.some.inj (ho.symm.trans hq)
          rw [served_active hv]
          rfl

/-- A cleat step whose panel has no move stands still: its valve would be that of the move (R80). -/
theorem poised_of_moveless (hv : s.served p = some (i, o, d.step g)) (hm : (s.panel p).move = none) :
    Poised p i (d.step g) s s := by
  refine ⟨.refl p s, .refl p s, fun _ => rfl, ⟨o, hv⟩, fun hs own k hw => ?_⟩
  obtain ⟨rfl, -⟩ := works_served hs hv own hw
  cases d with
  | release => exact hw
  | engage =>
    obtain ⟨m, hm', -⟩ := own _ hw
    rw [hm] at hm'
    cases hm'

theorem upholds_moveEnded (may : s.mayEngage p) : s.Upholds (s.moveEnded p).st := by
  unfold State.moveEnded
  cases hv : s.served p with
  | none => exact .refl s
  | some x =>
    obtain ⟨i, o, k⟩ := x
    dsimp only
    split
    · rename_i hr
      simp only [Bool.and_eq_true, decide_eq_true_eq, Option.isNone_iff_eq_none] at hr
      obtain ⟨hr, hm⟩ := hr
      have runs : s.stepRuns p k := ⟨i, o, hv, hr⟩
      split
      · have still := poised_of_moveless (d := .release) hv hm
        split
        · exact still.upholds_completeStep
        · exact still.upholds_runMove (d := .release) runs nofun
      · have still := poised_of_moveless (d := .engage) hv hm
        split
        · exact still.upholds_completeStep
        · exact still.upholds_runMove (d := .engage) runs fun _ => may _ runs
      · exact .refl s
    · exact .refl s

/-! ### Watches -/

theorem upholds_sequenceFail (s : State) (p : PanelNo) : s.Upholds (s.sequenceFail p).st :=
  (upholds_warn _).trans (upholds_failLive _ p _)

theorem upholds_newReasons (hv : s.served p = some (i, o, k)) (r : Reasons) :
    s.Upholds (s.modOrder i fun o => { o with reasons := r }) :=
  upholds_modOrder (Changes.linked (L := Leave.all) (changes_newReasons hv r)) fun _ _ _ _ _ => ⟨rfl, rfl, rfl, rfl, rfl⟩

theorem upholds_lapStop (hv : s.served p = some (i, o, k)) (hk : k = .lift ∨ k = .lower) (r : Reasons) :
    s.Upholds (s.lapStop p i r k).st := by
  have still := Poised.stopped hv
  obtain rfl | rfl := hk
  · exact still.upholds_toWait r
  · exact still.upholds_toWait r

theorem upholds_interlockStop (hv : s.served p = some (i, o, .travel)) (r : Reasons) : s.Upholds (s.interlockStop p i r).st :=
  ((Poised.stopped hv).setPhase _ r _).upholds_dropFlow

theorem upholds_plannedStop (hv : s.served p = some (i, o, .travel)) : s.Upholds (s.plannedStop p i) :=
  (Poised.stopped hv).upholds_setPhase _ _ _

theorem upholds_retest (s : State) (p : PanelNo) : s.Upholds (s.retest p).st := by
  unfold State.retest
  cases hv : s.served p with
  | none => exact .refl s
  | some x =>
    obtain ⟨i, o, k⟩ := x
    dsimp only
    split
    · exact upholds_newReasons hv _
    · rename_i hw
      split
      · exact (Poised.of_served hv (by rw [hw]; decide)).upholds_toWait _
      · exact .refl s
    · split
      · split
        · exact upholds_interlockStop hv _
        · exact .refl s
      · split
        · exact upholds_lapStop hv (.inl rfl) _
        · exact .refl s
      · split
        · exact upholds_lapStop hv (.inr rfl) _
        · exact .refl s
      · exact .refl s
    · split
      · exact upholds_newReasons hv _
      · exact .refl s
    · exact .refl s

theorem upholds_watch (s : State) (p : PanelNo) : s.Upholds (s.watch p).st := by
  unfold State.watch
  cases hv : s.served p with
  | none => exact .refl s
  | some x =>
    obtain ⟨i, o, k⟩ := x
    have failed : s.Upholds (if !s.hard p o k then s.sequenceFail p else .ok s).st := by
      split
      · exact upholds_sequenceFail s p
      · exact .refl s
    dsimp only
    split
    · split
      · rename_i he
        exact upholds_completeStep hv (Bool.and_eq_true_iff.1 he).1
      · exact failed
    · exact failed
    · exact failed
    · exact .refl s

/-! ### Travel -/

/-- The laws do not speak of FAST. -/
theorem Panel.Rests.of_fast {x y : Panel} (b : Bool) (hc : y.coils = { x.coils with fast := b }) (hm : y.mode = x.mode)
    (hv : y.move = x.move) (hs : y.seat = x.seat) (ht : y.sw.stowLocked = x.sw.stowLocked) (hk : y.cleats = x.cleats) :
    x.Rests y where
  works := fun k hw => by
    unfold Panel.works Panel.driving at *
    rw [hc, hm] at hw
    cases k <;> exact hw
  mode := fun _ h => hm.trans h
  move := fun _ _ m h => ⟨m, hv.trans h, rfl, rfl, rfl⟩
  seat := hs
  stow := ht
  cleats := fun c h => by rwa [hk]

theorem upholds_fastOff (s : State) (p : PanelNo) : s.Upholds (s.fastOff p) :=
  upholds_modPanel (Changes.linked (L := Leave.all) calms_fastOff.changes) rfl (.of_fast false rfl rfl rfl rfl rfl rfl)

theorem upholds_slowPoint (s : State) (p : PanelNo) (pl : Plan) : s.Upholds (s.slowPoint p pl) := by
  unfold State.slowPoint
  split
  · split
    · exact upholds_fastOff s p
    · exact .refl s
  · exact .refl s

theorem upholds_checkFast (s : State) (p : PanelNo) : s.Upholds (s.checkFast p) := by
  unfold State.checkFast
  split
  · split
    · exact upholds_fastOff s p
    · exact .refl s
  · exact .refl s

theorem upholds_checkPoints (s : State) (p : PanelNo) : s.Upholds (s.checkPoints p).st := by
  unfold State.checkPoints
  split
  · rename_i i o pl hv _
    have slow := upholds_slowPoint s p pl
    have served := ((calms_slowPoint (p := p) (s := s) pl).served p).trans hv
    dsimp only
    generalize s.slowPoint p pl = u at slow served
    split
    · split
      · exact slow.trans (upholds_plannedStop served)
      · split
        · exact slow.trans (upholds_raise u p _)
        · exact slow
    · exact .refl s
  · exact .refl s

theorem upholds_referenceTaken (s : State) (p : PanelNo) : s.Upholds (s.referenceTaken p).st := by
  unfold State.referenceTaken
  split
  · rename_i i o pl hv _
    split
    · split
      · exact upholds_plannedStop hv
      · exact upholds_checkPoints s p
    · exact .refl s
  · exact upholds_endJogOn s p

theorem upholds_reference (s : State) {n : Int} (hn : n = 0 ∨ n = s.openCount p) : s.Upholds (s.reference p n) := by
  have record := reference_panel s p n
  rw [Panel.referenced_eq] at record
  refine .of_same (Changes.linked (L := Leave.all) (changes_reference hn)) (fun q => ?_) (fun q => ?_) ?_ ?_
      (reference_jog s p n) ?_
  · by_cases e : p = q
    · subst e
      rw [record]
      exact .of_same rfl rfl rfl rfl rfl rfl
    · rw [reference_panel_ne _ _ e]
      exact .refl _
  · refine served_congr ?_ (reference_slots ..)
    by_cases e : p = q
    · subst e
      rw [record]
    · rw [reference_panel_ne _ _ e]
  · exact lasting_layout (changes_reference (L := Leave.all) hn).lasting
  · exact lasting_params (changes_reference (L := Leave.all) hn).lasting
  · rw [reference_eq, latchIf_eq]
    intro k
    cases k <;> exact ⟨rfl, rfl⟩

theorem upholds_endMake (s : State) {n : Int} (hn : n = 0 ∨ n = s.openCount p) (d : Dir) : s.Upholds (s.endMake p n d).st := by
  unfold State.endMake
  dsimp only
  split
  · split
    · exact (upholds_reference s hn).trans (upholds_referenceTaken _ p)
    · exact upholds_reference s hn
  · exact .refl s

/-! ### The wheel -/

theorem upholds_moveEdge (s : State) (p : PanelNo) (d : Dir) : s.Upholds (s.moveEdge p d).st := by
  unfold State.moveEdge
  dsimp only
  split
  · exact (upholds_quieter (.of_same rfl rfl rfl rfl id rfl rfl rfl rfl) (.of_same rfl rfl rfl rfl rfl rfl)).trans
      (upholds_raise _ p _)
  · refine upholds_quieter (f := fun x => { x with count := edgeCount (s.panel p).count d })
      (.of_count rfl rfl rfl rfl (fun _ _ ⟨_, _, h⟩ => ?_) rfl rfl rfl rfl) (.of_same rfl rfl rfl rfl rfl rfl)
    exact ⟨(edgeCount_range _ _).1, (edgeCount_range _ _).2, h⟩

theorem upholds_creepEdge (s : State) (p : PanelNo) : s.Upholds (s.creepEdge p).st := by
  unfold State.creepEdge
  extract_lets u v
  have counted : s.Upholds u := upholds_feed
    { range := fun _ _ ⟨h1, h2, _, h⟩ => ⟨h1, h2, Nat.min_le_left _ _, h⟩ } (.of_same rfl rfl rfl rfl rfl rfl)
  have warned : s.Upholds v := counted.trans (upholds_warn _)
  split
  · exact warned.trans (upholds_raise v p _)
  · exact warned

theorem upholds_edge (s : State) (p : PanelNo) : s.Upholds (s.edge p).st := by
  unfold State.edge
  dsimp only
  split
  · rw [Res.bind_st]
    exact ((upholds_quieter (.of_same rfl rfl rfl rfl id rfl rfl rfl rfl) (.of_same rfl rfl rfl rfl rfl rfl)).trans
      (upholds_moveEdge _ p _)).trans (upholds_checkPoints _ p)
  · exact upholds_moveEdge s p _
  · exact upholds_creepEdge s p

/-! ### The braking window and a new target -/

theorem upholds_windowEnded (s : State) (p : PanelNo) : s.Upholds (s.windowEnded p).st := by
  unfold State.windowEnded
  cases hv : s.served p with
  | none => exact .refl s
  | some x =>
    obtain ⟨i, o, k⟩ := x
    dsimp only
    split
    · rename_i hb
      have still := Poised.of_served hv (by rw [hb]; decide)
      split
      · split
        · obtain e | e := arrivalCheck_cases s p
          · rw [e]
            exact still.upholds_completeStep
          · rw [e]
            exact (still.warn _).upholds_completeStep
        · exact upholds_sequenceFail s p
      · exact (still.setPhase none {} none).upholds_stages o
    · exact .refl s

theorem upholds_replan (hv : s.served p = some (i, o, .travel)) (n : Int) : s.Upholds (s.replan p n).st := by
  have linked : s.Linked → (s.replan p n).st.Linked := Changes.linked
      (changes_replan (Leave.works_command.drives s p (State.serves.isSome ⟨_, _, hv⟩)) n)
  unfold State.replan at linked ⊢
  dsimp only at linked ⊢
  exact upholds_modPanel linked rfl (Panel.Rests.of_fast ((s.planFor p n).fast && s.enabled) rfl rfl rfl rfl rfl rfl)

theorem upholds_retarget (s : State) (p : PanelNo) : s.Upholds (s.retarget p).st := by
  unfold State.retarget
  split
  · rename_i i o hv
    dsimp only
    split
    · split
      · exact upholds_replan hv _
      · exact (Poised.stopped hv).upholds_setPhase _ _ _
    · rename_i hb
      split
      · exact (Poised.of_served hv (by rw [hb]; decide)).upholds_setPhase _ _ _
      · exact .refl s
    · rename_i hw
      exact ((Poised.of_served hv (by rw [hw]; decide)).setPhase none {} none).upholds_dropFlow
    · rename_i hw
      exact ((Poised.of_served hv (by rw [hw]; decide)).setPhase none {} none).upholds_dropFlow
    · exact .refl s
  · exact .refl s

end Sys2Proof.Machine
end

section
/-! The arbiters uphold the laws: a pass grants within the effective capacity, and what it grants has waited (R124, R129, R128). -/

namespace Sys2Proof.Machine

open State (Upholds)

variable {s t u : State} {p q : PanelNo} {k l : PackId} {x y : Pack}

/-- What the pack `y` holds comes of what the pack `x` held: it names no panel oftener, and makes grants of requests at most. -/
structure Pack.Yields (x y : Pack) : Prop where
  count : ∀ p, y.panels.count p ≤ x.panels.count p
  grants : ∀ g ∈ y.grants, g ∈ x.grants ∨ g.jog = false ∧ ∃ w ∈ x.waiting, w.panel = g.panel
  waiting : ∀ w ∈ y.waiting, ∃ v ∈ x.waiting, v.panel = w.panel

theorem Pack.Yields.refl (x : Pack) : x.Yields x := ⟨fun _ => le_rfl, fun _ h => .inl h, fun w h => ⟨w, h, rfl⟩⟩

/-- What the packs hold of the panel stays justified. -/
theorem flowAt_of_yields (packs : ∀ k, (s.pack k).Yields (t.pack k)) (phase : t.phaseAt p = s.phaseAt p) (jog : t.jog = s.jog)
    (hs : s.flowAt p) : t.flowAt p where
  once := by
    rw [named_eq]
    exact (Nat.add_le_add ((packs .a).count p) ((packs .b).count p)).trans ((named_eq s p).symm.trans_le hs.once)
  grants := fun k g hg e => by
    rw [phase, jog]
    obtain old | ⟨step, w, hw, e'⟩ := (packs k).grants g hg
    · exact hs.grants k g old e
    · rw [if_neg (by simp [step])]
      exact hs.waiting k w hw (e'.trans e)
  waiting := fun k w hw e => by
    obtain ⟨v, hv, e'⟩ := (packs k).waiting w hw
    rw [phase]
    exact hs.waiting k v hv (e'.trans e)

/-- A pack changes to what it yields, within its capacity. -/
theorem upholds_repack (h : (s.pack k).Yields y) (last : y.lasting = (s.pack k).lasting)
    (sum : (s.pack k).granted ≤ s.capacity k → y.granted ≤ s.capacity k) : s.Upholds (s.setPack y k) where
  linked := by
    have run : Changes Leave.all s (s.modPack k fun _ => y) := .single (.pack k _ last)
    exact Changes.linked run
  flow := fun _ hf => by
    obtain ⟨total, each⟩ := flowLaws_iff.1 hf
    have room (l : PackId) : (s.setPack y k).capacity l = s.capacity l := capacity_congr (by cases k <;> rfl) l
    refine flowLaws_iff.2 ⟨fun l => ?_, fun q => flowAt_of_yields (fun l => ?_) (phaseAt_congr (served_congr (by simp) (by cases k <;> rfl))) (by cases k <;> rfl) (each q)⟩
    · rw [room]
      by_cases e : k = l
      · subst e
        rw [setPack_pack_self]
        exact sum (total k)
      · rw [setPack_pack_ne _ _ e]
        exact total l
    · by_cases e : k = l
      · subst e
        rwa [setPack_pack_self]
      · rw [setPack_pack_ne _ _ e]
        exact .refl _
  coils := fun _ X Y hc => by
    have panel (q : PanelNo) : (s.setPack y k).panel q = s.panel q := by cases k <;> rfl
    refine obeysBut_of_each (by cases k <;> rfl) (fun q => by rw [panel]) (fun q => .inr ⟨?_, ?_, fun j hj _ => ?_⟩)
      (fun q _ => .inr ?_) hc
    · rw [panel]
      exact (Panel.Rests.refl _).toBears
    · exact fun _ => phaseAt_congr (served_congr (by rw [panel]) (by cases k <;> rfl))
    · cases k <;> exact hj
    · rw [panel]
      exact .refl _

/-! ### Grant passes -/

theorem afterPass_panels (x : Pack) (cap : Nat) : (x.afterPass cap).panels = x.panels := by
  conv_rhs => rw [Pack.panels, ← passGrants_append cap x.granted x.waiting]
  simp [Pack.panels, Pack.afterPass, Function.comp_def]

theorem yields_afterPass (x : Pack) (cap : Nat) : x.Yields (x.afterPass cap) where
  count := fun p => by rw [afterPass_panels]
  grants := fun g hg => by
    obtain hg | hg := List.mem_append.1 hg
    · exact .inl hg
    · obtain ⟨w, hw, rfl⟩ := List.mem_map.1 hg
      refine .inr ⟨rfl, w, ?_, rfl⟩
      rw [← passGrants_append cap x.granted x.waiting]
      exact List.mem_append_left _ hw
  waiting := fun w hw => by
    refine ⟨w, ?_, rfl⟩
    rw [← passGrants_append cap x.granted x.waiting]
    exact List.mem_append_right _ hw

theorem effective_le (s : State) (k : PackId) : s.effective k ≤ s.capacity k := by
  unfold State.effective
  split
  · exact Nat.zero_le _
  · split
    · exact Nat.div_le_self _ _
    · exact le_rfl

/-- A grant pass keeps the sum of the grants within the capacity (R124, R129). -/
theorem upholds_runPass (s : State) (k : PackId) : s.Upholds (s.runPass k).st := by
  refine upholds_repack (yields_afterPass _ _) rfl fun h => ?_
  rw [afterPass_granted]
  by_cases e : passGrants (s.effective k) (s.pack k).granted (s.pack k).waiting = []
  · rw [e]
    exact h
  · exact (passGrants_sum _ _ _ e).trans (effective_le s k)

/-! ### The re-key -/

theorem yields_rekeyed {w : Waiter} (hw : w ∈ x.waiting) (c : OrderClass) :
    x.Yields ((x.dropPanel w.panel).insert { w with cls := c }) where
  count := fun p => by
    rw [(insert_panels _ _).count_eq, List.count_cons]
    dsimp only
    by_cases e : w.panel = p
    · subst e
      rw [List.count_eq_zero.2 (not_mem_dropPanel _ _), beq_self_eq_true, if_pos rfl]
      exact List.one_le_count_iff.2 (List.mem_append_right _ (List.mem_map_of_mem hw))
    · rw [if_neg (by simpa using e), Nat.add_zero, Pack.count_panels, Pack.count_panels, Pack.of_of_dropPanel (dropPanel_dropPanel ..) e]
  grants := fun g hg => .inl (List.mem_of_mem_filter hg)
  waiting := fun v hv => by
    obtain rfl | hv := List.mem_cons.1 ((insertWaiter_perm _ _).mem_iff.1 hv)
    · exact ⟨w, hw, rfl⟩
    · exact ⟨v, List.mem_of_mem_filter hv, rfl⟩

theorem upholds_rekey (s : State) (p : PanelNo) (c : OrderClass) : s.Upholds (s.rekey p c).st := by
  unfold State.rekey
  split
  · rename_i k _ _
    split
    · rename_i w hw
      have here : w ∈ (s.pack k).waiting := List.mem_of_find?_eq_some hw
      obtain rfl : w.panel = p := by simpa using List.find?_some hw
      exact upholds_repack (yields_rekeyed here c) rfl fun h => (granted_le_of_sublist List.filter_sublist).trans h
    · exact .refl s
  · exact .refl s

/-! ### Jogs -/

theorem upholds_jogTest (s : State) : s.Upholds s.jogTest.st := by
  unfold State.jogTest
  split
  · exact .refl s
  · split
    · exact .refl s
    · exact upholds_endJog s

end Sys2Proof.Machine
end

section
/-! The agenda upholds the laws. The end of a move is the only piece of work that may energise a coil without a test (R80), and it
comes at once after what has asked for it. -/

namespace Sys2Proof.Machine

open State (Upholds)

variable {s t u : State} {p q : PanelNo} {i j : SlotNo} {o : Order} {k : StepKind} {g : GroupNo} {d : CleatDir} {r : Res}

/-! ### Work that ends no move -/

/-- No end of a move is among the work left. -/
def Res.noMove (r : Res) : Prop := ∀ q, Job.moveEnd q ∉ r.jobs

/-- Nor is it, unless it is all the work left, and the step it would run may run. -/
def Res.orderly (r : Res) : Prop := r.noMove ∨ ∃ q, r.jobs = [.moveEnd q] ∧ r.st.mayEngage q

namespace Res.noMove

theorem ok (s : State) : (Res.ok s).noMove := fun _ h => by cases h
theorem add {js : List Job} (h : r.noMove) (hj : ∀ q, Job.moveEnd q ∉ js) : (r.add js).noMove := fun q hq =>
  (List.mem_append.1 hq).elim (h q) (hj q)
theorem bind {f : State → Res} (h : r.noMove) (hf : (f r.st).noMove) : (r.bind f).noMove := fun q hq =>
  (List.mem_append.1 hq).elim (h q) (hf q)
theorem map {f : State → State} (h : r.noMove) : (r.map f).noMove := h
theorem each {α : Type} {f : α → State → Res} (hf : ∀ a t, (f a t).noMove) : ∀ (xs : List α) {r : Res}, r.noMove →
    (Res.each xs f r).noMove
  | [], _, h => h
  | x :: xs, r, h => each hf xs (h.bind (hf x r.st))
theorem orderly (h : r.noMove) : r.orderly := .inl h

end Res.noMove

theorem not_mem_lapReport (p : PanelNo) (k : StepKind) (q : PanelNo) : Job.moveEnd q ∉ lapReport p k := by
  cases k <;> simp [lapReport]

theorem noMove_dropFlow (s : State) (p : PanelNo) : (s.dropFlow p).noMove := by
  unfold State.dropFlow
  split <;> simp [Res.noMove, Res.ok]

theorem noMove_interrupt (s : State) (p : PanelNo) : (s.interrupt p).noMove := by
  unfold State.interrupt
  split
  · exact .ok s
  · exact (noMove_dropFlow _ p).add (not_mem_lapReport p _)

theorem noMove_endOrder (s : State) (i : SlotNo) (st : OrderState) : (s.endOrder i st).noMove := by
  unfold State.endOrder
  split
  · exact .ok s
  · split
    · dsimp only
      split
      · exact (noMove_interrupt s _).map
      · exact (Res.noMove.ok s).map
    · exact .ok s

theorem noMove_failLive (s : State) (p : PanelNo) (f : FailReason) : (s.failLive p f).noMove := by
  unfold State.failLive
  split
  · exact .ok s
  · exact noMove_endOrder s _ _

theorem noMove_endJog (s : State) : s.endJog.noMove := by
  unfold State.endJog
  split
  · exact .ok s
  · exact (noMove_dropFlow _ _).add (by simp)

theorem noMove_endJogOn (s : State) (p : PanelNo) : (s.endJogOn p).noMove := by
  unfold State.endJogOn
  split
  · exact .ok s
  · split
    · exact noMove_endJog s
    · exact .ok s

theorem noMove_raise (s : State) (p : PanelNo) (f : PanelFault) : (s.raise p f).noMove := by
  unfold State.raise
  split
  · exact .ok s
  · exact (((noMove_failLive _ p _).bind (noMove_endJogOn _ p)).map).add (by simp)

theorem noMove_skip (s : State) (p : PanelNo) (i : SlotNo) : (s.skip p i).noMove := (noMove_dropFlow _ p).add (by simp)

theorem noMove_sequenceFail (s : State) (p : PanelNo) : (s.sequenceFail p).noMove := noMove_failLive _ p _

theorem noMove_toWait (s : State) (p : PanelNo) (i : SlotNo) (w : Reasons) : (s.toWait p i w).noMove := noMove_dropFlow _ p

theorem noMove_request (s : State) (p : PanelNo) (i : SlotNo) (o : Order) (k : StepKind) : (s.request p i o k).noMove := by
  unfold State.request
  dsimp only
  split
  · exact noMove_failLive s p _
  · split
    · exact noMove_failLive s p _
    · split <;> simp [Res.noMove, Res.ok]

theorem noMove_chopIfTripped (s : State) (p : PanelNo) : (s.chopIfTripped p).noMove := by
  unfold State.chopIfTripped State.chopPanel
  split
  · dsimp only
    split
    · exact noMove_raise _ p _
    · exact .ok _
  · exact .ok s

theorem noMove_completeStep (s : State) (p : PanelNo) (i : SlotNo) (k : StepKind) : (s.completeStep p i k).noMove :=
  (noMove_dropFlow _ p).add fun q h => (List.mem_cons.1 h).elim nofun (not_mem_lapReport p k q)

theorem noMove_completeOrder (s : State) (i : SlotNo) : (s.completeOrder i).noMove := by
  unfold State.completeOrder
  split
  · exact .ok s
  · exact fun q h => by
      obtain ⟨_, -, e⟩ := List.mem_map.1 h
      cases e

theorem noMove_reportStep (s : State) (p : PanelNo) (e : StepEnd) : (s.reportStep p e).noMove := by
  unfold State.reportStep
  split
  · exact .ok s
  · split
    · exact .ok s
    · split
      · exact .ok _
      · split
        · simp [Res.noMove]
        · exact noMove_completeOrder s _

theorem noMove_runPass (s : State) (k : PackId) : (s.runPass k).noMove := fun q h => by
  obtain ⟨_, -, e⟩ := List.mem_map.1 h
  cases e

theorem noMove_retest (s : State) (p : PanelNo) : (s.retest p).noMove := by
  unfold State.retest
  split
  · exact .ok s
  · dsimp only
    split
    · intro q
      dsimp only
      split <;> simp
    · split
      · exact noMove_toWait _ _ _ _
      · exact .ok s
    · split
      · split
        · exact noMove_dropFlow _ p
        · exact .ok s
      · split
        · exact (noMove_toWait _ _ _ _).add (not_mem_lapReport p _)
        · exact .ok s
      · split
        · exact (noMove_toWait _ _ _ _).add (not_mem_lapReport p _)
        · exact .ok s
      · exact .ok s
    · split <;> exact .ok _
    · exact .ok s

theorem noMove_watch (s : State) (p : PanelNo) : (s.watch p).noMove := by
  have failed (o : Order) (k : StepKind) : (if !s.hard p o k then s.sequenceFail p else .ok s).noMove := by
    split
    · exact noMove_sequenceFail s p
    · exact .ok s
  unfold State.watch
  split
  · exact .ok s
  · split
    · split
      · exact noMove_completeStep _ _ _ _
      · exact failed _ _
    · exact failed _ _
    · exact failed _ _
    · exact .ok s

theorem noMove_admitted (s : State) (i : SlotNo) : (s.admitted i).noMove := by
  unfold State.admitted
  split
  · exact .ok s
  · intro q
    dsimp only
    split <;> simp

theorem noMove_unlink (s : State) (i : SlotNo) : (s.unlink i).noMove := by
  unfold State.unlink
  split
  · exact .ok s
  · dsimp only
    split
    · exact noMove_admitted _ i
    · split <;> exact .ok _

theorem noMove_releaseDependent (s : State) (i : SlotNo) (id : Nat) : (s.releaseDependent i id).noMove := by
  unfold State.releaseDependent
  split
  · split
    · exact noMove_unlink s i
    · exact .ok s
  · exact .ok s

theorem noMove_jogTest (s : State) : s.jogTest.noMove := by
  unfold State.jogTest
  split
  · exact .ok s
  · split
    · exact .ok s
    · exact noMove_endJog s

/-! ### Work that may -/

theorem mayEngage_of_served (hv : s.served p = some (i, o, d.step g)) (seated : d = .engage → (s.panel p).seat = .seated) :
    s.mayEngage p := by
  rintro c ⟨j, q, hv', -⟩
  have e := hv.symm.trans hv'
  cases d with
  | engage => exact seated rfl
  | release => cases e

theorem orderly_runMove (hv : s.served p = some (i, o, d.step g)) (seated : d = .engage → (s.panel p).seat = .seated) :
    (s.runMove p g d).orderly := by
  unfold State.runMove
  split
  · exact .inl (.ok s)
  · dsimp only
    split
    · refine .inr ⟨p, rfl, mayEngage_of_served (d := d) ((startMove_served ..).trans hv) fun e => ?_⟩
      exact (startMove_seat ..).trans (seated e)
    · exact .inl fun _ h => by cases h

theorem orderly_run (hv : s.served p = some (i, o, k)) (q : Order) (hard : s.hard p q k = true) : (s.run p i q k).orderly := by
  have now := served_setPhase hv p (some .running) {} none
  have seat : ((s.setPhase p i (some .running) {} none).panel p).seat = (s.panel p).seat := by rw [setPhase_panel]; rfl
  unfold State.run
  generalize s.setPhase p i (some .running) {} none = v at now seat
  cases k with
  | uncleat g => exact orderly_runMove (d := .release) now nofun
  | cleat g => exact orderly_runMove (d := .engage) now fun _ => seat.trans (stepAllowed_iff.2 hard)
  | lift => exact .inl (not_mem_lapReport p .lift)
  | lower => exact .inl (not_mem_lapReport p .lower)
  | lockStow => exact .inl (.ok _)
  | unlockStow => exact .inl (.ok _)
  | travel => exact .inl (noMove_chopIfTripped _ p)

theorem standingReference_served (s : State) (p : PanelNo) (q : Order) (k : StepKind) :
    (s.standingReference p q k).served p = s.served p := by
  have referred (n : Int) : (s.reference p n).served p = s.served p := by
    have record := reference_panel s p n
    rw [Panel.referenced_eq] at record
    exact served_congr (by rw [record]) (reference_slots ..)
  unfold State.standingReference
  split
  · split
    · exact referred _
    · rfl
  · rfl

theorem orderly_stages (hv : s.served p = some (i, o, k)) (q : Order) : (s.stages p i q k).orderly := by
  have now := (standingReference_served s p q k).trans hv
  unfold State.stages
  dsimp only
  split
  · exact .inl (noMove_skip _ _ _)
  · split
    · exact .inl (noMove_sequenceFail _ _)
    · split
      · exact .inl (noMove_toWait _ _ _ _)
      · split
        · exact orderly_run now q (by simpa using ‹¬ (!(s.standingReference p q k).hard p q k) = true›)
        · exact .inl (noMove_request _ _ _ _ _)

theorem orderly_evaluate (s : State) (p : PanelNo) (w : Bool) : (s.evaluate p w).orderly := by
  unfold State.evaluate
  cases hv : s.served p with
  | none => exact .inl (.ok s)
  | some x =>
    obtain ⟨i, o, k⟩ := x
    dsimp only
    split
    · exact .inl (.ok s)
    · split
      · exact .inl (.ok _)
      · exact orderly_stages hv o

theorem orderly_deliver (s : State) (p : PanelNo) : (s.deliver p).orderly := by
  unfold State.deliver
  cases hv : s.served p with
  | none => exact .inl (.ok s)
  | some x =>
    obtain ⟨i, o, k⟩ := x
    dsimp only
    split
    · exact orderly_stages hv o
    · exact .inl (.ok s)

theorem orderly_windowEnded (s : State) (p : PanelNo) : (s.windowEnded p).orderly := by
  unfold State.windowEnded
  cases hv : s.served p with
  | none => exact .inl (.ok s)
  | some x =>
    obtain ⟨i, o, k⟩ := x
    dsimp only
    split
    · split
      · split
        · exact .inl (noMove_completeStep _ _ _ _)
        · exact .inl (noMove_sequenceFail _ _)
      · exact orderly_stages (served_setPhase hv ..) o
    · exact .inl (.ok s)

theorem orderly_moveEnded (may : s.mayEngage p) : (s.moveEnded p).orderly := by
  unfold State.moveEnded
  cases hv : s.served p with
  | none => exact .inl (.ok s)
  | some x =>
    obtain ⟨i, o, k⟩ := x
    dsimp only
    split
    · rename_i hr
      simp only [Bool.and_eq_true, decide_eq_true_eq] at hr
      split
      · split
        · exact .inl (noMove_completeStep _ _ _ _)
        · exact orderly_runMove (d := .release) hv nofun
      · split
        · exact .inl (noMove_completeStep _ _ _ _)
        · exact orderly_runMove (d := .engage) hv fun _ => may _ ⟨i, o, hv, hr.1⟩
      · exact .inl (.ok s)
    · exact .inl (.ok s)

/-- A piece of work may be carried out. -/
def State.fit (s : State) (j : Job) : Prop := ∀ q, j = .moveEnd q → s.mayEngage q

theorem orderly_runJob {j : Job} (h : s.fit j) : (runJob j s).orderly := by
  cases j with
  | evaluate p w => exact orderly_evaluate s p w
  | deliver p => exact orderly_deliver s p
  | report p e => exact .inl (noMove_reportStep s p e)
  | pass k => exact .inl (noMove_runPass s k)
  | retest p => exact .inl (noMove_retest s p)
  | watch p => exact .inl (noMove_watch s p)
  | moveEnd p => exact orderly_moveEnded (h p rfl)
  | releaseDependent i id => exact .inl (noMove_releaseDependent s i id)
  | jogTest => exact .inl (noMove_jogTest s)

theorem upholds_runJob {j : Job} (h : s.fit j) : s.Upholds (runJob j s).st := by
  cases j with
  | evaluate p w => exact upholds_evaluate s p w
  | deliver p => exact upholds_deliver s p
  | report p e => exact upholds_reportStep s p e
  | pass k => exact upholds_runPass s k
  | retest p => exact upholds_retest s p
  | watch p => exact upholds_watch s p
  | moveEnd p => exact upholds_moveEnded (h p rfl)
  | releaseDependent i id => exact upholds_releaseDependent s i id
  | jogTest => exact upholds_jogTest s

/-! ### The agenda -/

/-- Work may be carried out in its order: in SERVICE no step runs, and else the end of a move is looked at first. -/
def State.prepared (s : State) (js : List Job) : Prop :=
  s.unit = .service ∨ (∀ j ∈ js.head?, s.fit j) ∧ ∀ q, Job.moveEnd q ∉ js.tail

theorem fit_of_service (hs : s.Linked) (h : s.unit = .service) (j : Job) : s.fit j := by
  rintro q - g ⟨i, o, hv, -⟩
  have idle := hs.serviced h i o (served_slot hv)
  rw [served_active hv] at idle
  cases idle

theorem prepared_of_noMove (h : r.noMove) : s.prepared r.jobs :=
  .inr ⟨fun _ hj q e => absurd (e ▸ List.mem_of_mem_head? hj) (h q), fun q hq => h q (List.mem_of_mem_tail hq)⟩

theorem prepared_enqueue {js : List Job} (h : r.orderly) (hj : ∀ q, Job.moveEnd q ∉ js) : r.st.prepared (enqueue r.jobs js) := by
  obtain h | ⟨q, e, may⟩ := h
  · exact prepared_of_noMove (r := ⟨r.st, enqueue r.jobs js⟩) fun q hq => (mem_enqueue hq).elim (h q) (hj q)
  · rw [e, enqueue_of_no_pass rfl]
    refine .inr ⟨fun j hj q' e' => ?_, hj⟩
    obtain rfl := Option.some.inj hj
    cases e'
    exact may

theorem upholds_drain : ∀ (n : Nat) (js : List Job) (s : State), s.prepared js → s.Upholds (drain n js s)
  | 0, _, s, _ => .refl s
  | _ + 1, [], s, _ => .refl s
  | n + 1, j :: js, s, h => .given fun hs => by
    have fit : s.fit j := h.elim (fun h => fit_of_service hs h j) fun h => h.1 j rfl
    exact (upholds_runJob fit).trans <| upholds_drain n _ _ <|
      h.elim (fun h => .inl ((lasting_unit (lasting_runJob j s)).trans h)) fun h => prepared_enqueue (orderly_runJob fit) h.2

theorem upholds_settle (h : s.Upholds r.st) (hp : r.st.prepared r.jobs) : s.Upholds r.settle :=
  h.trans (upholds_drain _ _ _ hp)

theorem upholds_settled (h : s.Upholds r.st) (hp : r.noMove) : s.Upholds r.settle := upholds_settle h (prepared_of_noMove hp)

theorem prepared_of_orderly (h : r.orderly) : r.st.prepared r.jobs := by
  obtain h | ⟨q, e, may⟩ := h
  · exact prepared_of_noMove h
  · rw [e]
    refine .inr ⟨fun j hj q' e' => ?_, fun _ h => by cases h⟩
    obtain rfl := Option.some.inj hj
    cases e'
    exact may

end Sys2Proof.Machine
end

section
/-! The link and the requests on orders uphold the laws (R43 to R58, R176). -/

namespace Sys2Proof.Machine

open State (Upholds)

variable {s t u : State} {p q : PanelNo} {i j : SlotNo} {o : Order} {k : StepKind} {n : StationNo}

/-! ### The link -/

theorem upholds_taken (s : State) (n : StationNo) : s.Upholds (s.taken n) :=
  State.Framed.upholds (t := s.taken n) (framed_modStation (fun _ => ⟨rfl, rfl⟩) fun _ h => h)

theorem upholds_queueReply (s : State) (r : Reply) : s.Upholds (s.queueReply r) :=
  (State.Framed.upholds (s := s) (t := s.modStation r.station fun x => { x with lastReply := r.code.code })
    (framed_modStation (fun _ => ⟨rfl, rfl⟩) fun _ h => h)).trans (State.Framed.upholds {})

theorem upholds_linkRefuse (s : State) (n : StationNo) (tag : Byte) (e : ReplyCode) : s.Upholds (s.linkRefuse n tag e) :=
  upholds_queueReply _ _

theorem upholds_unknownStation (s : State) (n : StationNo) (tag : Byte) : s.Upholds (s.unknownStation n tag) :=
  State.Framed.upholds {}

theorem upholds_frameError (s : State) (n : StationNo) (tag : Byte) : s.Upholds (s.frameError n tag) := by
  unfold State.frameError
  dsimp only
  refine .trans ?_ (upholds_linkRefuse _ _ _ _)
  refine .trans (.trans (t := s.modStation n fun x => { x with frameErrors := min 255 (x.frameErrors + 1) }) ?_
    (State.Framed.upholds {})) (upholds_latch _)
  exact State.Framed.upholds (framed_modStation (fun _ => ⟨rfl, rfl⟩) fun _ _ => Nat.min_le_left _ _)

/-! ### Orders that are made -/

theorem noMove_enter (s : State) (i : SlotNo) (link : Option Nat) : (s.enter i link).noMove := by
  unfold State.enter
  split
  · exact .ok s
  · exact noMove_admitted s i

theorem upholds_made {kind : OrderKind} {pred : Byte} (target : Option Int) (cls : OrderClass) (hold : Option StepKind)
    (link : Option Nat) (hu : s.unit = .run) (h : s.createRefusal n p kind pred = none) :
    s.Upholds (s.createOrder n p kind target cls hold link) :=
  upholds_createOrder n kind target cls hold link (linked_of_acts (acts_created target cls hold link hu h))

/-- An order just made waits. -/
theorem createOrder_waits {kind : OrderKind} {target : Option Int} {cls : OrderClass} {hold : Option StepKind} {link : Option Nat}
    (ho : (s.createOrder n p kind target cls hold link).slot s.slotForNew = some o) : o.state = .pending := by
  rw [createOrder_slot, if_pos rfl] at ho
  obtain rfl := Option.some.inj ho
  rfl

theorem live_of_pending (h : o.state = .pending) : o.state.live = true ∧ o.state ≠ .active := by
  rw [h]
  exact ⟨rfl, by decide⟩

theorem upholds_ownerCreateOrder (panel : Byte) (kind : BitVec 3) (cls : BitVec 1) (hold pred : Byte) (target : Half) :
    s.Upholds (ownerCreateOrder n panel kind cls hold pred target s).st := by
  unfold ownerCreateOrder
  split
  · exact .refl s
  · rename_i hu
    split
    · rename_i p k cl h _ _
      split
      · exact .refl s
      · rename_i hr
        exact (upholds_made _ cl h (s.linkOf pred) (by simpa using hu) hr).trans
          (upholds_settled (upholds_enter fun o ho => live_of_pending (createOrder_waits ho)) (noMove_enter _ _ _))
    · exact .refl s

/-- The entry of one order leaves another. -/
theorem enter_slot_ne {link : Option Nat} (h : i ≠ j) : (s.enter i link).st.slot j = s.slot j := by
  unfold State.enter
  split
  · rfl
  · unfold State.admitted
    split
    · rfl
    · exact updateOrder_slot.trans (if_neg h)

theorem upholds_ownerHatchOrder (hatch : Byte) (kind : BitVec 3) (cls : BitVec 1) (hold pred : Byte) (target : Half) :
    s.Upholds (ownerHatchOrder n hatch kind cls hold pred target s).st := by
  have linked : s.Linked → (ownerHatchOrder n hatch kind cls hold pred target s).st.Linked :=
    linked_of_acts (acts_ownerHatchOrder ..)
  unfold ownerHatchOrder
  split
  · exact .refl s
  · rename_i hu
    have hu : s.unit = .run := by simpa using hu
    split
    · rename_i h k cl hs _ _
      split
      · exact .refl s
      · exact .refl s
      · rename_i h1 h2
        obtain ⟨hc, ha, hf, hl⟩ := createRefusal_none h2
        have first := upholds_made (s.targetOf (portOf h) k (signed target)) cl hs (s.linkOf pred) hu h1
        have away := createOrder_panel s n (portOf h) k (s.targetOf (portOf h) k (signed target)) cl hs (s.linkOf pred)
          (starboardOf h)
        rw [if_neg (portOf_ne_starboardOf h)] at away
        have waits (o : Order) := createOrder_waits (s := s) (n := n) (p := portOf h) (kind := k)
          (target := s.targetOf (portOf h) k (signed target)) (cls := cl) (hold := hs) (link := s.linkOf pred) (o := o)
        have new := createOrder_slot s n (portOf h) k (s.targetOf (portOf h) k (signed target)) cl hs (s.linkOf pred)
        have kept := createOrder_eq s n (portOf h) k (s.targetOf (portOf h) k (signed target)) cl hs (s.linkOf pred)
        dsimp only [accept]
        generalize s.createOrder n (portOf h) k (s.targetOf (portOf h) k (signed target)) cl hs (s.linkOf pred) = u at *
        have hu' : u.unit = s.unit := by rw [kept]; rfl
        have hlay : u.layout = s.layout := by rw [kept]; rfl
        have made : Acts sure u
            (u.createOrder n (starboardOf h) k (s.targetOf (starboardOf h) k (signed target)) cl hs (s.linkOf pred)) := by
          refine .single (.create n (starboardOf h) k (s.targetOf (starboardOf h) k (signed target)) cl hs (s.linkOf pred)
            (hu'.trans hu) ?_ (by rw [away]; exact hf) (fun _ => by rw [away]; exact hl) ?_)
          · rwa [configured_congr hlay]
          · rw [stationKind_congr hlay, pendantHatch_congr hlay]
            exact pendantHatch_of_authority ha
        refine first.trans (.given fun hu => .trans (upholds_createOrder n k _ cl hs (s.linkOf pred) (linked_of_acts made)) ?_)
        have waits' (o : Order) := createOrder_waits (s := u) (n := n) (p := starboardOf h) (kind := k)
          (target := s.targetOf (starboardOf h) k (signed target)) (cls := cl) (hold := hs) (link := s.linkOf pred) (o := o)
        have new' := createOrder_slot u n (starboardOf h) k (s.targetOf (starboardOf h) k (signed target)) cl hs (s.linkOf pred)
        have apart : u.slotForNew ≠ s.slotForNew := fun e => by
          have here := new s.slotForNew
          rw [if_pos rfl] at here
          have dead := slotForNew_not_live hu (e ▸ here)
          exact absurd dead (by rw [waits _ here]; decide)
        generalize u.createOrder n (starboardOf h) k (s.targetOf (starboardOf h) k (signed target)) cl hs (s.linkOf pred) = v at *
        refine upholds_settled ?_ ((noMove_enter _ _ _).bind (noMove_enter _ _ _))
        rw [Res.bind_st]
        refine (upholds_enter fun o ho => ?_).trans (upholds_enter fun o ho => ?_)
        · rw [new', if_neg apart] at ho
          exact live_of_pending (waits o ho)
        · rw [enter_slot_ne (Ne.symm apart)] at ho
          exact live_of_pending (waits' o ho)
    · exact .refl s

/-! ### Requests on an order -/

theorem noMove_retarget (s : State) (p : PanelNo) : (s.retarget p).noMove := by
  unfold State.retarget
  split
  · dsimp only
    split
    · split
      · simp [Res.noMove, State.replan]
      · exact .ok _
    · split
      · exact .ok _
      · simp [Res.noMove]
    · exact (noMove_dropFlow _ p).add (by simp)
    · exact (noMove_dropFlow _ p).add (by simp)
    · exact .ok s
  · exact .ok s

theorem noMove_rekey (s : State) (p : PanelNo) (c : OrderClass) : (s.rekey p c).noMove := by
  unfold State.rekey
  split
  · split
    · simp [Res.noMove]
    · exact .ok s
  · exact .ok s

theorem upholds_amendClass (s : State) (i : SlotNo) (c : OrderClass) : s.Upholds (s.amendClass i c).settle := by
  have stored : s.Upholds (s.modOrder i fun o => { o with cls := c }) := upholds_amend fun _ => rfl
  unfold State.amendClass
  cases hi : s.slot i with
  | none => exact .refl s
  | some o =>
    dsimp only
    split
    · exact upholds_settled (stored.trans (upholds_rekey _ _ _)) (noMove_rekey _ _ _)
    · rw [settle_ok]
      exact stored

theorem upholds_clearPredecessor (s : State) (i : SlotNo) : s.Upholds (s.clearPredecessor i).settle := by
  unfold State.clearPredecessor
  split
  · exact .refl s
  · split
    · exact .refl s
    · exact upholds_settled (upholds_unlink s i) (noMove_unlink s i)

theorem upholds_amendSelections (s : State) (i : SlotNo) (o : Order) (target : Option Int) (hold : Option (Option StepKind))
    (cls : Option OrderClass) (clear : Bool) : s.Upholds (s.amend i o target hold cls clear) := by
  unfold State.amend
  extract_lets s1 s2 s3
  have targeted : s.Upholds s1 := by
    cases target with
    | none => exact .refl s
    | some n => exact upholds_settled ((upholds_amend fun _ => rfl).trans (upholds_retarget _ _)) (noMove_retarget _ _)
  have held : s1.Upholds s2 := by
    cases hold with
    | none => exact .refl s1
    | some h => exact upholds_amend fun _ => rfl
  have classed : s2.Upholds s3 := by
    cases cls with
    | none => exact .refl s2
    | some c => exact upholds_amendClass s2 i c
  refine (targeted.trans held).trans (classed.trans ?_)
  split
  · exact upholds_clearPredecessor s3 i
  · exact .refl s3

theorem upholds_ownerAmend (id : Byte) (mask : BitVec 4) (hold cls : Byte) (target : Half) :
    s.Upholds (ownerAmend n id mask hold cls target s).st := by
  unfold ownerAmend
  refine onOrder_st (P := fun t => s.Upholds t) (.refl s) fun i o _ _ _ _ => ?_
  split
  · exact .refl s
  · split
    · exact upholds_amendSelections ..
    · exact .refl s

theorem noMove_pauseOrder (s : State) (i : SlotNo) (r : PauseReason) : (s.pauseOrder i r).noMove := by
  unfold State.pauseOrder
  split
  · exact .ok s
  · split
    · exact .ok s
    · dsimp only
      split
      · exact (noMove_interrupt s _).map
      · exact (Res.noMove.ok s).map

theorem upholds_ownerPause (id : Byte) : s.Upholds (ownerPause n id s).st := by
  unfold ownerPause
  refine onOrder_st (P := fun t => s.Upholds t) (.refl s) fun i o _ _ _ _ => ?_
  split
  · exact .refl s
  · exact upholds_settled (upholds_pauseOrder s i _) (noMove_pauseOrder s i _)

/-- An order that is not ACTIVE changes. -/
theorem upholds_idleOrder {f : Order → Order} (hi : s.slot i = some o) (ha : o.state ≠ .active)
    (linked : s.Linked → (s.updateOrder i f).Linked) : s.Upholds (s.updateOrder i f) :=
  upholds_updateOrder linked fun _ _ hq h => absurd (Option.some.inj (hi.symm.trans hq) ▸ h) ha

theorem linked_of_latchIf {b : Bool} {e : EventLatch} (h : (s.latchIf b e).Linked) : s.Linked := by
  rw [latchIf_eq] at h
  have laws := linked_iff.2 h
  exact linked_iff.1 laws

theorem upholds_resumeOrder (hi : s.slot i = some o) (hp : o.state.isPaused = true) (ha : s.admissionState = .active) :
    s.Upholds (s.resumeOrder i o).st := by
  have linked : s.Linked → (s.resumeOrder i o).st.Linked := Changes.linked (L := Leave.all) (changes_resumeOrder hi hp trivial ha)
  have idle : o.state ≠ .active := fun e => by rw [e] at hp; cases hp
  exact (upholds_idleOrder hi idle fun hs => linked_of_latchIf (linked hs)).trans (upholds_latchIf _ _)

theorem upholds_ownerResume (id : Byte) : s.Upholds (ownerResume n id s).st := by
  unfold ownerResume
  refine onOrder_st (P := fun t => s.Upholds t) (.refl s) fun i o hi hu _ hl => ?_
  split
  · exact .refl s
  · rename_i h
    simp only [Bool.or_eq_true, Bool.not_eq_true', not_or, Bool.not_eq_true, Bool.not_eq_false] at h
    obtain ⟨⟨⟨hp, ho⟩, hsu⟩, -⟩ := h
    have hr : s.unit = .run := by cases h : s.unit <;> simp_all [UnitState.isRun]
    have ha : s.admissionState = .active := by simp [State.admissionState, hr, ho, hsu]
    refine upholds_settled (upholds_resumeOrder hi hp ha) fun q => ?_
    unfold State.resumeOrder
    dsimp only
    split <;> simp

theorem upholds_continueHeld (hi : s.slot i = some o) (hh : o.state = .atHold) : s.Upholds (s.continueHeld i o).st := by
  have linked : s.Linked → (s.continueHeld i o).st.Linked := Changes.linked (L := Leave.all) (changes_continueHeld hi hh trivial)
  have idle : o.state ≠ .active := by rw [hh]; decide
  unfold State.continueHeld at linked ⊢
  split at linked
  · rename_i h
    rw [if_pos h]
    exact upholds_idleOrder hi idle linked
  · rename_i h
    rw [if_neg h]
    refine upholds_completeOrder (fun q hq => ?_) fun _ q hq h => absurd (Option.some.inj (hi.symm.trans hq) ▸ h) idle
    obtain rfl : o = q := Option.some.inj (hi.symm.trans hq)
    rw [hh]
    rfl

theorem upholds_ownerContinue (id : Byte) : s.Upholds (ownerContinue n id s).st := by
  unfold ownerContinue
  refine onOrder_st (P := fun t => s.Upholds t) (.refl s) fun i o hi _ _ hl => ?_
  split
  · exact .refl s
  · rename_i hh
    refine upholds_settled (upholds_continueHeld hi (by simpa using hh)) ?_
    unfold State.continueHeld
    split
    · simp [Res.noMove]
    · exact noMove_completeOrder s i

theorem upholds_ownerCancel (id : Byte) : s.Upholds (ownerCancel n id s).st := by
  unfold ownerCancel
  exact onOrder_st (P := fun t => s.Upholds t) (.refl s) fun i o _ _ _ _ =>
    upholds_settled (upholds_endOrder s i rfl) (noMove_endOrder s i _)

/-- The issuer of an order is no matter of the laws (R57). -/
theorem upholds_ownerAdopt (id : Byte) : s.Upholds (ownerAdopt n id s).st := by
  unfold ownerAdopt
  refine onOrder_st (P := fun t => s.Upholds t) (.refl s) fun i o hi _ hm hl => ?_
  obtain ⟨layout, params, jog, packs⟩ := updateOrder_same s i fun o => { o with issuer := n }
  refine .of_orders (linked_of_acts (.single (.adopt i o n hi hl (pendantHatch_of_authority hm)))) layout params
    (fun q => by rw [acceptState, accept, updateOrder_panel]) jog packs fun _ j q hq ha _ => ?_
  rw [acceptState, accept, updateOrder_slot]
  split
  · rename_i e
    subst e
    exact ⟨{ q with issuer := n }, by rw [hq]; rfl, rfl, ha, rfl, rfl, rfl⟩
  · exact ⟨q, hq, rfl, ha, rfl, rfl, rfl⟩

/-- A finished order leaves the table. -/
theorem upholds_retire (linked : s.Linked → (s.setSlot i none).Linked)
    (h : s.Linked → ∀ o, s.slot i = some o → o.state.live = false) :
    s.Upholds (s.setSlot i none) := by
  refine .of_orders linked rfl rfl (fun _ => rfl) rfl (fun k => by cases k <;> rfl) fun hs j q hq ha _ =>
      ⟨q, ?_, rfl, ha, rfl, rfl, rfl⟩
  rw [setSlot_slot, if_neg]
  · exact hq
  · rintro rfl
    have dead := h hs q hq
    rw [ha] at dead
    cases dead

theorem upholds_ownerRetire (id : Byte) : s.Upholds (ownerRetire n id s).st := by
  unfold ownerRetire
  refine onOrder_st (P := fun t => s.Upholds t) (.refl s) fun i o hi _ _ hl => ?_
  have dead (q : Order) (hq : s.slot i = some q) : q.state.live = false := by
    obtain rfl : o = q := Option.some.inj (hi.symm.trans hq)
    simpa using hl
  exact upholds_retire (linked_of_acts (.single (.retire i fun q hq _ => dead q hq))) fun _ => dead

end Sys2Proof.Machine
end

section
/-! The requests on zones, the stops, RAIN_CLOSE, LIST_REPORT and the health of the packs uphold the laws (R88, R110 to R118,
R132, R133, R147 to R153). -/

namespace Sys2Proof.Machine

open State (Upholds WorksOn Only)

variable {s t u : State} {p q : PanelNo} {i j : SlotNo} {o : Order} {k : PackId} {n : StationNo} {r : Res}

/-! ### Zones -/

theorem upholds_jobs {js : List Job} (h : ∀ q, Job.moveEnd q ∉ js) : s.Upholds (Res.mk s js).settle :=
  upholds_settled (.refl s) h

theorem upholds_reportZone (s : State) (h : HatchNo) : s.Upholds (s.reportZone h) := upholds_jobs (by simp [zoneReport])

theorem upholds_setClaim (s : State) (z : ClaimNo) (x : Option Claim) : s.Upholds (s.setClaim z x) := State.Framed.upholds {}

theorem upholds_ownerClaimZone (hatch : Byte) (side kind : BitVec 2) (lo hi : Half) :
    s.Upholds (ownerClaimZone n hatch side kind lo hi s).st := by
  unfold ownerClaimZone
  split
  · split
    · exact .refl s
    · split
      · exact .refl s
      · split
        · exact .refl s
        · exact (upholds_setClaim _ _ _).trans (upholds_reportZone _ _)
  · exact .refl s

theorem upholds_renew (s : State) (z : ClaimNo) (x : Claim) : s.Upholds (s.renew z x) := by
  unfold State.renew
  dsimp only
  split
  · split
    · exact (upholds_setClaim _ _ _).trans (upholds_reportZone _ _)
    · exact upholds_setClaim _ _ _
  · exact .refl s

theorem upholds_ownerRenewZone (id : Byte) : s.Upholds (ownerRenewZone n id s).st :=
  onZone_st (P := fun t => s.Upholds t) (.refl s) fun z x _ _ => upholds_renew s z x

theorem upholds_ownerReleaseZone (id : Byte) : s.Upholds (ownerReleaseZone n id s).st :=
  onZone_st (P := fun t => s.Upholds t) (.refl s) fun _ x _ _ => (upholds_setClaim _ _ none).trans (upholds_reportZone _ x.hatch)

/-! ### Attendance -/

theorem upholds_modStation (f : Station → Station) : s.Upholds (s.modStation n f) :=
  .of_same (fun hs => linked_iff.1 (linked_iff.2 hs :)) (fun _ => .refl _) fun _ => rfl

theorem noMove_pauseIf (s : State) (f : Order → Bool) (r : PauseReason) (p : PanelNo) : (s.pauseIf f r p).noMove := by
  unfold State.pauseIf
  split
  · exact .ok s
  · split
    · exact noMove_pauseOrder s _ r
    · exact .ok s

theorem noMove_raiseAll (s : State) (ps : List PanelNo) (f : PanelFault) : (s.raiseAll ps f).noMove :=
  .each (fun p t => noMove_raise t p f) ps (.ok s)

theorem upholds_eachPause (s : State) (f : Order → Bool) (ps : List PanelNo) (r : PauseReason) :
    s.Upholds (Res.each ps (fun p s => s.pauseIf f r p) (.ok s)).st :=
  upholds_each (.refl s) fun p t => upholds_pauseIf t f r p

theorem noMove_eachPause (s : State) (f : Order → Bool) (ps : List PanelNo) (r : PauseReason) :
    (Res.each ps (fun p s => s.pauseIf f r p) (.ok s)).noMove := .each (fun p t => noMove_pauseIf t f r p) ps (.ok s)

theorem upholds_violation (s : State) (n : StationNo) : s.Upholds (s.violation n).settle := by
  have paused := upholds_eachPause s (fun o => o.issuer == n && o.state.working) allPanels .attendance
  unfold State.violation
  dsimp only
  refine upholds_settled ?_ ?_
  · rw [Res.map_st]
    refine .trans ?_ ((upholds_latch _).trans (upholds_modStation _))
    split
    · rw [Res.map_st]
      exact paused.trans (upholds_fold (fun p t => upholds_warn _) _ _)
    · exact upholds_raiseAll s _ _
  · refine Res.noMove.map ?_
    split
    · exact (noMove_eachPause _ _ _ _).map
    · exact noMove_raiseAll s _ _

theorem upholds_ownerKeepalive : s.Upholds (ownerKeepalive n s).st := by
  unfold ownerKeepalive
  split
  · exact .refl s
  · dsimp only [accept]
    unfold State.keep
    split
    · exact .refl s
    · exact upholds_modStation _
    · exact upholds_violation s n

/-! ### Stops -/

theorem upholds_stopPanels (s : State) (ps : List PanelNo) : s.Upholds (s.stopPanels ps).settle := by
  unfold State.stopPanels State.pauseWorking
  refine upholds_settled ?_ ((noMove_eachPause _ _ _ _).bind ?_)
  · rw [Res.bind_st]
    refine (upholds_eachPause s (fun o => o.state.working) ps .request).trans ?_
    split
    · split
      · exact upholds_endJog _
      · exact .refl _
    · exact .refl _
  · split
    · split
      · exact noMove_endJog _
      · exact .ok _
    · exact .ok _

theorem upholds_ownerStopHatch (hatch : Byte) : s.Upholds (ownerStopHatch n hatch s).st := by
  unfold ownerStopHatch
  split
  · exact .refl s
  · split
    · exact .refl s
    · split
      · exact .refl s
      · dsimp only [accept]
        exact upholds_stopPanels s _

theorem upholds_ownerStopAll : s.Upholds (ownerStopAll n s).st := by
  unfold ownerStopAll
  split
  · exact .refl s
  · dsimp only [accept]
    exact upholds_stopPanels s _

/-! ### RAIN_CLOSE -/

theorem noMove_clearPredecessor (s : State) (i : SlotNo) : (s.clearPredecessor i).noMove := by
  unfold State.clearPredecessor
  split
  · exact .ok s
  · split
    · exact .ok s
    · exact noMove_unlink s i

theorem noMove_amendClass (s : State) (i : SlotNo) (c : OrderClass) : (s.amendClass i c).noMove := by
  unfold State.amendClass
  split
  · exact .ok s
  · dsimp only
    split
    · exact noMove_rekey _ _ _
    · exact .ok _

theorem upholds_amendClassRes (s : State) (i : SlotNo) (c : OrderClass) : s.Upholds (s.amendClass i c).st := by
  have stored : s.Upholds (s.modOrder i fun o => { o with cls := c }) := upholds_amend fun _ => rfl
  unfold State.amendClass
  split
  · exact .refl s
  · dsimp only
    split
    · exact stored.trans (upholds_rekey ..)
    · exact stored

theorem upholds_clearPredecessorRes (s : State) (i : SlotNo) : s.Upholds (s.clearPredecessor i).st := by
  unfold State.clearPredecessor
  split
  · exact .refl s
  · split
    · exact .refl s
    · exact upholds_unlink s i

theorem upholds_raiseOrder (s : State) (i : SlotNo) : s.Upholds (s.raiseOrder i).settle :=
  upholds_settled ((upholds_amendClassRes s i _).trans (upholds_clearPredecessorRes _ i))
    ((noMove_amendClass s i _).bind (noMove_clearPredecessor _ i))

theorem upholds_rainOrder (hu : s.unit = .run) (hc : s.configured p = true) (hl : s.Linked → (s.panel p).live = none) :
    s.Upholds (s.rainOrder n p).st := by
  unfold State.rainOrder
  exact (upholds_createOrder n .close _ _ _ _ fun hs => linked_createOrder hs hu hc (hl hs)).trans
    (upholds_admitted fun o ho => live_of_pending (createOrder_waits ho))

theorem noMove_rainOrder (s : State) (n : StationNo) (p : PanelNo) : (s.rainOrder n p).noMove := noMove_admitted _ _

theorem upholds_rainTake {r : Rain} (hu : r.st.unit = .run) (hc : r.st.configured p = true) : r.st.Upholds (r.take n p).st := by
  unfold Rain.take
  split
  · exact .refl _
  · exact .refl _
  · exact upholds_raiseOrder _ _
  · rename_i i hi
    obtain ⟨o, ho⟩ := rainAction_order (.inr hi)
    have last : (r.st.endOrder i (.cancelled .superseded)).st.lasting = r.st.lasting :=
      Changes.lasting (L := Leave.all) (changes_endOrder rfl fun _ _ _ => .inl trivial)
    refine .given fun hs => upholds_settled ((upholds_endOrder _ i rfl).trans (upholds_rainOrder ?_ ?_ fun _ => ?_))
      ((noMove_endOrder _ _ _).bind (noMove_rainOrder _ n p))
    · exact (lasting_unit last).trans hu
    · rwa [lasting_configured last]
    · obtain ⟨slot, rfl, hl⟩ := live_of_liveOrder hs ho
      exact endOrder_live slot hl
  · rename_i hi
    exact upholds_settled (upholds_rainOrder hu hc fun hs => (liveOrder_eq_none hs).1 (rainAction_create hi))
        (noMove_rainOrder _ n p)

theorem upholds_rainFold (hu : s.unit = .run) (hk : s.stationKind n ≠ some .pendant) : ∀ (ps : List PanelNo) (r : Rain),
    (∀ p ∈ ps, s.configured p = true) → (s.Linked → s.Rains sure r.st) → s.Upholds r.st → s.Upholds (ps.foldl (Rain.take n) r).st
  | [], _, _, _, h => h
  | p :: ps, r, hc, rains, h => by
    have known (hs : s.Linked) : s.Holds sure := ⟨Nat.zero_le _, fun _ _ h => by cases h⟩
    refine upholds_rainFold hu hk ps (r.take n p) (fun q hq => hc q (.tail _ hq))
      (fun hs => rains_take (rains hs) (fun _ => hs) (fun _ => known hs) hu (hc p (.head _)) hk) (.given fun hs => h.trans ?_)
    exact upholds_rainTake ((rains hs).unit.trans hu) (by rw [configured_congr (rains hs).layout]; exact hc p (.head _))

theorem upholds_ownerRainClose : s.Upholds (ownerRainClose n s).st := by
  unfold ownerRainClose
  split
  · exact .refl s
  · rename_i hu
    split
    · exact .refl s
    · rename_i hk
      have kind : s.stationKind n ≠ some .pendant := by
        intro e
        simp [State.isKind, e] at hk
      exact upholds_rainFold (by simpa using hu) kind _ _ (fun p hp => (List.mem_filter.1 hp).2) (fun _ => .refl) (.refl s)

/-! ### LIST_REPORT -/

theorem upholds_forPanels {f : PanelNo → State → State} (hf : ∀ p (t : State), t.Upholds (f p t)) : s.Upholds (s.forPanels f) :=
  upholds_fold (f := fun s p => f p s) hf allPanels s

theorem upholds_deriveListHigh (s : State) : s.Upholds s.deriveListHigh := by
  unfold State.deriveListHigh
  exact .trans (t := { s with listHigh := s.highList }) (State.Framed.upholds {}) (upholds_latchIf _ _)

theorem upholds_retested {js : List Job} (h : ∀ q, Job.moveEnd q ∉ js) :
    s.Upholds (Res.mk (s.deriveListHigh.forPanels fun p s => s.checkFast p) js).settle := by
  have checked : s.Upholds (s.deriveListHigh.forPanels fun p s => s.checkFast p) :=
    (upholds_deriveListHigh s).trans (upholds_forPanels fun p t => upholds_checkFast t p)
  generalize s.deriveListHigh.forPanels (fun p s => s.checkFast p) = u at checked
  exact checked.trans (upholds_jobs h)

theorem not_mem_retestAll (q : PanelNo) : Job.moveEnd q ∉ retestAll := fun h => by
  obtain ⟨_, -, e⟩ := List.mem_map.1 h
  cases e

theorem not_mem_retestJog (q : PanelNo) : Job.moveEnd q ∉ retestAll ++ [.jogTest] := fun h =>
  (List.mem_append.1 h).elim (not_mem_retestAll q) (by simp)

theorem upholds_takeAttitude (s : State) (l m : Int) : s.Upholds (s.takeAttitude l m) := by
  rw [takeAttitude_eq]
  have stored : s.Upholds (s.reported l m) := State.Framed.upholds
    { list := fun _ _ => limitAttitude_range l
      trim := fun _ _ => limitAttitude_range m }
  exact stored.trans (upholds_retested not_mem_retestJog)

theorem upholds_ownerListReport (list trim : Half) : s.Upholds (ownerListReport n list trim s).st := by
  unfold ownerListReport
  split
  · exact .refl s
  · dsimp only [accept]
    exact upholds_takeAttitude s _ _

/-! ### The health of the packs -/

/-- A waiting request moves to the other list, or fails, or stays (R132, R133). -/
theorem upholds_moveWaiter (s : State) (k : PackId) (p : PanelNo) : s.Upholds (s.moveWaiter k p).st := by
  unfold State.moveWaiter
  split
  · exact .refl s
  · rename_i w hw
    have here : w ∈ (s.pack k).waiting := List.mem_of_find?_eq_some hw
    obtain rfl : w.panel = p := by simpa using List.find?_some hw
    dsimp only
    split
    · exact .refl s
    · rename_i hne
      split
      · exact upholds_failLive s _ _
      · have goes : s.listPack w.panel = otherPack k := eq_otherPack (Ne.symm hne)
        rw [goes]
        have work : WorksOn w.panel s ((s.modPack k fun x => x.dropPanel w.panel).modPack (otherPack k) fun x => x.insert w) :=
          (WorksOn.pack (f := fun x => x.dropPanel w.panel) fun _ => rfl).trans (.pack (f := fun x => x.insert w) fun _ => rfl)
        have served (q : PanelNo) :
            ((s.modPack k fun x => x.dropPanel w.panel).modPack (otherPack k) fun x => x.insert w).served q =
            s.served q := (served_modPack ..).trans (served_modPack ..)
        refine .of_work work ((Only.pack (dropPanel_dropPanel _ _) (dropPanel_grants_sublist _ _)).trans (only_insert _ w rfl))
          (fun _ hf => ?_) fun _ _ => .inr ⟨?_, ?_, fun j hj _ => ?_⟩
        · have mem : w.panel ∈ (s.pack k).panels := List.mem_append_right _ (List.mem_map_of_mem here)
          refine flowAt_insert (fun l => ?_) (otherPack k) ?_
          · by_cases e : k = l
            · subst e
              rw [modPack_pack_self]
              exact not_mem_dropPanel _ _
            · rw [State.modPack, setPack_pack_ne _ _ e, eq_otherPack e]
              exact hf.placedOnce _ k mem
          · rw [phaseAt_congr (served_modPack ..)]
            exact ((flowLaws_iff.1 hf).2 _).waiting k w here rfl
        · rw [Res.ok, modPack_panel, modPack_panel]
          exact .refl _
        · exact fun _ => phaseAt_congr (served _)
        · exact ((modPack_jog ..).trans (modPack_jog ..)).trans hj

theorem noMove_moveWaiter (s : State) (k : PackId) (p : PanelNo) : (s.moveWaiter k p).noMove := by
  unfold State.moveWaiter
  split
  · exact .ok s
  · dsimp only
    split
    · exact .ok s
    · split
      · exact noMove_failLive s p _
      · exact .ok _

theorem upholds_moveWaiters (s : State) (k : PackId) : s.Upholds (s.moveWaiters k).st :=
  upholds_each (.refl s) fun p t => upholds_moveWaiter t k p

theorem noMove_moveWaiters (s : State) (k : PackId) : (s.moveWaiters k).noMove :=
  .each (fun p t => noMove_moveWaiter t k p) _ (.ok s)

/-- The grants of a pack are void. -/
theorem yields_voided (x : Pack) : x.Yields { x with grants := [] } where
  count := fun p => by
    rw [Pack.panels, Pack.panels, List.count_append, List.count_append]
    exact Nat.add_le_add_right (Nat.zero_le _) _
  grants := fun g hg => by cases hg
  waiting := fun w hw => ⟨w, hw, rfl⟩

theorem upholds_endVoidedJog (s : State) (gs : List Grant) : s.Upholds (s.endVoidedJog gs).st := by
  unfold State.endVoidedJog
  split
  · split
    · exact upholds_endJog s
    · exact .refl s
  · exact .refl s

theorem noMove_endVoidedJog (s : State) (gs : List Grant) : (s.endVoidedJog gs).noMove := by
  unfold State.endVoidedJog
  split
  · split
    · exact noMove_endJog s
    · exact .ok s
  · exact .ok s

theorem upholds_packDown (s : State) (k : PackId) : s.Upholds (s.packDown k).st := by
  have void : s.Upholds (s.modPack k fun x => { x with grants := [] }) :=
    upholds_repack (yields_voided _) rfl fun _ => Nat.zero_le _
  exact ((void.trans (upholds_eachPause _ _ _ _)).trans (upholds_endVoidedJog _ _)).trans (upholds_moveWaiters _ k)

theorem noMove_packDown (s : State) (k : PackId) : (s.packDown k).noMove :=
  (((noMove_eachPause _ _ _ _).bind (noMove_endVoidedJog _ _)).bind (noMove_moveWaiters _ k)).add (by simp)

theorem upholds_changePack (k : PackId) (f : Pack → Pack) (hf : ∀ x, (f x).grants = x.grants ∧ (f x).waiting = x.waiting) :
    s.Upholds (s.changePack k f) := by
  unfold State.changePack
  have flow : ∀ j, ((s.setPack (f (s.pack k)) k).pack j).grants = (s.pack j).grants ∧
      ((s.setPack (f (s.pack k)) k).pack j).waiting = (s.pack j).waiting := fun j => by
    by_cases e : k = j
    · subst e; rw [setPack_pack_self]; exact hf _
    · rw [setPack_pack_ne _ _ e]; exact ⟨rfl, rfl⟩
  have read : s.Upholds (s.setPack (f (s.pack k)) k) := by
    cases k
    · exact State.Framed.upholds { flow := flow }
    · exact State.Framed.upholds { flow := flow }
  extract_lets x y s1 s2 s3 r
  have latched : s.Upholds s3 := ((read.trans (upholds_latchIf _ _)).trans (upholds_latchIf _ _)).trans (upholds_latchIf _ _)
  clear_value s3
  refine upholds_settled (latched.trans ?_) ?_
  · change s3.Upholds (if x.up && !y.up then s3.packDown k else if !x.up && y.up then s3.packUp k
      else if x.hot && !y.hot then ⟨s3, [.pass k]⟩ else .ok s3).st
    split
    · exact upholds_packDown s3 k
    · split
      · exact upholds_moveWaiters s3 (otherPack k)
      · split <;> exact .refl s3
  · change (if x.up && !y.up then s3.packDown k else if !x.up && y.up then s3.packUp k
      else if x.hot && !y.hot then ⟨s3, [.pass k]⟩ else .ok s3).noMove
    split
    · exact noMove_packDown s3 k
    · split
      · exact (noMove_moveWaiters s3 _).add (by simp)
      · split
        · simp [Res.noMove]
        · exact .ok s3

end Sys2Proof.Machine
end

section
/-! The requests on protection and configuration, SERVICE_ENTER, SERVICE_EXIT and PRESET_POSITION uphold the laws (R169, R170, R173,
R187 to R198). -/

namespace Sys2Proof.Machine

open State (Upholds)

variable {s t u : State} {p q : PanelNo} {i j : SlotNo} {o : Order} {k : PackId} {n : StationNo} {r : Res}

/-! ### A unit that moves nothing -/

/-- No step is begun, and no jog is in progress. -/
structure State.Idle (s : State) : Prop where
  served : ∀ p, s.served p = none
  jog : s.jog = none

theorem State.Idle.resting (h : s.Idle) (hown : s.ownedAt p) : (s.panel p).resting :=
  resting_of_unowned (fun _ ⟨_, _, hv, _⟩ => by rw [h.served] at hv; cases hv)
      (fun _ ⟨_, hj, _⟩ => by rw [h.jog] at hj; cases hj) hown

theorem State.Idle.flowless (h : s.Idle) (hf : s.flowLaws) (p : PanelNo) : s.flowless p :=
  ((flowLaws_iff.1 hf).2 p).flowless (phaseAt_unserved (h.served p)) fun _ hj => by rw [h.jog] at hj; cases hj

theorem Pack.empty_of_flowless {x : Pack} (h : ∀ p, p ∉ x.panels) : x.grants = [] ∧ x.waiting = [] := by
  obtain ⟨hg, hw⟩ := List.append_eq_nil_iff.1 (List.eq_nil_iff_forall_not_mem.2 h)
  exact ⟨List.map_eq_nil_iff.1 hg, List.map_eq_nil_iff.1 hw⟩

theorem State.Idle.packs (h : s.Idle) (hf : s.flowLaws) (k : PackId) : (s.pack k).grants = [] ∧ (s.pack k).waiting = [] :=
  Pack.empty_of_flowless fun p => h.flowless hf p k

/-- Neither in START nor in SETUP is an order served (R66, R192). -/
theorem idle_of_unit (hs : s.Linked) (hr : s.unit ≠ .run) (hv : s.unit ≠ .service) : s.Idle where
  served := fun p => by
    cases h : s.served p with
    | none => rfl
    | some x =>
      obtain ⟨i, o, k⟩ := x
      have dead := hs.idle hr hv i o (served_slot h)
      rw [served_active h] at dead
      cases dead
  jog := by
    cases h : s.jog with
    | none => rfl
    | some j => exact absurd (hs.jog j h).1 hv

/-- Where every panel rests, the laws of the coils hold. -/
theorem obeysBut_of_resting {X Y : PanelNo → Prop} (h : ∀ p, (s.panel p).resting) : s.obeysBut X Y where
  owned := fun p k hw => absurd hw (h p k)
  law := fun p _ k hw => absurd hw (h p k)
  lap := fun p _ => ⟨fun hw => absurd hw (h p _), fun hw => absurd hw (h p _)⟩

/-- Nothing moves, and the packs are empty. -/
theorem State.Upholds.of_off (linked : s.Linked → t.Linked) (rest : s.Linked → (∀ p, s.ownedAt p) → ∀ p, (t.panel p).resting)
    (packs : s.Linked → s.flowLaws → ∀ k, (t.pack k).grants = [] ∧ (t.pack k).waiting = []) : s.Upholds t where
  linked := linked
  flow := fun hs hf => flowLaws_of_idle (fun k => (packs hs hf k).1) fun k => (packs hs hf k).2
  coils := fun hs _ _ hc => obeysBut_of_resting (rest hs hc.owned)

/-- A unit that moves nothing changes, and its coils do not come on. -/
theorem State.Upholds.of_idle (idle : s.Linked → s.Idle) (linked : s.Linked → t.Linked)
    (works : ∀ p k, (t.panel p).works k → (s.panel p).works k) (packs : ∀ k, t.pack k = s.pack k) : s.Upholds t :=
  .of_off linked (fun hs own p k hw => (idle hs).resting (own p) k (works p k hw))
    fun hs hf k => by rw [packs]; exact (idle hs).packs hf k

/-! ### CLEAR_FAULTS and CLEAR_EVENTS -/

theorem upholds_clearPanel (s : State) (p : PanelNo) : s.Upholds (s.clearPanel p) := by
  refine upholds_feed (Panel.fed_cleared _ _ _ fun _ h => (List.mem_filter.1 h).1)
    ⟨.of_same rfl rfl rfl, rfl, rfl, fun c h => ?_⟩
  simpa [Panel.cleared] using h

theorem upholds_clearPack (s : State) (k : PackId) : s.Upholds (s.clearPack k) := by
  unfold State.clearPack
  exact upholds_changePack k _ fun _ => ⟨rfl, rfl⟩

theorem upholds_clearSupply (s : State) : s.Upholds s.clearSupply := by
  unfold State.clearSupply
  split
  · exact State.Framed.upholds {}
  · exact .refl s

theorem upholds_clearUnit (s : State) : s.Upholds s.clearUnit := by
  unfold State.clearUnit
  have cleared : s.Upholds { s.clearSupply with frameErrorsWarned := false } := (upholds_clearSupply s).trans
      (State.Framed.upholds {})
  exact (cleared.trans (upholds_clearPack _ .a)).trans (upholds_clearPack _ .b)

theorem upholds_clearScope (s : State) (sc : Scope) : s.Upholds (s.clearScope sc) := by
  unfold State.clearScope
  have cleared := upholds_fold (fun p (s : State) => upholds_clearPanel s p) (s.scopePanels sc) s
  dsimp only
  split
  · exact cleared.trans (upholds_clearUnit _)
  · exact cleared

theorem upholds_ownerClearFaults (scope target : Byte) : s.Upholds (ownerClearFaults n scope target s).st := by
  unfold ownerClearFaults
  split
  · exact .refl s
  · split
    · exact .refl s
    · split
      · exact .refl s
      · split
        · exact .refl s
        · exact upholds_clearScope s _

theorem upholds_ownerClearEvents (codes : Half) : s.Upholds (ownerClearEvents n codes s).st := by
  unfold ownerClearEvents
  split
  · exact .refl s
  · split
    · exact .refl s
    · exact .of_same (fun hs => linked_iff.1 (linked_iff.2 hs :)) (fun _ => .refl _) fun _ => rfl

/-! ### Configuration -/

theorem upholds_ownerSetParam (number value : Half) : s.Upholds (ownerSetParam n number value s).st := by
  have linked : s.Linked → (ownerSetParam n number value s).st.Linked := linked_of_acts (acts_ownerSetParam ..)
  unfold ownerSetParam at linked ⊢
  split
  · exact .refl s
  · rename_i hu
    have setup : s.unit = .setup := by simpa using hu
    rw [if_neg hu] at linked
    split
    · exact .refl s
    · rename_i hk
      rw [if_neg hk] at linked
      split
      · exact .refl s
      · rename_i i hi
        simp only [hi] at linked
        split
        · exact .refl s
        · rename_i h1
          rw [if_neg h1] at linked
          split
          · exact .refl s
          · rename_i h2
            rw [if_neg h2] at linked
            split
            · exact .refl s
            · rename_i h3
              rw [if_neg h3] at linked
              exact .of_idle (fun hs => idle_of_unit hs (by rw [setup]; decide) (by rw [setup]; decide)) linked (fun _ _ h => h)
                fun k => by cases k <;> rfl

theorem upholds_ownerCommit (tag : Byte) : s.Upholds (ownerCommit n tag s).st := by
  unfold ownerCommit
  split
  · exact .refl s
  · rename_i hu
    split
    · exact .refl s
    · split
      · exact .refl s
      · split
        · exact .refl s
        · exact .of_same (linked_of_acts (.single (.write _ (by simpa using hu)))) (fun _ => .refl _) fun _ => rfl

/-- The unit enters another state. -/
theorem upholds_entered {v : UnitState} {x : Option StationNo}
    (linked : s.Linked → ({ s with unit := v, serviceStation := x } : State).Linked) :
    s.Upholds { s with unit := v, serviceStation := x } := .of_same linked (fun _ => .refl _) fun _ => rfl

theorem upholds_ownerReconfigure : s.Upholds (ownerReconfigure n s).st := by
  refine .given fun hs => ?_
  have linked : s.Linked → (ownerReconfigure n s).st.Linked := linked_of_acts (acts_ownerReconfigure fun _ => hs)
  unfold ownerReconfigure at linked ⊢
  split
  · exact .refl s
  · rename_i h1
    rw [if_neg h1] at linked
    split
    · exact .refl s
    · rename_i h2
      rw [if_neg h2] at linked
      split
      · exact .refl s
      · rename_i h3
        rw [if_neg h3] at linked
        exact upholds_entered (x := s.serviceStation) linked

/-! ### Service -/

theorem notWriting (hs : s.Linked) (hu : s.unit ≠ .setup) : s.writing = none := by
  cases hw : s.writing with
  | none => rfl
  | some w => exact absurd (hs.writing (by simp [hw])) hu

theorem upholds_ownerServiceEnter : s.Upholds (ownerServiceEnter n s).st := by
  unfold ownerServiceEnter
  split
  · exact .refl s
  · rename_i hu
    have hu : s.unit = .run := by simpa using hu
    split
    · exact .refl s
    · split
      · exact .refl s
      · refine .given fun hs => ?_
        have paused : s.Upholds (s.pauseWorking allPanels .service).st := upholds_eachPause s (fun o => o.state.working)
            allPanels .service
        have unit : (s.pauseWorking allPanels .service).st.unit = .run :=
          (lasting_unit (changes_pauseWorking (L := Leave.command) (fun _ => trivial) allPanels .service).lasting).trans hu
        have slots (i : SlotNo) := pauseWorking_slots (r := .service) (ps := allPanels) (j := i) hs
        have quiet : (s.pauseWorking allPanels .service).noMove := noMove_eachPause s _ allPanels .service
        dsimp only [accept]
        generalize s.pauseWorking allPanels .service = r at *
        refine upholds_settled (r := r.map _) (paused.trans ?_) quiet.map
        refine upholds_entered fun hr => linked_of_acts (.single (.enter .service (some n) (.inr (.inr rfl)) (fun e => by cases e)
          (fun _ i o ho _ => ?_) (fun e => absurd rfl e) fun _ _ => notWriting hr (by rw [unit]; decide))) hr
        rw [slots] at ho
        obtain ⟨q, -, rfl⟩ := Option.map_eq_some_iff.1 ho
        unfold Order.stoppedBy
        split
        · rfl
        · rename_i hn
          simpa [mem_allPanels] using hn

theorem upholds_ownerServiceExit : s.Upholds (ownerServiceExit n s).st := by
  unfold ownerServiceExit
  split
  · exact .refl s
  · rename_i hu
    have hu : s.unit = .service := by simpa using hu
    split
    · exact .refl s
    · have ended := upholds_endJog s
      have unit : s.endJog.st.unit = .service := (lasting_unit (changes_endJog (L := Leave.all)).lasting).trans hu
      have stopped : s.endJog.st.jog = none := endJog_jog s
      have quiet := noMove_endJog s
      dsimp only [accept]
      generalize s.endJog = r at *
      refine upholds_settled (r := r.map _) (ended.trans ?_) quiet.map
      exact upholds_entered fun hr => linked_of_acts (.single (.enter .run none (.inr (.inl rfl)) (fun e => by cases e)
        (fun e => by cases e) (fun _ _ => stopped) fun _ _ => notWriting hr (by rw [unit]; decide))) hr

theorem upholds_ownerPresetPosition (panel : Byte) (count : Half) : s.Upholds (ownerPresetPosition n panel count s).st := by
  unfold ownerPresetPosition
  refine onService_st (P := fun t => s.Upholds t) (.refl s) fun p hc => ?_
  split
  · exact .refl s
  · simp only [countOk, Bool.and_eq_true, decide_eq_true_eq] at hc
    exact upholds_feed (f := fun x => { x with count := signed count, certain := true })
      { range := fun _ _ ⟨_, _, h⟩ => ⟨hc.1, hc.2, h⟩ } (.of_same rfl rfl rfl rfl rfl rfl)

end Sys2Proof.Machine
end

section
/-! What a switch does to the laws: its panel, and the other panel of the hatch for the seat, are exempt from them until their
steps and the jog have been looked at (R31, R72, R74, R75, R197). -/

namespace Sys2Proof.Machine

open State (Upholds)

variable {s t u : State} {p q : PanelNo} {i j : SlotNo} {o : Order} {k : StepKind} {n : StationNo}
    {X Y X' Y' X'' Y'' : PanelNo → Prop}

/-- The laws of the flow hold in `t` if they hold in `s`, and those of the coils with the exemptions `X'`, `Y'` if they hold in `s`
with `X`, `Y`. -/
structure State.Leads (s : State) (X Y X' Y' : PanelNo → Prop) (t : State) : Prop where
  linked : s.Linked → t.Linked
  flow : s.Linked → s.flowLaws → t.flowLaws
  coils : s.Linked → s.obeysBut X Y → t.obeysBut X' Y'

/-- All laws hold in `t` if they hold in `s`. -/
def State.Lawful (s t : State) : Prop := s.Leads nowhere nowhere nowhere nowhere t

theorem State.Upholds.leads (h : s.Upholds t) (X Y : PanelNo → Prop) : s.Leads X Y X Y t :=
  ⟨h.linked, h.flow, fun hs => h.coils hs X Y⟩

theorem State.Upholds.lawful (h : s.Upholds t) : s.Lawful t := h.leads _ _

namespace State.Leads

theorem given (h : s.Linked → s.Leads X Y X' Y' t) : s.Leads X Y X' Y' t :=
  ⟨fun hs => (h hs).linked hs, fun hs => (h hs).flow hs, fun hs => (h hs).coils hs⟩

theorem trans (a : s.Leads X Y X' Y' t) (b : t.Leads X' Y' X'' Y'' u) : s.Leads X Y X'' Y'' u where
  linked := fun hs => b.linked (a.linked hs)
  flow := fun hs hf => b.flow (a.linked hs) (a.flow hs hf)
  coils := fun hs hc => b.coils (a.linked hs) (a.coils hs hc)

theorem upholds (a : s.Leads X Y X' Y' t) (b : t.Upholds u) : s.Leads X Y X' Y' u := a.trans (b.leads _ _)

end State.Leads

open State (Leads)

/-- A panel of which the laws of R72 hold, or that has come to rest, is exempt from them no more. -/
theorem State.Upholds.leads_law (h : s.Upholds t) (good : s.Linked → (∀ q, s.ownedAt q) → s.panelLawAt p ∨ (t.panel p).resting) :
    s.Leads (· = p) Y nowhere Y t where
  linked := h.linked
  flow := h.flow
  coils := fun hs hc => by
    obtain law | rest := good hs hc.owned
    · refine h.coils hs _ _ ⟨hc.owned, fun q _ => ?_, hc.lap⟩
      by_cases e : q = p
      · subst e; exact law
      · exact hc.law q e
    · have after := h.coils hs _ _ hc
      refine ⟨after.owned, fun q _ => ?_, after.lap⟩
      by_cases e : q = p
      · subst e; exact fun k hw => absurd hw (rest k)
      · exact after.law q e

/-- A panel of which the laws of R74 hold, or that has come to rest, is exempt from them no more. -/
theorem State.Upholds.leads_lap (h : s.Upholds t) (good : s.Linked → (∀ q, s.ownedAt q) → s.lapLawAt p ∨ (t.panel p).resting) :
    s.Leads X (· = p) X nowhere t where
  linked := h.linked
  flow := h.flow
  coils := fun hs hc => by
    obtain law | rest := good hs hc.owned
    · refine h.coils hs _ _ ⟨hc.owned, hc.law, fun q _ => ?_⟩
      by_cases e : q = p
      · subst e; exact law
      · exact hc.lap q e
    · have after := h.coils hs _ _ hc
      refine ⟨after.owned, after.law, fun q _ => ?_⟩
      by_cases e : q = p
      · subst e; exact ⟨fun hw => absurd hw (rest _), fun hw => absurd hw (rest _)⟩
      · exact after.lap q e

/-- What the laws go by changes at the panel, which energises nothing by it. -/
theorem leads_sensed {f : Panel → Panel} (linked : s.Linked → (s.modPanel p f).Linked)
    (live : (f (s.panel p)).live = (s.panel p).live)
    (bears : s.ownedAt p → (s.panel p).Bears (f (s.panel p))) (hX : ∀ q, ¬ X' q → ¬ X q ∧ p ≠ q)
    (hY : ∀ q, ¬ Y' q → ¬ Y q ∧ ((f (s.panel p)).seat = (s.panel p).seat ∨ p ≠ partner q)) : s.Leads X Y X' Y'
        (s.modPanel p f) where
  linked := linked
  flow := fun _ hf => by
    obtain ⟨sum, each⟩ := flowLaws_iff.1 hf
    refine flowLaws_iff.2 ⟨fun k => ?_, fun q => flowAt_kept (s := s) (fun k => by rw [modPanel_pack]) (fun h => ?_)
      (fun j hj _ => hj) (each q)⟩
    · rw [modPanel_pack]
      exact sum k
    · rwa [phaseAt_congr (served_modPanel live)]
  coils := fun _ hc => by
    have away (q : PanelNo) (h : p ≠ q) : (s.modPanel p f).panel q = s.panel q := modPanel_panel_ne _ _ h
    have each (q : PanelNo) : (s.panel q).Bears ((s.modPanel p f).panel q) := by
      by_cases e : p = q
      · subst e
        rw [modPanel_panel_self]
        exact bears (hc.owned p)
      · rw [away q e]
        exact (Panel.Rests.refl _).toBears
    refine ⟨fun q => ownedAt_kept (.inr ⟨each q, fun _ => phaseAt_congr (served_modPanel live), fun j hj _ => hj⟩) (hc.owned q),
      fun q hq => panelLawAt_kept (s := s) rfl (.inr ?_) (hc.law q (hX q hq).1),
      fun q hq => lapLawAt_kept (s := s) rfl (fun r _ _ => (each r).works _) ?_ (hc.lap q (hY q hq).1)⟩
    · rw [away q (hX q hq).2]
      exact .refl _
    · by_cases e : p = partner q
      · rw [← e, modPanel_panel_self]
        exact (hY q hq).2.resolve_right fun h => h e
      · rw [away _ e]

/-! ### The step is looked at -/

theorem interrupt_resting (hs : s.Linked) (hv : s.served p = some (i, o, k)) (hown : s.ownedAt p) :
    ((s.interrupt p).st.panel p).resting := by
  have rest : ((if o.phase = some .running then s.stopStep p k else s).panel p).resting := by
    split
    · exact stopStep_resting hs hv hown
    · rename_i hr
      exact resting_of_served hs hv hr hown
  simp only [State.interrupt, hv, Res.add_st]
  rw [dropFlow_panel, modPanel_panel_self, setPhase_panel]
  exact Panel.resting_congr rfl rfl rest

/-- The panel whose order fails comes to rest. -/
theorem failLive_resting (hs : s.Linked) (hv : s.served p = some (i, o, k)) (hown : s.ownedAt p) (r : FailReason) :
    ((s.failLive p r).st.panel p).resting := by
  obtain ⟨hlive, -⟩ := served_some hv
  obtain ⟨ho, hp, hl⟩ := live_of_liveOrder hs hlive
  have ended := ended_endOrder ho hl (st := .failed r) rfl
  rw [if_pos (served_active hv), hp] at ended
  obtain ⟨l, v, pl, e⟩ := ended.panel p
  have failed : (s.failLive p r).st = (s.endOrder i (.failed r)).st := by simp only [State.failLive, hlive]
  rw [failed, e]
  exact Panel.resting_congr rfl rfl (interrupt_resting hs hv hown)

theorem sequenceFail_resting (hs : s.Linked) (hv : s.served p = some (i, o, k)) (hown : s.ownedAt p) :
    ((s.sequenceFail p).st.panel p).resting := by
  have warned := upholds_warn (s := s) (p := p) .sequenceStop
  have served : (s.warn p .sequenceStop).served p = some (i, o, k) :=
    (served_congr (by simp [State.warn]) (by simp [State.warn])).trans hv
  refine failLive_resting (warned.linked hs) served ?_ _
  refine ownedAt_kept (.inr ⟨?_, fun _ => phaseAt_congr (served.trans hv.symm), fun j hj _ => ?_⟩) hown
  · rw [State.warn, setLatch_panel, modPanel_panel_self]
    exact .of_same rfl rfl rfl
  · rw [State.warn, setLatch_jog]
    exact hj

theorem completeStep_resting (hs : s.Linked) (hv : s.served p = some (i, o, k)) (hk : k.endsItself = true) (hown : s.ownedAt p) :
    ((s.completeStep p i k).st.panel p).resting := by
  have rest := stopStep_resting hs hv hown
  have left (u : State) (h : (u.panel p).resting) :
      ((((u.setPhase p i none {} none).modPanel p fun x => { x with plan := none }).dropFlow p).st.panel p).resting := by
    rw [dropFlow_panel, modPanel_panel_self, setPhase_panel]
    exact Panel.resting_congr rfl rfl h
  cases k with
  | lift => exact left _ rest
  | lower => exact left _ rest
  | lockStow => exact left _ rest
  | unlockStow => exact left _ rest
  | _ => cases hk

/-- A step whose hard preconditions hold keeps the laws of R72. -/
theorem law_of_hard (hs : s.Linked) (hv : s.served p = some (i, o, k)) (hown : s.ownedAt p) (hard : s.hard p o k = true) :
    s.panelLawAt p := by
  intro k' hw
  obtain ⟨rfl, -⟩ := works_served hs hv hown hw
  have allowed := stepAllowed_iff.2 hard
  cases k' with
  | travel => exact ⟨allowed.1, allowed.2.1, allowed.2.2.1⟩
  | _ => exact allowed

theorem law_of_resting (h : (s.panel p).resting) : s.panelLawAt p := fun k hw => absurd hw (h k)

/-- A panel without a step, and without a jog, rests. -/
theorem resting_of_jogless (hj : s.jog = none) (hv : s.served p = none) (hown : s.ownedAt p) : (s.panel p).resting :=
  resting_of_unowned (fun _ ⟨_, _, h, _⟩ => by rw [hv] at h; cases h) (fun _ ⟨_, h, _⟩ => by rw [hj] at h; cases h) hown

/-- Once the step of a panel has been looked at, the laws of R72 hold of the panel. -/
theorem leads_watch (hj : s.jog = none) (p : PanelNo) (Y : PanelNo → Prop) : s.Leads (· = p) Y nowhere Y (s.watch p).st := by
  refine (upholds_watch s p).leads_law fun hs own => ?_
  unfold State.watch
  cases hv : s.served p with
  | none => exact .inl (law_of_resting (resting_of_jogless hj hv (own p)))
  | some x =>
    obtain ⟨i, o, k⟩ := x
    have still (h : o.phase ≠ some .running) : s.panelLawAt p := law_of_resting (resting_of_served hs hv h (own p))
    dsimp only
    split
    · split
      · rename_i he
        exact .inr (completeStep_resting hs hv (Bool.and_eq_true_iff.1 he).1 (own p))
      · split
        · exact .inr (sequenceFail_resting hs hv (own p))
        · rename_i h
          exact .inl (law_of_hard hs hv (own p) (by simpa using h))
    · rename_i h
      exact .inl (still (by rw [h]; decide))
    · rename_i h
      exact .inl (still (by rw [h]; decide))
    · rename_i h _ _
      exact .inl (still h)

theorem sequenceFail_unserved (hs : s.Linked) (hv : s.served p = some (i, o, k)) : (s.sequenceFail p).st.served p = none := by
  have warned := upholds_warn (s := s) (p := p) .sequenceStop
  have served : (s.warn p .sequenceStop).served p = some (i, o, k) :=
    (served_congr (by simp [State.warn]) (by simp [State.warn])).trans hv
  obtain ⟨hlive, -⟩ := served_some served
  obtain ⟨ho, hp, hl⟩ := live_of_liveOrder (warned.linked hs) hlive
  have dead := endOrder_live (st := .failed .sequence) ho hl
  rw [hp] at dead
  have failed : (s.sequenceFail p).st = ((s.warn p .sequenceStop).endOrder i (.failed .sequence)).st := by
    simp only [State.sequenceFail, State.failLive, hlive]
  rw [failed]
  simp only [State.served, State.liveOrder, dead]

theorem completeStep_phaseAt (hv : s.served p = some (i, o, k)) (hk : k.endsItself = true) :
    (s.completeStep p i k).st.phaseAt p = none := by
  have left {u : State} (h : u.served p = some (i, o, k)) :
      (((u.setPhase p i none {} none).modPanel p fun x => { x with plan := none }).dropFlow p).st.phaseAt p = none := by
    have served : (((u.setPhase p i none {} none).modPanel p fun x => { x with plan := none }).dropFlow p).st.served p =
        some (i, { o with phase := none, reasons := {} }, k) := by
      refine Eq.trans (served_congr ?_ (dropFlow_slots ..)) ((served_modPanel rfl).trans (served_setPhase h p none {} none))
      rw [dropFlow_panel]
    rw [phaseAt_of_served served]
    rfl
  have off := ((calms_stepCoilsOff (s := s) (p := p)).served p).trans hv
  cases k with
  | lift => exact left off
  | lower => exact left off
  | lockStow => exact left off
  | unlockStow => exact left off
  | _ => cases hk

/-- The step that has been looked at may make its move (R72). -/
theorem mayEngage_watch (hs : s.Linked) (p : PanelNo) : (s.watch p).st.mayEngage p := by
  have idle {t : State} (h : t.phaseAt p = none) : t.mayEngage p := fun g hr => by
    rw [stepRuns_iff, h] at hr
    cases hr
  unfold State.watch
  cases hv : s.served p with
  | none => exact idle (phaseAt_unserved hv)
  | some x =>
    obtain ⟨i, o, k⟩ := x
    have still (h : o.phase ≠ some .running) : s.mayEngage p := fun g ⟨i', o', hv', hr⟩ => by
      obtain ⟨-, rfl, -⟩ : i = i' ∧ o = o' ∧ k = .cleat g := by simpa using hv.symm.trans hv'
      exact absurd hr h
    have failed : (s.sequenceFail p).st.mayEngage p := idle (phaseAt_unserved (sequenceFail_unserved hs hv))
    dsimp only
    split
    · split
      · rename_i he
        exact idle (completeStep_phaseAt hv (Bool.and_eq_true_iff.1 he).1)
      · split
        · exact failed
        · rename_i h
          rintro g ⟨i', o', hv', -⟩
          obtain ⟨-, -, rfl⟩ : i = i' ∧ o = o' ∧ k = .cleat g := by simpa using hv.symm.trans hv'
          exact stepAllowed_iff.2 (by simpa using h : s.hard p o (.cleat g) = true)
    · rename_i h
      split
      · exact failed
      · exact still (by rw [h]; decide)
    · rename_i h
      split
      · exact failed
      · exact still (by rw [h]; decide)
    · rename_i h _ _
      exact still h

theorem lapStop_resting (hs : s.Linked) (hv : s.served p = some (i, o, k)) (hk : k = .lift ∨ k = .lower) (hown : s.ownedAt p)
    (r : Reasons) : ((s.lapStop p i r k).st.panel p).resting := by
  have rest := stopStep_resting hs hv hown
  have off : s.stopStep p k = s.stepCoilsOff p := by obtain rfl | rfl := hk <;> rfl
  rw [off] at rest
  unfold State.lapStop State.toWait
  rw [Res.add_st, dropFlow_panel, modPanel_panel_self, setPhase_panel]
  exact Panel.resting_congr rfl rfl rest

theorem lapLaw_of_clear (sole : ∀ k', (s.panel p).works k' → k' = k) (h : s.clear p k) : s.lapLawAt p :=
  ⟨fun hw e => h.lift (sole _ hw).symm e, fun hw e => h.lower (sole _ hw).symm e⟩

/-- Once the interlock conditions of the step have been looked at, the laws of R74 hold of the panel. -/
theorem leads_retest (hj : s.jog = none) (p : PanelNo) (X : PanelNo → Prop) : s.Leads X (· = p) X nowhere (s.retest p).st := by
  refine (upholds_retest s p).leads_lap fun hs own => ?_
  have lawful (h : (s.panel p).resting) : s.lapLawAt p := ⟨fun hw => absurd hw (h _), fun hw => absurd hw (h _)⟩
  unfold State.retest
  cases hv : s.served p with
  | none => exact .inl (lawful (resting_of_jogless hj hv (own p)))
  | some x =>
    obtain ⟨i, o, k⟩ := x
    by_cases hr : o.phase = some .running
    · have sole (k' : StepKind) (hw : (s.panel p).works k') : k' = k := (works_served hs hv (own p) hw).1
      by_cases clear : s.clear p k
      · exact .inl (lapLaw_of_clear sole clear)
      · have held : s.lapHolds p k = true := by
          by_contra h
          exact clear (clear_of_lapHolds (by simpa using h))
        simp only [hr]
        cases k with
        | lift =>
          dsimp only
          rw [if_pos (by simpa [State.reasons] using held)]
          exact .inr (lapStop_resting hs hv (.inl rfl) (own p) _)
        | lower =>
          dsimp only
          rw [if_pos (by simpa [State.reasons] using held)]
          exact .inr (lapStop_resting hs hv (.inr rfl) (own p) _)
        | _ => cases held
    · exact .inl (lawful (resting_of_served hs hv hr (own p)))

/-! ### The jog is looked at -/

theorem jogCoil_of_works (hv : s.served p = none) (hown : s.ownedAt p) (hw : (s.panel p).works k) :
    ∃ j, s.jog = some j ∧ j.panel = p ∧ Coil.workOf j.coil = some k := by
  have notStep (k : StepKind) : ¬ s.stepRuns p k := fun ⟨_, _, h, _⟩ => by rw [hv] at h; cases h
  have jogs {c : Coil} (h : s.jogRuns p c) (e : Coil.workOf c = some k) : ∃ j, s.jog = some j ∧ j.panel = p ∧ Coil.workOf
      j.coil = some k := by
    obtain ⟨j, hj, hp, rfl⟩ := h
    exact ⟨j, hj, hp, e⟩
  have owner := hown k hw
  cases k with
  | lift => exact jogs (owner.resolve_left (notStep _)) rfl
  | lower => exact jogs (owner.resolve_left (notStep _)) rfl
  | travel => exact (owner.2.resolve_left (notStep _)).elim (fun h => jogs h rfl) fun h => jogs h rfl
  | cleat g =>
    obtain ⟨m, -, -, -, h⟩ := owner
    split at h
    · exact jogs h rfl
    · exact absurd h (notStep _)
  | _ => exact hw.elim

/-- The conditions of a jog are those of the laws (R196). -/
theorem laws_of_jogConditions {c : Coil} (h : s.jogConditions p c = true) (hk : Coil.workOf c = some k) :
    s.meets p k ∧ s.clear p k := by
  simp only [State.jogConditions, Bool.and_eq_true] at h
  obtain ⟨-, h⟩ := h
  cases c with
  | liftUp =>
    obtain rfl := Option.some.inj hk
    simp only [Bool.and_eq_true, Bool.or_eq_true, beq_iff_eq, Bool.not_eq_true'] at h
    refine ⟨uncleated_iff.2 h.1, fun _ e => ?_, nofun⟩
    obtain h | ⟨h1, h2⟩ := h.2
    · rw [e] at h; cases h
    · exact ⟨h1, by simp [Panel.works, h2]⟩
  | liftDown =>
    obtain rfl := Option.some.inj hk
    simp only [Bool.and_eq_true, Bool.or_eq_true, beq_iff_eq, Bool.not_eq_true'] at h
    refine ⟨trivial, nofun, fun _ e => ?_⟩
    obtain h | ⟨h1, h2⟩ := h
    · rw [e] at h; cases h
    · exact ⟨h1, by simp [Panel.works, h2]⟩
  | travelOut =>
    obtain rfl := Option.some.inj hk
    simp only [Bool.and_eq_true, beq_iff_eq, Bool.not_eq_true'] at h
    obtain ⟨⟨⟨⟨⟨⟨h1, h2⟩, h3⟩, -⟩, -⟩, -⟩, -⟩ := h
    exact ⟨⟨uncleated_iff.2 h1, h2, h3⟩, nofun, nofun⟩
  | travelIn =>
    obtain rfl := Option.some.inj hk
    simp only [Bool.and_eq_true, beq_iff_eq, Bool.not_eq_true'] at h
    obtain ⟨⟨⟨⟨h1, h2⟩, h3⟩, -⟩, -⟩ := h
    exact ⟨⟨uncleated_iff.2 h1, h2, h3⟩, nofun, nofun⟩
  | cleatEng g =>
    obtain rfl := Option.some.inj hk
    exact ⟨(by simpa using h : (s.panel p).seat = .seated), nofun, nofun⟩
  | _ => cases hk

theorem unserved_of_service (hs : s.Linked) (hu : s.unit = .service) (p : PanelNo) : s.served p = none := by
  cases h : s.served p with
  | none => rfl
  | some x =>
    obtain ⟨i, o, k⟩ := x
    have idle := hs.serviced hu i o (served_slot h)
    rw [served_active h] at idle
    cases idle

/-- In SERVICE the laws of the coils hold once the jog has been looked at (R197). -/
theorem leads_jogTest (hu : s.unit = .service) (X Y : PanelNo → Prop) : s.Leads X Y nowhere nowhere s.jogTest.st where
  linked := (upholds_jogTest s).linked
  flow := (upholds_jogTest s).flow
  coils := fun hs hc => by
    have unserved := unserved_of_service hs hu
    have after := (upholds_jogTest s).coils hs X Y hc
    unfold State.jogTest at after ⊢
    split
    · rename_i hj
      exact obeysBut_of_resting fun p => resting_of_jogless hj (unserved p) (hc.owned p)
    · rename_i j hj
      have only {p : PanelNo} {k : StepKind} (hw : (s.panel p).works k) : j.panel = p ∧ Coil.workOf j.coil = some k := by
        obtain ⟨j', hj', hp, e⟩ := jogCoil_of_works (unserved p) (hc.owned p) hw
        obtain rfl : j = j' := Option.some.inj (hj.symm.trans hj')
        exact ⟨hp, e⟩
      simp only [hj] at after
      split
      · rename_i cond
        refine ⟨hc.owned, fun p _ k hw => ?_, fun p _ => ⟨fun hw => ?_, fun hw => ?_⟩⟩
        · obtain ⟨rfl, e⟩ := only hw
          exact (laws_of_jogConditions cond e).1
        · obtain ⟨rfl, e⟩ := only hw
          exact (laws_of_jogConditions cond e).2.lift rfl
        · obtain ⟨rfl, e⟩ := only hw
          exact (laws_of_jogConditions cond e).2.lower rfl
      · rename_i cond
        rw [if_neg cond] at after
        refine obeysBut_of_resting fun p => resting_of_jogless (endJog_jog s) ?_ (after.owned p)
        exact (served_congr (endJog_live s p) (endJog_slots s)).trans (unserved p)

end Sys2Proof.Machine
end

section
/-! The switches of the seat, the stow and the cleats, BYPASS_CLEAT and RESTORE_CLEAT keep the laws (R3 to R5, R23 to R33, R198). -/

namespace Sys2Proof.Machine

open State (Upholds Leads Lawful WorksOn Only)

variable {s t u : State} {p q : PanelNo} {i j : SlotNo} {o : Order} {k : StepKind} {n : StationNo} {m : Move} {g : GroupNo}
    {d : CleatDir}
  {X Y X' Y' : PanelNo → Prop}

/-! ### Moves -/

/-- The valve of the panel's move goes off: none of its moves is under way any more. -/
theorem bears_of_valveOff {y : Panel} (hown : s.ownedAt p) (hm : (s.panel p).move = some m)
    (hc : y.coils = (s.panel p).coils.put false (m.dir.coil m.group)) (mode : y.mode = (s.panel p).mode) : (s.panel p).Bears y where
  works := fun k hw => by
    have get (c : Coil) (h : y.coils.get c = true) : (s.panel p).coils.get c = true := by
      rw [hc, Coils.get_put] at h
      split at h
      · cases h
      · exact h
    cases k with
    | lift => exact get .liftUp hw
    | lower => exact get .liftDown hw
    | travel => exact hw.imp (get .travelOut) fun h => h.imp (get .travelIn) fun h => mode.symm.trans h
    | cleat g => exact get (.cleatEng g) hw
    | _ => exact hw
  mode := fun _ h => mode.trans h
  move := fun g hw x hx => by
    obtain rfl : m = x := Option.some.inj (hm.symm.trans hx)
    have before : (s.panel p).works (.cleat g) := by
      have on : y.coils.get (.cleatEng g) = true := hw
      rw [hc, Coils.get_put] at on
      split at on
      · cases on
      · exact on
    obtain ⟨m', hm', hg, hd, -⟩ := hown _ before
    obtain rfl : m = m' := Option.some.inj (hm.symm.trans hm')
    exact absurd hw (valve_unworked hg hd hc)

/-- A change of one panel's record that is lawful for the coils that have their owners. -/
theorem upholds_owned (h : s.Calms p t) (rests : s.ownedAt p → (s.panel p).Rests (t.panel p)) : s.Upholds t := by
  have served := h.served p
  refine .of_work (.of_calms h) (.of_calms h) (fun _ hf => flowAt_of_calms h ((flowLaws_iff.1 hf).2 p)) fun _ ho =>
    .inr ⟨rests ho, fun _ => phaseAt_congr served, fun j hj _ => ?_⟩
  obtain ⟨y, rfl, -⟩ := h
  exact hj

theorem upholds_clearMove (s : State) (p : PanelNo) : s.Upholds (s.clearMove p) := by
  refine upholds_owned calms_clearMove fun own => ?_
  rw [clearMove_eq, modPanel_panel_self]
  cases hm : (s.panel p).move with
  | none => exact .refl _
  | some m => exact ⟨bears_of_valveOff own hm rfl rfl, rfl, rfl, fun _ h => h⟩

theorem upholds_valveOff (s : State) (p : PanelNo) : s.Upholds (s.valveOff p) := by
  refine upholds_owned calms_valveOff fun own => ?_
  unfold State.valveOff
  split
  · exact .refl _
  · rename_i m hm
    rw [modPanel_panel_self]
    exact ⟨bears_of_valveOff own hm rfl rfl, rfl, rfl, fun _ h => h⟩

theorem upholds_finishMove (s : State) (p : PanelNo) : s.Upholds (s.finishMove p).st := by
  unfold State.finishMove
  split
  · exact .refl s
  · rw [Res.add_st]
    refine (upholds_clearMove s p).trans ?_
    split
    · exact upholds_endJogOn _ p
    · exact .refl _

/-- A move that is cut short leaves cleats of which nothing is known. -/
theorem leads_cutMove (s : State) (p : PanelNo) (Y : PanelNo → Prop) : s.Leads (· = p) Y (· = p) Y (s.cutMove p) := by
  have linked : s.Linked → (s.cutMove p).Linked := Changes.linked (L := Leave.all) calms_cutMove.changes
  rw [cutMove_eq] at linked ⊢
  have kept : (s.panel p).cut.live = (s.panel p).live ∧ (s.panel p).cut.seat = (s.panel p).seat := by
    unfold Panel.cut
    split
    · exact ⟨rfl, rfl⟩
    · rw [setStates_eq]
      exact ⟨rfl, rfl⟩
  refine leads_sensed linked kept.1 (fun own => ?_) (fun q hq => ⟨hq, Ne.symm hq⟩) fun q hq => ⟨hq, .inl kept.2⟩
  cases hm : (s.panel p).move with
  | none =>
    rw [Panel.cut, hm]
    exact (Panel.Rests.refl _).toBears
  | some m =>
    refine bears_of_valveOff own hm ?_ ?_
    · rw [Panel.cut, hm]
      dsimp only
      rw [setStates_eq]
      rfl
    · rw [Panel.cut, hm]
      dsimp only
      rw [setStates_eq]
      rfl

theorem leads_engageCut (s : State) (p : PanelNo) (Y : PanelNo → Prop) : s.Leads (· = p) Y (· = p) Y (s.engageCut p).st := by
  unfold State.engageCut
  split
  · exact (Upholds.refl s).leads _ _
  · dsimp only
    split
    · split
      · exact (leads_cutMove s p Y).upholds (upholds_endJogOn _ p)
      · exact leads_cutMove s p Y
    · exact (Upholds.refl s).leads _ _

/-! ### Work at once -/

theorem jobless_of_unit (hs : s.Linked) (hu : s.unit ≠ .service) : s.jog = none := by
  cases h : s.jog with
  | none => rfl
  | some j => exact absurd (hs.jog j h).1 hu

theorem unit_runJob (j : Job) (s : State) : (runJob j s).st.unit = s.unit := lasting_unit (lasting_runJob j s)

theorem mayEngage_congr (served : t.served p = s.served p) (seat : (t.panel p).seat = (s.panel p).seat) (h : s.mayEngage p) :
    t.mayEngage p := fun g hr => by
  rw [seat]
  refine h g ?_
  rw [stepRuns_iff, ← phaseAt_congr served]
  exact stepRuns_iff.1 hr

/-- The jobs that follow a change of a seat switch. -/
def seatJobs (p : PanelNo) : List Job := [.watch p, .moveEnd p, .retest p, .retest (partner p), .jogTest]

/-- Once the work of a change of the seat has been done, no panel is exempt any more. -/
theorem leads_seatJobs (r : Res) : r.st.Leads (· = p) (· = partner p) nowhere nowhere (r.now (seatJobs p)).st := by
  unfold seatJobs
  simp only [Res.now_cons, Res.now_nil, Res.bind_st]
  generalize r.st = v
  refine .given fun hs => ?_
  have looked := upholds_watch v p
  have may := mayEngage_watch hs p
  have unit1 : (v.watch p).st.unit = v.unit := unit_runJob (.watch p) v
  change Leads v _ _ _ _
      (runJob .jogTest (runJob (.retest (partner p)) (runJob (.retest p) (runJob (.moveEnd p) (v.watch p).st).st).st).st).st
  have moved := upholds_moveEnded may
  have tested := upholds_retest ((v.watch p).st.moveEnded p).st p
  have unit2 : (((v.watch p).st.moveEnded p).st.retest p).st.unit = v.unit :=
    (unit_runJob (.retest p) _).trans ((unit_runJob (.moveEnd p) _).trans unit1)
  have sound := (looked.trans (moved.trans tested)).linked hs
  by_cases hu : v.unit = .service
  · refine Leads.trans (((looked.trans (moved.trans tested)).trans (upholds_retest _ (partner p))).leads _ _) (leads_jogTest ?_ _ _)
    exact (unit_runJob (.retest (partner p)) _).trans (unit2.trans hu)
  · refine ((((leads_watch (jobless_of_unit hs hu) p _).upholds moved).upholds tested).trans
      (leads_retest (jobless_of_unit sound ?_) (partner p) nowhere)).upholds (upholds_jogTest _)
    rwa [unit2]

/-- The end of a move asks for no other one, unless the step that has waited for it makes its own move at once. -/
theorem moveEnded_jobs (s : State) (p : PanelNo) : (s.moveEnded p).noMove ∨ (s.moveEnded p).jobs = [.moveEnd p] ∧
    (s.moveEnded p).st.served p = s.served p ∧ ∃ g d, s.stepRuns p (CleatDir.step d g) := by
  have run (g : GroupNo) (d : CleatDir) : (s.runMove p g d).noMove ∨
      (s.runMove p g d).jobs = [.moveEnd p] ∧ (s.runMove p g d).st.served p = s.served p := by
    unfold State.runMove
    split
    · exact .inl (.ok s)
    · dsimp only
      split
      · exact .inr ⟨rfl, startMove_served ..⟩
      · exact .inl fun _ h => by cases h
  unfold State.moveEnded
  cases hv : s.served p with
  | none => exact .inl (.ok s)
  | some x =>
    obtain ⟨i, o, k⟩ := x
    rw [hv] at run
    dsimp only
    split
    · rename_i hr
      have hr : o.phase = some .running := by
        simp only [Bool.and_eq_true, decide_eq_true_eq] at hr
        exact hr.1
      split
      · split
        · exact .inl (noMove_completeStep _ _ _ _)
        · exact (run _ .release).imp_right fun h => ⟨h.1, h.2, _, .release, i, o, hv, hr⟩
      · split
        · exact .inl (noMove_completeStep _ _ _ _)
        · exact (run _ .engage).imp_right fun h => ⟨h.1, h.2, _, .engage, i, o, hv, hr⟩
      · exact .inl (.ok s)
    · exact .inl (.ok s)

end Sys2Proof.Machine
end

section
/-! The switches of the seat and the stow keep the laws (R3 to R5, R31, R72 to R75). -/

namespace Sys2Proof.Machine

open State (Upholds Leads Lawful WorksOn)

variable {s t u : State} {p q : PanelNo} {i j : SlotNo} {o : Order} {k : StepKind} {n : StationNo} {g : GroupNo}
    {d : CleatDir} {r : Res}

/-- The outcome of a command keeps the laws. -/
def State.KeepsLaws (s : State) (x : Outcome) : Prop := ∀ t, x = .next t → s.Lawful t

theorem keepsLaws_next (h : s.Lawful t) : s.KeepsLaws (.next t) := fun _ e => by
  cases e
  exact h

theorem lawful_refl (s : State) : s.Lawful s := (Upholds.refl s).lawful

/-! ### The end of a move among other work -/

/-- A step that has been looked at has been left as it was, or is not begun any more. -/
theorem watch_settles (hs : s.Linked) (p : PanelNo) : s.watch p = .ok s ∨ (s.watch p).st.phaseAt p = none := by
  cases hv : s.served p with
  | none => exact .inl (watch_unserved hv)
  | some x =>
    obtain ⟨i, o, k⟩ := x
    have tested : (if !s.hard p o k then s.sequenceFail p else .ok s) = .ok s ∨
        (if !s.hard p o k then s.sequenceFail p else .ok s).st.phaseAt p = none := by
      split
      · exact .inr (phaseAt_unserved (sequenceFail_unserved hs hv))
      · exact .inl rfl
    unfold State.watch
    simp only [hv]
    split
    · split
      · rename_i he
        exact .inr (completeStep_phaseAt hv (Bool.and_eq_true_iff.1 he).1)
      · exact tested
    · exact tested
    · exact tested
    · exact .inl rfl

theorem watch_running (hs : s.Linked) (h : (s.watch p).st.stepRuns p k) : s.watch p = .ok s := by
  refine (watch_settles hs p).resolve_right fun e => ?_
  rw [stepRuns_iff, e] at h
  cases h

/-- A RUNNING cleat step is not held by interlock conditions. -/
theorem retest_of_cleating (h : s.stepRuns p (d.step g)) : s.retest p = .ok s := by
  obtain ⟨i, o, hv, hr⟩ := h
  unfold State.retest
  simp only [hv, hr]
  cases d <;> rfl

/-- After a change of the seat the end of a move, if it is left, is the first piece of work left, and the step may go on. -/
theorem prepared_seatJobs (hs : r.st.Linked)
    (h : r.st.unit = .service ∨ r.noMove ∧ (r.st.served p ≠ none → r.jobs = [])) :
    (r.now (seatJobs p)).st.prepared (r.now (seatJobs p)).jobs := by
  have unit : (r.now (seatJobs p)).st.unit = r.st.unit := by
    simp only [seatJobs, Res.now_cons, Res.now_nil, Res.bind_st, unit_runJob]
  obtain h | ⟨left, first⟩ := h
  · exact .inl (unit.trans h)
  by_cases hu : r.st.unit = .service
  · exact .inl (unit.trans hu)
  have looked := upholds_watch r.st p
  have may := mayEngage_watch hs p
  have quiet := left.bind (f := runJob (.watch p)) (noMove_watch r.st p)
  obtain ended | ⟨jobs, served, g, d, runs⟩ := moveEnded_jobs (r.st.watch p).st p
  · refine prepared_of_noMove ?_
    simp only [seatJobs, Res.now_cons, Res.now_nil]
    exact (((quiet.bind (f := runJob (.moveEnd p)) ended).bind (f := runJob (.retest p)) (noMove_retest _ p)).bind
      (f := runJob (.retest (partner p))) (noMove_retest _ _)).bind (f := runJob .jogTest) (noMove_jogTest _)
  · have still := watch_running hs runs
    rw [still] at jobs served runs may
    have idle : r.jobs = [] := first fun e => by
      obtain ⟨i, o, hv, -⟩ := runs
      rw [Res.ok_st, e] at hv
      cases hv
    simp only [Res.ok_st] at jobs served runs may
    have on : ((r.st.moveEnded p).st).stepRuns p (d.step g) := by
      obtain ⟨i, o, hv, hr⟩ := runs
      exact ⟨i, o, served.trans hv, hr⟩
    have stayed : r.bind (runJob (.watch p)) = .ok r.st := by
      rw [Res.bind, show runJob (.watch p) r.st = .ok r.st from still, idle]
      rfl
    have second : (Res.ok r.st).bind (runJob (.moveEnd p)) = ⟨(r.st.moveEnded p).st, [.moveEnd p]⟩ := by
      rw [Res.bind, ← jobs]
      rfl
    have third : (Res.mk (r.st.moveEnded p).st [.moveEnd p]).bind (runJob (.retest p)) = ⟨(r.st.moveEnded p).st, [.moveEnd p]⟩ := by
      rw [Res.bind, show runJob (.retest p) _ = .ok _ from retest_of_cleating on]
      rfl
    simp only [seatJobs, Res.now_cons, Res.now_nil, stayed, second, third]
    have sound : (r.st.moveEnded p).st.Linked := (upholds_moveEnded may).linked hs
    have seat (w : State) (h : w.lasting = r.st.lasting) : (w.panel p).seat = (r.st.panel p).seat :=
      (congrArg Panel.seat (lasting_panel h p) :)
    have tested := worksOn_retest (r.st.moveEnded p).st (partner p)
    have other : (((r.st.moveEnded p).st.retest (partner p)).st).served p = r.st.served p := by
      obtain ⟨i, o, hv, -⟩ := on
      exact (WorksOn.served tested sound (partner_ne p) hv).trans (hv.symm.trans served)
    have unit2 : ((r.st.moveEnded p).st.retest (partner p)).st.unit = r.st.unit :=
      (unit_runJob (.retest (partner p)) _).trans (unit_runJob (.moveEnd p) r.st)
    have jobless : ((r.st.moveEnded p).st.retest (partner p)).st.jog = none :=
      jobless_of_unit ((upholds_retest _ _).linked sound) (by rwa [unit2])
    have last : runJob .jogTest ((r.st.moveEnded p).st.retest (partner p)).st = .ok
        ((r.st.moveEnded p).st.retest (partner p)).st := by
      change State.jogTest _ = _
      unfold State.jogTest
      rw [jobless]
    simp only [Res.bind]
    rw [show runJob (.retest (partner p)) (r.st.moveEnded p).st = (r.st.moveEnded p).st.retest (partner p) from rfl, last]
    simp only [Res.ok, List.append_nil]
    refine .inr ⟨fun j hj q e => ?_, fun q hq => ?_⟩
    · obtain rfl : j = .moveEnd p := by simpa using hj.symm
      cases e
      refine mayEngage_congr other ?_ may
      exact seat _ ((lasting_runJob (.retest (partner p)) _).trans (lasting_runJob (.moveEnd p) r.st))
    · have hq : Job.moveEnd q ∈ ((r.st.moveEnded p).st.retest (partner p)).jobs := by simpa using hq
      exact noMove_retest _ _ q hq

/-! ### Seat and stow -/

theorem raise_settles (hs : s.Linked) (p : PanelNo) (f : PanelFault) : s.raise p f = .ok s ∨ (s.raise p f).st.served p = none := by
  by_cases hc : s.configured p = true
  · by_cases hf : f ∈ (s.panel p).faults
    · left
      simp [State.raise, hf]
    · right
      simp only [State.served, State.liveOrder, raise_live hs hc hf]
  · left
    simp [State.raise, hc]

theorem engageCut_jobless (hj : s.jog = none) (p : PanelNo) : (s.engageCut p).jobs = [] := by
  have cut : (s.cutMove p).jog = none := by
    rw [cutMove_eq, modPanel_jog]
    exact hj
  unfold State.engageCut
  split
  · rfl
  · dsimp only
    split
    · split
      · rw [endJogOn_none cut]
        rfl
      · rfl
    · rfl

theorem noMove_engageCut (s : State) (p : PanelNo) : (s.engageCut p).noMove := by
  unfold State.engageCut
  split
  · exact .ok s
  · dsimp only
    split
    · split
      · exact noMove_endJogOn _ p
      · exact .ok _
    · exact .ok s

theorem engageCut_served (s : State) (p : PanelNo) : (s.engageCut p).st.served p = s.served p := by
  have cut : (s.cutMove p).served p = s.served p := calms_cutMove.served p
  unfold State.engageCut
  split
  · rfl
  · dsimp only
    split
    · split
      · exact (endJogOn_served _ p p).trans cut
      · exact cut
    · rfl

theorem engageCut_unit (s : State) (p : PanelNo) : (s.engageCut p).st.unit = s.unit := by
  have cut : (s.cutMove p).unit = s.unit := lasting_unit (calms_cutMove.changes (L := Leave.all)).lasting
  unfold State.engageCut
  split
  · rfl
  · dsimp only
    split
    · split
      · exact (lasting_unit (changes_endJogOn (L := Leave.all)).lasting).trans cut
      · exact cut
    · rfl

theorem leads_seatChanged (s : State) (p : PanelNo) (made : Bool) :
    s.Leads (· = p) (· = partner p) nowhere nowhere (s.seatChanged p made).settle := by
  unfold State.seatChanged
  have raised : s.Upholds (if made && (s.panel p).sw.conflict then s.raise p .sensorConflict else .ok s).st := by
    split
    · exact upholds_raise s p _
    · exact .refl s
  have quiet : (if made && (s.panel p).sw.conflict then s.raise p .sensorConflict else .ok s).noMove := by
    split
    · exact noMove_raise s p _
    · exact .ok s
  have settles (hs : s.Linked) : (if made && (s.panel p).sw.conflict then s.raise p .sensorConflict else .ok s) = .ok s ∨
      (if made && (s.panel p).sw.conflict then s.raise p .sensorConflict else .ok s).st.served p = none := by
    split
    · exact raise_settles hs p _
    · exact .inl rfl
  dsimp only
  generalize (if made && (s.panel p).sw.conflict then s.raise p .sensorConflict else .ok s) = r at *
  have first := (raised.leads _ _).trans (leads_engageCut r.st p (· = partner p))
  refine .given fun hs => ?_
  have sound := first.linked hs
  refine (first.trans (leads_seatJobs (r.bind fun s => s.engageCut p))).upholds (upholds_drain _ _ _ ?_)
  refine prepared_seatJobs sound ?_
  by_cases hu : (r.st.engageCut p).st.unit = .service
  · exact .inl hu
  refine .inr ⟨quiet.bind (f := fun s => s.engageCut p) (noMove_engageCut r.st p), fun served => ?_⟩
  rw [Res.bind_st, engageCut_served] at served
  rw [Res.bind, (settles hs).resolve_right served, engageCut_jobless]
  · rfl
  refine jobless_of_unit hs ?_
  rwa [(settles hs).resolve_right served, Res.ok_st, engageCut_unit] at hu

/-- A panel that is not configured rests (R43, R196). -/
theorem resting_of_unconfigured (hs : s.Linked) (hc : s.configured p = false) (hown : s.ownedAt p) : (s.panel p).resting := by
  refine resting_of_unowned (fun k ⟨i, o, hv, _⟩ => ?_) (fun c ⟨j, hj, hp, _⟩ => ?_) hown
  · obtain ⟨ho, hp, ha, -⟩ := (served_iff hs).1 hv
    have on := hs.configured i o ho (by rw [ha]; rfl)
    rw [hp, hc] at on
    cases on
  · have on := (hs.jog j hj).2
    rw [hp, hc] at on
    cases on

theorem configured_partner (s : State) (p : PanelNo) : s.configured (partner p) = s.configured p := by
  unfold State.configured
  rw [hatchOf_partner]

/-- The switches of a hatch that is not configured do not matter (R1). -/
theorem leads_unconfigured (hc : s.configured p = false) : s.Leads (· = p) (· = partner p) nowhere nowhere s where
  linked := id
  flow := fun _ h => h
  coils := fun hs hc' => by
    have rest := resting_of_unconfigured hs hc (hc'.owned p)
    have other := resting_of_unconfigured hs ((configured_partner s p).trans hc) (hc'.owned (partner p))
    refine ⟨hc'.owned, fun q _ => ?_, fun q _ => ?_⟩
    · by_cases e : q = p
      · exact e ▸ law_of_resting rest
      · exact hc'.law q e
    · by_cases e : q = partner p
      · subst e
        exact ⟨fun hw => absurd hw (other _), fun hw => absurd hw (other _)⟩
      · exact hc'.lap q e

theorem leads_law_unconfigured (hc : s.configured p = false) : s.Leads (· = p) nowhere nowhere nowhere s :=
  (Upholds.refl s).leads_law fun hs own => .inl (law_of_resting (resting_of_unconfigured hs hc (own p)))

theorem keepsLaws_seatSwitchChange (p : PanelNo) (w : SeatSwitch) (made : Bool) (held : Nat) (s : State) :
    s.KeepsLaws (execSeatSwitchChange p w made held s) := by
  refine keepsLaws_next ?_
  split
  · exact lawful_refl s
  · dsimp only
    have taken : s.Leads nowhere nowhere (· = p) (· = partner p) (s.modPanel p fun x => { x with sw := x.sw.put made w }) := by
      refine leads_sensed (linked_of_acts (acts_feed fun x => {})) rfl (fun _ => .of_same rfl rfl rfl)
        (fun q hq => ⟨id, Ne.symm hq⟩) fun q hq => ⟨id, .inr fun e => hq ?_⟩
      rw [e, partner_partner]
    split
    · exact taken.trans (leads_seatChanged _ p made)
    · rename_i hc
      exact taken.trans (leads_unconfigured (by simpa using hc))

/-- Once the step of a panel and the jog have been looked at, the panel is not exempt from the laws of R72 any more. -/
theorem leads_looked (r : Res) (p : PanelNo) : r.st.Leads (· = p) nowhere nowhere nowhere (r.now [.watch p, .jogTest]).st := by
  simp only [Res.now_cons, Res.now_nil, Res.bind_st]
  change r.st.Leads _ _ _ _ (r.st.watch p).st.jogTest.st
  refine .given fun hs => ?_
  by_cases hu : r.st.unit = .service
  · exact ((upholds_watch r.st p).leads _ _).trans (leads_jogTest ((unit_runJob (.watch p) r.st).trans hu) _ _)
  · exact (leads_watch (jobless_of_unit hs hu) p nowhere).upholds (upholds_jogTest _)

theorem prepared_looked (hs : r.st.Linked) (h : r.st.unit = .service ∨ r.noMove ∨ r.jobs = [.moveEnd p]) :
    (r.now [.watch p, .jogTest]).st.prepared (r.now [.watch p, .jogTest]).jobs := by
  have unit : (r.now [.watch p, .jogTest]).st.unit = r.st.unit := by
    simp only [Res.now_cons, Res.now_nil, Res.bind_st, unit_runJob]
  obtain h | h | h := h
  · exact .inl (unit.trans h)
  · exact prepared_of_noMove
      ((h.bind (f := runJob (.watch p)) (noMove_watch r.st p)).bind (f := runJob .jogTest) (noMove_jogTest _))
  by_cases hu : r.st.unit = .service
  · exact .inl (unit.trans hu)
  have jobless : (r.st.watch p).st.jog = none :=
    jobless_of_unit ((upholds_watch r.st p).linked hs) (by rwa [show (r.st.watch p).st.unit = _ from unit_runJob (.watch p) r.st])
  have last : (r.st.watch p).st.jogTest = .ok (r.st.watch p).st := by
    unfold State.jogTest
    rw [jobless]
  have whole : r.now [.watch p, .jogTest] = ⟨(r.st.watch p).st, .moveEnd p :: (r.st.watch p).jobs⟩ := by
    simp only [Res.now_cons, Res.now_nil, Res.bind, h]
    rw [show runJob .jogTest (runJob (.watch p) r.st).st = .ok (r.st.watch p).st from last]
    exact congrArg (Res.mk _) (List.append_nil _)
  rw [whole]
  refine .inr ⟨fun j hj q e => ?_, noMove_watch r.st p⟩
  obtain rfl : j = .moveEnd p := by simpa using hj.symm
  cases e
  exact mayEngage_watch hs p

theorem lawful_looked (h : s.Leads nowhere nowhere (· = p) nowhere r.st)
    (jobs : r.st.Linked → r.st.unit = .service ∨ r.noMove ∨ r.jobs = [.moveEnd p]) : s.Lawful (r.now [.watch p, .jogTest]).settle :=
  .given fun hs => (h.trans (leads_looked r p)).upholds (upholds_drain _ _ _ (prepared_looked (h.linked hs) (jobs (h.linked hs))))

theorem keepsLaws_stowSwitchChange (p : PanelNo) (made : Bool) (held : Nat) (s : State) :
    s.KeepsLaws (execStowSwitchChange p made held s) := by
  refine keepsLaws_next ?_
  split
  · exact lawful_refl s
  · dsimp only
    have taken : s.Leads nowhere nowhere (· = p) nowhere
        (s.modPanel p fun x => { x with sw := { x.sw with stowLocked := made } }) :=
      leads_sensed (linked_of_acts (acts_feed fun x => {})) rfl (fun _ => .of_same rfl rfl rfl)
        (fun q hq => ⟨id, Ne.symm hq⟩) fun q _ => ⟨id, .inl rfl⟩
    split
    · exact lawful_looked (r := .ok _) taken fun _ => .inr (.inl (.ok _))
    · rename_i hc
      exact taken.trans (leads_law_unconfigured (by simpa using hc))

end Sys2Proof.Machine
end

section
/-! The cleat switches, the confirmation window, BYPASS_CLEAT and RESTORE_CLEAT keep the laws (R23 to R33, R198). -/

namespace Sys2Proof.Machine

open State (Upholds Leads Lawful)

variable {s t u : State} {p q : PanelNo} {n : StationNo} {c : CleatNo} {m : Move} {r : Res} {X Y : PanelNo → Prop}

/-- An exemption more. -/
theorem leads_exempt (s : State) (p : PanelNo) : s.Leads nowhere nowhere (· = p) nowhere s :=
  ⟨id, fun _ h => h, fun _ h => h.mono (fun _ h => h.elim) fun _ h => h⟩

/-! ### The record of a cleat -/

theorem Panel.modCleat_states {f : Cleat → Cleat} (x : Panel) (c : CleatNo)
    (hf : ∀ z : Cleat, z.state.doneUncleat = true → (f z).state.doneUncleat = true) (l : CleatNo)
    (h : x.cleats[l].state.doneUncleat = true) : (x.modCleat c f).cleats[l].state.doneUncleat = true := by
  by_cases e : c = l
  · subst e
    simpa [Panel.modCleat, Panel.setCleat] using hf _ h
  · have apart : c.val ≠ l.val := fun h => e (Fin.ext h)
    simpa [Panel.modCleat, Panel.setCleat, apart] using h

/-- A cleat that is RELEASED or BYPASSED remains so. -/
theorem upholds_modCleat {f : Cleat → Cleat} (c : CleatNo)
    (range : ∀ z : Cleat, z.last ≤ 65535 → z.greatest ≤ 65535 → (f z).last ≤ 65535 ∧ (f z).greatest ≤ 65535)
    (hf : ∀ z : Cleat, z.state.doneUncleat = true → (f z).state.doneUncleat = true) : s.Upholds (s.modCleat p c f) :=
  upholds_feed (Panel.fed_modCleat _ c range) ⟨.of_same rfl rfl rfl, rfl, rfl, Panel.modCleat_states _ c hf⟩

/-- The state of a cleat changes. -/
theorem leads_modCleat {f : Cleat → Cleat} (c : CleatNo)
    (range : ∀ z : Cleat, z.last ≤ 65535 → z.greatest ≤ 65535 → (f z).last ≤ 65535 ∧ (f z).greatest ≤ 65535) :
    s.Leads nowhere nowhere (· = p) nowhere (s.modCleat p c f) :=
  leads_sensed (linked_of_acts (acts_feed fun x => x.fed_modCleat c range)) rfl (fun _ => .of_same rfl rfl rfl)
    (fun _ hq => ⟨id, Ne.symm hq⟩) fun _ _ => ⟨id, .inl rfl⟩

/-- The move of a panel goes on with other participants or confirmations. -/
theorem upholds_moveOn {m' : Move} (hm : (s.panel p).move = some m)
    (same : m'.group = m.group ∧ m'.dir = m.dir ∧ m'.byJog = m.byJog) :
    s.Upholds (s.modPanel p fun x => { x with move := some m' }) := by
  refine upholds_quieter (.of_move (by simp [hm]) _) ⟨⟨fun k hw => ?_, fun _ h => h, fun _ _ x hx => ?_⟩, rfl, rfl, fun _ h => h⟩
  · cases k with
    | _ => exact hw
  · obtain rfl : m = x := Option.some.inj (hm.symm.trans hx)
    exact ⟨m', rfl, same⟩

theorem modCleat_move (s : State) (p : PanelNo) (c : CleatNo) (f : Cleat → Cleat) :
    ((s.modCleat p c f).panel p).move = (s.panel p).move := by
  rw [State.modCleat, modPanel_panel_self]
  rfl

/-! ### The end of a move -/

theorem noMove_or_end (hs : s.Linked) (p : PanelNo) : (s.finishMove p).st.unit = .service ∨ (s.finishMove p).noMove ∨
    (s.finishMove p).jobs = [.moveEnd p] := by
  by_cases hu : s.unit = .service
  · exact .inl ((lasting_unit (changes_finishMove (L := Leave.all)).lasting).trans hu)
  · have jobless : (s.clearMove p).jog = none := by
      rw [clearMove_eq, modPanel_jog]
      exact jobless_of_unit hs hu
    unfold State.finishMove
    split
    · exact .inr (.inl (.ok s))
    · right; right
      dsimp only
      split
      · rw [endJogOn_none jobless]
        rfl
      · rfl

/-! ### A cleat switch -/

theorem leads_cleatOutside (s : State) (p : PanelNo) (c : CleatNo) (made : Bool) :
    s.Leads nowhere nowhere (· = p) nowhere (s.cleatOutside p c made) := by
  have lost : s.Leads nowhere nowhere (· = p) nowhere ((s.modCleat p c fun x => { x with state := .unknown }).warn p .cleatLost) :=
    (leads_modCleat (f := fun x => { x with state := .unknown }) c fun _ h1 h2 => ⟨h1, h2⟩).upholds (upholds_warn .cleatLost)
  unfold State.cleatOutside
  split
  · exact lost
  · exact lost
  · exact (leads_exempt s p)

theorem leads_confirmed (hm : (s.panel p).move = some m) (c : CleatNo) :
    s.Leads nowhere nowhere (· = p) nowhere (s.confirmed p c m) := by
  have confirmed := leads_modCleat (s := s) (p := p) (f := fun x => x.confirm m.dir (s.now - m.start)) c
    fun x _ h => x.confirm_range _ _ h
  refine (confirmed.upholds (upholds_moveOn (m := m) (m' := { m with confirmed := c :: m.confirmed })
    ((modCleat_move ..).trans hm) ⟨rfl, rfl, rfl⟩)).upholds ?_
  unfold State.confirmed State.sluggishIf
  split
  · exact upholds_warn .cleatSluggish
  · exact .refl _

theorem leads_cleatChanged (s : State) (p : PanelNo) (c : CleatNo) (made : Bool) :
    s.Leads nowhere nowhere (· = p) nowhere (s.cleatChanged p c made).st := by
  unfold State.cleatChanged
  split
  · exact leads_cleatOutside s p c made
  · rename_i m hm
    split
    · exact leads_cleatOutside s p c made
    · split
      · dsimp only [Res.ok_st]
        split
        · exact leads_exempt s p
        · exact (leads_modCleat (f := fun x => { x with state := .unknown }) c fun _ h1 h2 => ⟨h1, h2⟩).upholds
            (upholds_moveOn ((modCleat_move ..).trans hm) ⟨rfl, rfl, rfl⟩)
      · split
        · rw [confirmCleat_eq]
          split
          · exact (leads_confirmed hm c).upholds (upholds_finishMove _ p)
          · exact leads_confirmed hm c
        · exact leads_exempt s p

theorem cleatChanged_jobs (hs : s.Linked) (p : PanelNo) (c : CleatNo) (made : Bool) : (s.cleatChanged p c made).st.unit = .service ∨
    (s.cleatChanged p c made).noMove ∨ (s.cleatChanged p c made).jobs = [.moveEnd p] := by
  unfold State.cleatChanged
  split
  · exact .inr (.inl (.ok _))
  · rename_i m hm
    split
    · exact .inr (.inl (.ok _))
    · split
      · exact .inr (.inl (.ok _))
      · split
        · rw [confirmCleat_eq]
          split
          · exact noMove_or_end ((leads_confirmed hm c).linked hs) p
          · exact .inr (.inl (.ok _))
        · exact .inr (.inl (.ok _))

theorem keepsLaws_cleatSwitchChange (p : PanelNo) (c : CleatNo) (made : Bool) (held : Nat) (s : State) :
    s.KeepsLaws (execCleatSwitchChange p c made held s) := by
  refine keepsLaws_next ?_
  split
  · exact lawful_refl s
  · dsimp only
    have taken : s.Upholds (s.modCleat p c fun x => { x with made := made }) :=
      upholds_modCleat c (fun _ h1 h2 => ⟨h1, h2⟩) fun _ h => h
    generalize (s.modCleat p c fun x => { x with made := made }) = v at *
    split
    · exact taken.lawful
    · refine taken.lawful.trans ?_
      split
      · rename_i hu
        have idle (hs : v.Linked) : v.Idle := idle_of_unit hs (by rw [hu]; exact nofun) (by rw [hu]; exact nofun)
        refine Upholds.lawful (.of_idle idle (linked_of_acts (acts_feed fun x => x.fed_modCleat c fun _ h1 h2 => ⟨h1, h2⟩))
          (fun q k hw => ?_) fun k => modPanel_pack ..)
        rw [State.modCleat, modPanel_panel] at hw
        split at hw
        · rename_i e
          exact e ▸ (Panel.Bears.of_same rfl rfl rfl).works k hw
        · exact hw
      · exact lawful_refl v
      · exact .given fun hs => lawful_looked (leads_cleatChanged v p c made) fun _ => cleatChanged_jobs hs p c made

/-! ### BYPASS_CLEAT and RESTORE_CLEAT -/

theorem upholds_bypass (s : State) (p : PanelNo) (c : CleatNo) : s.Upholds (s.bypass p c).st := by
  have bypassed : s.Upholds (s.modCleat p c fun x => { x with state := .bypassed }) :=
    upholds_modCleat c (fun _ h1 h2 => ⟨h1, h2⟩) fun _ _ => rfl
  unfold State.bypass
  dsimp only
  split
  · exact bypassed
  · rename_i m hm
    have without := bypassed.trans (upholds_moveOn (m' := m.without c) hm ⟨rfl, rfl, rfl⟩)
    rw [Res.add_st]
    split
    · exact without.trans (upholds_finishMove _ p)
    · exact without

/-- A request of the service panel is answered in SERVICE. -/
theorem onService_cases {P : State → Prop} {panel : Byte} {argOk : PanelNo → Bool} {act : PanelNo → Answer} (hr : P s)
    (ha : s.unit = .service → ∀ p, s.configured p = true → P (act p).st) : P (s.onService n panel argOk act).st := by
  unfold State.onService
  split
  · exact hr
  · rename_i hu
    split
    · exact hr
    · split
      · exact hr
      · split
        · exact hr
        · split
          · exact hr
          · exact ha (by simpa using hu) _ (by simpa using ‹¬ (!s.configured _) = true›)

theorem bypass_unit (s : State) (p : PanelNo) (c : CleatNo) : (s.bypass p c).st.unit = s.unit := by
  unfold State.bypass
  dsimp only
  split
  · rfl
  · rw [Res.add_st]
    split
    · exact (lasting_unit (changes_finishMove (L := Leave.all)).lasting).trans rfl
    · rfl

theorem upholds_ownerBypassCleat (panel cleat : Byte) : s.Upholds (ownerBypassCleat n panel cleat s).st := by
  unfold ownerBypassCleat
  refine onService_cases (P := fun t => s.Upholds t) (.refl s) fun hu p _ => ?_
  exact upholds_settle (upholds_bypass s p _) (.inl ((bypass_unit s p _).trans hu))

theorem lawful_ownerRestoreCleat (panel cleat : Byte) : s.Lawful (ownerRestoreCleat n panel cleat s).st := by
  unfold ownerRestoreCleat
  refine onService_cases (P := fun t => s.Lawful t) (lawful_refl s) fun hu p _ => ?_
  have restored : s.Leads nowhere nowhere (· = p) nowhere (s.modCleat p (cleatNamed cleat) Cleat.restored) := by
    refine leads_modCleat _ fun z h1 h2 => ?_
    unfold Cleat.restored
    split <;> exact ⟨h1, h2⟩
  have unit : (s.modCleat p (cleatNamed cleat) Cleat.restored).unit = .service := hu
  dsimp only [accept]
  generalize s.modCleat p (cleatNamed cleat) Cleat.restored = v at *
  have tested := leads_jogTest unit (· = p) nowhere
  have quiet := (Res.noMove.ok v).bind (f := runJob .jogTest) (noMove_jogTest v)
  exact (restored.trans tested).upholds (upholds_settled (.refl _) quiet)

/-! ### The confirmation window -/

/-- The panel on which a fault is raised comes to rest, or rests already. -/
theorem raise_resting (hs : s.Linked) (hf : s.faultedStand) (hc : s.configured p = true) (f : PanelFault) :
    ((s.raise p f).st.panel p).resting := by
  have still {t : State} (h : t.standsStill p) : (t.panel p).resting := Panel.resting_of_off h.1 h.2.2.1
  by_cases hk : f ∈ (s.panel p).faults
  · rw [show s.raise p f = .ok s from by simp [State.raise, hk]]
    exact still ((faultedStand_iff.1 hf).2 p fun e => by rw [e] at hk; cases hk)
  · exact still (raise_standsStill hs hc hk)

/-- Once a fault has been raised on a panel, it is not exempt from the laws any more. -/
theorem leads_raise (hf : s.Linked → s.faultedStand) (p : PanelNo) (f : PanelFault) (Y : PanelNo → Prop) :
    s.Leads (· = p) Y nowhere Y (s.raise p f).st := by
  refine (upholds_raise s p f).leads_law fun hs own => ?_
  by_cases hc : s.configured p = true
  · exact .inr (raise_resting hs (hf hs) hc f)
  · exact .inl (law_of_resting (resting_of_unconfigured hs (by simpa using hc) (own p)))

theorem setStates_unmoved (x : Panel) (ks : List CleatNo) (st : CleatState) :
    (x.setStates ks st).coils = x.coils ∧ (x.setStates ks st).mode = x.mode ∧ (x.setStates ks st).move = x.move ∧
      (x.setStates ks st).live = x.live ∧ (x.setStates ks st).seat = x.seat := by
  rw [setStates_eq]
  exact ⟨rfl, rfl, rfl, rfl, rfl⟩

theorem upholds_reach (s : State) (d : Nat) : s.Upholds (s.reach d) := State.Framed.upholds {}

theorem keepsLaws_confirmationWindowExpiry (hf : s.faultedStand) (p : PanelNo) :
    s.KeepsLaws (execConfirmationWindowExpiry p s) := by
  refine keepsLaws_next ?_
  split
  · rename_i m hm
    dsimp only
    have stand : s.Linked → ∀ t, Acts sure s t → t.faultedStand := fun hs t h => h.faultedStand trivial hs hf
    have cleared := (upholds_reach s m.window).trans (upholds_clearMove _ p)
    have acts : Acts sure s ((s.reach m.window).clearMove p) := (acts_reach s _).trans calms_clearMove.changes.acts
    generalize (s.reach m.window).clearMove p = v at *
    have jam : Acts sure v (v.modPanel p fun x => x.setStates m.unconfirmed .jammed) :=
      Changes.acts (changes_quiet fun x => .of_setStates x _ _)
    obtain ⟨e1, e2, e3, e4, e5⟩ := setStates_unmoved (v.panel p) m.unconfirmed .jammed
    have jammed : v.Leads nowhere nowhere (· = p) nowhere (v.modPanel p fun x => x.setStates m.unconfirmed .jammed) :=
      leads_sensed (linked_of_acts jam) e4 (fun _ => .of_same e1 e2 e3) (fun _ hq => ⟨id, Ne.symm hq⟩) fun _ _ => ⟨id, .inl e5⟩
    replace jammed := cleared.lawful.trans jammed
    replace acts := acts.trans jam
    clear jam cleared e1 e2 e3 e4 e5
    generalize (v.modPanel p fun x => x.setStates m.unconfirmed .jammed) = w at *
    have ended : w.Upholds (if m.byJog && m.valve then w.endJogOn p else .ok w).st := by
      split
      · exact upholds_endJogOn w p
      · exact .refl w
    have quiet : (if m.byJog && m.valve then w.endJogOn p else .ok w).noMove := by
      split
      · exact noMove_endJogOn w p
      · exact .ok w
    have more : Acts sure w (if m.byJog && m.valve then w.endJogOn p else .ok w).st := by
      split
      · exact acts_endJogOn
      · exact .refl
    generalize (if m.byJog && m.valve then w.endJogOn p else .ok w) = r at *
    refine .given fun hs => ?_
    refine ((jammed.upholds ended).trans (leads_raise (fun _ => stand hs _ (acts.trans more)) p .cleatJam nowhere)).upholds ?_
    exact upholds_settled (r := r.bind fun s => s.raise p .cleatJam) (.refl _) (quiet.bind (noMove_raise _ p _))
  · exact lawful_refl s

end Sys2Proof.Machine
end

section
/-! JOG keeps the laws (R135, R196, R197): its coil comes on where the laws allow it, with a grant of its own. -/

namespace Sys2Proof.Machine

open State (Upholds Leads Lawful)

variable {s t u v : State} {p q : PanelNo} {n : StationNo} {m : Nat} {k : StepKind} {l : PackId} {j : Jog} {c : Coil} {g : GroupNo}
  {d : CleatDir}

/-! ### The grant of a jog -/

/-- A jog is granted at once what the pack has free. -/
theorem grantJog_pack (s : State) (p : PanelNo) (m : Nat) : (∀ l, (s.grantJog p m).pack l = s.pack l) ∨
    ∃ k, (s.pack k).granted + m ≤ s.capacity k ∧ ∀ l, (s.grantJog p m).pack l =
      if k = l then { s.pack l with grants := (s.pack l).grants ++ [⟨p, m, true⟩] } else s.pack l := by
  by_cases hm : m = 0
  · rw [hm, grantJog_zero]
    exact .inl fun _ => rfl
  cases hk : s.jogPack p m with
  | none =>
    left
    intro l
    simp only [State.grantJog, hk]
  | some k =>
    right
    refine ⟨k, ?_, fun l => ?_⟩
    · unfold State.jogPack at hk
      split at hk
      · cases hk
      · split at hk
        · rename_i h
          obtain rfl := Option.some.inj hk
          exact h.2.2.2.2.trans (effective_le s _)
        · cases hk
    · rw [grantJog_some hk hm, State.jogGranted]
      by_cases e : k = l
      · subst e
        rw [modPack_pack_self, if_pos rfl]
      · rw [modPack_pack, if_neg e, if_neg e]

/-- Where nothing else moves, the packs hold the grant of the jog alone. -/
theorem flowLaws_of_jog (idle : s.Idle) (hf : s.flowLaws) (room : ∀ l, t.capacity l = s.capacity l)
    (packs : ∀ l, t.pack l = (s.grantJog p m).pack l) (jog : t.jog = some j) (hp : j.panel = p) : t.flowLaws := by
  have empty := idle.packs hf
  obtain same | ⟨k, free, granted⟩ := grantJog_pack s p m
  · exact flowLaws_of_idle (fun l => by rw [packs, same]; exact (empty l).1) fun l => by rw [packs, same]; exact (empty l).2
  have grants (l : PackId) : (t.pack l).grants = if k = l then [⟨p, m, true⟩] else [] := by
    rw [packs, granted]
    split
    · exact congrArg (· ++ _) (empty l).1
    · exact (empty l).1
  have waiting (l : PackId) : (t.pack l).waiting = [] := by
    rw [packs, granted]
    split <;> exact (empty l).2
  refine flowLaws_iff.2 ⟨fun l => ?_, fun q => ⟨?_, fun l g hg e => ?_, fun l w hw => by rw [waiting] at hw; cases hw⟩⟩
  · rw [room, Pack.granted, grants]
    split
    · rename_i e
      subst e
      simpa [Pack.granted, (empty k).1] using free
    · exact Nat.zero_le _
  · have counted (l : PackId) : (t.pack l).panels.count q ≤ if k = l then 1 else 0 := by
      rw [Pack.panels, grants, waiting]
      split
      · exact List.count_le_length
      · exact le_rfl
    have a := counted .a
    have b := counted .b
    rw [named_eq]
    cases k with
    | a =>
      simp only [reduceCtorEq, if_true, if_false] at a b
      omega
    | b =>
      simp only [reduceCtorEq, if_true, if_false] at a b
      omega
  · rw [grants] at hg
    split at hg
    · obtain rfl := List.mem_singleton.1 hg
      exact ⟨j, jog, hp.trans e⟩
    · cases hg

/-- A jog starts where nothing moves. -/
theorem State.Upholds.of_jog (idle : s.Linked → s.Idle) (linked : s.Linked → t.Linked) (last : t.lasting = s.lasting)
    (packs : ∀ l, t.pack l = (s.grantJog p m).pack l) (jog : t.jog = some j) (hp : j.panel = p)
    (away : ∀ q, p ≠ q → t.panel q = s.panel q)
    (works : ∀ k, (t.panel p).works k → (s.panel p).works k ∨ Coil.workOf j.coil = some k)
    (good : ∀ k, Coil.workOf j.coil = some k → ¬ (s.panel p).works k → (t.panel p).works k → t.owns p k ∧ t.meets p k)
    (clear : ∀ k, Coil.workOf j.coil = some k → s.clear p k) :
    s.Upholds t where
  linked := linked
  flow := fun hs hf => flowLaws_of_jog (idle hs) hf (capacity_lasting last) packs jog hp
  coils := fun hs X Y hc => by
    have rest (q : PanelNo) : (s.panel q).resting := (idle hs).resting (hc.owned q)
    have seat (q : PanelNo) : (t.panel q).seat = (s.panel q).seat := (congrArg Panel.seat (lasting_panel last q) :)
    have goes (q : PanelNo) (hq : p ≠ q) : (s.panel q).Rests (t.panel q) ∧ s.GoesOn q t := by
      rw [away q hq]
      exact ⟨.refl _, fun h => absurd (phaseAt_unserved ((idle hs).served q)) h, fun j hj => by rw [(idle hs).jog] at hj; cases hj⟩
    by_cases hw : ∃ k, (t.panel p).works k
    · obtain ⟨k, hk⟩ := hw
      have of (k' : StepKind) (h : (t.panel p).works k') : Coil.workOf j.coil = some k' := (works k' h).resolve_left (rest p k')
      exact obeysBut_of_run (k := k) (lasting_layout last) seat goes
        (fun k' h => Option.some.inj ((of k' h).symm.trans (of k hk))) (fun h => (good k (of k hk) (rest p k) h).1)
        (fun h => (good k (of k hk) (rest p k) h).2) (clear k (of k hk)) hc
    · refine obeysBut_of_resting fun q => ?_
      by_cases e : p = q
      · subst e
        exact fun k h => hw ⟨k, h⟩
      · rw [away q e]
        exact rest q

/-! ### The kinds of jogs -/

/-- The unit in which the jog has been noted, with its grant. -/
def State.jogNoted (s : State) (j : Jog) (m : Nat) : State := { s.grantJog j.panel m with jog := some j }

theorem linked_jogOn (hs : s.Linked) (hu : s.unit = .service) (hc : s.configured j.panel = true) :
    ({ s with jog := some j } : State).Linked := by
  refine ⟨hs.ids, hs.consistent, hs.order, hs.field, hs.idle, hs.serviced, hs.configured, fun i hi => ?_, hs.writing, hs.counter⟩
  obtain rfl : j = i := Option.some.inj hi
  exact ⟨hu, hc⟩

theorem grantJog_linked (hs : s.Linked) : (s.grantJog p m).Linked := (changes_grantJog (L := Leave.all) m).linked hs

theorem jogNoted_linked (hu : s.unit = .service) (hc : s.configured j.panel = true) (hs : s.Linked) : (s.jogNoted j m).Linked :=
  linked_jogOn (s := s.grantJog j.panel m) (grantJog_linked hs) ((lasting_unit (lasting_grantJog ..)).trans hu)
    ((lasting_configured (lasting_grantJog ..) _).trans hc)

theorem jogNoted_panel (s : State) (j : Jog) (m : Nat) (q : PanelNo) : (s.jogNoted j m).panel q = s.panel q := by
  change (s.grantJog j.panel m).panel q = _
  unfold State.grantJog
  split
  · split
    · rfl
    · exact modPack_panel ..
  · rfl

theorem jogNoted_lasting (s : State) (j : Jog) (m : Nat) : (s.jogNoted j m).lasting = s.lasting :=
  lasting_grantJog s j.panel m

theorem presetHoming_kept (s : State) (p : PanelNo) (d : Dir) :
    (∃ n, (s.presetHoming p d).panel p = { s.panel p with count := n }) ∧
    (∀ q, p ≠ q → (s.presetHoming p d).panel q = s.panel q) ∧ (∀ l, (s.presetHoming p d).pack l = s.pack l) ∧
    (s.presetHoming p d).jog = s.jog ∧ (s.presetHoming p d).lasting = s.lasting ∧ (s.presetHoming p d).layout = s.layout := by
  have last : (s.presetHoming p d).lasting = s.lasting := (changes_presetHoming (L := Leave.all) d).lasting
  rw [presetHoming_eq] at last ⊢
  exact ⟨⟨_, modPanel_panel_self ..⟩, fun q h => modPanel_panel_ne _ _ h, fun l => modPanel_pack .., rfl, last, rfl⟩

theorem driveTravel_away (d : Dir) (fast jog : Bool) (h : p ≠ q) : (s.driveTravel p d fast jog).panel q = s.panel q := by
  rw [driveTravel_eq]
  exact modPanel_panel_ne _ _ h

theorem liftUp_of_work (h : Coil.workOf c = some .lift) : c = .liftUp := by
  cases c with
  | liftUp => rfl
  | _ => cases h

theorem liftDown_of_work (h : Coil.workOf c = some .lower) : c = .liftDown := by
  cases c with
  | liftDown => rfl
  | _ => cases h

section
variable (idle : s.Linked → s.Idle) (hu : s.unit = .service) (hc : s.configured j.panel = true)
    (conds : s.jogConditions j.panel j.coil = true)
include idle hu hc conds

/-- A travel jog (R197). -/
theorem upholds_jogTravel {d : Dir} (e : j.coil = d.coil) : s.Upholds ((s.grantJog j.panel m).jogTravel j d).st := by
  have kind {k : StepKind} (h : Coil.workOf j.coil = some k) : k = .travel := by
    rw [e] at h
    cases d <;> exact (Option.some.inj h).symm
  have runs {t : State} (h : t.jog = some j) : t.jogRuns j.panel .travelOut ∨ t.jogRuns j.panel .travelIn := by
    cases d with
    | outward => exact .inl ⟨j, h, rfl, e⟩
    | inward => exact .inr ⟨j, h, rfl, e⟩
  have law : s.meets j.panel .travel := (laws_of_jogConditions conds (k := .travel) (by rw [e]; cases d <;> rfl)).1
  have linked (hs : s.Linked) := jogNoted_linked (m := m) hu hc hs
  have noted := jogNoted_panel s j m
  have last := jogNoted_lasting s j m
  have packs : ∀ l, (s.jogNoted j m).pack l = (s.grantJog j.panel m).pack l := fun _ => rfl
  have jog : (s.jogNoted j m).jog = some j := rfl
  change s.Upholds (((s.jogNoted j m).presetHoming j.panel d).driveTravel j.panel d false true |>.chopIfTripped j.panel).st
  refine .trans ?_ (upholds_chopIfTripped _ _)
  generalize s.jogNoted j m = v at *
  obtain ⟨⟨c, homed⟩, others, packs1, jog1, last1, -⟩ := presetHoming_kept v j.panel d
  have linked1 : v.Linked → (v.presetHoming j.panel d).Linked := (changes_presetHoming (L := Leave.all) d).linked
  generalize v.presetHoming j.panel d = w at *
  obtain ⟨packs2, -, -, jog2⟩ := driveTravel_rest w j.panel d false true
  have linked2 : w.Linked → (w.driveTravel j.panel d false true).Linked := (changes_driveTravel (L := Leave.all) trivial).linked
  rw [noted] at homed
  have meets : w.meets j.panel .travel := by
    refine meets_kept (lasting_layout (last1.trans last)) ?_ law
    rw [homed]
    exact .of_same rfl rfl rfl rfl rfl rfl
  refine .of_jog (m := m) (j := j) idle (fun hs => linked2 (linked1 (linked hs)))
      ((lasting_driveTravel ..).trans (last1.trans last))
    (fun l => (packs2 l).trans ((packs1 l).trans (packs l))) (jog2.trans (jog1.trans jog)) rfl
    (fun q h => (driveTravel_away d false true h).trans ((others q h).trans (noted q))) (fun k hw => ?_)
        (fun k hk _ _ => ?_) fun k hk => ?_
  · rw [driveTravel_panel, homed] at hw
    refine (Panel.works_setTravelling hw).imp (Panel.works_congr rfl rfl) ?_
    rintro rfl
    rw [e]
    cases d <;> rfl
  · obtain rfl := kind hk
    refine ⟨⟨?_, .inr (runs (jog2.trans (jog1.trans jog)))⟩, meets_travel meets d false true⟩
    rw [driveTravel_panel]
    exact (Panel.setTravelling_mode ..).1
  · obtain rfl := kind hk
    exact ⟨nofun, nofun⟩

/-- Any other jog energises its coil (R197). -/
theorem upholds_jogCoil (plain : ∀ k, Coil.workOf j.coil = some k → k = .lift ∨ k = .lower) :
    s.Upholds ((s.grantJog j.panel m).jogCoil j).st := by
  have linked (hs : s.Linked) := jogNoted_linked (m := m) hu hc hs
  have noted := jogNoted_panel s j m
  have last := jogNoted_lasting s j m
  have packs : ∀ l, (s.jogNoted j m).pack l = (s.grantJog j.panel m).pack l := fun _ => rfl
  have jog : (s.jogNoted j m).jog = some j := rfl
  change s.Upholds (((s.jogNoted j m).energise j.panel j.coil).modPanel j.panel fun x => { x with activity := .jog })
  generalize s.jogNoted j m = v at *
  have shown : Changes Leave.all v ((v.energise j.panel j.coil).modPanel j.panel fun x => { x with activity := .jog }) :=
    (changes_energise j.coil trivial).trans (changes_quiet (f := fun x => { x with activity := .jog }) fun _ =>
      .of_same rfl rfl rfl rfl id rfl rfl rfl rfl)
  have last2 := shown.lasting.trans last
  have linked2 := shown.linked
  rw [energise_eq, modPanel_modPanel] at last2 linked2 ⊢
  have panel : (v.modPanel j.panel fun x => { x.energised v.enabled j.coil with activity := .jog }).panel j.panel =
      { (s.panel j.panel).energised v.enabled j.coil with activity := .jog } := by
    rw [modPanel_panel_self, noted]
  refine .of_jog (m := m) (j := j) idle (fun hs => linked2 (linked hs)) last2 (fun l => (modPanel_pack ..).trans (packs l)) jog rfl
    (fun q h => (modPanel_panel_ne _ _ h).trans (noted q)) (fun k hw => ?_) (fun k hk _ _ => ?_) fun k hk =>
        (laws_of_jogConditions conds hk).2
  · rw [panel] at hw
    exact Panel.works_energised (x := s.panel j.panel) (on := v.enabled) (c := j.coil) (Panel.works_congr rfl rfl hw)
  · have law := (laws_of_jogConditions conds hk).1
    obtain rfl | rfl := plain k hk
    · refine ⟨.inr ⟨j, jog, rfl, liftUp_of_work hk⟩, uncleated_kept (lasting_layout last2) (fun c h => ?_) law⟩
      rw [panel]
      exact h
    · exact ⟨.inr ⟨j, jog, rfl, liftDown_of_work hk⟩, trivial⟩

/-- A cleat jog makes a move of its group (R24, R197). -/
theorem upholds_jogCleat (e : j.coil = d.coil g) (time : Nat) : s.Upholds ((s.grantJog j.panel m).jogCleat j g d time).st := by
  have linked (hs : s.Linked) : (s.grantJog j.panel m).Linked := grantJog_linked hs
  have noted (q : PanelNo) : (s.grantJog j.panel m).panel q = s.panel q := jogNoted_panel s j m q
  have last := lasting_grantJog s j.panel m
  have flow (hs : s.Linked) (hf : s.flowLaws) : (s.grantJog j.panel m).placedOnce j.panel :=
    (flowLaws_of_jog (t := s.jogNoted j m) (m := m) (idle hs) hf (capacity_lasting last) (fun _ => rfl) rfl rfl).placedOnce j.panel
  have granted := grantJog_pack s j.panel m
  unfold State.jogCleat
  dsimp only
  have packs : ∀ l, (s.grantJog j.panel m).pack l = (s.grantJog j.panel m).pack l := fun _ => rfl
  generalize (s.grantJog j.panel m).params.tuning.confirmationWindow = a at *
  generalize hv : s.grantJog j.panel m = v at linked noted last flow granted ⊢
  have run : Changes Leave.all v (v.startMove j.panel g d time (max a time) true) :=
    changes_startMove g d _ _ _ fun _ _ _ _ _ => trivial
  have still (k : StepKind) (hw : ((v.startMove j.panel g d time (max a time) true).panel j.panel).works k) := startMove_works hw
  have seat := startMove_seat v j.panel g d time (max a time) true
  have packs (l : PackId) := startMove_pack v j.panel g d time (max a time) true l
  have away (q : PanelNo) (h : j.panel ≠ q) := startMove_panel_ne (s := v) g d time (max a time) true h
  have same : (v.newMove j.panel g d time (max a time) true).group = g ∧ (v.newMove j.panel g d time (max a time) true).dir = d ∧
    (v.newMove j.panel g d time (max a time) true).byJog = true := ⟨rfl, rfl, rfl⟩
  generalize v.newMove j.panel g d time (max a time) true = x at *
  generalize v.startMove j.panel g d time (max a time) true = w at *
  have last2 : w.lasting = s.lasting := run.lasting.trans last
  split
  · rename_i none
    refine .of_off (fun hs => changes_dropFlow.linked (L := Leave.all) (run.linked (linked hs)))
        (fun hs own q k hw => ?_) fun hs hf l => ?_
    · rw [dropFlow_panel] at hw
      refine (idle hs).resting (own q) k ?_
      by_cases h : j.panel = q
      · subst h
        obtain hw | ⟨-, e⟩ := still k hw
        · rwa [noted] at hw
        · rw [e] at none
          cases none
      · rwa [away q h, noted] at hw
    · rw [dropFlow_pack ((placedOnce_of_pack packs).2 (flow hs hf)), packs]
      obtain ⟨e1, e2⟩ := (idle hs).packs hf l
      obtain e | ⟨k, -, e⟩ := granted
      · rw [e]
        simp [Pack.dropPanel, e1, e2]
      · rw [e]
        split <;> simp [Pack.dropPanel, e1, e2]
  · refine .of_jog (t := { w with jog := some j }) (m := m) (j := j) idle
      (fun hs => linked_jogOn (run.linked (linked hs)) ((lasting_unit last2).trans hu) ((lasting_configured last2 _).trans hc)) last2
      (fun l => (packs l).trans (by rw [hv])) rfl rfl (fun q h => (away q h).trans (noted q)) (fun k hw => ?_)
          (fun k hk old hw => ?_) fun k hk =>
      (laws_of_jogConditions conds hk).2
    · rw [e]
      rw [← noted]
      exact (still k hw).imp_right And.left
    · have law := (laws_of_jogConditions conds hk).1
      rw [e] at hk
      obtain ⟨rfl, rfl⟩ := workOf_cleat hk
      obtain hw | ⟨-, hm⟩ := still _ hw
      · rw [noted] at hw
        exact absurd hw old
      · refine ⟨⟨x, hm, same.1, same.2.1, ?_⟩, (seat.trans (congrArg Panel.seat (noted j.panel))).trans law⟩
        rw [if_pos same.2.2]
        exact ⟨j, rfl, rfl, e⟩

theorem upholds_startJog (hp : j.panel = p) (hj : j.coil = c) (time : Nat) (h : j.deadline = s.now + time) :
    s.Upholds (s.startJog p c time).st := by
  obtain ⟨p', c', dl⟩ := j
  obtain rfl := hp
  obtain rfl := hj
  obtain rfl := h
  unfold State.startJog
  dsimp only
  split
  · exact upholds_jogTravel idle hu hc conds (d := .outward) rfl
  · exact upholds_jogTravel idle hu hc conds (d := .inward) rfl
  · exact upholds_jogCleat idle hu hc conds (d := .release) rfl time
  · exact upholds_jogCleat idle hu hc conds (d := .engage) rfl time
  · rename_i h1 h2 h3 h4
    have run := upholds_jogCoil (m := coilDemand c') idle hu hc conds
    refine run fun k hk => ?_
    cases c' with
    | liftUp => exact .inl (Option.some.inj hk).symm
    | liftDown => exact .inr (Option.some.inj hk).symm
    | travelOut => exact absurd rfl h1
    | travelIn => exact absurd rfl h2
    | cleatEng g => exact absurd rfl (h4 g)
    | _ => cases hk

end

theorem noMove_startJog (s : State) (p : PanelNo) (c : Coil) (time : Nat) : (s.startJog p c time).noMove := by
  have travel (v : State) (j : Jog) (d : Dir) : (v.jogTravel j d).noMove := by
    unfold State.jogTravel
    exact noMove_chopIfTripped _ _
  have cleat (v : State) (j : Jog) (g : GroupNo) (d : CleatDir) : (v.jogCleat j g d time).noMove := by
    unfold State.jogCleat
    dsimp only
    split
    · exact noMove_dropFlow _ _
    · exact .ok _
  unfold State.startJog
  dsimp only
  split
  · exact travel _ _ _
  · exact travel _ _ _
  · exact cleat _ _ _ _
  · exact cleat _ _ _ _
  · exact fun _ h => by cases List.mem_singleton.1 h

theorem upholds_ownerJog (panel coil : Byte) (time : Half) : s.Upholds (ownerJog n panel coil time s).st := by
  unfold ownerJog
  split
  · exact .refl s
  · rename_i hu
    split
    · rename_i p c _ _
      split
      · exact .refl s
      · split
        · exact .refl s
        · rename_i hc
          split
          · exact .refl s
          · split
            · exact .refl s
            · split
              · exact .refl s
              · rename_i free
                split
                · exact .refl s
                · rename_i conds
                  split
                  · exact .refl s
                  · split
                    · exact .refl s
                    · have unit : s.unit = .service := by simpa using hu
                      have jobless : s.jog = none := by
                        cases hj : s.jog with
                        | none => rfl
                        | some j => simp [hj] at free
                      refine upholds_settled (upholds_startJog (j := ⟨p, c, s.now + time.toNat⟩)
                        (fun hs => ⟨unserved_of_service hs unit, jobless⟩) unit (by simpa using hc) (by simpa using conds)
                            rfl rfl _ rfl)
                        (noMove_startJog _ _ _ _)
    · exact .refl s

end Sys2Proof.Machine
end

section
/-! The end switches, the wheel, the lines and the timers keep the laws (R10 to R18, R92, R107, R112, R116, R141, R147, R197). -/

namespace Sys2Proof.Machine

open State (Upholds Leads Lawful)

variable {s t u : State} {p q : PanelNo} {n : StationNo} {i : SlotNo} {r : Res}

theorem keepsLaws_upholds (h : s.Upholds t) : s.KeepsLaws (.next t) := keepsLaws_next h.lawful

theorem keepsLaws_refl (s : State) : s.KeepsLaws (.next s) := keepsLaws_upholds (.refl s)

/-! ### Work that ends no move -/

theorem noMove_checkPoints (s : State) (p : PanelNo) : (s.checkPoints p).noMove := by
  unfold State.checkPoints
  split
  · split
    · dsimp only
      split
      · exact .ok _
      · split
        · exact noMove_raise _ p _
        · exact .ok _
    · exact .ok s
  · exact .ok s

theorem noMove_referenceTaken (s : State) (p : PanelNo) : (s.referenceTaken p).noMove := by
  unfold State.referenceTaken
  split
  · split
    · split
      · exact .ok _
      · exact noMove_checkPoints s p
    · exact .ok s
  · exact noMove_endJogOn s p

theorem noMove_endMake (s : State) (p : PanelNo) (c : Int) (d : Dir) : (s.endMake p c d).noMove := by
  unfold State.endMake
  dsimp only
  split
  · split
    · exact noMove_referenceTaken _ p
    · exact fun _ h => by cases List.mem_singleton.1 h
  · exact .ok s

theorem noMove_moveEdge (s : State) (p : PanelNo) (d : Dir) : (s.moveEdge p d).noMove := by
  unfold State.moveEdge
  dsimp only
  split
  · exact noMove_raise _ p _
  · exact .ok _

theorem noMove_creepEdge (s : State) (p : PanelNo) : (s.creepEdge p).noMove := by
  unfold State.creepEdge
  dsimp only
  split
  · exact noMove_raise _ p _
  · exact .ok _

theorem noMove_edge (s : State) (p : PanelNo) : (s.edge p).noMove := by
  unfold State.edge
  dsimp only
  split
  · exact (noMove_moveEdge _ p _).bind (f := fun s => s.checkPoints p) (noMove_checkPoints _ p)
  · exact (noMove_moveEdge _ p _).add (by simp)
  · exact (noMove_creepEdge _ p).add (by simp)

/-! ### The end switches and the wheel -/

theorem upholds_endChanged (s : State) {c : Int} (hc : c = 0 ∨ c = s.openCount p) (made : Bool) (d : Dir) :
    s.Upholds (s.endChanged p made c d).settle := by
  unfold State.endChanged
  have made' : s.Upholds (if made then s.endMake p c d else .ok s).st := by
    split
    · exact upholds_endMake s hc d
    · exact .refl s
  have quiet : (if made then s.endMake p c d else .ok s).noMove := by
    split
    · exact noMove_endMake s p c d
    · exact .ok s
  exact upholds_settled (r := Res.add _ _) made' (quiet.add (by simp))

theorem keepsLaws_homeMake (p : PanelNo) (made : Bool) (held : Nat) (s : State) : s.KeepsLaws (execHomeMake p made held s) := by
  refine keepsLaws_upholds ?_
  split
  · exact .refl s
  · dsimp only
    have taken : s.Upholds (s.modPanel p fun x => { x with sw := { x.sw with home := made } }) :=
      upholds_feed {} (.of_same rfl rfl rfl rfl rfl rfl)
    split
    · exact taken.trans (upholds_endChanged _ (.inl rfl) made _)
    · exact taken

theorem keepsLaws_openEndMake (p : PanelNo) (made : Bool) (held : Nat) (s : State) :
    s.KeepsLaws (execOpenEndMake p made held s) := by
  refine keepsLaws_upholds ?_
  split
  · exact .refl s
  · dsimp only
    have taken : s.Upholds (s.modPanel p fun x => { x with sw := { x.sw with openEnd := made } }) :=
      upholds_feed {} (.of_same rfl rfl rfl rfl rfl rfl)
    split
    · exact taken.trans (upholds_endChanged _ (.inr rfl) made _)
    · exact taken

theorem upholds_armed (s : State) (p : PanelNo) (b : Bool) : s.Upholds (s.modPanel p fun x => { x with wheelArmed := b }) :=
  upholds_feed {} (.of_same rfl rfl rfl rfl rfl rfl)

theorem keepsLaws_wheelEdge (p : PanelNo) (low high : Nat) (s : State) : s.KeepsLaws (execWheelEdge p low high s) := by
  refine keepsLaws_upholds ?_
  split
  · exact .refl s
  · dsimp only
    split
    · exact (upholds_armed s p false).trans (upholds_settled (upholds_edge _ p) (noMove_edge _ p))
    · exact upholds_armed s p _

/-! ### Wind, presence, selectors -/

theorem keepsLaws_windChange (asserted : Bool) (held : Nat) (s : State) : s.KeepsLaws (execWindChange asserted held s) := by
  refine keepsLaws_upholds ?_
  split
  · exact .refl s
  · have taken : s.Upholds { s with windLine := asserted, windSet := asserted } := State.Framed.upholds {}
    exact (taken.trans (upholds_latchIf _ _)).trans (upholds_jobs not_mem_retestJog)

theorem keepsLaws_presenceChange (h : HatchNo) (asserted : Bool) (held : Nat) (s : State) :
    s.KeepsLaws (execPresenceChange h asserted held s) := by
  refine keepsLaws_upholds ?_
  split
  · exact .refl s
  · have taken : s.Upholds { s with presence := s.presence.set h asserted } := State.Framed.upholds {}
    dsimp only
    split
    · exact taken.trans (.trans (State.Framed.upholds {}) (upholds_reportZone _ h))
    · exact taken

theorem upholds_selectorPause (s : State) (h : HatchNo) : s.Upholds (s.selectorPause h).settle := by
  unfold State.selectorPause
  exact upholds_settled (upholds_each (.refl s) fun p t => upholds_pauseIf t _ _ p)
      (.each (fun p t => noMove_pauseIf t _ _ p) _ (.ok s))

theorem keepsLaws_selectorChange (h : HatchNo) (toLocal : Bool) (held : Nat) (s : State) :
    s.KeepsLaws (execSelectorChange h toLocal held s) := by
  refine keepsLaws_upholds ?_
  split
  · exact .refl s
  · split
    · exact State.Framed.upholds {}
    · split
      · exact .refl s
      · have taken : s.Upholds { s with selector := s.selector.set h toLocal } := State.Framed.upholds {}
        dsimp only
        split
        · exact (taken.trans (upholds_latch .selectorChange)).trans (upholds_selectorPause _ h)
        · exact taken

/-! ### Timers of the panels -/

theorem keepsLaws_cleatDwellExpiry (p : PanelNo) (s : State) : s.KeepsLaws (execCleatDwellExpiry p s) := by
  refine keepsLaws_upholds ?_
  split
  · split
    · rename_i m _ d _
      dsimp only
      have off := (upholds_reach s d).trans (upholds_valveOff _ p)
      split
      · exact upholds_settled (off.trans (upholds_endJogOn _ p)) (noMove_endJogOn _ p)
      · exact upholds_settled off (.ok _)
    · exact .refl s
  · exact .refl s

theorem keepsLaws_brakingWindowEnd (hf : s.faultedStand) (p : PanelNo) : s.KeepsLaws (execBrakingWindowEnd p s) := by
  refine keepsLaws_upholds ?_
  split
  · rename_i d hd
    have still : (s.panel p).mode ≠ .driven := fun e => by
      rw [hf.2.1 p e] at hd
      cases hd
    dsimp only
    have quiet : (s.reach d).Upholds ((s.reach d).modPanel p fun x =>
        { x with mode := .quiet, activity := x.activity.afterWindow, brakeTimer := none }) := by
      refine upholds_feed
        { mode := fun h => by cases h
          timers := fun ⟨h1, h2⟩ => ⟨fun h => absurd (h1 h) still, fun h => by cases h⟩ }
        ⟨⟨fun k hw => ?_, fun _ h => absurd h still, fun _ _ m h => ⟨m, h, rfl, rfl, rfl⟩⟩, rfl, rfl, fun _ h => h⟩
      cases k with
      | travel => exact hw.imp_right fun h => h.imp_right fun h => by cases h
      | _ => exact hw
    refine ((upholds_reach s d).trans quiet).trans ?_
    exact upholds_settle (upholds_windowEnded _ p) (prepared_of_orderly (orderly_windowEnded _ p))
  · exact .refl s

theorem keepsLaws_stallTimerExpiry (p : PanelNo) (s : State) : s.KeepsLaws (execStallTimerExpiry p s) := by
  refine keepsLaws_upholds ?_
  split
  · rename_i d _
    have stopped : s.Upholds ((s.reach d).modPanel p fun x => { x with stall := .stopped }) :=
      (upholds_reach s d).trans (upholds_feed {} (.of_same rfl rfl rfl rfl rfl rfl))
    exact upholds_settled (stopped.trans (upholds_raise _ p _)) (noMove_raise _ p _)
  · exact .refl s

theorem keepsLaws_creepQuietExpiry (p : PanelNo) (s : State) : s.KeepsLaws (execCreepQuietExpiry p s) := by
  refine keepsLaws_upholds ?_
  split
  · exact (upholds_reach s _).trans (upholds_feed {} (.of_same rfl rfl rfl rfl rfl rfl))
  · exact .refl s

theorem keepsLaws_stepTimeout (p : PanelNo) (s : State) : s.KeepsLaws (execStepTimeout p s) := by
  refine keepsLaws_upholds ?_
  split
  · rename_i d _
    have stopped : s.Upholds ((s.reach d).modPanel p fun x => { x with stepTimer := none }) :=
      (upholds_reach s d).trans (upholds_feed {} (.of_same rfl rfl rfl rfl rfl rfl))
    exact upholds_settled (stopped.trans (upholds_raise _ p _)) (noMove_raise _ p _)
  · exact .refl s

/-- A hold-off is part of a running travel, whose coil comes on again (R107). -/
theorem upholds_holdoffEnd (driven : (s.panel p).mode = .driven) : s.Upholds (s.holdoffEnd p).st := by
  have agree {x : Panel} (h : x.timersAgree) : Panel.timersAgree { x with holdoff := none } := ⟨fun e => (by cases e), h.2⟩
  unfold State.holdoffEnd
  dsimp only
  split
  · split
    · rename_i d _
      refine .trans ?_ (upholds_chopIfTripped _ p)
      rw [energise_eq, modPanel_modPanel]
      refine upholds_modPanel
          (Changes.linked (L := Leave.all) (.single (.drive p _ trivial ⟨rfl, rfl, rfl, fun _ h => h, fun _ _ h => h⟩
        (fun he c h => by simpa [Panel.energised, he] using h) agree))) rfl
        ⟨⟨fun k hw => ?_, fun _ h => h, fun _ _ m h => ⟨m, h, rfl, rfl, rfl⟩⟩, rfl, rfl, fun _ h => h⟩
      obtain h | e := Panel.works_energised hw
      · exact Panel.works_congr rfl rfl h
      · obtain rfl : .travel = k := by cases d <;> exact Option.some.inj e
        exact .inr (.inr driven)
    · exact upholds_quieter (f := fun x => { x with holdoff := none, stall := .running (s.now + s.params.tuning.stallPeriod) })
        { lasting := rfl, live := rfl, faults := rfl, warnings := fun _ h => h, range := fun _ _ h => h, coils := fun _ h => h
          mode := id, timers := agree, move := id } (.of_same rfl rfl rfl rfl rfl rfl)
  · exact upholds_modPanel (Changes.linked (L := Leave.all) (.single (.hold p _ trivial))) rfl
      (.of_same rfl rfl rfl rfl rfl rfl)

theorem noMove_holdoffEnd (s : State) (p : PanelNo) : (s.holdoffEnd p).noMove := by
  unfold State.holdoffEnd
  dsimp only
  split
  · split
    · exact noMove_chopIfTripped _ p
    · exact .ok _
  · exact .ok _

theorem keepsLaws_chopHoldoffEnd (hf : s.faultedStand) (p : PanelNo) : s.KeepsLaws (execChopHoldoffEnd p s) := by
  refine keepsLaws_upholds ?_
  split
  · rename_i d hd
    have driven : ((s.reach d).panel p).mode = .driven := hf.1 p (by rw [hd]; rfl)
    exact upholds_settled ((upholds_reach s d).trans (upholds_holdoffEnd driven)) (noMove_holdoffEnd _ p)
  · exact .refl s

/-! ### Other timers -/

theorem keepsLaws_retentionExpiry (i : SlotNo) (s : State) : s.KeepsLaws (execRetentionExpiry i s) := by
  refine keepsLaws_upholds ?_
  split
  · rename_i d hd
    have dead (hs : s.Linked) (o : Order) (ho : s.slot i = some o) : o.state.live = false := by
      obtain ⟨-, -, -, hr, -⟩ := hs.consistent i o ho
      by_contra hl
      rw [ho, Option.bind_some, hr.1 (by simpa using hl)] at hd
      cases hd
    refine .given fun hs => (upholds_reach s d).trans (upholds_retire ?_ fun _ => dead hs)
    exact linked_of_acts (.single (.retire i fun o ho _ => dead hs o ho))
  · exact .refl s

theorem keepsLaws_listStalenessExpiry (s : State) : s.KeepsLaws (execListStalenessExpiry s) := by
  refine keepsLaws_upholds ?_
  split
  · rename_i d _
    have stale : s.Upholds { s.reach d with fresh := false, staleTimer := none } := State.Framed.upholds {}
    exact ((stale.trans (upholds_deriveListHigh _)).trans (upholds_latchIf _ _)).trans (upholds_jobs not_mem_retestAll)
  · exact .refl s

theorem keepsLaws_zoneDeadlineExpiry (z : ClaimNo) (s : State) : s.KeepsLaws (execZoneDeadlineExpiry z s) := by
  refine keepsLaws_upholds ?_
  split
  · rename_i c _
    split
    · dsimp only
      refine .trans ?_ (upholds_reportZone _ _)
      exact (((upholds_reach s _).trans (upholds_setClaim _ z _)).trans (upholds_latch _)).trans (upholds_latchIf _ _)
    · exact .refl s
  · exact .refl s

theorem keepsLaws_attendanceDeadlineExpiry (n : StationNo) (s : State) : s.KeepsLaws (execAttendanceDeadlineExpiry n s) := by
  refine keepsLaws_upholds ?_
  split
  · exact (upholds_reach s _).trans (upholds_violation _ n)
  · exact .refl s

theorem keepsLaws_jogTimeExpiry (s : State) : s.KeepsLaws (execJogTimeExpiry s) := by
  refine keepsLaws_upholds ?_
  split
  · exact upholds_settled ((upholds_reach s _).trans (upholds_endJog _)) (noMove_endJog _)
  · exact .refl s

end Sys2Proof.Machine
end

section
/-! The protection monitor's events keep the laws (R106, R107, R155 to R165). -/

namespace Sys2Proof.Machine

open State (Upholds Leads Lawful)

variable {s t u : State} {p q : PanelNo} {k : PackId} {r : Res}

/-! ### The loop and the supply -/

theorem upholds_dropEnable (s : State) (r : PauseReason) (l : EventLatch) :
    s.Upholds ((s.dropEnable r).map fun s => s.setLatch l).settle := by
  unfold State.dropEnable
  have off : s.Upholds (s.forPanels fun p s => s.panelOff p) := upholds_forPanels fun p t => upholds_panelOff t p
  generalize (s.forPanels fun p s => s.panelOff p) = v at *
  have paused : v.Upholds (v.pauseWorking allPanels r).st := upholds_eachPause v (fun o => o.state.working) allPanels r
  have quiet : (v.pauseWorking allPanels r).noMove := noMove_eachPause v (fun o => o.state.working) allPanels r
  generalize v.pauseWorking allPanels r = w at *
  have ended := noMove_endJog w.st
  exact upholds_settled (((off.trans paused).trans (upholds_endJog _)).trans (upholds_latch l))
    (quiet.bind (f := fun s => s.endJog) ended).map

theorem keepsLaws_estopOpen (held : Nat) (s : State) : s.KeepsLaws (execEstopOpen held s) := by
  refine keepsLaws_upholds ?_
  split
  · exact .refl s
  · dsimp only
    split
    · exact State.Framed.upholds {}
    · exact .trans (t := { s with loopClosedLine := false, loopTaken := true, loopOpen := true }) (State.Framed.upholds {})
        (upholds_dropEnable _ _ _)

theorem keepsLaws_estopClose (held : Nat) (s : State) : s.KeepsLaws (execEstopClose held s) := by
  refine keepsLaws_upholds ?_
  split
  · exact .refl s
  · dsimp only
    split
    · exact State.Framed.upholds {}
    · exact .trans (t := { s with loopClosedLine := true, loopTaken := true, loopOpen := false }) (State.Framed.upholds {})
        (upholds_latchIf _ _)

theorem keepsLaws_supplyUndervoltage (mV held : Nat) (s : State) : s.KeepsLaws (execSupplyUndervoltage mV held s) := by
  refine keepsLaws_upholds ?_
  split
  · exact .refl s
  · split
    · exact State.Framed.upholds {}
    · dsimp only
      split
      · exact State.Framed.upholds {}
      · exact .trans (t := { s with supplyMv := mV, supplyRecovered := false, supplyLow := true }) (State.Framed.upholds {})
          (upholds_dropEnable _ _ _)

theorem keepsLaws_supplyRecovery (mV held : Nat) (s : State) : s.KeepsLaws (execSupplyRecovery mV held s) := by
  refine keepsLaws_upholds ?_
  split
  · exact .refl s
  · split
    · exact State.Framed.upholds {}
    · exact State.Framed.upholds {}

/-! ### The cards -/

theorem upholds_takeCard (s : State) (c : CardNo) (x : Option Int) : s.Upholds (s.takeCard c x).st := by
  unfold State.takeCard
  extract_lets a d s1 s2 s3
  have read : s.Upholds s1 := State.Framed.upholds {}
  have warned : s1.Upholds s2 := by
    change s1.Upholds (if a = .normal ∧ d ≠ .normal then (s.cardPanels c).foldl (fun s p => s.warn p .cardHot) s1 else s1)
    split
    · exact upholds_fold (fun p t => upholds_warn _) _ _
    · exact .refl _
  have slowed : s.Upholds s3 := (read.trans warned).trans (upholds_fold (fun p t => upholds_checkFast t p) _ _)
  split
  · exact slowed.trans (upholds_raiseAll _ _ _)
  · exact slowed

theorem noMove_takeCard (s : State) (c : CardNo) (x : Option Int) : (s.takeCard c x).noMove := by
  unfold State.takeCard
  dsimp only
  split
  · exact noMove_raiseAll _ _ _
  · exact .ok _

theorem keepsLaws_cardTemperatureChange (c : CardNo) (x : Option Int) (s : State) : s.KeepsLaws (execCardTemperatureChange c x s) :=
  keepsLaws_upholds (upholds_settled (upholds_takeCard s c x) (noMove_takeCard s c x))

/-! ### The coils -/

theorem upholds_deEnergise (s : State) (p : PanelNo) (c : Coil) : s.Upholds (s.deEnergise p c) := by
  have less : (s.panel p).Quieter (s.openCount p) { s.panel p with coils := (s.panel p).coils.put false c } :=
    .of_coils rfl rfl rfl rfl id (fun _ => Coils.get_of_put_false) rfl rfl rfl
  exact upholds_quieter less
    ⟨⟨fun k => Panel.works_of_quieter less, fun _ h => h, fun _ _ m h => ⟨m, h, rfl, rfl, rfl⟩⟩, rfl, rfl, fun _ h => h⟩

/-- A coil that is found faulty is named, unless its fault is held already. -/
theorem upholds_named {f : Panel → Panel} (b : Bool) (hf : (s.panel p).Fed (s.openCount p) (f (s.panel p)))
    (h : (s.panel p).Rests (f (s.panel p))) : s.Upholds (if b then s else s.modPanel p f) := by
  split
  · exact .refl s
  · exact upholds_feed hf h

theorem keepsLaws_coilOvercurrent (p : PanelNo) (c : Coil) (mA held : Nat) (s : State) :
    s.KeepsLaws (execCoilOvercurrent p c mA held s) := by
  refine keepsLaws_upholds ?_
  split
  · dsimp only
    exact upholds_settled (((upholds_deEnergise s p c).trans (upholds_named _ {} (.of_same rfl rfl rfl rfl rfl rfl))).trans
      (upholds_raise _ p _)) (noMove_raise _ p _)
  · exact .refl s

theorem upholds_openLoad (s : State) (p : PanelNo) (c : Coil) : s.Upholds (s.openLoad p c) := by
  unfold State.openLoad
  dsimp only
  have found : s.Upholds (s.modPanel p fun x => { x with openFound := joinSet allCoils c x.openFound }) :=
    upholds_feed {} (.of_same rfl rfl rfl rfl rfl rfl)
  exact upholds_settled ((found.trans (upholds_named _ {} (.of_same rfl rfl rfl rfl rfl rfl))).trans (upholds_raise _ p _))
    (noMove_raise _ p _)

theorem keepsLaws_coilOpenLoad (p : PanelNo) (c : Coil) (mA held : Nat) (s : State) :
    s.KeepsLaws (execCoilOpenLoad p c mA held s) := by
  refine keepsLaws_upholds ?_
  split
  · exact upholds_openLoad s p c
  · exact .refl s

theorem keepsLaws_offStateOpenLoad (p : PanelNo) (c : Coil) (ohms held : Nat) (s : State) :
    s.KeepsLaws (execOffStateOpenLoad p c ohms held s) := by
  refine keepsLaws_upholds ?_
  split
  · split
    · exact upholds_feed {} (.of_same rfl rfl rfl rfl rfl rfl)
    · split
      · exact upholds_openLoad s p c
      · exact .refl s
  · exact .refl s

/-! ### The travel pressure -/

theorem upholds_useFree (s : State) (bar : Option Nat) : s.Upholds (s.useFree bar) := by
  unfold State.useFree
  split
  · exact State.Framed.upholds {}
  · exact .refl s

theorem upholds_tripRead (k : PackId) {f : Pack → Pack} (h : ∀ x, (f x).grants = x.grants ∧ (f x).waiting = x.waiting) :
    s.Upholds (s.modPack k f) := (framed_modPack k h).upholds

theorem noMove_chopPanel (s : State) (p : PanelNo) : (s.chopPanel p).noMove := by
  unfold State.chopPanel
  dsimp only
  split
  · exact noMove_raise _ p _
  · exact .ok _

theorem keepsLaws_travelTripRaised (k : PackId) (bar : Option Nat) (held : Nat) (s : State) :
    s.KeepsLaws (execTravelTripRaised k bar held s) := by
  refine keepsLaws_upholds ?_
  extract_lets b t s1 s2
  have read : s.Upholds s1 := (upholds_useFree s bar).trans (upholds_tripRead k fun x => ⟨rfl, rfl⟩)
  split
  · have raised : s.Upholds s2 := read.trans (upholds_tripRead k fun x => ⟨rfl, rfl⟩)
    exact upholds_settled (upholds_each raised fun p t => upholds_chopPanel t p) (.each (fun p t => noMove_chopPanel t p) _ (.ok _))
  · exact read

theorem keepsLaws_travelTripClear (k : PackId) (bar : Option Nat) (s : State) : s.KeepsLaws (execTravelTripClear k bar s) :=
  keepsLaws_upholds ((upholds_useFree s bar).trans (upholds_tripRead k fun _ => ⟨rfl, rfl⟩))

end Sys2Proof.Machine
end

section
/-! Power-on, the end of START, the restart, the port and the store keep the laws (R177, R179, R191, R193, R194). -/

namespace Sys2Proof.Machine

open State (Upholds Leads Lawful)

variable {s t u : State} {p q : PanelNo} {k : StepKind} {n : StationNo} {r : Res} {c : StartCause}

theorem Panel.Calmer.works {x y : Panel} (h : x.Calmer y) (hw : y.works k) : x.works k := by
  cases k with
  | lift => exact h.coils .liftUp hw
  | lower => exact h.coils .liftDown hw
  | travel => exact hw.imp (h.coils .travelOut) fun e => e.imp (h.coils .travelIn) h.mode
  | cleat g => exact h.coils (.cleatEng g) hw
  | _ => exact hw

theorem linked_exec {x : Instr} (h : exec x s = .next t) (hs : s.Linked) : t.Linked :=
  (exec_acts (K := .linked x s) (fits_linked x hs) h).linked trivial hs

/-! ### POWER_ON and START_END -/

theorem keepsLaws_powerOn (s : State) : s.KeepsLaws (execPowerOn s) := by
  refine keepsLaws_upholds (.of_off (linked_exec (x := .powerOn) rfl) (fun _ _ p => ?_) fun _ _ k => ?_)
  · rw [powerOn_panel]
    exact Panel.resting_of_off rfl nofun
  · cases k <;> exact ⟨rfl, rfl⟩

theorem idle_of_start (hu : s.unit = .start c) (hs : s.Linked) : s.Idle :=
  idle_of_unit hs (by rw [hu]; exact nofun) (by rw [hu]; exact nofun)

theorem upholds_derivePanel (hu : s.unit = .start c) (p : PanelNo) : s.Upholds (State.derivePanel p s).st := by
  unfold State.derivePanel
  dsimp only
  have derived : s.Upholds (s.modPanel p fun x =>
      { x with certain := x.seat == .seated && x.sw.home && x.creep == 0, cleats := x.cleats.map Cleat.fromSwitch }) := by
    refine .of_idle (idle_of_start hu) (linked_of_acts (acts_feed fun x => { range := fun _ _ h => ?_ }))
        (fun q k hw => ?_) fun k =>
      modPanel_pack ..
    · exact Panel.inRange_cleats h rfl rfl rfl rfl fun k => by simp [Cleat.fromSwitch, Cleat.atPowerOn]
    · rw [modPanel_panel] at hw
      split at hw
      · rename_i e
        exact e ▸ Panel.works_congr rfl rfl hw
      · exact hw
  split
  · exact derived.trans (upholds_raise _ p _)
  · exact derived

theorem noMove_derivePanel (s : State) (p : PanelNo) : (State.derivePanel p s).noMove := by
  unfold State.derivePanel
  dsimp only
  split
  · exact noMove_raise _ p _
  · exact .ok _

theorem upholds_deriveFirst (hu : s.unit = .start c) : s.Upholds s.deriveFirst.settle := by
  unfold State.deriveFirst
  extract_lets r r'
  have derived : s.Upholds r.st ∧ r.st.unit = .start c :=
    Res.each_ind (P := fun t => s.Upholds t ∧ t.unit = .start c)
      (fun p t h => ⟨h.1.trans (upholds_derivePanel h.2 p), (derivePanel_unit t p).trans h.2⟩) _ _ ⟨.refl s, hu⟩
  have quiet : r.noMove := .each (fun p t => noMove_derivePanel t p) _ (.ok s)
  have lines : r.st.Upholds r'.st := State.Framed.upholds {}
  clear_value r
  exact upholds_settled (upholds_each (derived.1.trans lines) fun k t => upholds_takeCard t k _)
    (.each (fun k t => noMove_takeCard t k _) _ quiet.map)

/-- No coil comes on, and the packs stay. -/
structure State.Still (s t : State) : Prop where
  works : ∀ q k, (t.panel q).works k → (s.panel q).works k
  packs : ∀ l, t.pack l = s.pack l

theorem State.Still.refl (s : State) : s.Still s := ⟨fun _ _ h => h, fun _ => rfl⟩

theorem State.Still.fold {α : Type} {f : State → α → State} (hf : ∀ a (t : State), t.Still (f t a)) :
    ∀ (xs : List α) (s : State), s.Still (xs.foldl f s)
  | [], s => .refl s
  | x :: xs, s =>
    ⟨fun q k h => (hf x s).works q k ((fold hf xs (f s x)).works q k h), fun l => ((fold hf xs (f s x)).packs l).trans ((hf x s).packs l)⟩

theorem still_recheckCleats (p : PanelNo) (s : State) : s.Still (s.recheckCleats p) := by
  refine .fold (fun c t => ?_) _ _
  split
  · refine ⟨fun q k h => ?_, fun l => ?_⟩
    · rw [State.warn, setLatch_panel, State.modCleat, modPanel_modPanel, modPanel_panel] at h
      split at h
      · rename_i e
        exact e ▸ Panel.works_congr rfl rfl h
      · exact h
    · rw [State.warn, setLatch_pack, modPanel_pack, State.modCleat, modPanel_pack]
  · exact .refl t

theorem upholds_endStart (hu : s.unit = .start c) (key : Bool) : s.Upholds (s.endStart c key) := by
  have lines : s.Upholds (s.deriveLines key) := (framed_deriveLines s key).upholds
  have unit : (s.deriveLines key).unit = .start c := hu
  refine lines.trans ?_
  unfold State.endStart
  generalize s.deriveLines key = v at *
  cases c with
  | powerOn =>
    have first := upholds_deriveFirst unit
    have unit' : v.deriveFirst.settle.unit = .start .powerOn :=
        ((lasting_unit (lasting_settle _)).trans (deriveFirst_unit _)).trans unit
    dsimp only
    generalize v.deriveFirst.settle = w at *
    refine first.trans (.given fun hs => upholds_entered (x := w.serviceStation) (linked_of_acts (acts_leaveStart unit' (fun _ => hs) _ ?_)))
    split
    · exact .inr rfl
    · exact .inl rfl
  | restart b =>
    have dated : v.Upholds v.restartDeadlines := State.Framed.upholds {}
    have unit' : v.restartDeadlines.unit = .start (.restart b) := unit
    refine dated.trans ?_
    dsimp only
    generalize v.restartDeadlines = w at *
    have still : w.Still (allPanels.foldl (fun s p => s.recheckCleats p) { w with unit := if b then .setup else .run }) := by
      have checked : ({ w with unit := if b then .setup else .run } : State).Still _ :=
        .fold (f := fun s p => s.recheckCleats p) (fun p t => still_recheckCleats p t) allPanels _
      exact ⟨checked.works, fun l => (checked.packs l).trans (by cases l <;> rfl)⟩
    refine .given fun hs => .of_idle (idle_of_start unit') (linked_of_acts ?_) still.works still.packs
    refine (acts_leaveStart unit' (fun _ => hs) (if b then .setup else .run) ?_).trans
        (acts_fold (fun p t => acts_recheckCleats) _ _)
    cases b
    · exact .inr rfl
    · exact .inl rfl

theorem keepsLaws_startEnd (key : Bool) (s : State) : s.KeepsLaws (execStartEnd key s) := by
  refine keepsLaws_upholds ?_
  split
  · rename_i c hc
    exact upholds_endStart hc key
  · exact .refl s

/-! ### The restart and the port -/

theorem Panel.restarted_resting (x : Panel) (w : Nat) : (x.restarted w).resting := by
  refine Panel.resting_of_off rfl ?_
  unfold Panel.restarted
  dsimp only
  split <;> exact nofun

theorem upholds_restart (s : State) : s.Upholds s.restart := by
  refine .of_off (linked_of_acts (.single .restart)) (fun _ _ p => ?_) fun _ _ k => ?_
  · rw [restart_panel_eq]
    exact Panel.restarted_resting _ _
  · rw [restart_eq]
    cases k <;> exact ⟨rfl, rfl⟩

theorem keepsLaws_replyTransmitted (s : State) : s.KeepsLaws (execReplyTransmitted s) := by
  refine keepsLaws_upholds ?_
  split
  · exact .refl s
  · rename_i r rs hq
    dsimp only
    have sent : s.Upholds { s with txQueue := rs, txErrors := s.txErrors - 1 } := State.Framed.upholds {}
    have freed (u : State) : u.Upholds
        (if r.holdsSlot then u.modStation r.station fun x => { x with occupied := false } else u) := by
      split
      · exact State.Framed.upholds (framed_modStation (fun x => ⟨rfl, rfl⟩) fun x h => h)
      · exact .refl u
    split
    · exact (sent.trans (freed _)).trans (upholds_restart _)
    · exact sent.trans (freed _)

theorem upholds_busOffNow (s : State) : s.Upholds s.busOffNow := by
  have off : s.Upholds s.goBusOff := by
    refine State.Framed.upholds { writing := ?_, watch := fun n => ?_, errors := fun n h => ?_ }
    · simp [State.goBusOff]
    · simp [State.goBusOff, State.station]
    · simpa [State.goBusOff, State.station] using h
  unfold State.busOffNow
  split
  · exact off.trans (upholds_restart _)
  · exact off

theorem keepsLaws_busOff (s : State) : s.KeepsLaws (execBusOff s) := by
  refine keepsLaws_upholds ?_
  split
  · exact .refl s
  · exact upholds_busOffNow s

theorem keepsLaws_busRejoin (m : Nat) (s : State) : s.KeepsLaws (execBusRejoin m s) := by
  refine keepsLaws_upholds ?_
  split
  · exact State.Framed.upholds {}
  · exact .refl s

theorem keepsLaws_transmitErrorDetected (s : State) : s.KeepsLaws (execTransmitErrorDetected s) := by
  refine keepsLaws_upholds ?_
  split
  · exact .refl s
  · have counted : s.Upholds { s with txErrors := s.txErrors + 8 } := State.Framed.upholds {}
    dsimp only
    split
    · exact counted.trans (upholds_busOffNow _)
    · exact counted

/-! ### The store -/

theorem upholds_answerCommit (s : State) (w : Writing) (c : ReplyCode) (bs : List Byte) : s.Upholds (s.answerCommit w c bs) := by
  unfold State.answerCommit
  split
  · exact upholds_queueReply _ _
  · exact .refl s

theorem takeLayout_packs (s : State) (l : PackId) : s.takeLayout.pack l = s.pack l := by
  unfold State.takeLayout
  dsimp only
  split <;> cases l <;> rfl

/-- A write ends in SETUP, where nothing moves (R191). -/
theorem keepsLaws_storeWriteEnd (agrees : Bool) (s : State) : s.KeepsLaws (execStoreWriteEnd agrees s) := by
  refine keepsLaws_upholds ?_
  cases hw : s.writing with
  | none => exact .refl s
  | some w =>
    dsimp only
    have hw : s.writing.isSome = true := by rw [hw]; rfl
    have idle (hs : s.Linked) : s.Idle := idle_of_unit hs (by rw [hs.writing hw]; exact nofun) (by rw [hs.writing hw]; exact nofun)
    split
    · refine .trans (.of_idle idle ?_ (fun q k h => ?_) fun l => ?_) (upholds_answerCommit _ _ _ _)
      · exact fun hs => Acts.linked (.single (Act.commit (K := .linked (.storeWriteEnd true) s) rfl hw)) trivial hs
      · obtain ⟨a, b, c, e⟩ := takeLayout_panel { s with writing := none } q
        change ((State.takeLayout _).panel q).works k at h
        rw [e] at h
        exact (relaid_calmer _ a b c).works h
      · exact (takeLayout_packs { s with writing := none } l :)
    · refine .trans (t := { s with writing := none, store := none }) (.of_idle idle ?_ (fun q k h => h) fun l => ?_)
        (upholds_answerCommit _ _ _ _)
      · exact linked_of_acts (.single (.noCopy hw))
      · cases l <;> rfl

end Sys2Proof.Machine
end

section
/-! Every command keeps the laws of the coils and of the flow (`exec_lawful`); with them, and the acts of a command, the
invariants. -/

namespace Sys2Proof.Machine

open State (Upholds Leads Lawful)

variable {s t u : State} {n : StationNo} {c : Instr}

/-! ### Requests and frames -/

/-- A request keeps the laws if its owner does, once it has been taken. -/
theorem keepsLaws_request {owner : State → Answer} {tag : Byte} (ho : (s.taken n).Lawful (owner (s.taken n)).st) :
    s.KeepsLaws (request n tag owner s) := by
  refine keepsLaws_next ?_
  unfold State.takeRequest
  split
  · exact lawful_refl s
  · split
    · exact (upholds_unknownStation _ _ _).lawful
    · split
      · exact (upholds_linkRefuse _ _ _ _).lawful
      · split
        · exact (upholds_linkRefuse _ _ _ _).lawful
        · unfold State.handOver
          dsimp only
          split
          · exact (upholds_taken s n).lawful.trans ho
          · exact ((upholds_taken s n).lawful.trans ho).upholds (upholds_queueReply _ _)

theorem keepsLaws_owner {owner : State → Answer} {tag : Byte} (ho : ∀ u : State, u.Upholds (owner u).st) :
    s.KeepsLaws (request n tag owner s) := keepsLaws_request (ho _).lawful

theorem keepsLaws_lookup {owner : State → Answer} {tag : Byte} (ho : ∀ u, (owner u).st = u) : s.KeepsLaws (request n tag owner s) :=
  keepsLaws_owner fun u => .of_eq (ho u).symm

theorem keepsLaws_takeSpelled (i : Instr) (s : State) : s.KeepsLaws (takeSpelled i s) := by
  cases i with
  | readUnit n tag page => exact keepsLaws_lookup (ownerReadUnit_st page)
  | readPanel n tag panel page => exact keepsLaws_lookup (ownerReadPanel_st panel page)
  | readCleat n tag panel cleat => exact keepsLaws_lookup (ownerReadCleat_st panel cleat)
  | readOrder n tag id page => exact keepsLaws_lookup (ownerReadOrder_st id page)
  | findOrder n tag panel => exact keepsLaws_lookup (ownerFindOrder_st panel)
  | readZone n tag id page => exact keepsLaws_lookup (ownerReadZone_st id page)
  | readEvents n tag => exact keepsLaws_lookup ownerReadEvents_st
  | readParam n tag number => exact keepsLaws_lookup (ownerReadParam_st number)
  | readStation n tag station => exact keepsLaws_lookup (ownerReadStation_st station)
  | createOrder n tag panel kind cls hold pred target => exact keepsLaws_owner fun _ => upholds_ownerCreateOrder ..
  | hatchOrder n tag hatch kind cls hold pred target => exact keepsLaws_owner fun _ => upholds_ownerHatchOrder ..
  | amend n tag id mask hold cls target => exact keepsLaws_owner fun _ => upholds_ownerAmend ..
  | pause n tag id => exact keepsLaws_owner fun _ => upholds_ownerPause id
  | resume n tag id => exact keepsLaws_owner fun _ => upholds_ownerResume id
  | continueOrder n tag id => exact keepsLaws_owner fun _ => upholds_ownerContinue id
  | cancel n tag id => exact keepsLaws_owner fun _ => upholds_ownerCancel id
  | adopt n tag id => exact keepsLaws_owner fun _ => upholds_ownerAdopt id
  | retire n tag id => exact keepsLaws_owner fun _ => upholds_ownerRetire id
  | claimZone n tag hatch side kind lo hi => exact keepsLaws_owner fun _ => upholds_ownerClaimZone ..
  | renewZone n tag id => exact keepsLaws_owner fun _ => upholds_ownerRenewZone id
  | releaseZone n tag id => exact keepsLaws_owner fun _ => upholds_ownerReleaseZone id
  | keepalive n tag => exact keepsLaws_owner fun _ => upholds_ownerKeepalive
  | stopHatch n tag hatch => exact keepsLaws_owner fun _ => upholds_ownerStopHatch hatch
  | stopAll n tag => exact keepsLaws_owner fun _ => upholds_ownerStopAll
  | rainClose n tag => exact keepsLaws_owner fun _ => upholds_ownerRainClose
  | listReport n tag list trim => exact keepsLaws_owner fun _ => upholds_ownerListReport list trim
  | clearFaults n tag scope target => exact keepsLaws_owner fun _ => upholds_ownerClearFaults scope target
  | clearEvents n tag codes => exact keepsLaws_owner fun _ => upholds_ownerClearEvents codes
  | setParam n tag number value => exact keepsLaws_owner fun _ => upholds_ownerSetParam number value
  | commit n tag => exact keepsLaws_owner fun _ => upholds_ownerCommit tag
  | reconfigure n tag => exact keepsLaws_owner fun _ => upholds_ownerReconfigure
  | restart n tag => exact keepsLaws_lookup (ownerRestart_st n)
  | serviceEnter n tag => exact keepsLaws_owner fun _ => upholds_ownerServiceEnter
  | serviceExit n tag => exact keepsLaws_owner fun _ => upholds_ownerServiceExit
  | jog n tag panel coil time => exact keepsLaws_owner fun _ => upholds_ownerJog panel coil time
  | presetPosition n tag panel count => exact keepsLaws_owner fun _ => upholds_ownerPresetPosition panel count
  | bypassCleat n tag panel cleat => exact keepsLaws_owner fun _ => upholds_ownerBypassCleat panel cleat
  | restoreCleat n tag panel cleat => exact keepsLaws_request (lawful_ownerRestoreCleat panel cleat)
  | _ => exact keepsLaws_refl s

theorem keepsLaws_unknownRequest (f : Frame) (s : State) : s.KeepsLaws (execUnknownRequest f s) := by
  unfold execUnknownRequest
  split
  · exact keepsLaws_refl s
  · split
    · exact keepsLaws_refl s
    · split
      · exact keepsLaws_upholds (upholds_unknownStation _ _ _)
      · split
        · exact keepsLaws_upholds (upholds_frameError _ _ _)
        · split
          · exact keepsLaws_upholds (upholds_linkRefuse _ _ _ _)
          · split
            · exact keepsLaws_upholds (upholds_linkRefuse _ _ _ _)
            · exact keepsLaws_takeSpelled _ s

/-! ### All commands -/

/-- Every command keeps the laws of the coils and of the flow. -/
theorem exec_lawful (hf : s.faultedStand) (h : exec c s = .next t) : s.Lawful t := by
  suffices s.KeepsLaws (exec c s) from this t h
  have request := keepsLaws_takeSpelled c s
  cases c with
  | powerOn => exact keepsLaws_powerOn s
  | startEnd key => exact keepsLaws_startEnd key s
  | unknownRequest f => exact keepsLaws_unknownRequest f s
  | replyTransmitted => exact keepsLaws_replyTransmitted s
  | busOff => exact keepsLaws_busOff s
  | busRejoin r => exact keepsLaws_busRejoin r s
  | storeWriteEnd agrees => exact keepsLaws_storeWriteEnd agrees s
  | seatSwitchChange p w made held => exact keepsLaws_seatSwitchChange p w made held s
  | stowSwitchChange p made held => exact keepsLaws_stowSwitchChange p made held s
  | homeMake p made held => exact keepsLaws_homeMake p made held s
  | openEndMake p made held => exact keepsLaws_openEndMake p made held s
  | wheelEdge p low high => exact keepsLaws_wheelEdge p low high s
  | cleatSwitchChange p k made held => exact keepsLaws_cleatSwitchChange p k made held s
  | cleatDwellExpiry p => exact keepsLaws_cleatDwellExpiry p s
  | confirmationWindowExpiry p => exact keepsLaws_confirmationWindowExpiry hf p
  | brakingWindowEnd p => exact keepsLaws_brakingWindowEnd hf p
  | stallTimerExpiry p => exact keepsLaws_stallTimerExpiry p s
  | creepQuietExpiry p => exact keepsLaws_creepQuietExpiry p s
  | stepTimeout p => exact keepsLaws_stepTimeout p s
  | retentionExpiry i => exact keepsLaws_retentionExpiry i s
  | listStalenessExpiry => exact keepsLaws_listStalenessExpiry s
  | windChange asserted held => exact keepsLaws_windChange asserted held s
  | presenceChange g asserted held => exact keepsLaws_presenceChange g asserted held s
  | zoneDeadlineExpiry z => exact keepsLaws_zoneDeadlineExpiry z s
  | selectorChange g toLocal held => exact keepsLaws_selectorChange g toLocal held s
  | attendanceDeadlineExpiry n => exact keepsLaws_attendanceDeadlineExpiry n s
  | estopOpen held => exact keepsLaws_estopOpen held s
  | estopClose held => exact keepsLaws_estopClose held s
  | supplyUndervoltage mV held => exact keepsLaws_supplyUndervoltage mV held s
  | supplyRecovery mV held => exact keepsLaws_supplyRecovery mV held s
  | pumpStop k => exact keepsLaws_upholds (upholds_changePack k _ fun _ => ⟨rfl, rfl⟩)
  | pumpRun k => exact keepsLaws_upholds (upholds_changePack k _ fun _ => ⟨rfl, rfl⟩)
  | pressureLow k bar held running => exact keepsLaws_upholds (upholds_changePack k _ fun _ => ⟨rfl, rfl⟩)
  | pressureRecovery k bar held running => exact keepsLaws_upholds (upholds_changePack k _ fun _ => ⟨rfl, rfl⟩)
  | oilTemperatureChange k temp =>
    refine keepsLaws_upholds (upholds_changePack k _ fun x => ?_)
    unfold Pack.takeOil
    split <;> exact ⟨rfl, rfl⟩
  | cardTemperatureChange card temp => exact keepsLaws_cardTemperatureChange card temp s
  | coilOvercurrent p c mA held => exact keepsLaws_coilOvercurrent p c mA held s
  | coilOpenLoad p c mA held => exact keepsLaws_coilOpenLoad p c mA held s
  | offStateOpenLoad p c ohms held => exact keepsLaws_offStateOpenLoad p c ohms held s
  | travelTripRaised k bar held => exact keepsLaws_travelTripRaised k bar held s
  | travelTripClear k bar => exact keepsLaws_travelTripClear k bar s
  | chopHoldoffEnd p => exact keepsLaws_chopHoldoffEnd hf p
  | jogTimeExpiry => exact keepsLaws_jogTimeExpiry s
  | transmitErrorDetected => exact keepsLaws_transmitErrorDetected s
  | _ => exact request

/-! ### The invariants -/

theorem Acts.coilsFollowEnable {K : Known} (h : Acts K s t) (hK : K.enabled) (hs : s.coilsFollowEnable) : t.coilsFollowEnable := by
  induction h with
  | refl => exact hs
  | tail _ h ih => exact h.coilsFollowEnable hK ih

theorem Acts.watchLaws {K : Known} (h : Acts K s t) (hK : K.sound ∧ K.watched) (hl : s.Linked) (hs : s.watchLaws) :
    t.watchLaws := by
  suffices t.Linked ∧ t.watchLaws from this.2
  induction h with
  | refl => exact ⟨hl, hs⟩
  | tail _ h ih => exact ⟨h.linked hK.1 ih.1, h.watchLaws hK ih.1 ih.2⟩

/-- A command taken while the coils follow the output enable. -/
theorem exec_coilsFollowEnable (hs : s.coilsFollowEnable) (h : exec c s = .next t) : t.coilsFollowEnable := by
  have fits : s.Fits { Known.bare c with enabled := True } := { s.fits_bare c with enabled := fun _ => hs }
  exact (exec_acts fits h).coilsFollowEnable trivial hs

/-- A command taken while the attendance watches run as they should. -/
theorem exec_watchLaws (hl : s.Linked) (hf : s.faultedStand) (hs : s.watchLaws) (h : exec c s = .next t) : t.watchLaws := by
  have fits : s.Fits { Known.linked c s with watched := True } := { fits_linked c hl with watched := fun _ => ⟨hl, hf, hs⟩ }
  exact (exec_acts fits h).watchLaws ⟨trivial, trivial⟩ hl hs

/-- Settles O57: the acts of a command keep the coils off without the output enable, and every command keeps the laws of the
coils. -/
theorem coilsStayOffWithoutEnable : Obligations.CoilsStayOffWithoutEnable := by
  intro s t h
  obtain ⟨c, cs, -, h⟩ | rfl := step_cases h
  · refine ⟨fun hs => exec_coilsFollowEnable (s := { s with pending := cs }) hs h, fun ⟨hl, hf, _, hc⟩ => ?_⟩
    have linked : State.linked { s with pending := cs } := hl
    have obeyed : State.coilsObey { s with pending := cs } := hc
    exact coilsObey_iff.2 ((exec_lawful (s := { s with pending := cs }) hf h).coils (linked_iff.1 linked) (coilsObey_iff.1 obeyed))
  · exact ⟨id, fun ⟨_, _, _, hc⟩ => hc⟩

/-- Settles O59: the acts of a command keep the tables linked, the faulted panels still and the watches right, and every command
keeps the laws of the flow. -/
theorem tablesStayLinked : Obligations.TablesStayLinked := by
  intro s t h
  obtain ⟨c, cs, -, h⟩ | rfl := step_cases h
  · have linked (hl : State.linked { s with pending := cs }) : State.Linked { s with pending := cs } := linked_iff.1 hl
    refine ⟨fun ⟨hl, hf⟩ => ⟨linked_iff.2 (linked_exec h (linked hl)), exec_faultedStand (linked hl) hf h⟩, fun ⟨hl, hf, hw⟩ => ?_,
      fun ⟨hl, hf, hw⟩ => exec_watchLaws (linked hl) hf hw h⟩
    exact (exec_lawful (s := { s with pending := cs }) hf h).flow (linked hl) hw
  · exact ⟨id, fun ⟨_, _, hw⟩ => hw, fun ⟨_, _, hw⟩ => hw⟩

end Sys2Proof.Machine
end

section
/-! O49 fails of a unit whose pack has more requests waiting than one command may carry out pieces of work: the order table may be
sound (`State.linked`) while the packs are not. -/

namespace Sys2Proof.Machine

variable {s : State} {p : PanelNo}

/-! ### An agenda that runs out -/

/-- Deliveries to a panel without a step take up the agenda and change nothing. -/
theorem drain_deliveries (h : s.served p = none) (js : List Job) : ∀ n m : Nat, n ≤ m →
    drain n (List.replicate m (.deliver p) ++ js) s = s
  | 0, _, _ => by rw [drain]
  | n + 1, 0, hm => absurd hm (by omega)
  | n + 1, m + 1, hm => by
    rw [List.replicate_succ, List.cons_append, drain, runJob, deliver_unserved h, Res.ok_st]
    refine (congrArg (drain n · s) (enqueue_nil _)).trans ?_
    exact drain_deliveries h js n m (by omega)

/-- Requests for no flow all fit. -/
theorem passGrants_free (cap : Nat) (w : Waiter) (hw : w.demand = 0) :
    ∀ m, passGrants cap 0 (List.replicate m w) = List.replicate m w
  | 0 => rfl
  | m + 1 => by
    rw [List.replicate_succ, passGrants, hw, if_pos (Nat.zero_le _), passGrants_free cap w hw m]

/-! ### The unit -/

/-- An OPEN order at its last step, LOCK_STOW. -/
def lockingOrder : Order where
  id := 1
  issuer := 0
  panel := 0
  kind := .openHatch
  target := none
  cls := .normal
  hold := none
  pred := none
  state := .active
  step := 6
  phase := some .running
  reasons := {}
  pausedFrom := none
  finishedAt := none
  retention := none
  created := 0

/-- A request of panel 2 for no flow. -/
def idleRequest : Waiter := ⟨1, 0, .normal, 0⟩

/-- Panel 1 locks its stow; on its pack the requests `ws` wait. -/
def crowded (ws : List Waiter) : State :=
  { State.reset with
    unit := .run
    panels := State.reset.panels.set 0 { State.reset.panel 0 with live := some 1 }
    slots := State.reset.slots.set 0 (some lockingOrder)
    packA := { State.reset.packA with grants := [⟨0, 1, false⟩], waiting := ws } }

theorem crowded_slot (ws : List Waiter) (i : SlotNo) : (crowded ws).slot i = if i = 0 then some lockingOrder else none := by
  change (State.reset.slots.set 0 (some lockingOrder))[i] = _
  revert i
  decide

theorem crowded_live (ws : List Waiter) (q : PanelNo) : ((crowded ws).panel q).live = if q = 0 then some 1 else none := by
  change (State.reset.panels.set 0 { State.reset.panel 0 with live := some 1 })[q].live = _
  revert q
  decide

theorem crowded_order {ws : List Waiter} {i : SlotNo} {o : Order} (h : (crowded ws).slot i = some o) :
    i = 0 ∧ o = lockingOrder := by
  rw [crowded_slot] at h
  split at h
  · exact ⟨‹_›, (Option.some.inj h).symm⟩
  · cases h

/-- The order table of the unit is sound. -/
theorem crowded_linked (ws : List Waiter) : (crowded ws).Linked where
  ids := fun i j a b ha hb _ => (crowded_order ha).1.trans (crowded_order hb).1.symm
  consistent := fun i o ho => by
    obtain ⟨-, rfl⟩ := crowded_order ho
    simp [Order.consistent, lockingOrder, OrderState.live, OrderState.isPaused]
  order := fun q id h => by
    rw [crowded_live] at h
    split at h
    · rename_i e
      obtain rfl := Option.some.inj h
      exact ⟨0, lockingOrder, rfl, rfl, e.symm, rfl⟩
    · cases h
  field := fun i o ho _ => by
    obtain ⟨-, rfl⟩ := crowded_order ho
    rfl
  idle := fun h => absurd rfl h
  serviced := nofun
  configured := fun i o ho _ => by
    obtain ⟨-, rfl⟩ := crowded_order ho
    rfl
  jog := nofun
  writing := nofun
  counter := ⟨le_rfl, (by decide : (1 : Nat) ≤ 255)⟩

theorem crowded_served (ws : List Waiter) : (crowded ws).served 0 = some (0, lockingOrder, .lockStow) := rfl

/-- The unit once the step has reached its end, before the grant pass. -/
def stowed (ws : List Waiter) : State :=
  (((crowded ws).modPanel 0 fun x => { x with sw := { x.sw with stowLocked := true } }).watch 0).st

/-- The make of the stow lock switch leaves a grant pass and the report of the step's end. -/
theorem crowded_exec (ws : List Waiter) : exec (.stowSwitchChange 0 true 20) (crowded ws) =
    .next (drain agendaLimit [.pass .a, .report 0 .completed] (stowed ws)) := rfl

/-- The unit after the grant pass. -/
def passed (ws : List Waiter) : State := ((stowed ws).runPass .a).st

theorem passed_served (ws : List Waiter) : (passed ws).served 1 = none := rfl

theorem passed_slot (ws : List Waiter) : (passed ws).slot 0 = some { lockingOrder with phase := none } := rfl

theorem stowed_jobs (ws : List Waiter) : ((stowed ws).runPass .a).jobs =
    (passGrants ((stowed ws).effective .a) 0 (ws.filter fun w => w.panel != 0)).map fun w => .deliver w.panel := rfl

/-- The agenda ends with the last delivery, and the end of the step is never reported. -/
theorem crowded_ends (m : Nat) (h : agendaLimit ≤ m) : exec (.stowSwitchChange 0 true 20) (crowded (List.replicate m idleRequest)) =
    .next (passed (List.replicate m idleRequest)) := by
  have jobs : ((stowed (List.replicate m idleRequest)).runPass .a).jobs = List.replicate m (.deliver 1) := by
    rw [stowed_jobs, List.filter_replicate_of_pos rfl, passGrants_free _ _ rfl, List.map_replicate]
    rfl
  have quiet : (List.replicate m (Job.deliver 1)).any Job.isPass = false := by simp [Job.isPass]
  rw [crowded_exec]
  have first (n : Nat) (hn : n ≤ m) : drain (n + 1) [.pass .a, .report 0 .completed] (stowed (List.replicate m idleRequest)) =
      passed (List.replicate m idleRequest) := by
    rw [drain]
    change drain n (enqueue ((stowed (List.replicate m idleRequest)).runPass .a).jobs [.report 0 .completed]) (passed _) = _
    rw [jobs, enqueue_of_no_pass quiet]
    exact drain_deliveries (passed_served _) _ n m hn
  exact congrArg _ (first 99999 (by unfold agendaLimit at h; omega))

/-- Refutes O49: in a unit with 100000 requests waiting on the pack, each of which a grant pass may grant, the make of the stow
lock switch leaves the end of LOCK_STOW unreported, and the order ACTIVE. -/
theorem not_switchesTakeStableLevels : ¬ Obligations.SwitchesTakeStableLevels := by
  intro h
  obtain ⟨-, -, -, -, -, -, -, -, done⟩ := h (crowded (List.replicate agendaLimit idleRequest)) 0 true 20
  obtain ⟨t, o, run, ho, state, -⟩ := done 0 lockingOrder (linked_iff.2 (crowded_linked _)) (crowded_served _) rfl rfl rfl
      rfl rfl rfl rfl
    le_rfl
  rw [crowded_ends agendaLimit le_rfl] at run
  obtain rfl := Host.Outcome.next.inj run
  rw [passed_slot] at ho
  obtain rfl := Option.some.inj ho
  cases state

end Sys2Proof.Machine
end
